-- ==== Sys2Proof/Word.lean ====
section
/-!
DEFINITION. The word types of the HF9600: a 32-bit register or command word (R12), a byte, and the 64-bit
count of the media time base TB0 (R8).
-/
namespace Sys2Proof

/-- A register, a command word or an entry word: 32 bits (R12, R47). -/
abbrev Word := BitVec 32

/-- One byte of a buffer or of main memory. -/
abbrev Byte := BitVec 8

/-- A value of TB0, the 64-bit media counter (R8, R461), or of a 64-bit event counter (R17). -/
abbrev Dword := BitVec 64

end Sys2Proof
end

