-- ==== Sys2Proof/Syntax.lean ====
section
/-!
DEFINITION. The commands and events the HF9600 takes: one constructor of `Instr` per row of
spec/opcode_table.json, with the operands the rows take. What an outside agent decides (the fields of a
received frame, the outcome of a cipher check, the data of a host buffer, decoded samples) is an operand.
-/
namespace Sys2Proof

/-- A register requester (R26, R29). DESIGN CHOICE, log entry 6. -/
inductive Requester where
  | host
  | study (n : Fin 4)
  | core (n : Fin 16)
  deriving DecidableEq, Repr

/-- A PCIe error of a host-memory transfer, as QUEUE_ERROR reports it (R57). -/
inductive PcieErr where
  | timeout | unsupported | abort | poisoned
  deriving DecidableEq, Repr

/-- A low-power link state (R71, R80). -/
inductive LowLink where
  | l1 | l11 | l12
  deriving DecidableEq, Repr

/-- A command packet as fetched from submission queue `sq` (R47): header words 1 to 3, TAG, and the
parameter words from word 4 onward as they lie in the packet. -/
structure Cmd where
  sq  : Fin 64
  tag : BitVec 16
  w1  : Word
  obj : Word
  w3  : Word
  par : List Word
  deriving DecidableEq, Repr

/-- An object of R65, whatever its opcode range. -/
inductive Obj where
  | leg (n : Fin 8192)
  | port (n : Fin 8)
  | hostPath
  | conf (n : Fin 1024)
  | bank (n : Fin 12)
  | engine (n : Fin 224)
  | slot (n : Fin 384)
  | canvas (n : Fin 96)
  | encoding (n : Fin 96)
  | sub (n : Fin 16384)
  | link (n : Fin 1024)
  | footbridge
  deriving DecidableEq, Repr

/-- An IP address as PORT_ADDR holds one: IPv6 whole, IPv4 in the low 32 bits (R119). -/
structure IpAddr where
  v6   : Bool
  bits : BitVec 128
  deriving DecidableEq, Repr

/-- A received frame, as the parser of R87 sees it. DESIGN CHOICE, log entry 149. -/
structure Frame where
  /-- bytes from the destination address to the FCS inclusive -/
  len      : Nat
  fcsOk    : Bool
  /-- an outer TPID 0x88A8 or a second 802.1Q tag -/
  outerTag : Bool
  /-- the VLAN ID of the one 802.1Q tag -/
  vid      : Option (Fin 4096)
  ethertype : BitVec 16
  ipHdrOk  : Bool
  /-- an IPv4 fragment, or IPv6 with a header before UDP -/
  fragment : Bool
  udp      : Bool
  src      : IpAddr
  dst      : IpAddr
  srcPort  : BitVec 16
  dstPort  : BitVec 16
  udpSumOk : Bool
  /-- first byte of the UDP payload (R88) -/
  first    : Byte
  /-- PTP messageType (R475) -/
  ptpType  : Fin 16
  /-- TYPE and SRC of a Footbridge frame (R108) -/
  ftbType  : Byte
  ftbSrc   : Fin 16
  /-- an RTCP packet by its payload type (RFC 5761), or else a video or RTX packet of the leg (R392) -/
  rtcp     : Bool
  video    : Bool
  /-- a free fine part of the PTP capture, 1/64 ct (R473) -/
  fine     : Fin 64
  /-- FEC codewords corrected, and not correctable, since the port's frame before (R124) -/
  fecCorr   : Nat := 0
  fecUncorr : Nat := 0
  /-- the frame's bytes, as a punt copies them, and whether the transfer to the punt ring fails with a PCIe error (R77, R90) -/
  data     : List Byte := []
  puntFail : Bool := false
  deriving DecidableEq, Repr

/-- A STUN Binding request that a packet core serves (R93). -/
structure Stun where
  port      : Fin 8
  addrIndex : Fin 16
  localUdp  : BitVec 16
  remote    : IpAddr
  remoteUdp : BitVec 16
  /-- the USERNAME's parts before and after the colon, bytes in order -/
  lfrag     : List Byte
  rfrag     : List Byte
  /-- MESSAGE-INTEGRITY checks under the leg's local password -/
  integrity : Bool
  /-- FINGERPRINT, when present, checks -/
  fingerprint : Bool
  useCandidate : Bool
  /-- arrival stamp of the request, TB0 -/
  stamp     : Dword
  /-- bytes of the frame that carried it -/
  len       : Nat
  /-- the frame's bytes, and whether its transfer to the punt ring fails with a PCIe error (R77, R90) -/
  data      : List Byte := []
  puntFail  : Bool := false
  deriving DecidableEq, Repr

/-- An authenticated RTP packet that reaches RTP processing (R101). -/
structure Rtp where
  ssrc   : Word
  pt     : BitVec 7
  seq    : BitVec 16
  ts     : Word
  marker : Bool
  stamp  : Dword
  /-- the "defined by profile" word of the header extension, and the extension's bytes (R100) -/
  profile : BitVec 16
  ext    : List Byte
  bytes  : Nat
  /-- 48 kHz samples of sound that an audio packet's payload holds -/
  dur    : Nat
  /-- a key picture's packet -/
  key    : Bool
  /-- operating points at which no later frame needs this one: by the dependency descriptor, or, for H.264, all of them when
  nal_ref_idc is 0 (R266) -/
  unneeded : BitVec 32
  /-- original sequence number that an RTX packet repairs -/
  osn    : BitVec 16
  deriving DecidableEq, Repr

/-- One packet of an RFC 8888 report: its stream and number, and its arrival instant if received. -/
structure FbPkt where
  ssrc  : Word
  seq   : BitVec 16
  arrived : Option Nat
  deriving DecidableEq, Repr

/-- A received RTCP packet (R99). -/
inductive Rtcp where
  | sr (ssrc : Word) (ntp : Dword)
  | rr
  | ignored
  | bye (ssrc : Word)
  | nack (ssrc : Word) (seqs : List (BitVec 16))
  | pli (ssrc : Word)
  | fir (ssrc : Word)
  | ccfb (pkts : List FbPkt)
  deriving DecidableEq, Repr

/-- A Footbridge beacon (R108, R111). -/
structure Beacon where
  version : Byte := 1
  bridge : BitVec 16
  src    : Fin 16
  auth   : Bool
  epoch  : Word
  seq    : Word
  uid    : Dword
  tb0    : Dword
  ladder : Fin 5
  ptp    : Bool
  seen   : BitVec 16
  fw     : Word
  /-- local arrival stamp -/
  stamp  : Dword
  deriving DecidableEq, Repr

/-- One record of a MIX frame (R113). -/
structure MixRec where
  ccid    : BitVec 16
  channel : Fin 2
  exp     : Fin 17
  level   : Fin 128
  samples : List Int
  deriving DecidableEq, Repr

/-- A Footbridge MIX frame (R113). -/
structure MixFrame where
  version : Byte := 1
  bridge  : BitVec 16
  src     : Fin 16
  dst     : Fin 16
  counter : Dword
  auth    : Bool
  block   : Dword
  recs    : List MixRec
  deriving DecidableEq, Repr

/-- A packet of a forwarded source, as the Dumbwaiter reads it (R342). -/
structure FwdPkt where
  /-- 0 canvas, 1 leg, 2 peer -/
  kind   : Fin 3
  /-- canvas, leg or peer number -/
  src    : Fin 8192
  /-- the source leg's stream INDEX, or the source leg a peer names -/
  index  : BitVec 16
  seq    : BitVec 16
  ts     : Word
  marker : Bool
  /-- the dependency descriptor: none when the packet carries none, `some none` when it cannot be parsed -/
  dd     : Option (Option (Fin 3 × Fin 3))
  frameNo : BitVec 16
  /-- first packet of a frame -/
  first  : Bool
  /-- a key picture's packet -/
  key    : Bool
  /-- marked as a switch for the new temporal decode target, or as a spatial switch point -/
  tSwitch : Bool
  sSwitch : Bool
  /-- first packet of a canvas band (R24, R380) -/
  bandStart : Bool
  padding : Bool
  /-- bytes of RTP payload, and of the descriptor it carries -/
  bytes  : Nat
  ddLen  : Nat
  /-- the template dependency structure that its descriptor carries (R346) -/
  struct : Option (List Byte) := none
  /-- the layer byte of a LAYER payload (R114) -/
  layerByte : Byte := 0
  stamp  : Dword
  deriving DecidableEq, Repr

/-- A Footbridge LAYER frame (R114). -/
structure LayerFrame where
  version : Byte := 1
  bridge  : BitVec 16
  src     : Fin 16
  dst     : Fin 16
  counter : Dword
  auth    : Bool
  srcLeg  : BitVec 16
  layer   : Byte
  pkt     : FwdPkt
  deriving DecidableEq, Repr

/-- The direction and protocol of a cipher job (R128, R139). -/
inductive JobKind where
  | srtpSend | srtpRecv | srtcpSend | srtcpRecv | ftbSend | ftbRecv | beaconSend | beaconRecv | direct
  deriving DecidableEq, Repr

/-- A Footbridge frame that waits for its encryption: the port queue it goes to, its bytes before the FCS, its Ethernet
addresses and VID, and what its body describes after the Footbridge header. -/
structure FtbOut where
  queue : Nat
  bytes : Nat
  net   : List Nat
  kind  : Nat
  body  : List Nat
  deriving DecidableEq, Repr

/-- A job that an internal user submits to the Icehouse scheduler (R130). -/
structure JobReq where
  kind  : JobKind
  slot  : Fin 16384
  /-- SSRC of the security association, or the peer -/
  sa    : Word
  /-- of an SRTP job 0 audio, 1 video base layer, 2 video enhancement layer; of a Footbridge job 0 MIX, 1 LAYER -/
  part  : Fin 3 := 0
  /-- RTP sequence number, SRTCP index or Footbridge COUNTER that a received packet carries -/
  seq   : Dword
  /-- E flag of a received SRTCP packet -/
  eflag : Bool
  bytes : Nat
  /-- header that is authenticated in the clear: the RTP header with CSRCs and extensions, the RTCP header (of a packet with
  E = 0 the whole packet), bytes 0 to 15 of a received Footbridge frame, or bytes 0 to 7 of one to send (R109, R128) -/
  hdr   : List Byte := []
  /-- a received packet uses a transform that R129 excludes: HMAC-SHA1, an MKI or RFC 6904 -/
  foreign : Bool := false
  /-- the packet that the Icehouse has open in the Pantry is this job's output -/
  writes : Bool := false
  frame : Option FtbOut := none
  deriving DecidableEq, Repr

/-- Class of a job (R130). -/
def JobReq.cls (r : JobReq) : Fin 4 :=
  match r.kind with
  | .srtpSend | .srtpRecv => r.part.castSucc
  | .ftbSend | .ftbRecv => if r.part = 0 then 1 else 2
  | .srtcpSend | .srtcpRecv | .beaconSend | .beaconRecv | .direct => 3

/-- A cipher core's finding: whether the packet authenticates under the latched key and under the latched
old copy (R137). -/
structure AuthResult where
  underNew : Bool
  underOld : Bool
  deriving DecidableEq, Repr

/-- A parameter set as the decode pipe reads it: an H.264 SPS with its PPS, or an AV1 sequence header (R252, R253). -/
structure StreamInfo where
  width   : Nat
  height  : Nat
  /-- profile_idc or seq_profile, and constraint_set1_flag -/
  profile : Byte
  constrained : Bool
  /-- level_idc or seq_level_idx -/
  level   : Byte
  /-- bits of a sample, and chroma_format_idc: 1 for 4:2:0 -/
  depth   : Nat
  chroma  : Nat
  /-- it allows interlace, MBAFF, FMO, ASO or redundant slices -/
  excluded : Bool
  /-- AV1 operating points that it defines -/
  points  : Nat
  refs    : Nat
  /-- AV1 superblocks of 128 × 128 (R263) -/
  sb128   : Bool
  deriving DecidableEq, Repr

/-- Pictures that end a taint run when they decode cleanly (R268). -/
inductive CleanPoint where
  /-- an H.264 IDR picture, an AV1 shown key frame, an AV1 intra-only frame that refreshes every buffer -/
  | idr | keyFrame | intraAll
  /-- an H.264 recovery point with its recovery_frame_cnt -/
  | recovery (n : Nat)
  deriving DecidableEq, Repr

/-- What a decode pipe finds in one 64-row band (R253, R266-R268, R271). DESIGN CHOICE, log entry 149. -/
structure BandObs where
  /-- a parameter set, seen at the first band of a picture, and whether a new sequence begins there -/
  stream  : Option StreamInfo
  newSeq  : Bool
  /-- its headers use a tool that R252 excludes -/
  excluded : Bool
  /-- pictures that it refers to and no earlier band did, first reference first, each with its frame_num or buffer index -/
  refs    : List (Nat × Word)
  /-- a frame_num gap, or a ref_frame_idx that names an empty buffer -/
  gap     : Option Word
  /-- 16 × 16 blocks concealed in this band, by column and row (R271) -/
  damaged : List (Nat × Nat)
  clean   : Option CleanPoint
  /-- the picture is a reference for later ones, and the pictures that its marking releases (R261) -/
  isRef   : Bool
  unref   : List Nat
  /-- spatial layer (R267) -/
  layer   : Nat
  deriving DecidableEq, Repr

/-- What the coder finds in one layer's unit of a band (R317, R329, R331). -/
structure BandCode where
  /-- bits each superblock or macroblock would take, in coding order -/
  unitBits : List Nat
  baseQp   : Nat
  deriving DecidableEq, Repr

/-- Control data of a packet committed to a queue: how the Pergola counts and launches it. -/
structure PktInfo where
  /-- counted bytes before the port's OVERHEAD (R371) -/
  counted : Nat
  launch  : Option Dword
  exact   : Bool
  /-- TAG of a FRAME_SEND that asked for a transmit stamp (R477) -/
  tstamp  : Option (BitVec 16)
  deriving DecidableEq, Repr

/-- A producer of the Pantry (R417, R420). -/
inductive Producer where
  | boathouse | icehouse | dumbwaiter
  | core (n : Fin 16)
  | study (n : Fin 4)
  | encode (n : Fin 12)
  deriving DecidableEq, Repr

/-- The pool a packet is written under (R415, R572). -/
inductive PoolSel where
  | near | far | nearThenFar
  deriving DecidableEq, Repr

/-- Where an open packet is bound: a queue, or loose under a named pool and class (R417, R572). -/
inductive Bound where
  | queue (q : Fin 33792)
  | loose (pool : PoolSel) (cls : Fin 4)
  deriving DecidableEq, Repr

/-- How a core's done write leaves its flow's timer (R399). -/
inductive TimerArm where
  | keep
  | disarm
  | waitAny (deadline : Dword) (prio : Fin 16)
  | deadline (deadline : Dword) (prio : Fin 16)
  deriving DecidableEq, Repr

/-- Header words of a transmit ring entry that the hatch reads (R231, R234). -/
structure TxHdr where
  block  : Word
  frames : Nat
  mask   : Word
  /-- samples of an entry that lies in host memory, frame by frame in ascending slot order -/
  smp    : List (List Int)
  deriving DecidableEq, Repr

/-- What a unit reads a line for, as far as a poisoned line acts on it (R439); the block mover and the transmit rings look at
their own reads. -/
inductive MemUse where
  | other
  /-- a decode pipe: the blocks of the slot's picture that predict from the line -/
  | decode (slot : Fin 384) (blocks : List (Nat × Nat))
  /-- the Orangery: the blocks of the canvas that the layer draws from the line -/
  | canvas (c : Fin 96) (layer : Fin 16) (blocks : List (Nat × Nat))
  | encRef (c : Fin 96) (layer : Fin 4)
  /-- a far-pool cell of a packet that its consumer holds -/
  | packet (handle : Nat)
  deriving DecidableEq, Repr

/-- A request a unit sends to a Cellar channel (R442, R443). -/
structure MemReq where
  write : Bool
  cls   : Fin 4
  /-- requester, as MEM_UNCORRECTABLE reports it (R458) -/
  unit  : Byte
  /-- physical address of the line -/
  pa    : Word
  /-- words a write carries, as (byte offset in the line, byte) pairs of whole 8-byte words -/
  data  : List (Fin 64 × Byte)
  use   : MemUse := .other
  deriving DecidableEq, Repr

/-- Severity of a reported error (R502). -/
inductive Severity where
  | corrected | deferred | fatal
  deriving DecidableEq, Repr

/-- How a boot stage ends (R558, R560). -/
inductive BootResult where
  | done
  | trainFail (channel : Fin 8)
  | imageError (code : Fin 10)
  /-- stage 4 ends with these bytes read from the host (R559) -/
  | image (bytes : List Byte)
  | dmaError
  deriving DecidableEq, Repr

/-- Strap balls (R543), laid out as STY_STRAPS [18:0] (R545). -/
abbrev Straps := BitVec 19

/-- What host memory holds for a fetch (R45, R46): the words at the fetch position of the queue, and the queues whose next
command is split by their tail. -/
structure FetchMem where
  words : List Word
  split : List (Fin 64)
  deriving DecidableEq, Repr

/-- The commands and events of the HF9600, one constructor per row of the opcode table. DESIGN CHOICE, log entry 6. -/
inductive Instr where
  -- Porch
  | nop (c : Cmd)
  | getInfo (c : Cmd)
  -- the queue fetched from, what host memory holds for the fetch, and the PCIe error that ends it
  | commandFetch (sq : Fin 64) (mem : FetchMem) (err : Option PcieErr)
  | entryWrite (err : Option PcieErr)
  | moderationTimerExpiry (q : Fin 64)
  | eventsLost (q : Fin 64)
  | sqTailDoorbell (q : Fin 64) (v : Word)
  | cqHeadDoorbell (q : Fin 64) (v : Word)
  | sqEnable (q : Fin 64) (v : Word)
  | sqDisable (q : Fin 64) (v : Word)
  | sqIdle (q : Fin 64)
  | cqEnable (q : Fin 64) (v : Word)
  | cqDisable (q : Fin 64) (v : Word)
  | hostTransferError (op : BitVec 16) (c : Cmd)
  | hostTlpRefused (write : Bool) (addr : BitVec 28) (dws : Nat) (beFull : Bool)
  | registerWrite (r : Requester) (addr : BitVec 28) (v : Word)
  | rcRegisterRead (r : Requester) (addr : BitVec 28)
  | counterLowRead (r : Requester) (addr : BitVec 28)
  | writeBarrierRead (r : Requester)
  | flr
  | hotReset
  | perstNAssert
  | perstNRelease
  | linkEntersL1 (l : LowLink)
  | linkDown
  | linkReturnsL0
  | d3hotEntry (pmeEn : Bool)
  | returnToD0
  | pmeStatusClear (pmeEn : Bool)
  -- objects
  | startLegPort (c : Cmd)
  | stopLegPort (c : Cmd)
  | getStateLegPort (c : Cmd)
  | startConference (c : Cmd)
  | stopConference (c : Cmd)
  | getStateConference (c : Cmd)
  | startBank (c : Cmd)
  | stopBank (c : Cmd)
  | getStateHatch (c : Cmd)
  | startEngine (c : Cmd)
  | stopEngine (c : Cmd)
  | getStateEngine (c : Cmd)
  | startSlot (c : Cmd)
  | stopSlot (c : Cmd)
  | getStateSlot (c : Cmd)
  | startCanvas (c : Cmd)
  | stopCanvas (c : Cmd)
  | getStateCanvas (c : Cmd)
  | startEncoding (c : Cmd)
  | stopEncoding (c : Cmd)
  | getStateEncoding (c : Cmd)
  | startSubscription (c : Cmd)
  | stopSubscription (c : Cmd)
  | getStateSubscription (c : Cmd)
  | startFootbridgeObject (c : Cmd)
  | stopFootbridgeObject (c : Cmd)
  | getStateFootbridge (c : Cmd)
  | resourcesGranted (o : Obj)
  | drainingEnds (o : Obj)
  | legDrainTimeout (l : Fin 8192)
  | subscriptionDrainTimeout (n : Fin 16384)
  -- legs and network
  | portConfig (c : Cmd)
  | portAddr (c : Cmd)
  | puntCfg (c : Cmd)
  | frameSend (c : Cmd) (bytes : List Byte)
  | legConfig (c : Cmd)
  | legIceCred (c : Cmd)
  | legStream (c : Cmd)
  | legBwe (c : Cmd)
  | legStats (c : Cmd)
  | ftbConfig (c : Cmd)
  | ftbLink (c : Cmd)
  | frameReceived (p : Fin 8) (f : Frame)
  | puntHeadWrite (v : Word)
  | portLinkUp (p : Fin 8)
  | portLinkDown (p : Fin 8)
  | stunBindingRequest (q : Stun)
  | jitterBufferCommit (l : Fin 8192) (k : Rtp)
  | rtcpReceived (l : Fin 8192) (stamp : Dword) (k : Rtcp)
  | audioPlayoutDeadline (l : Fin 8192) (i : Fin 8)
  | videoPlayoutDeadline (l : Fin 8192) (i : Fin 8)
  | consentExpiry (l : Fin 8192)
  | silenceExpiry (l : Fin 8192)
  | rtcpInterval (l : Fin 8192)
  | ccfbInterval (l : Fin 8192)
  | beaconSend
  | beaconReceived (b : Beacon)
  | peerBeaconTimeout (p : Fin 16)
  | mixFrameReceived (m : MixFrame)
  | layerFrameReceived (m : LayerFrame)
  -- Icehouse
  | iceJobDispatch (core : Fin 16) (jobs : List JobReq)
  | iceJobComplete (core : Fin 16) (r : AuthResult)
  | oldKeyExpiry (slot : Fin 16384)
  | keyWrite (c : Cmd)
  | keyErase (c : Cmd)
  | keyQuery (c : Cmd)
  | keyCascade (c : Cmd)
  | keyAlarmClear (c : Cmd)
  | keyWindowTimeout (op : BitVec 16) (c : Cmd)
  | iceLockClaim (r : Requester)
  | iceLockRelease (r : Requester)
  | iceLockExpired
  | windowKeyWrite (r : Requester) (v : Word)
  | windowKeyErase (r : Requester) (v : Word)
  | directJobGo (r : Requester) (v : Word)
  | iceAlarm (cause : Fin 5)
  -- Bandstand
  | blockStart
  | audioDecodeDone (l : Fin 8192) (samples : List (Int × Int)) (concealed : Bool)
  | audioEncodeDone (n : Fin 1024) (output : Nat) (bytes : Nat)
  | confConfig (c : Cmd)
  | confFormat (c : Cmd)
  | routeLoad (c : Cmd)
  | routeCopy (c : Cmd)
  | routeSwap (c : Cmd)
  | confStats (c : Cmd)
  -- Parlour
  | engReserve (c : Cmd)
  | engConfig (c : Cmd)
  | engLoad (c : Cmd) (data : List Word)
  | engWrite (c : Cmd) (data : List Word)
  | engRead (c : Cmd)
  | engStats (c : Cmd)
  | engineNop (e : Fin 224)
  | halt (e : Fin 224)
  | dmac (e : Fin 224)
  | dmpy (e : Fin 224)
  | dmsu (e : Fin 224)
  | mac (e : Fin 224)
  | macm (e : Fin 224)
  | mpy (e : Fin 224)
  | add (e : Fin 224)
  | sub (e : Fin 224)
  | neg (e : Fin 224)
  | abs (e : Fin 224)
  | shl (e : Fin 224)
  | shr (e : Fin 224)
  | max (e : Fin 224)
  | min (e : Fin 224)
  | clr (e : Fin 224)
  | ldk (e : Fin 224)
  | expd (e : Fin 224)
  | addw (e : Fin 224)
  | subw (e : Fin 224)
  | and (e : Fin 224)
  | or (e : Fin 224)
  | xor (e : Fin 224)
  | shw (e : Fin 224)
  | ldw (e : Fin 224)
  | ld (e : Fin 224)
  | ldp (e : Fin 224)
  | st (e : Fin 224)
  | stp (e : Fin 224)
  | mov (e : Fin 224)
  | movw (e : Fin 224)
  | mova (e : Fin 224)
  | seta (e : Fin 224)
  | movr (e : Fin 224)
  | br (e : Fin 224)
  | call (e : Fin 224)
  | ret (e : Fin 224)
  | rep (e : Fin 224)
  | repw (e : Fin 224)
  | brklp (e : Fin 224)
  | scale (e : Fin 224)
  | setexp (e : Fin 224)
  | bfnext (e : Fin 224)
  | wait (e : Fin 224)
  | sig (e : Fin 224)
  | clrf (e : Fin 224)
  | movb (e : Fin 224)
  | ldx (e : Fin 224)
  | stx (e : Fin 224)
  | illegalOpcode (e : Fin 224)
  | waitRelease (e : Fin 224)
  | moveComplete (e : Fin 224)
  | engineStopTimeout (e : Fin 224)
  | mailboxIn3Write (r : Requester) (e : Fin 224) (v : Word)
  | eflagsWrite (r : Requester) (e : Fin 224) (v : Word)
  -- Hatches
  | hatBankConfig (c : Cmd)
  | hatPortConfig (c : Cmd)
  | hatLeg (c : Cmd)
  | hatRing (c : Cmd)
  | hatMask (c : Cmd) (bit : Nat)
  | hatStats (c : Cmd)
  | maskgoWrite (r : Requester) (h : Fin 96) (v : Word) (bit : Nat)
  | maskApply (h : Fin 96)
  | hatchBlockStart (h : Fin 96) (entries : List TxHdr) (fail : Bool)
  | rxEntryWrite (h : Fin 96) (samples : List (List Int)) (fail : Bool)
  | hatRxHeadWrite (r : Requester) (h : Fin 96) (v : Word)
  | hatTxTailWrite (r : Requester) (h : Fin 96) (v : Word)
  | partnerFrameEdge (b : Fin 12) (bits : Nat)
  | missingFrame (b : Fin 12)
  | synthLock (b : Fin 12)
  | lockTimeout (b : Fin 12)
  | hatchRampEnd (b : Fin 12)
  -- Glasshouse decode
  | decConfig (c : Cmd)
  | decKeyreq (c : Cmd)
  | decStats (c : Cmd)
  | decPipeStats (c : Cmd)
  | decodeBandBoundary (pipe : Fin 24) (o : BandObs)
  | bandFinal (s : Fin 384)
  | pictureCompleteFence (s : Fin 384)
  | keyreqRepeat (s : Fin 384)
  | freezeTimeout (s : Fin 384)
  -- Orangery
  | orgCanvasConfig (c : Cmd)
  | orgLayerStage (c : Cmd)
  | orgCommit (c : Cmd)
  | orgFenceSignal (c : Cmd)
  | orgImageLoad (c : Cmd) (bytes : List Byte)
  | orgImageFree (c : Cmd)
  | orgStats (c : Cmd)
  | canvasFrameStart (n : Fin 96)
  | bandRelease (n : Fin 96)
  | bandCompose (pipe : Fin 4)
  | bandWaitExpiry (n : Fin 96)
  | bandPlaced (pipe : Fin 4)
  -- Glasshouse encode
  | encConfig (c : Cmd)
  | encLayer (c : Cmd)
  | encStream (c : Cmd)
  | encKeyreq (c : Cmd)
  | encStats (c : Cmd)
  | encPipeStats (c : Cmd)
  | bandEncodeStart (pipe : Fin 12) (codes : List BandCode)
  | bandCoded (pipe : Fin 12)
  | keyIntervalExpiry (n : Fin 96)
  | encodeDrainTimeout (n : Fin 96)
  -- Dumbwaiter
  | fwdConfig (c : Cmd)
  | fwdCeiling (c : Cmd)
  | fwdKeyreq (c : Cmd)
  | fwdStats (c : Cmd)
  | packetClone (k : FwdPkt)
  | targetRecompute (l : Fin 8192)
  | keyWaitExpiry (n : Fin 16384)
  | nackReceived (l : Fin 8192) (i : Fin 8) (seqs : List (BitVec 16))
  | retransmitHoldExpiry
  -- Pergola
  | prgLegShape (c : Cmd)
  | prgLegQueue (c : Cmd)
  | prgPolice (c : Cmd)
  | prgPortConfig (c : Cmd)
  | prgPortShape (c : Cmd)
  | prgLegStats (c : Cmd)
  | prgPortStats (c : Cmd)
  | portFrameStart (p : Fin 8) (fine : Fin 64)
  | launchReached (p : Fin 8)
  | queueSample
  -- Hall
  | hallDispatch (k : Fin 20)
  | flowDone (k : Fin 20) (arm : TimerArm)
  | hallTimeout (f : Fin 65536)
  | priorityPromotion (g : Fin 5)
  | flowHoldOver (f : Fin 65536)
  | loadSample
  | ladderForceWrite (r : Requester) (v : Word)
  | ladderThresholdWrite (r : Requester) (n : Fin 4) (v : Word)
  -- Pantry
  | packetWordWrite (p : Producer) (b : Bound)
  | packetCommit (p : Producer) (last : Fin 8) (info : PktInfo)
  | commitLoose (p : Producer) (last : Fin 8)
  | closeBad (p : Producer)
  | enqueue (handle : Nat) (q : Fin 33792) (info : PktInfo)
  | handleRelease (handle : Nat)
  | mark (p : Producer)
  | wrewind (p : Producer)
  | read (q : Fin 33792)
  | queueMark (q : Fin 33792)
  | rewind (q : Fin 33792)
  | release (q : Fin 33792)
  | unmark (q : Fin 33792)
  -- Cellar
  | memLayout (c : Cmd)
  | memoryRequestIssue (ch : Fin 8) (arrivals : List MemReq)
  | agePromotion (ch : Fin 8)
  | refreshTick (ch : Fin 8) (rank : Fin 2) (bank : Fin 16)
  | calibrationDue (ch : Fin 8)
  | calibrationForced (ch : Fin 8)
  | calibrationWindowEnd (ch : Fin 8)
  | scrubFloorExpiry (ch : Fin 8)
  | memoryInitDone
  | keeperHandover (ch : Fin 8)
  | trainingWritePattern (r : Requester) (ch : Fin 8) (v : Word)
  | trainingReadCompare (r : Requester) (ch : Fin 8) (v : Word) (fails : BitVec 72)
  | trainingRegisterCompare (r : Requester) (ch : Fin 8) (v : Word) (fails : BitVec 72)
  | trainingOpComplete (ch : Fin 8)
  | mrsWrite (r : Requester) (ch : Fin 8) (v : Word)
  | errorInjectArm (r : Requester) (v : Word)
  -- Belvedere
  | timeArm (c : Cmd)
  | timeStep (c : Cmd)
  | timeRate (c : Cmd)
  | timeRead (c : Cmd)
  | timeTb0Lock (c : Cmd)
  | relockSlewDone
  | timePortComp (c : Cmd)
  | timePin (c : Cmd)
  | timeServo (c : Cmd)
  | captureEdge (k : Fin 8) (rising : Bool)
  | softwareStamp (k : Fin 8)
  | triggerEdge (k : Fin 8)
  | baseLatch (r : Requester) (v : Word)
  | txtsPop (r : Requester) (v : Word)
  -- Bellboard
  | sourcePulse (s : Fin 1024)
  | pendSet (r : Requester) (v : Word)
  | pendClear (r : Requester) (v : Word)
  | interruptClaim (r : Requester) (t : Fin 21)
  | eoiWrite (r : Requester) (t : Fin 21) (v : Word)
  | targetDisableWrite (r : Requester) (t : Fin 21) (v : Word)
  | sourceConfigWrite (r : Requester) (s : Fin 1024) (v : Word)
  | watchWrite (r : Requester) (w : Fin 64) (v : Word)
  | errorReport (s : Fin 1024) (sev : Severity) (i0 i1 : Word)
  | alertNAssert
  | errDone (r : Requester) (v : Word)
  | errInject (r : Requester) (v : Word)
  | logPop (r : Requester) (v : Word)
  -- Fusebox, Gatehouse and power
  | powerDomain (c : Cmd)
  | domainOnComplete (d : Fin 80)
  | powerRunpoint (c : Cmd)
  | powerRailStep (c : Cmd)
  | voltageConfirmed (r : Fin 3) (mv : Nat)
  | pmbusConfirmTimeout (r : Fin 3) (status : Word)
  | powerState (c : Cmd)
  | cellarDrained
  | gthAlarmClear (c : Cmd)
  | alarmLatchWrite (r : Requester) (v : Word)
  | telemSnapshot (c : Cmd)
  | wakeSource (bit : Fin 7) (src : Fin 1024)
  | wakeStepComplete
  | gatehouseTimerExpiry
  | i2cAddressMatch (addr : BitVec 7)
  | temperatureSample (t : List Int)
  | clampLift
  | railTelemetryRead (r : Fin 3) (mv ma : Nat)
  | porstNRise (pins : Straps)
  | powerGoodRise (g : Fin 4)
  | powerGoodFault (g : Fin 4) (dropped : Bool)
  | porstNFall
  | vddGhLoss
  | bootStageComplete (r : BootResult)
  | loadGo (r : Requester) (v : Word)
  | flashWrite (c : Cmd) (bytes : List Byte) (verifyOk : Bool)
  | recoverySetOffset (off : Word)
  | recoveryAppend (bytes : List Byte)
  | recoveryProgram
  | recoveryStatus
  | portDrainTimeout (p : Fin 8)
  | vddGhReturn
  | mainDieRelease
  | powerGoodFall (g : Fin 4)
  | powerDownStepTimeout (g : Fin 4)
  | firstHostBar0Read (addr : BitVec 28)
  | iceWindowRead (r : Requester) (addr : BitVec 28)
  deriving DecidableEq, Repr

end Sys2Proof
end

