-- ==== Sys2Proof/Machine/Aes.lean ====
section
/-!
DEFINITION. AES and its Galois/Counter Mode, as the transforms of R127 name them, for the direct jobs of R147.
Bytes are natural numbers below 256; the algorithms are those of FIPS 197 and NIST SP 800-38D.
-/
namespace Sys2Proof.Machine

/-- Doubling in GF(2^8). -/
def aesX2 (a : Nat) : Nat := if a < 128 then 2 * a else (2 * a) % 256 ^^^ 0x1B

/-- Product in GF(2^8), over the low n bits of the second factor. -/
def aesMul : Nat → Nat → Nat → Nat
  | 0, _, _ => 0
  | n + 1, a, b => (if b % 2 = 1 then a else 0) ^^^ aesMul n (aesX2 a) (b / 2)

/-- a to the 2^k - 2 by repeated squaring: the inverse for k = 8. -/
def aesPow : Nat → Nat → Nat
  | 0, _ => 1
  | k + 1, a => let q := aesMul 8 a a; aesMul 8 q (aesPow k q)

/-- The inverse in GF(2^8), 0 of 0: a^254. -/
def aesInv (a : Nat) : Nat := aesPow 7 a

def rotl8 (a k : Nat) : Nat := (a <<< k) % 256 ||| a >>> (8 - k)

/-- The S-box of FIPS 197. -/
def aesSub (a : Nat) : Nat :=
  let i := aesInv a
  i ^^^ rotl8 i 1 ^^^ rotl8 i 2 ^^^ rotl8 i 3 ^^^ rotl8 i 4 ^^^ 0x63

def xorBytes (a b : List Nat) : List Nat := List.zipWith (fun x y => x ^^^ y) a b

/-- Key expansion: words newest first. -/
def aesExpand (nk : Nat) : Nat → Nat → Nat → List (List Nat) → List (List Nat)
  | 0, _, _, ws => ws
  | f + 1, i, rc, ws =>
    let t := ws.headD []
    let t' := if i % nk = 0 then xorBytes ((t.drop 1 ++ t.take 1).map aesSub) [rc, 0, 0, 0]
      else if 6 < nk && i % nk = 4 then t.map aesSub else t
    let w := xorBytes (ws.getD (nk - 1) []) t'
    aesExpand nk f (i + 1) (if i % nk = 0 then aesX2 rc else rc) (w :: ws)

/-- Cut a list into pieces of n. -/
def pieces (n : Nat) : Nat → List α → List (List α)
  | 0, _ => []
  | f + 1, l => if l.isEmpty then [] else l.take n :: pieces n f (l.drop n)

/-- Round keys of a 16- or 32-byte key, 16 bytes each, first round first. -/
def aesRoundKeys (key : List Nat) : List (List Nat) :=
  let nk := key.length / 4
  let ws := (aesExpand nk (4 * (nk + 7) - nk) nk 1 (pieces 4 nk key).reverse).reverse
  pieces 16 (nk + 7) ws.flatten

/-- ShiftRows on a column-major state. -/
def aesShift (st : List Nat) : List Nat :=
  (List.range 16).map fun i => st.getD ((i + 4 * (i % 4)) % 16) 0

/-- MixColumns on one column. -/
def aesMixCol (c : List Nat) : List Nat :=
  (List.range 4).map fun i =>
    aesX2 (c.getD i 0) ^^^ (aesX2 (c.getD ((i + 1) % 4) 0) ^^^ c.getD ((i + 1) % 4) 0) ^^^
      c.getD ((i + 2) % 4) 0 ^^^ c.getD ((i + 3) % 4) 0

/-- The rounds of AES after the first key addition. -/
def aesRounds : List (List Nat) → List Nat → List Nat
  | [], st => st
  | [k], st => xorBytes (aesShift (st.map aesSub)) k
  | k :: r, st => aesRounds r (xorBytes (((pieces 4 4 (aesShift (st.map aesSub))).map aesMixCol).flatten) k)

/-- One AES block. PRESUMED, log entry 72. -/
def aesBlock (rk : List (List Nat)) (b : List Nat) : List Nat := aesRounds (rk.drop 1) (xorBytes b (rk.headD []))

/-- Big-endian number of a byte list. -/
def beNat (l : List Nat) : Nat := l.foldl (fun a b => a * 256 + b) 0

/-- Big-endian bytes of a number. -/
def beBytes (n v : Nat) : List Nat := (List.range n).map fun i => v / 256 ^ (n - 1 - i) % 256

/-- Product in GF(2^128) of GCM, over the bits of x from the top. -/
def ghashMul : Nat → Nat → Nat → Nat → Nat
  | 0, _, _, z => z
  | n + 1, x, v, z =>
    ghashMul n x (if v % 2 = 1 then v / 2 ^^^ 0xE1 * 2 ^ 120 else v / 2) (if x.testBit n then z ^^^ v else z)

/-- GHASH over 16-byte blocks, the last of a part padded with zeros. -/
def ghash (h : Nat) (y : Nat) (blocks : List (List Nat)) : Nat :=
  blocks.foldl (fun y b => ghashMul 128 (y ^^^ beNat b * 256 ^ (16 - b.length)) h 0) y

/-- The counter-mode key stream blocks from counter c on. -/
def gcmCtr (rk : List (List Nat)) (iv : List Nat) (c : Nat) (data : List (List Nat)) : List (List Nat) :=
  data.zipIdx.map fun d => xorBytes d.1 (aesBlock rk (iv ++ beBytes 4 ((c + d.2) % 2 ^ 32)))

/-- AES-GCM with a 12-byte IV: the data after the key stream, and the tag over the given ciphertext side.
PRESUMED, log entry 72. -/
def gcm (key iv aad data : List Nat) (decrypt : Bool) : List Nat × List Nat :=
  let rk := aesRoundKeys key
  let h := beNat (aesBlock rk (List.replicate 16 0))
  let blocks := fun (l : List Nat) => pieces 16 l.length l
  let out := gcmCtr rk iv 2 (blocks data)
  let ct := if decrypt then blocks data else out
  let y := ghash h 0 (blocks aad)
  let y := ghash h y ct
  let y := ghash h y [beBytes 8 (aad.length * 8) ++ beBytes 8 (data.length * 8)]
  (out.flatten, xorBytes (beBytes 16 y) (aesBlock rk (iv ++ [0, 0, 0, 1])))

end Sys2Proof.Machine
end

