-- ==== Sys2Proof/Config.lean ====
section
/-!
DEFINITION. The free values of the model: constants without a body, for every value the manual leaves open
while the device goes on. Nothing in Lean can evaluate them, so a claim holds whatever they are. Each is
applied to a counter that the state holds (`State.free`) or to the operands it depends on.
-/
namespace Sys2Proof.Config

/-- A number the manual does not fix (a cell number, a status of a cut-short START, the last bit of a limiter gain, an interval draw).
DESIGN CHOICE, log entry 5. DEDUCED, log entry 26. -/
opaque freeNat : Nat → Nat

/-- A 32-bit word the manual does not fix (undefined program, data, flash or image content). -/
opaque freeWord : Nat → BitVec 32

/-- A signed number the manual does not fix (a decoded sample without a frame). -/
opaque freeInt : Nat → Int

/-- A counter register that would pass its 32 bits: the manual gives no value (R15 states no wrap). -/
opaque counterPast : BitVec 32 → Nat → BitVec 32

/-- The output of the mix-time filter chain of R171 on one sample, from the leg's settings and the samples
before it: the manual gives its stages but no coefficients. DESIGN CHOICE, log entry 78. -/
opaque filterChain : Nat → List Int → Int

/-- The slope of a window through which no least-squares line is defined: fewer than two points, or one arrival
instant (R106). -/
opaque freeSlope : List (Nat × Int) → Int

/-- A measured partner offset, within what whole-ct edges leave open, from the ct and the frames measured and the nominal
period (R226). DESIGN CHOICE, log entry 168. -/
opaque measuredPpm : Nat → Nat → Nat → Nat

/-- The rounding of a sample under a hatch ramp that is linear in dB (R240), from the ct of the ramp still to run, its
length, and the sample. DESIGN CHOICE, log entry 95. -/
opaque rampRound : Nat → Nat → Int → Nat

/-- The rounding of the RMS level of a block in −dBov (R229). DESIGN CHOICE, log entry 95. -/
opaque rmsRound : List Int → Nat

/-- A decoded sample, from the decode, its plane and its place: the codecs' standards give it (R252).
DESIGN CHOICE, log entry 109. -/
opaque decoded : Nat → Nat → Nat → Nat → Nat

/-- The scaling filter on six taps, from the output and crop lengths and the phase: the manual gives no coefficients
(R283). DESIGN CHOICE, log entry 171. -/
opaque sixTap : Nat → Nat → Nat → List Nat → Nat

/-- Which value between the least and the greatest of four converted chroma values a 4:2:0 sample takes (R285).
DESIGN CHOICE, log entry 171. -/
opaque chromaSite : Nat → Nat → Nat → Nat → Nat

/-- The 8-bit alpha of a 10-bit stored alpha (R286). DESIGN CHOICE, log entry 171. -/
opaque alpha10 : Nat → Nat

/-- A chroma sample that lies across the edge of an odd border shows COLOUR, from its canvas and place.
DESIGN CHOICE, log entry 171. -/
opaque borderChroma : Nat → Nat → Nat → Bool

/-- Bytes that a stored tile of a decode takes: the lossless compression is not given (R260). DESIGN CHOICE, log entry 109. -/
opaque tileBytes : Nat → Nat → Nat → Nat

/-- A choice of a coder that the manual leaves to it: the cost of a vector, a split, a mode, a quantiser, from a number of
the picture's and what is chosen (R323, R331). DESIGN CHOICE, log entry 172. -/
opaque coder : Nat → List Int → Nat

/-- The lowest level of a codec's standard that admits a size, a rate code and a bit rate (R312). DESIGN CHOICE, log
entry 172. -/
opaque level : Bool → Nat → Nat → Nat → Nat → Nat

/-- The ECDSA P-384 signature of an image holds under the key whose digest the fuses hold: the bytes that are signed, and the
signature (R562). DEDUCED, log entry 146. -/
opaque imageSigned : List (BitVec 8) → List (BitVec 8) → Bool

/-- DEVICE_UID, which the fuses hold (R111). DESIGN CHOICE, log entry 63. -/
opaque deviceUid : BitVec 64

/-- The mean path delay and offset that the Study servo reports (R482). -/
opaque servoNs : Nat → Int

/-- Pool (0 near, 1 far, 2 near then far), class and byte limit that the firmware gives a firmware queue
(R415, R430). DESIGN CHOICE, log entry 128. -/
opaque fwQueuePool : Nat → Nat
/-- DESIGN CHOICE, log entry 128. -/
opaque fwQueueClass : Nat → Nat
opaque fwQueueLimit : Nat → Nat

end Sys2Proof.Config
end

