-- ==== Sys2Proof/Machine/State.lean ====
section
/-!
DEFINITION. The state of the HF9600 as plain data: every register, queue, buffer, counter, mode and pin the
manual gives the device, with the queue of waiting commands, and the state after reset.
-/
namespace Sys2Proof.Machine

/-- Sparse data by number, sorted by key, no entry equal to the default of its table. -/
abbrev Tab (α : Type) := List (Nat × α)

/-- No meaning of this model faults: every effect the manual describes is a next state. The one reason is kept
for a step that the machine could not take at all; nothing raises it. -/
inductive Fault where
  /-- raised by nothing; safe, since a step that would raise it stops -/
  | stuck
  deriving DecidableEq, Repr

/-- Why a command has no meaning. -/
inductive Refusal where
  /-- raised by an arm of `exec` whose row of the opcode table is not yet modelled; safe, the machine stops -/
  | notModelled (mnemonic : String)
  deriving DecidableEq, Repr

/-! ## Porch (R36-R83) -/

/-- PCIe link state, as PCH_STATUS.LINK (R80). -/
inductive Link where
  | l0 | l1 | l11 | l12 | down
  deriving DecidableEq, Repr

/-- A completion or event that the device has produced and the Porch has not yet written (R52, R54). -/
structure Entry where
  evt    : Bool
  /-- submission queue of a completion -/
  sq     : Nat
  /-- opcode, or event code -/
  code   : BitVec 16
  tag    : BitVec 16
  status : BitVec 16
  obj    : Word
  r0     : Word
  r1     : Word
  r2     : Word
  r3     : Word
  time   : Word
  /-- the command's WAKE flag (R51) -/
  wake   : Bool
  /-- completion queue of a completion -/
  cq     : Nat := 0
  deriving DecidableEq, Repr

/-- An entry in the holding buffer (R71, R72, R568): its queue, its sequence number if it is an event, and whether it may
wake the host, as WAKE or WAKE_EVT had it when the entry was held (R42, R73). -/
structure Held where
  cq    : Nat
  entry : Entry
  seq   : BitVec 16
  wake  : Bool := false
  deriving DecidableEq, Repr

/-- A command that has been fetched and whose completion is not yet written or held (R46, R48). -/
structure Flight where
  op      : BitVec 16
  c       : Cmd
  /-- its meaning has begun (R49, R50) -/
  started : Bool
  /-- its completion is to be discarded (R38) -/
  discard : Bool
  /-- completion queue that its submission queue was bound to at the fetch -/
  cq      : Nat := 0
  deriving DecidableEq, Repr

/-- Run-time state of a submission queue (R43, R58, R78, R569). -/
structure Sq where
  head  : Nat := 0
  tail  : Nat := 0
  error : Bool := false
  idle  : Bool := true
  deriving DecidableEq, Repr

/-- Run-time state of a completion or event queue (R53-R58, R69, R569). -/
structure Cq where
  tail  : Nat := 0
  head  : Nat := 0
  error : Bool := false
  /-- PHASE that the present pass writes (R53) -/
  phase : Bool := true
  seq   : BitVec 16 := 0
  /-- entries written since the last interrupt, and the timer's CK_CT cycles (R69) -/
  count : Nat := 0
  timer : Option Nat := none
  /-- COUNT and TIME_CT as the latest entry found them (R70) -/
  modCount : Nat := 0
  modTime  : Nat := 0
  /-- an interrupt that fell due and is kept (R72, R568) -/
  due   : Bool := false
  /-- events lost since the last EVENTS_LOST, saturating (R56) -/
  lostSince : Nat := 0
  deriving DecidableEq, Repr

/-- The Porch's state beside its plain registers. DESIGN CHOICE, log entry 148. -/
structure Porch where
  link     : Link := .down
  /-- lanes and generation of the trained link, 0 while it is down (R36, R37) -/
  width    : Nat := 0
  gen      : Nat := 0
  d3hot    : Bool := false
  pmeEn    : Bool := false
  pmeStatus : Bool := false
  /-- PCH_STATUS.WAKE_ACTIVE (R73) -/
  wakeActive : Bool := false
  /-- WAKE_N asserted by the Porch (R73) -/
  wakeN    : Bool := false
  /-- PERST_N asserted (low) -/
  perst    : Bool := true
  sq       : Tab Sq := []
  cq       : Tab Cq := []
  produced : List Entry := []
  held     : List Held := []
  flights  : List Flight := []
  /-- queue of the present round-robin turn and the fetches left in it (R46) -/
  turn     : Nat := 1
  credit   : Nat := 0
  /-- MSI-X vectors whose pending bit is set (R70) -/
  pba      : List Nat := []
  deriving DecidableEq, Repr

/-! ## Bellboard (R489-R508) -/

/-- A recorded error (R502, R505). -/
structure ErrRec where
  sev     : Severity
  handled : Bool
  src     : Nat
  i0      : Word
  i1      : Word
  time    : Word
  deriving DecidableEq, Repr

/-- The Bellboard's state beside its configuration registers. -/
structure Bell where
  /-- pending sources, ascending (R489) -/
  pend     : List Nat := []
  /-- stacks of running priorities per target, top first (R493) -/
  levelStacks   : Tab (List Nat) := []
  /-- targets with EOI_EMPTY set (R495) -/
  eoiEmpty : List Nat := []
  cfgErr   : Bool := false
  doneDenied : Bool := false
  double   : Bool := false
  /-- open handling levels, innermost first (R503) -/
  levels   : List ErrRec := []
  /-- the log, oldest first (R505) -/
  log      : List ErrRec := []
  /-- source 20 has pulsed for the present filling of the log (R505) -/
  fullSaid : Bool := false
  /-- source whose message was last sent to the host and is still the highest signallable (R493) -/
  hostSent : Option Nat := none
  /-- watched sources that pulsed while the Bellboard was off (R501) -/
  watched  : List Nat := []
  /-- targets with FULL_HELD set (R496) -/
  fullHeld : List Nat := []
  /-- a double fault waits for source 19's message before ALERT_N (R506) -/
  alertWait : Bool := false
  deriving DecidableEq, Repr

/-! ## Belvedere (R461-R488) -/

/-- TB1 or TB2 (R461, R464): its value is in units of 2^-40 ns. -/
structure PtpBase where
  armed   : Bool := false
  stepped : Bool := false
  val     : Nat := 0
  /-- rate offset in parts per 2^40 (R466) -/
  rate    : Int := 0
  deriving DecidableEq, Repr

/-- An entry of the transmit stamp queue (R477). -/
structure Txts where
  tag     : BitVec 16
  port    : Nat
  base2   : Bool
  epoch   : Bool
  baseOff : Bool
  /-- stamp in units of 2^-40 ns -/
  stamp   : Nat
  tb0     : Word
  deriving DecidableEq, Repr

/-- Stamping state of a port (R473, R474, R488). -/
structure StampPort where
  rxlat : Word := 0
  txlat : Word := 0
  asym  : Word := 0
  base2 : Bool := false
  servo : Bool := false
  rxCt  : Nat := 0
  txCt  : Nat := 0
  deriving DecidableEq, Repr

/-- A capture and trigger pin (R480). -/
structure Pin where
  mode   : Nat := 0
  align  : Bool := false
  base2  : Bool := false
  start  : Nat := 0
  period : Nat := 0
  width  : Nat := 0
  level  : Bool := false
  /-- the edge that awaits its stamp: rising or falling -/
  edge   : Option Bool := none
  /-- instant of the next rise of a trigger, none after a single pulse -/
  next   : Option Nat := none
  /-- instant of the next fall -/
  fall   : Option Nat := none
  deriving DecidableEq, Repr

/-- A receive-stamp entry (R475). DEDUCED, log entry 40. -/
structure Rxts where
  stamp   : Nat := 0
  valid   : Bool := false
  epoch   : Bool := false
  base2   : Bool := false
  baseOff : Bool := false
  deriving DecidableEq, Repr

/-- The Study's PTP servo on one base (R482). -/
structure Servo where
  on        : Bool := false
  transport : Bool := false
  port      : Nat := 0
  addr      : Nat := 0
  domain    : Nat := 0
  logDelay  : Int := 0
  state     : Nat := 0
  /-- the servo has used the base's step -/
  usedStep  : Bool := false
  /-- delay requests sent, and from when on the next is due -/
  asked     : Nat := 0
  nextAsk   : Nat := 0
  deriving DecidableEq, Repr

/-- The Belvedere. -/
structure Belvedere where
  tb0      : Dword := 0
  stepped0 : Bool := false
  /-- rate offset in force on the CK_CT PLL (R466) -/
  rate0    : Int := 0
  /-- the PTP base that TB0 is locked to: false TB1, true TB2 (R469) -/
  lock     : Option Bool := none
  holdover : Bool := false
  /-- the base of the latest lock (BLV_STAT.LOCK_BASE) -/
  lockBase2 : Bool := false
  /-- the relock offset still to remove, in 2^-40 ct, signed (R470) -/
  slew     : Option Int := none
  tb1      : PtpBase := {}
  tb2      : PtpBase := {}
  tb3      : Dword := 0
  /-- REFCLK cycles owed, in units of 1/(1764 * (2^40 + rate0)) cycle -/
  phase    : Nat := 0
  /-- the latch of R487: TB0, TB1, TB2, TB3 at the latest write of BLV_LATCH -/
  lat0     : Dword := 0
  lat1     : Nat := 0
  lat2     : Nat := 0
  lat3     : Dword := 0
  txts     : List Txts := []
  ports    : Tab StampPort := []
  pins     : Tab Pin := []
  rxts     : Tab Rxts := []
  servo1   : Servo := {}
  servo2   : Servo := {}
  deriving DecidableEq, Repr

/-! ## Fusebox, Gatehouse, Attic and boot (R509-R564) -/

/-- A scaling rail (R513-R515, R530). -/
structure Rail where
  freq : Nat := 0
  volt : Nat := 0
  /-- the point whose voltage awaits confirmation, and since when -/
  want : Option (Nat × Nat) := none
  mv   : Nat := 0
  deriving DecidableEq, Repr

/-- The power command under way (R512): its opcode, the command, and the rail or domain it waits on. -/
structure PowerJob where
  op : BitVec 16
  c  : Cmd
  deriving DecidableEq, Repr

/-- A wake in progress (R519, R522). -/
structure Wake where
  /-- step of R522 under way -/
  step  : Nat
  cause : Nat
  src   : Nat
  /-- state left -/
  left  : Nat
  deriving DecidableEq, Repr

/-- The Fusebox, the Attic's sensors and the device state. -/
structure Power where
  /-- 0 Run, 1 Idle, 2 Drowse, 3 Sleep, 4 Off (R517) -/
  state   : Nat := 0
  /-- switched domains that are on (R509) -/
  dom     : BitVec 80 := 0
  /-- domains coming on, with the instant the switching began (R511) -/
  rising  : Tab Nat := []
  rails   : Tab Rail := []
  clamp   : Bool := false
  /-- since when every sensor has stayed below ATC_WARN (R525) -/
  coolSince : Option Nat := none
  temps   : List Int := [0, 0, 0, 0, 0, 0, 0, 0, 0]
  railMv  : Tab Nat := []
  railMa  : Tab Nat := []
  job     : Option PowerJob := none
  waiting : List PowerJob := []
  /-- the state being entered and the step of R518 under way -/
  entering : Option (Nat × Nat) := none
  /-- POWER_STATE words 5 and 6 as the Gatehouse holds them (R519) -/
  wakeEn  : BitVec 7 := 0
  notify  : Bool := false
  /-- what a wake restores (R522 step 6): domains and run points -/
  savedDom   : BitVec 80 := 0
  savedRails : Tab Rail := []
  wake    : Option Wake := none
  /-- WAKE_N asserted by the Gatehouse (R521) -/
  wakeN   : Bool := false
  /-- a TELEM_SNAPSHOT or a FLASH_WRITE that runs and waits for the host's memory (R77, R526, R563) -/
  telem   : Option Cmd := none
  flashing : Option Cmd := none
  deriving DecidableEq, Repr

/-- The Gatehouse die (R519-R524, R537-R546). DESIGN CHOICE, log entry 12. -/
structure Gate where
  /-- VDD_GH in range, and since when -/
  vdd     : Bool := true
  vddSince : Nat := 0
  porst   : Bool := false
  straps  : BitVec 19 := 0xC0
  en      : BitVec 4 := 0
  pg      : BitVec 4 := 0
  /-- step of R537 under way: 1 to 6, 7 once the main die is released, 0 powering down or faulted -/
  step    : Nat := 1
  since   : Nat := 0
  /-- rails whose READ_VOUT has confirmed 0.85 V in step 3 -/
  railsOk : List Nat := []
  /-- groups still to lower, the first one already low and awaited (R539) -/
  lowering : List Nat := []
  fault   : Bool := false
  dropped : Bool := false
  stage   : Nat := 0
  /-- GTH_ALARM cause bits (R149, R524) -/
  alarm   : BitVec 5 := 0
  doubleFault : Bool := false
  /-- GTH_WAKE_CAUSE: bit plus 1 and watched source -/
  wakeCause : Nat := 0
  wakeSrc : Nat := 0
  /-- GTH_TIMER ticks left, and ct counted towards the next tick -/
  timer   : Nat := 0
  timerSub : Nat := 0
  timerOn : Bool := false
  alertN  : Bool := false
  deriving DecidableEq, Repr

/-- Boot ROM, flash and recovery (R558-R564). -/
structure Boot where
  stage  : Nat := 0
  error  : Nat := 0
  failed : Bool := false
  ready  : Bool := false
  copy   : Bool := false
  /-- FETCH of stage 4 under BOOT_SRC 0b01 has its GO (R559) -/
  loading : Bool := false
  fw     : Word := 0
  /-- bytes of SPI flash that differ from the erased value -/
  flash  : Tab Byte := []
  recOffset : Nat := 0
  recBuf : List Byte := []
  recErr : Bool := false
  recPages : Nat := 0
  deriving DecidableEq, Repr

/-! ## Objects (R65, R66) -/

/-- The four states of R65. -/
inductive ObjState where
  | stopped | starting | running | draining
  deriving DecidableEq, Repr

/-- A configurable object's state, generation, and the commands that wait on it (R65, R66). -/
structure ObjRec where
  st     : ObjState := .stopped
  gen    : Word := 0
  starter : Option Cmd := none
  stoppers : List Cmd := []
  /-- an ABORT has been asked for -/
  abort  : Bool := false
  /-- CK_CT cycle at which the present state began -/
  since  : Nat := 0
  deriving DecidableEq, Repr

/-- A rate-limited event: the instant of its last report and what has been counted since. -/
structure Limit where
  last  : Option Nat := none
  count : Nat := 0
  more  : Nat := 0
  deriving DecidableEq, Repr

/-- What leaves the device, in the order it happened (newest first in `State.out`). DESIGN CHOICE, log entry 10. -/
inductive Out where
  /-- a posted write to host memory: address and words, with the relaxed-ordering and the ID-based-ordering attribute
  (R36, R53) -/
  | tlp (addr : Nat) (ws : List Word) (relaxed idBased : Bool)
  /-- bytes written to host memory by a command or a ring -/
  | hostBytes (addr : Nat) (bs : List Byte)
  /-- a frame copied into the punt ring: host address of the buffer, its index, and the frame's length and bytes, both cut
  to the buffer (R90) -/
  | punt (addr buffer length : Nat) (bs : List Byte)
  | msix (vector : Nat)
  | pme
  | wakeN (asserted : Bool)
  | alertN (asserted : Bool)
  /-- the ROM's line on UART_TX: a stage and its error code (R558) -/
  | uart (stage error : Nat)
  /-- a core target's interrupt line (R493) -/
  | irq (target : Nat) (asserted : Bool)
  /-- data returned to a requester -/
  | read (r : Requester) (addr : Nat) (v : Word)
  /-- an Unsupported Request completion (R13) -/
  | ur
  /-- a frame leaves a port: port, body description, and the addresses that the device gives a frame of its own -/
  | egress (port : Nat) (body net : List Nat)
  /-- VOUT_COMMAND to a rail's regulator: rail and point (R515) -/
  | vout (rail : Nat) (point : Nat)
  /-- data the I2C/SMBus target returns -/
  | smbus (v : Word)
  /-- an edge on a trigger pin (R480) -/
  | pin (k : Nat) (level : Bool)
  /-- a tile group or slice passed to the packet cores: encoding, layer, frame, unit, bits (R319) -/
  | tile (enc layer frame unit bits : Nat)
  /-- a coded picture's header and dependency descriptor: encoding, layer, temporal index, frame, RTP timestamp, key,
  switch point, the frame of its temporal reference, and whether it may predict from the layer below (R311, R313, R320) -/
  | picture (enc layer t frame : Nat) (ts : Word) (key switch : Bool) (ref : Option Nat) (inter : Bool)
  /-- what the sequence header or SPS of an intra picture carries: encoding, layer, frame, level, and bit rate and buffer size
  of each operating point of the stream (R312, R319) -/
  | header (enc layer frame level : Nat) (points : List (Nat × Nat))
  /-- the status of a packet job that the Icehouse ended without a result (R138, R140, R149) -/
  | jobEnd (r : JobReq) (st : BitVec 16)
  /-- frames on a hatch's Hh_SDO from a frame number on, bit clock by bit clock from the frame edge; none is high impedance
  (R221, R223) -/
  | sdo (h first : Nat) (frames : List (List (Option Bool)))
  /-- Hh_SDO outside frames: high impedance, or driven 0 (R241) -/
  | sdoRest (h : Nat) (highZ : Bool)
  /-- a master bank's clocks in frames first to first + count - 1: the level of HBb_FS by bit clock, and BCLK_POL; frame k
  has its edge at TB0 = k × P (R221, R224, R225) -/
  | clocks (b first count : Nat) (fs : List Bool) (bclkPol : Bool)
  /-- a master bank drives HBb_BCLK and HBb_FS low (R241) -/
  | clocksLow (b : Nat)
  deriving DecidableEq, Repr

/-! ## Cellar (R431-R460) -/

/-- A request in a channel's queues (R443). -/
structure MemQ where
  req  : MemReq
  /-- order of arrival at the channel -/
  seq  : Nat
  /-- CK_CT cycle of arrival -/
  born : Nat
  /-- promoted to class 1 (R444) -/
  prom : Bool
  deriving DecidableEq, Repr

/-- One RLDRAM channel. -/
structure Chan where
  reads   : List MemQ := []
  writes  : List MemQ := []
  nextSeq : Nat := 0
  /-- the present batch is of the writes numbered below this (R443) -/
  batch   : Nat := 0
  /-- banks in in-order mode, with the write each waits for (R445): key rank * 16 + bank -/
  inorder : Tab Nat := []
  /-- postponed refreshes per bank (R447) -/
  postponed : Tab Nat := []
  /-- since when a calibration is due (R451) -/
  calDue  : Option Nat := none
  /-- start of the open window, and whether it was forced -/
  window  : Option (Nat × Bool) := none
  calLast : Nat := 0
  /-- lines handed to the scrubber, the index of the next line of its walk, a correction to write back -/
  scrubNext : List Nat := []
  scrubPos  : Nat := 0
  scrubBack : Option Nat := none
  scrubProm : Bool := false
  scrubLast : Nat := 0
  passes  : Nat := 0
  /-- instants of corrected errors within the last second (R438) -/
  ceTimes : List Nat := []
  /-- a training operation is under way (R460) -/
  training : Bool := false
  /-- mode registers of the devices, by rank * 4 + register (R459) -/
  mrs     : Tab Word := []
  /-- the keeper holds refresh (R448) -/
  keeper  : Bool := false
  deriving DecidableEq, Repr

/-- The Cellar and main memory. -/
structure Cellar where
  chans    : Tab Chan := []
  trained  : Bool := false
  trainFail : BitVec 8 := 0
  initDone : Bool := false
  strapErr : Bool := false
  /-- the Study has laid out memory (R436) -/
  laid     : Bool := false
  /-- bytes of main memory by PA; what is not listed reads 0 (R441) -/
  mem      : Tab Byte := []
  /-- beats with flipped bits by PA / 8: 1 correctable, 2 uncorrectable (R437) -/
  errs     : Tab Nat := []
  deriving DecidableEq, Repr

/-! ## Pantry (R413-R430) -/

/-- What the Pergola and the MAC need of a queued packet; `body` describes the frame for its receiver: a kind and
its fields (see `Machine/Pantry.lean`). -/
structure Pkt where
  /-- counted bytes before the port's OVERHEAD (R371) -/
  counted : Nat := 0
  launch  : Option Nat := none
  exact   : Bool := false
  tstamp  : Option (BitVec 16) := none
  body    : List Nat := []
  /-- of a frame that the device builds: destination and source MAC address, VID (0 untagged), and for a UDP frame the local
  address and port and the remote address and port (R89, R108) -/
  net     : List Nat := []
  deriving DecidableEq, Repr

/-- An entry of a queue: a packet or a gap marker (R414, R425). -/
structure QEntry where
  handle : Nat
  bytes  : Nat
  cells  : Nat
  far    : Bool
  gap    : Bool
  /-- META: TB0 at commit, or packets dropped -/
  note   : Nat
  /-- TB0 at which it entered the queue -/
  born   : Nat
  pkt    : Pkt
  /-- cells of the packet after the first, in order -/
  rest   : List Nat := []
  deriving DecidableEq, Repr

/-- What a READ returned (R422, R423). -/
structure ReadOut where
  handle : Nat := 0x1FFFF
  bytes  : Nat := 0
  gap    : Bool := false
  note   : Nat := 0
  under  : Bool := false
  deriving DecidableEq, Repr

/-- A queue: unreleased entries, head first; the read position and the mark count entries from the head. -/
structure PQueue where
  entries : List QEntry := []
  read    : Nat := 0
  mark    : Option Nat := none
  last    : ReadOut := {}
  under   : Bool := false
  /-- drops that no marker records yet (R425) -/
  pend    : Nat := 0
  deriving DecidableEq, Repr

/-- A producer's open packet (R417-R421). -/
structure OpenPkt where
  bound  : Bound
  far    : Bool
  handle : Nat
  bytes  : Nat
  cells  : Nat
  mark   : Option Nat
  rest   : List Nat := []
  deriving DecidableEq, Repr

/-- A loose packet (R417, R572). -/
structure Loose where
  bytes : Nat
  cells : Nat
  far   : Bool
  rest  : List Nat := []
  /-- META: low 28 bits of TB0 at commit -/
  note  : Nat := 0
  deriving DecidableEq, Repr

/-- Pool accounting (R427, R428). -/
structure Pool where
  used    : Nat := 0
  gapUsed : Nat := 0
  peak    : Nat := 0
  below   : Bool := false
  lowLast : Option Nat := none
  drops   : Nat := 0
  lost    : Nat := 0
  deriving DecidableEq, Repr

/-- The Pantry. -/
structure Pantry where
  queues : Tab PQueue := []
  opens  : List (Nat × OpenPkt) := []
  loose  : List (Nat × Loose) := []
  near   : Pool := {}
  far    : Pool := {}
  farCells : Nat := 0
  /-- the near pool is initialised, and the firmware queues are laid out (R430) -/
  ready  : Bool := false
  deriving DecidableEq, Repr

/-! ## Hall (R389-R412) -/

/-- What an item stands for, as far as the Hall treats it specially. -/
inductive ItemKind where
  | stop | doorbell | timeout | work
  deriving DecidableEq, Repr

/-- An item (R389, R392). -/
structure Item where
  kind   : ItemKind
  prio   : Nat
  /-- loose packet that is released when the item is dropped -/
  handle : Option Nat
  /-- deadline that a TIMEOUT fired for (R400) -/
  due    : Nat
  deriving DecidableEq, Repr

/-- A flow's timer (R399). -/
structure FlowTimer where
  due     : Nat
  waitAny : Bool
  prio    : Nat
  deriving DecidableEq, Repr

/-- A flow (R394). -/
structure Flow where
  items  : List Item := []
  /-- consumer that serves it, and since which CK_CT cycle -/
  active : Option (Nat × Nat) := none
  /-- a hold past R398 has been reported -/
  held   : Bool := false
  timer  : Option FlowTimer := none
  /-- order in which it joined its present ready list -/
  join   : Nat := 0
  /-- the item in service -/
  item   : Option Item := none
  deriving DecidableEq, Repr

/-- The Hall. -/
structure Hall where
  flows   : Tab Flow := []
  nextJoin : Nat := 0
  genUse  : Nat := 0
  studyUse : Nat := 0
  /-- items of the Study partition whose producers wait (R391) -/
  waiting : List (Nat × Item) := []
  usePeak : Nat := 0
  /-- per group: since when its priority-15 list has waited for a dispatch (R396) -/
  bgSince : Tab Nat := []
  promote : List Nat := []
  u       : Nat := 0
  computed : Nat := 0
  step    : Nat := 0
  /-- first sample of the unbroken run below the exit threshold (R404) -/
  below   : Option Nat := none
  cfgErr  : Bool := false
  lastBlock : Option Nat := none
  dropPrio : Nat := 15
  deriving DecidableEq, Repr

/-! ## Pergola (R367-R388) -/

/-- A token bucket (R369): tokens in 2^-16 byte and the remainder below that, in 1/564,480 of it. -/
structure Shaper where
  rate  : Nat := 0
  burst : Nat := 64
  tok   : Int := 0
  rem   : Nat := 0
  last  : Nat := 0
  deriving DecidableEq, Repr

/-- Shaping state of a leg. -/
structure LegPrg where
  leg    : Shaper := {}
  svc0   : Shaper := {}
  svc1   : Shaper := {}
  svc2   : Shaper := {}
  svc3   : Shaper := {}
  polEn  : Bool := false
  pol    : Shaper := {}
  qlimit : List Nat := [16384, 262144, 262144, 16384]
  age    : List Nat := [2822400, 35280000, 35280000, 0]
  pace   : Nat := 0x28
  /-- instants and counted bytes of the audio and control frames sent in the last 70,560,000 ct (R349) -/
  sent   : List (Nat × Nat) := []
  /-- RTP packets sent and not yet reported: SSRC, sequence number, egress stamp, bytes (R106) -/
  log    : List (Nat × Nat × Nat × Nat) := []
  /-- counts since the leg's last START (R384) -/
  polDrops : Nat := 0
  qDrops   : Nat := 0
  deriving DecidableEq, Repr

/-- Shaping state of a port. -/
structure PortPrg where
  shaper   : Shaper := {}
  overhead : Int := 24
  quantum  : Nat := 1600
  /-- TB0 at which the port can start its next frame -/
  freeAt   : Nat := 0
  /-- since when an exact launch keeps the port idle (R378) -/
  guardAt  : Option Nat := none
  /-- deficit round-robin: the queue served last per order, and deficits per queue (R372) -/
  drrAt    : Tab Nat := []
  deficits : Tab Nat := []
  linkDrops : Nat := 0
  late     : Nat := 0
  lateMax  : Nat := 0
  guardIdle : Nat := 0
  deriving DecidableEq, Repr

/-- The Pergola. -/
structure Pergola where
  legs  : Tab LegPrg := []
  ports : Tab PortPrg := []
  sampleBlock : Option Nat := none
  deriving DecidableEq, Repr
/-! ## Legs, ports and the Footbridge (R84-R126) -/

/-- The settings of a PORT_CONFIG (R119). -/
structure PortCfg where
  fec      : Nat
  maxFrame : Nat
  mac      : Nat
  untagged : Bool
  vids     : List Nat
  deriving DecidableEq, Repr

/-- A local address of a port (R89). -/
structure PortAddr where
  ip  : IpAddr
  vid : Nat
  hop : Nat
  deriving DecidableEq, Repr

/-- A network port. -/
structure NetPort where
  /-- none until its first PORT_CONFIG (R119) -/
  cfg    : Option PortCfg := none
  addrs  : Tab PortAddr := []
  linkUp : Bool := false
  fecLock : Bool := false
  blockLock : Bool := false
  deriving DecidableEq, Repr

/-- The punt ring (R90). -/
structure Punt where
  on   : Bool := false
  base : Nat := 0
  size : Nat := 0
  tail : Nat := 0
  head : Nat := 0
  deriving DecidableEq, Repr

/-- The settings of a LEG_CONFIG (R119). -/
structure LegCfg where
  conf      : Nat
  port      : Nat
  addr      : Nat
  udp       : Nat
  static    : Bool
  rejoin    : Bool
  ccfb      : Bool
  nack      : Bool
  consent   : Nat
  silence   : Nat
  remote    : BitVec 128
  remoteUdp : Nat
  levelId   : Nat
  ddId      : Nat
  rtcp      : Nat
  deriving DecidableEq, Repr

/-- The ICE credentials of a leg. -/
structure LegCred where
  lfrag : List Byte
  rfrag : List Byte
  pwd   : List Byte
  deriving DecidableEq, Repr

/-- A stream of a leg (R98, R105): kind 0 audio, 1 video, 2 RTX. -/
structure StreamCfg where
  send    : Bool
  kind    : Nat
  ssrc    : Word
  pt      : Nat
  rtxOf   : Nat
  clock   : Nat
  jbMin   : Nat
  jbMax   : Nat
  jbInit  : Nat
  jbK     : Nat
  jbShrink : Nat
  jbSilence : Nat
  deriving DecidableEq, Repr

/-- What the host configures of a leg. -/
structure LegSet where
  cfg     : Option LegCfg := none
  cred    : Option LegCred := none
  streams : Tab StreamCfg := []
  /-- LEG_BWE words 4 to 15 -/
  bwe     : List Word := []
  deriving DecidableEq, Repr

/-- Connection state of a leg (R91). -/
inductive Conn where
  | absent | listening | active | departed
  deriving DecidableEq, Repr

/-- A packet in a jitter buffer; `skip` stands for a frame that shrinking discarded (R103). -/
structure JbPkt where
  ext    : Nat
  ts     : Int
  marker : Bool
  due    : Nat
  stamp  : Nat
  bytes  : Nat
  key    : Bool
  unneeded : BitVec 32
  dur    : Nat
  skip   : Bool
  deriving DecidableEq, Repr

/-- A stream at run time: jitter buffer and counts of a receive stream, or what a send stream has sent. DEDUCED, log entry 52. -/
structure StreamRun where
  pkts     : List JbPkt := []
  /-- highest extended sequence number received, and its extended timestamp -/
  hi       : Option Nat := none
  hiTs     : Int := 0
  /-- lowest extended sequence number received -/
  low      : Nat := 0
  /-- extended sequence number whose frame is played next -/
  next     : Nat := 0
  /-- numbers from `low` to `next` that have not arrived -/
  missed   : List Nat := []
  /-- video: the last discarded picture ended without its marker, so the next one begins at the first number held -/
  resync   : Bool := false
  lastDue  : Nat := 0
  /-- timestamp and deadline of the first packet, at the depth JB_INIT_CT -/
  ancTs    : Int := 0
  ancDue   : Nat := 0
  depth    : Nat := 0
  target   : Nat := 0
  /-- a target that a late packet raised, until the depth has reached it (R102, R103) -/
  raised   : Nat := 0
  /-- 48 kHz samples of the latest frame -/
  dur      : Nat := 960
  /-- RFC 3550 jitter times 16, and the arrival and timestamp of the last packet -/
  jit      : Nat := 0
  last     : Option (Nat × Int) := none
  lastShrink : Option Nat := none
  received : Nat := 0
  lost     : Nat := 0
  /-- lowest and highest number received since the last RFC 8888 feedback -/
  fb       : Option (Nat × Nat) := none
  /-- numbers received since then, each with its arrival stamp -/
  arr      : List (Nat × Nat) := []
  /-- the last SR's NTP time stamp and arrival -/
  sr       : Option (Dword × Nat) := none
  /-- next RTP sequence number of a send stream -/
  sendSeq  : BitVec 16 := 0
  deriving DecidableEq, Repr

/-- A send group of the estimator (R106). -/
structure SendGroup where
  first : Nat
  sent  : Nat
  arr   : Nat
  deriving DecidableEq, Repr

/-- The bandwidth estimator (R106). -/
structure Est where
  est   : Nat := 0
  ad    : Nat := 0
  al    : Nat := 0
  thr   : Int := 882000
  acc   : Int := 0
  sm    : Int := 0
  window : List (Nat × Int) := []
  cur   : Option SendGroup := none
  prev  : Option SendGroup := none
  /-- since when m has stayed above the threshold -/
  overuse : Option Nat := none
  last  : Nat := 0
  /-- report instants and bytes reported received -/
  recv  : List (Nat × Nat) := []
  deriving DecidableEq, Repr

/-- A leg at run time. -/
structure LegRun where
  conn    : Conn := .absent
  cause   : Nat := 0
  remote  : IpAddr := { v6 := false, bits := 0 }
  remoteUdp : Nat := 0
  moves   : Nat := 0
  consentAt : Nat := 0
  mediaAt : Nat := 0
  rtcpDue : Option Nat := none
  ccfbDue : Option Nat := none
  streams : Tab StreamRun := []
  est     : Est := {}
  deriving DecidableEq, Repr

/-- Ports, the host path and legs. -/
structure Net where
  ports : Tab NetPort := []
  punt  : Punt := {}
  sets  : Tab LegSet := []
  runs  : Tab LegRun := []
  /-- LEG_UNKNOWN_PEER limits: when each tuple was last reported, and all reports of the last second (R94) -/
  unknown : List (List Nat × Nat) := []
  deriving DecidableEq, Repr

/-- FTB_CONFIG (R119). -/
structure FtbCfg where
  vid     : Nat
  port    : Nat
  bridge  : Nat
  keyBase : Nat
  epoch   : Word
  mixDelay : Nat
  da      : Nat
  deriving DecidableEq, Repr

/-- A Footbridge peer (R115). -/
structure Peer where
  present  : Bool := false
  epoch    : Option Word := none
  uid      : Dword := 0
  last     : Nat := 0
  /-- transmit and receive key slots written since the last epoch change -/
  keyTx    : Bool := false
  keyRx    : Bool := false
  awaiting : Bool := false
  sync     : Bool := false
  desyncSaid : Bool := false
  /-- samples done of the ramp on which its blocks resume (R170), up to 96 -/
  ramp     : Nat := 0
  offset   : Int := 0
  ladder   : Nat := 0
  deriving DecidableEq, Repr

/-- A conference link (R117). -/
structure ConfLink where
  ccid   : Nat
  mask   : Nat
  mix    : Bool
  layers : Bool
  deriving DecidableEq, Repr

/-- The Footbridge. -/
structure Ftb where
  cfg   : Option FtbCfg := none
  seq   : Nat := 0
  /-- next beacon instant -/
  next  : Option Nat := none
  peers : Tab Peer := []
  links : Tab ConfLink := []
  /-- MIX blocks that wait for their local block: peer, block and records -/
  mixes : List (Nat × Nat × List MixRec) := []
  deriving DecidableEq, Repr

/-! ## Icehouse (R127-R155) -/

/-- A key with its suite and salt (R127). -/
structure KeyMat where
  suite : Nat
  key   : List Byte
  salt  : List Byte
  deriving DecidableEq, Repr

/-- What a security association carries (R139, R142). -/
inductive SaKind where
  | srtp | srtcp | ftb | beacon
  deriving DecidableEq, Repr

/-- A security association of a slot: send index state, or replay window. -/
structure Sa where
  kind   : SaKind
  send   : Bool
  /-- SSRC, or peer; of a beacon's receive SA the EPOCH stands in `epoch` -/
  id     : Word
  epoch  : Nat := 0
  /-- send: index used last, none before the first -/
  last   : Option Nat := none
  /-- initial ROC of an SRTP send SA that has not sent under it (R152) -/
  roc    : Nat := 0
  warned : Bool := false
  exhausted : Bool := false
  /-- KEY_EXHAUSTED has been raised -/
  said   : Bool := false
  /-- receive: highest index authenticated, and indices seen within 128 of it -/
  high   : Option Nat := none
  seen   : List Nat := []
  deriving DecidableEq, Repr

/-- A key slot (R134). -/
structure KeySlot where
  mat  : Option KeyMat := none
  gen  : Nat := 0
  /-- previous key of a receive slot, and the CK_CT cycle of the rewrite (R137) -/
  old  : Option (KeyMat × Nat) := none
  /-- ROC that send SAs start at -/
  roc0 : Nat := 0
  sas  : List Sa := []
  deriving DecidableEq, Repr

/-- A job in a cipher core, with what it latched (R136, R137). -/
structure IceJob where
  req : JobReq
  mat : KeyMat
  old : Option KeyMat
  gen : Nat
  /-- the index it runs under, and the IV and the additional data formed from it (R109, R128) -/
  index : Nat := 0
  iv  : List Byte := []
  aad : List Byte := []
  deriving DecidableEq, Repr

/-- The Icehouse. -/
structure Icehouse where
  slots   : Tab KeySlot := []
  queue   : List JobReq := []
  cores   : Tab IceJob := []
  /-- dispatches since the last class-3 job (R130) -/
  since3  : Nat := 0
  lent    : Bool := false
  alarmed : Bool := false
  entropy : Bool := false
  /-- owner of the window and the CK_CT cycle of its last access (R143, R145) -/
  lock    : Option (Nat × Nat) := none
  /-- CK_CT cycle of the latest claim that took the window (R146) -/
  claimed : Option Nat := none
  /-- commands that wait for the window (R146) -/
  waiting : List (BitVec 16 × Cmd × Nat) := []
  /-- a direct job is queued or running -/
  direct  : Bool := false
  deriving DecidableEq, Repr

/-! ## Hatches (R220-R251) -/

/-- HAT_BANK_CONFIG (R221, R247). DEDUCED, log entry 93. -/
structure BankCfg where
  master  : Bool
  rate    : Nat
  slots   : Nat
  width   : Nat
  offset  : Nat
  fsPol   : Bool
  bclkPol : Bool
  fsWidth : Nat
  bits    : Nat
  ramp    : Nat
  deriving DecidableEq, Repr

/-- A ring of a hatch: location false main memory, true host memory (R231). -/
structure HatRing where
  host : Bool
  size : Nat
  base : Nat
  deriving DecidableEq, Repr

/-- A hatch-leg: its slots as (hatch, slot), and its conference (R228). -/
structure HatLeg where
  rx   : Option (Nat × Nat) := none
  tx   : Option (Nat × Nat) := none
  conf : Nat := 0
  deriving DecidableEq, Repr

/-- A bank at run time. -/
structure BankRun where
  locked   : Bool := false
  /-- CK_CT cycle at which its START was taken -/
  startAt  : Nat := 0
  /-- block whose start drives a master's first frame, once locked -/
  firstBlock : Option Nat := none
  /-- a ramp runs: rising or falling, and the TB0 of its start -/
  ramp     : Option (Bool × Nat) := none
  /-- TB0 at which the frames stop for good after a falling ramp or an ABORT -/
  stopAt   : Option Nat := none
  partner  : Bool := false
  isMatch  : Bool := false
  /-- consecutive regular frames seen, their period and bit count -/
  regular  : Nat := 0
  period   : Nat := 0
  bitCount : Nat := 0
  lastEdge : Option Nat := none
  /-- edge from which the partner's period is measured, and the frames since -/
  winStart : Nat := 0
  winCount : Nat := 0
  /-- next frame whose clocks a master drives -/
  clocked  : Nat := 0
  missed   : Nat := 0
  firstMissing : Nat := 0
  /-- frames whose period lies beyond 500 ppm, in a row -/
  offPeriod : Nat := 0
  ppm      : Int := 0
  /-- frames between which the partner's data flow, and frames missing since the last block was closed -/
  flowFrom : Option Nat := none
  flowTo   : Option Nat := none
  lost     : List Nat := []
  /-- first hatch that underran since the last HAT_UNDERRUN -/
  underHatch : Option Nat := none
  /-- counts since START for HAT_STATS -/
  departures : Nat := 0
  deriving DecidableEq, Repr

/-- A staged mask change that waits for its frame (R238). -/
structure MaskChange where
  frame : Nat
  rx    : Option Word
  tx    : Option Word
  superseded : Bool
  /-- HAT_MASK commands that complete when it applies -/
  cmds  : List Cmd
  deriving DecidableEq, Repr

/-- What a hatch receives towards its present entry: its first frame, and whether a mask change opened it. -/
structure RxEntry where
  first   : Nat := 0
  isPart  : Bool := false
  deriving DecidableEq, Repr

/-- A receive entry that is complete and not yet written: first frame, frame count, slots received, and the frames
that underran. -/
structure RxDue where
  first  : Nat
  frames : Nat
  mask   : Word
  isPart : Bool
  lost   : List Nat
  /-- TB0 of the end of its last frame -/
  endAt  : Nat
  /-- the bank's ramp over its frames (R240) -/
  ramp   : Option (Bool × Nat) := none
  deriving DecidableEq, Repr

/-- A hatch. -/
structure Hatch where
  pack    : Nat := 0
  /-- high impedance in disabled slots and idle bits; resets to 1 (R546) -/
  sdoIdle : Bool := true
  rx      : Option HatRing := none
  tx      : Option HatRing := none
  rxAct   : Word := 0
  txAct   : Word := 0
  pend    : Option MaskChange := none
  applied : Word := 0
  rxHead  : Nat := 0
  rxTail  : Nat := 0
  txHead  : Nat := 0
  txTail  : Nat := 0
  /-- TB0 at which each filled transmit entry became visible, oldest first -/
  visible : List Nat := []
  cur     : RxEntry := {}
  due     : List RxDue := []
  /-- last block whose transmit entries were taken, and the mask of the entry it sends, none if none -/
  txBlock : Option Nat := none
  txEntry : Option Word := none
  /-- what each slot sends in the present block, from its first frame on, and the slots that send it: a slot enabled later
  sends 0 (R239) -/
  txRow   : Tab (List Int) := []
  rowFirst : Nat := 0
  txReady : Word := 0
  /-- next frame that goes out -/
  sent    : Nat := 0
  /-- last sample of each slot -/
  lastRx  : Tab Int := []
  lastTx  : Tab Int := []
  /-- samples of the present block that the slots of hatch-legs have received -/
  acc     : Tab (List Int) := []
  underN  : Nat := 0
  lateBad : Nat := 0
  drops   : Nat := 0
  deriving DecidableEq, Repr

/-- The hatches. -/
structure Hatches where
  cfgs  : Tab BankCfg := []
  runs  : Tab BankRun := []
  ports : Tab Hatch := []
  legs  : Tab HatLeg := []
  deriving DecidableEq, Repr

/-! ## Bandstand (R156-R187) -/

/-- CONF_CONFIG, at its reset values (R183). -/
structure ConfCfg where
  selCount : Nat := 3
  pinSlots : Nat := 0
  stereo   : Bool := false
  lowlat   : Bool := false
  speakerEvt : Bool := false
  formats  : Nat := 1
  floor    : Nat := 50
  margin   : Nat := 6
  hold     : Nat := 14112000
  scoreCt  : Nat := 1411200
  xfade    : Nat := 141120
  ceil     : Nat := 2
  release  : Nat := 3528000
  hpf      : Nat := 1
  deess    : Nat := 30
  eqLow    : Int := 0
  eqMid    : Int := 0
  eqHigh   : Int := 0
  deriving DecidableEq, Repr

/-- CONF_FORMAT, at its reset values (R183). -/
structure ConfFormat where
  codec    : Nat := 0
  channels : Nat := 1
  frame    : Nat := 3
  bandwidth : Nat := 0
  bitrate  : Nat := 0
  fec      : Bool := false
  dtx      : Bool := false
  cbr      : Bool := false
  mode     : Nat := 0
  deriving DecidableEq, Repr

/-- An entry of a parameter bank; the defaults are those of a leg without one (R174). -/
structure RouteEntry where
  copyOf : Nat := 0
  route  : Nat := 0
  format : Nat := 0
  pin    : Bool := false
  mute   : Bool := false
  gain   : Nat := 0x100000
  filt   : Bool := true
  deriving DecidableEq, Repr

/-- What the host sets of a conference; banks 0 (A) and 1 (B) by leg, stored as leg numbers with entries. -/
structure ConfSet where
  cfg     : ConfCfg := {}
  formats : Tab ConfFormat := []
  bankA   : List (Nat × RouteEntry) := []
  bankB   : List (Nat × RouteEntry) := []
  /-- bank B is active -/
  active  : Bool := false
  deriving DecidableEq, Repr

/-- A selected leg: since which TB0 (R163). -/
structure Selected where
  leg   : Nat
  since : Nat
  deriving DecidableEq, Repr

/-- A leg that leaves the mix: samples of its ramp done, and its whole length (R165). -/
structure LegRamp where
  done  : Nat
  total : Nat
  deriving DecidableEq, Repr

/-- An encode under way: the frame's first sample, its format, and the legs that heard it when it closed (R181). -/
structure AudioJob where
  first  : Nat
  format : ConfFormat
  legs   : List Nat
  deriving DecidableEq, Repr

/-- A limiter: its gain in Q0.24; while it falls, the gain its line ends at and the fall per sample (R173). -/
structure Limiter where
  gain : Nat := 0x1000000
  goal : Nat := 0x1000000
  step : Nat := 0
  deriving DecidableEq, Repr

/-- An output of a conference: its limiter, the samples of its present frame, and the encode under way. -/
structure MixOut where
  lim : Limiter := {}
  buf : List (Int × Int) := []
  job : Option AudioJob := none
  deriving DecidableEq, Repr

/-- A conference at run time. -/
structure ConfRun where
  selected : List Selected := []
  /-- since when a selected leg's score has stayed at or above SEL_FLOOR -/
  floorAt  : Tab Nat := []
  ramps    : Tab LegRamp := []
  /-- pending swap's block -/
  swap     : Option Nat := none
  swapBlk  : Nat := 0
  /-- the bank before the latest swap, and the crossfade's first and last block -/
  oldBank  : List (Nat × RouteEntry) := []
  xfFrom   : Nat := 0
  xfTo     : Nat := 0
  /-- outputs: 0 to 3 shared mixes, 16 + l the mix-minus of leg l -/
  outs     : Tab MixOut := []
  /-- samples of the drain's ramp done (R185) -/
  drain    : Option Nat := none
  concealed : Nat := 0
  decLate  : Nat := 0
  clipped  : Nat := 0
  deriving DecidableEq, Repr

/-- A decode job: the 48 kHz index of its first sample, its samples, the block that its first sample enters. -/
structure DecJob where
  start   : Nat
  dur     : Nat
  block   : Nat
  lost    : Bool
  late    : Bool
  deriving DecidableEq, Repr

/-- A run of decoded samples, left and right. -/
structure DecRun where
  start : Nat
  smp   : List (Int × Int)
  deriving DecidableEq, Repr

/-- The audio of a leg. -/
structure LegAudio where
  last   : Nat := 0
  /-- commits: TB0 and level, newest first -/
  levels : List (Nat × Nat) := []
  jobs   : List DecJob := []
  runs   : List DecRun := []
  /-- the last samples that a frame gave, the samples concealed since, and the pitch period they repeat (R160) -/
  tail   : List (Int × Int) := []
  lossRun : Nat := 0
  pitch  : Nat := 0
  /-- fade of a hatch-leg, in 1/96 below 1, and its value at the start of the present block; the blocks marked as
  underrun (R179) -/
  fade   : Nat := 0
  fadeFrom : Nat := 0
  under  : List Nat := []
  fadeSaid : Bool := false
  deriving DecidableEq, Repr

/-- The Bandstand. -/
structure Bandstand where
  sets  : Tab ConfSet := []
  runs  : Tab ConfRun := []
  legs  : Tab LegAudio := []
  /-- block that was taken last -/
  block : Option Nat := none
  /-- samples that leave on the transmit slots of hatch-legs: leg and block, with the samples -/
  toHatch : List (Nat × Nat × List Int) := []
  deriving DecidableEq, Repr


/-! ## Parlour engines (R188-R219) -/

/-- ENG_CONFIG (R214). -/
structure EngCfg where
  entry    : Nat := 0
  winBase  : Nat := 0
  winPages : Nat := 0
  ovlStart : Nat := 0
  ovlEnd   : Nat := 0
  scale    : Nat := 0
  exp      : Nat := 0
  deriving DecidableEq, Repr

/-- PAR_ENGj_STAT.RUN. -/
inductive EngMode where
  | executing | waiting | halted | faulted
  deriving DecidableEq, Repr

/-- An entry of the loop stack (R203). -/
structure LoopEnt where
  start : Nat
  stop  : Nat
  count : Nat
  deriving DecidableEq, Repr

/-- A descriptor of the block mover (R212). -/
structure Move where
  src    : Nat
  dst    : Nat
  flagEn : Bool
  flag   : Nat
  srcA   : Nat
  dstA   : Nat
  len    : Nat
  deriving DecidableEq, Repr

/-- What the previous instruction wrote, as the stalls of R205 look at it: accumulators, and a pointer register
by kind (0 PT, 1 MD, 2 CL) and index. -/
structure Wrote where
  acc : List Nat := []
  ptr : Option (Nat × Nat) := none
  deriving DecidableEq, Repr

/-- The registers of R194, with the run state and the counts since START. -/
structure EngRun where
  w      : Tab (BitVec 24) := []
  acc    : Tab (BitVec 56) := []
  pt     : Tab (BitVec 14) := []
  md     : Tab (BitVec 14) := []
  cl     : Tab (BitVec 15) := []
  scale  : Nat := 0
  exp    : Nat := 0
  nexp   : Nat := 0
  z      : Bool := false
  n      : Bool := false
  ov     : Bool := false
  /-- loop and call stacks, top first -/
  loops  : List LoopEnt := []
  calls  : List Nat := []
  pc     : Nat := 0
  mode   : EngMode := .halted
  /-- flags that a WAIT under way waits for -/
  mask   : BitVec 24 := 0
  wrote  : Wrote := {}
  /-- CK_CT cycle since which a WAIT, or a stall of R205 without a fixed length, lasts -/
  since  : Option Nat := none
  /-- whole cycles in a row in which a move under way found no free slot (R202) -/
  busy   : Nat := 0
  cycles : Nat := 0
  stalls : Nat := 0
  waits  : Nat := 0
  steals : Nat := 0
  deriving DecidableEq, Repr

/-- An engine; one of the codec pool has the default record. -/
structure Engine where
  reserved : Bool := false
  run    : EngRun := {}
  flags  : BitVec 24 := 0
  mboxIn : Tab (BitVec 24) := []
  mboxOut : Tab (BitVec 24) := []
  /-- queued moves, and the bursts of the first that are served (R212) -/
  moves  : List Move := []
  served : Nat := 0
  fault  : Word := 0
  deriving DecidableEq, Repr

/-- The parlours: engines, and their memories by word index, with the settings of ENG_CONFIG. -/
structure Parlours where
  engines : Tab Engine := []
  cfgs    : Tab EngCfg := []
  prog    : Tab (Tab Word) := []
  data    : Tab (Tab Word) := []
  shared  : Tab (Tab Word) := []
  /-- by parlour, the requester whose burst the block mover takes next: engine 0 to 7, or 8 the host (R212) -/
  turns   : Tab Nat := []
  deriving DecidableEq, Repr

/-! ## Glasshouse decode (R252-R278) -/

/-- DEC_CONFIG, at its reset values (R273). -/
structure SlotCfg where
  leg     : Nat := 0
  stream  : Nat := 0
  av1     : Bool := false
  bit10   : Bool := false
  dpb     : Nat := 3
  freeze  : Nat := 0
  keyreq  : Nat := 0
  maxW    : Nat := 1280
  maxH    : Nat := 720
  maxFps  : Nat := 30
  freezeCt : Nat := 70560000
  keyreqCt : Nat := 21168000
  keyreqMax : Nat := 10
  opPoint : Nat := 0
  deriving DecidableEq, Repr

/-- A released picture that the pipe has not begun (R257, R259). -/
structure WaitPic where
  num      : Nat
  deadline : Nat
  key      : Bool
  nonRef   : Bool
  deriving DecidableEq, Repr

/-- The picture a slot decodes: bands decoded, bands final. -/
structure CurPic where
  num      : Nat
  deadline : Nat
  nonRef   : Bool
  bands    : Nat
  decoded  : Nat := 0
  final    : Nat := 0
  w        : Nat := 0
  h        : Nat := 0
  tainted  : Bool := false
  clean    : Bool := false
  /-- recovery_frame_cnt of a recovery point (R268) -/
  recovery : Option Nat := none
  isRef    : Bool := true
  /-- pictures that its marking releases, its spatial layer, its first reference (R261, R267, R271) -/
  unref    : List Nat := []
  layer    : Nat := 0
  firstRef : Option Nat := none
  /-- which decode its samples come from, its sample depth 10, and its concealed 16 × 16 blocks with the decode that each is
  copied from, none for mid-grey (R271) -/
  uid      : Nat := 0
  ten      : Bool := false
  conc     : List ((Nat × Nat) × Option Nat) := []
  /-- its fences are signalled (R270) -/
  shown    : Bool := true
  /-- an Orangery layer holds it (R261) -/
  held     : Bool := false
  /-- coded in superblocks of 128 × 128: its bands come final in pairs (R263) -/
  sb128    : Bool := false
  deriving DecidableEq, Repr

/-- A picture in the slot's reference state or in its buffers. -/
structure StorePic where
  num     : Nat
  isRef   : Bool
  missing : Bool
  tainted : Bool
  shown   : Bool
  held    : Bool
  w       : Nat
  h       : Nat
  layer   : Nat := 0
  /-- its samples, as in `CurPic` -/
  uid     : Nat := 0
  ten     : Bool := false
  conc    : List ((Nat × Nat) × Option Nat) := []
  deriving DecidableEq, Repr

/-- A decode slot at run time. DEDUCED, log entry 103. -/
structure SlotRun where
  /-- number of the next picture (R264) -/
  next    : Nat := 0
  waiting : List WaitPic := []
  cur     : Option CurPic := none
  /-- oldest first -/
  store   : List StorePic := []
  /-- the parameter set in use, the one that DEC_STREAM reported last, those refused with their causes, and whether
  DEC_DPB_SHORT has been raised for the sequence (R253, R262) -/
  info    : Option StreamInfo := none
  told    : Option StreamInfo := none
  refused : List (StreamInfo × Nat) := []
  short   : Bool := false
  /-- reference pictures still to come of an H.264 recovery point (R268) -/
  recov   : Option Nat := none
  /-- nothing is decoded before a key picture -/
  needKey : Bool := true
  unsupp  : Bool := false
  /-- TB0 at which the taint run began, and pictures tainted in it (R268) -/
  taint   : Option (Nat × Nat) := none
  frozen  : Bool := false
  /-- policy 2 has switched to SHOW -/
  switched : Bool := false
  /-- requests of the run, the next one's instant, DEC_KEY_STARVED raised (R269) -/
  keySent : Nat := 0
  keyNext : Option Nat := none
  starved : Bool := false
  lastPub : Nat := 0
  progress : Word := 0
  /-- the progress word when the latest STOP began: later fences signal no commit (R298) -/
  sealed  : Word := 0
  w       : Nat := 0
  h       : Nat := 0
  units   : Nat := 0
  pages   : Nat := 0
  /-- pages that the Orangery still held when the slot last started -/
  oldPages : Nat := 0
  /-- counts since START (R272) -/
  pics    : Nat := 0
  taints  : Nat := 0
  keys    : Nat := 0
  deriving DecidableEq, Repr

/-- The decode side of the Glasshouse. -/
structure GlassDec where
  cfgs  : Tab SlotCfg := []
  runs  : Tab SlotRun := []
  /-- per pipe, the slot served last plus 1 -/
  last  : Tab Nat := []
  /-- pictures late of a pipe, for DEC_PIPE_STATS -/
  late  : Tab Nat := []
  /-- when a key request last left for a leg's stream: 8 × leg + INDEX (R269) -/
  asked : List (Nat × Nat) := []
  deriving DecidableEq, Repr

/-! ## Orangery (R279-R308) -/

/-- ORG_CANVAS_CONFIG, at its reset values (R305). -/
structure CanvasCfg where
  w      : Nat := 1920
  h      : Nat := 1080
  rate   : Nat := 3
  phase  : Nat := 0
  bgY    : Nat := 64
  bgCb   : Nat := 512
  bgCr   : Nat := 512
  frames : Nat := 3
  policy : Bool := false
  wait   : Nat := 0
  deriving DecidableEq, Repr

/-- A layer (R282). -/
structure Layer where
  kind    : Nat
  opq     : Bool
  opacity : Nat
  border  : Nat
  source  : Nat
  dx : Int
  dy : Int
  dw : Nat
  dh : Nat
  sx : Nat
  sy : Nat
  sw : Nat
  sh : Nat
  colY  : Nat
  colCb : Nat
  colCr : Nat
  deriving DecidableEq, Repr

/-- A fence of a commit, its target absolute (R295). -/
structure Fence where
  kind   : Nat
  obj    : Nat
  guard  : Nat
  target : Word
  deriving DecidableEq, Repr

/-- A commit (R295-R297); `seen` counts the frame starts at which it was eligible. -/
structure Commit where
  seq      : Nat
  earliest : Word
  layers   : Tab Layer
  fences   : List Fence
  seen     : Nat
  deriving DecidableEq, Repr

/-- Composed samples of rows of a canvas, 8 bits each (R285, R300). -/
structure Pixels where
  y  : List (List Nat) := []
  cb : List (List Nat) := []
  cr : List (List Nat) := []
  deriving DecidableEq, Repr

/-- A picture latched by a layer (R289). -/
structure Latch where
  layer : Nat
  slot  : Nat
  num   : Nat
  deriving DecidableEq, Repr

/-- A canvas at run time. -/
structure CanvasRun where
  staging  : Tab Layer := []
  /-- active commit: sequence and layers -/
  seq      : Nat := 0
  active   : Tab Layer := []
  pend     : Option Commit := none
  nextSeq  : Nat := 1
  /-- frame start handled last -/
  lastK    : Option Nat := none
  /-- frame being composed, its bands released and begun, and what its layers latched -/
  frame    : Option Nat := none
  released : Nat := 0
  begun    : Nat := 0
  latched  : List Latch := []
  /-- the next band waits no longer for its sources (R290) -/
  torn     : Bool := false
  /-- pictures whose ratio has been checked, by layer -/
  checked  : Tab Nat := []
  /-- since when a band waits for a place (R292) -/
  blocked  : Option Nat := none
  /-- latches of the frame before, while a band of it is still being composed -/
  oldLatched : List Latch := []
  culled   : Nat := 0
  /-- what the frame has fetched: layer, decode or image, and the place of the tile or block (R288) -/
  fetched  : List (Nat × Nat × Nat × Nat) := []
  /-- (layer, block) places of the frame drawn from a poisoned line (R439) -/
  poisoned : List (Nat × Nat × Nat) := []
  skipFirst : Nat := 0
  /-- counts since START -/
  frames   : Nat := 0
  tornN    : Nat := 0
  skipN    : Nat := 0
  deriving DecidableEq, Repr

/-- An image (R302). -/
structure Image where
  format : Nat
  w      : Nat
  h      : Nat
  pages  : Nat
  bytes  : List Byte
  deriving DecidableEq, Repr

/-- A decoded picture as the Orangery reads it. -/
structure PicSrc where
  uid  : Nat
  ten  : Bool
  w    : Nat
  h    : Nat
  conc : List ((Nat × Nat) × Option Nat)
  deriving DecidableEq, Repr

/-- What a layer shows inside its border: its COLOUR, a picture or an image. -/
inductive Source where
  | colour
  | picture (q : PicSrc)
  | image (m : Image)
  deriving DecidableEq, Repr

/-- A band in an encode pipe's band buffer (R292, R316). -/
structure Placed where
  canvas  : Nat
  frame   : Nat
  band    : Nat
  /-- TB0 of its frame's start, of its release and of its placement (R281) -/
  start   : Nat
  release : Nat
  at'     : Nat
  w       : Nat
  h       : Nat
  rate    : Nat
  /-- while the band is composed: its layers with what each shows, and the (layer, block) places that a poisoned line gives -/
  src     : List (Nat × Layer × Source) := []
  bad     : List (Nat × Nat × Nat) := []
  pix     : Pixels := {}
  deriving DecidableEq, Repr

/-- The Orangery. -/
structure Orangery where
  cfgs   : Tab CanvasCfg := []
  runs   : Tab CanvasRun := []
  /-- per pipe, the band being composed -/
  busy   : Tab Placed := []
  hfence : Tab Word := []
  images : Tab Image := []
  deriving DecidableEq, Repr

/-! ## Glasshouse encode (R309-R340) -/

/-- ENC_CONFIG, at its reset values (R335). -/
structure EncCfg where
  codec   : Nat := 2
  mode    : Nat := 0
  spatial : Nat := 1
  temporal : Nat := 3
  keyInt  : Nat := 0
  keyMin  : Nat := 35280000
  switchCt : Nat := 70560000
  keyFactor : Nat := 0x40
  deriving DecidableEq, Repr

/-- ENC_LAYER, at its reset values; a QP_MAX of none is the codec's greatest. -/
structure EncLayer where
  bitrate : Nat := 1000000
  buf     : Nat := 14112000
  ts0     : Nat := 50
  ts1     : Nat := 20
  qpMin   : Nat := 0
  qpMax   : Option Nat := none
  deriving DecidableEq, Repr

/-- A VALID ENC_STREAM. -/
structure EncStream where
  ssrc    : Word
  pt      : Nat
  ddId    : Nat
  payload : Nat
  tsBase  : Word
  deriving DecidableEq, Repr

/-- What the host sets of an encoding. -/
structure EncSet where
  cfg     : EncCfg := {}
  layers  : Tab EncLayer := []
  streams : Tab EncStream := []
  deriving DecidableEq, Repr

/-- How a block is predicted (R323): an intra mode, a reference frame and a vector in quarter pixels, the layer below, or, for
a skipped block, the reference's rows or flat colour (R327, R330). -/
inductive BlockMode where
  | intra (mode : Nat)
  | inter (ref : Nat) (vx vy : Int)
  | below
  | skip (ref : Nat)
  | flat
  deriving DecidableEq, Repr

/-- A block of a coded unit: its place and size in the band, and its mode. -/
structure CodedBlock where
  x    : Nat
  y    : Nat
  w    : Nat
  h    : Nat
  mode : BlockMode
  deriving DecidableEq, Repr

/-- A coded superblock or macroblock: its band, its number there, its quantiser, whether rate control skipped it. -/
structure CodedUnit where
  band    : Nat
  unit    : Nat
  qp      : Nat
  skipped : Bool
  blocks  : List CodedBlock
  deriving DecidableEq, Repr

/-- A reconstructed picture kept as a reference: its frame, and the units that it was reconstructed from (R315, R323). -/
structure RefPic where
  frame : Nat
  units : List CodedUnit
  deriving DecidableEq, Repr

/-- A picture that is being coded: its layer, its budget less the reserve, bits so far, bands and units done. -/
structure PicRun where
  s       : Nat
  t       : Nat
  key     : Bool
  dropped : Bool
  budget  : Nat
  reserve : Nat
  bits    : Nat
  /-- bands (units of the layer) coded -/
  done    : Nat
  skipping : Bool
  firstSkip : Nat
  qp      : Nat
  /-- what its models have been charged in advance -/
  charged : Nat
  /-- its units, when skipped, are flat DC prediction (R327) -/
  intra   : Bool
  /-- its temporal reference plus 1, and whether it may predict from the layer below (R311) -/
  ref     : Nat := 0
  below   : Bool := false
  /-- quantiser of the present band (R331), and the units coded -/
  bandQp  : Nat := 0
  units   : List CodedUnit := []
  deriving DecidableEq, Repr

/-- An encoding at run time. -/
structure EncRun where
  /-- geometry latched at START: width, height, rate code -/
  w      : Nat := 0
  h      : Nat := 0
  rate   : Nat := 0
  /-- rows of the canvas's frame placed so far, and the row buffers of the lower layers (R316) -/
  rows   : Pixels := {}
  lower  : Tab Pixels := []
  /-- references kept, by 2 × layer + 1 for a T1 (R311) -/
  refs   : Tab RefPic := []
  px     : Nat := 0
  pages  : Nat := 0
  geom   : Bool := false
  /-- fullness per operating point, in bits, and TB0 of the latest leak -/
  full   : Tab Nat := []
  leakAt : Nat := 0
  /-- cause of a pending key per layer (R332) -/
  keyPend : Tab Nat := []
  lastKey : Tab Nat := []
  lastSwitch : Tab Nat := []
  /-- frame of the last coded T0 and T1 per layer (R311) -/
  lastT0 : Tab Nat := []
  lastT1 : Tab Nat := []
  /-- frame being coded and its start instant (R281) -/
  frame  : Option Nat := none
  start  : Nat := 0
  pics   : List PicRun := []
  lastBits : Nat := 0
  lastQp : Word := 0
  exhSince : Nat := 0
  lastBand : Nat := 0
  /-- counts per operating point since START: coded, dropped, exhausted -/
  coded  : Tab Nat := []
  drops  : Tab Nat := []
  exh    : Tab Nat := []
  deriving DecidableEq, Repr

/-- A band's coding under way on a pipe: the tile groups or slices it makes (layer, unit, bits), and the frame's pictures
as they stood before it. -/
structure EncJob where
  band  : Placed
  tiles : List (Nat × Nat × Nat)
  before : List PicRun
  deriving DecidableEq, Repr

/-- The encode side of the Glasshouse. -/
structure GlassEnc where
  sets   : Tab EncSet := []
  runs   : Tab EncRun := []
  /-- bands placed and not yet taken, oldest first -/
  placed : List Placed := []
  busy   : Tab EncJob := []
  /-- per pipe, the canvas plus 1 whose reference bands its search window holds (R323) -/
  window : Tab Nat := []
  slow   : Tab Nat := []
  deriving DecidableEq, Repr

/-! ## Dumbwaiter (R341-R366) -/

/-- FWD_CONFIG, at its reset values (R362). -/
structure SubCfg where
  kind     : Nat := 0
  indep    : Bool := false
  suspend  : Bool := false
  evt      : Bool := false
  toPeer   : Bool := false
  prio     : Nat := 8
  destIdx  : Nat := 0
  dest     : Nat := 0
  link     : Nat := 0
  source   : Word := 0
  maxS     : Nat := 2
  maxT     : Nat := 2
  pause    : Bool := false
  upHold   : Nat := 141120000
  keyWait  : Nat := 70560000
  headroom : Nat := 10
  deriving DecidableEq, Repr

/-- A subscription at run time. -/
structure SubRun where
  cur     : Option Nat := none
  target  : Option Nat := none
  /-- cause of the present target: 1 estimate, 2 ceiling, 3 ladder -/
  cause   : Nat := 1
  suspended : Bool := false
  /-- when the latest estimate or ladder downswitch took effect (R353) -/
  hold    : Option Nat := none
  /-- components that a raised ceiling freed from the hold-off: spatial, temporal -/
  freeS   : Bool := false
  freeT   : Bool := false
  /-- since when a switch point is awaited, or when the latest request for it was made -/
  waitAt  : Option Nat := none
  /-- when a peer source's host was last asked (R365) -/
  remoteAt : Option Nat := none
  /-- source timestamp of the frame that is being sent -/
  inFrame : Option Nat := none
  /-- the next clone carries the structure (R346) -/
  fresh   : Bool := true
  clones  : Nat := 0
  changes : Nat := 0
  sent    : List (Nat × Nat) := []
  deriving DecidableEq, Repr

/-- What a source has carried: instants, spatial, temporal, stream and bytes of its packets (R348). -/
structure SrcRun where
  /-- the last template dependency structure seen, by stream (R346) -/
  structs : Tab (List Byte) := []
  hist  : List (Nat × Nat × Nat × Nat × Nat) := []
  topT  : Nat := 0
  /-- when a receiver's key request was last passed on (R353) -/
  passed : Option Nat := none
  /-- timestamp plus 1 of the frame whose packets arrive, per stream -/
  frame : Tab Nat := []
  deriving DecidableEq, Repr

/-- A sequence number that a send stream remembers; a length of 0 stands for a source packet that has not arrived (R360). -/
structure SentPkt where
  seq  : Nat
  src  : Nat
  str  : Nat
  srcSeq : Nat
  svc  : Nat
  bytes : Nat
  deriving DecidableEq, Repr

/-- A leg's send stream as the Dumbwaiter numbers it (R344, R345, R347). -/
structure SendRun where
  /-- source stream of the latest clone: source and stream -/
  from'  : Option (Nat × Nat) := none
  lastTs : Word := 0
  stamp  : Nat := 0
  off    : Word := 0
  frame  : Nat := 0
  frameOff : Nat := 0
  /-- source sequence number and frame of the latest clone -/
  srcSeq : Nat := 0
  srcFrame : Nat := 0
  sent   : List SentPkt := []
  begun  : Bool := false
  /-- launch and counted length of the latest packet of the band that is being paced (R380) -/
  launch : Option (Nat × Nat) := none
  deriving DecidableEq, Repr

/-- A forwarded video packet that is held for retransmission (R360). -/
structure HeldPkt where
  src    : Nat
  str    : Nat
  seq    : Nat
  at'    : Nat
  handle : Option Nat
  deriving DecidableEq, Repr

/-- The Dumbwaiter. -/
structure Dumbwaiter where
  cfgs  : Tab SubCfg := []
  runs  : Tab SubRun := []
  srcs  : Tab SrcRun := []
  /-- send streams by 8 × leg + INDEX -/
  sends : Tab SendRun := []
  held  : List HeldPkt := []
  /-- packets asked of a leg source: source, stream, number, and the legs' send streams that asked -/
  wanted : List (Nat × Nat × Nat × Nat × Nat) := []
  /-- when each leg's targets were last recomputed -/
  redone : Tab Nat := []
  deriving DecidableEq, Repr


/-! ## The whole machine -/

/-- The HF9600. DESIGN CHOICE, log entry 147. -/
structure State where
  /-- commands and events that wait, first in first out -/
  pending : List Instr := []
  /-- what has left the device, newest first -/
  out     : List Out := []
  /-- counter of the free values taken so far (the model's own) -/
  free    : Nat := 0
  /-- CK_CT cycles counted, for intervals; no step of TB0 reaches it (the model's own) -/
  cyc     : Nat := 0
  /-- plain registers by BAR0 address, where they differ from their reset values -/
  regs    : Tab Word := []
  /-- 64-bit event counters by the address of their low word -/
  cnt     : Tab Dword := []
  /-- latched high words by the address of the low word (R17, R565) -/
  hi      : Tab Word := []
  /-- objects by opcode range and number (R65) -/
  objs    : Tab ObjRec := []
  /-- rate-limited events by code and object -/
  limits  : Tab Limit := []
  porch   : Porch := {}
  bell    : Bell := {}
  blv     : Belvedere := {}
  pwr     : Power := {}
  gate    : Gate := {}
  boot    : Boot := {}
  cel     : Cellar := {}
  pan     : Pantry := {}
  hall    : Hall := {}
  prg     : Pergola := {}
  net     : Net := {}
  ftb     : Ftb := {}
  ice     : Icehouse := {}
  hat     : Hatches := {}
  bnd     : Bandstand := {}
  par     : Parlours := {}
  dec     : GlassDec := {}
  org     : Orangery := {}
  enc     : GlassEnc := {}
  dmb     : Dumbwaiter := {}
  deriving DecidableEq, Repr

/-- The machine right after reset: every field at the Reset column of the manual's tables; the values the manual
does not give are zero and are named in the assumption log. DESIGN CHOICE, log entry 3. DESIGN CHOICE, log entry 12. -/
def State.reset : State := {}

end Sys2Proof.Machine
end

