-- ==== Sys2Proof/Machine/Ops.lean ====
section
/-!
DEFINITION. The named operations that every meaning shares: bit fields, tables, registers and counters, time,
rate limits, the production of completions and events, the Porch's writing of entries and interrupts, and the
Bellboard's pulses.
-/
namespace Sys2Proof.Machine

/-! ## Bit fields -/

/-- Field [hi:lo] of a word. -/
def bits (w : Word) (hi lo : Nat) : Nat := (w.toNat >>> lo) % 2 ^ (hi + 1 - lo)

/-- Bit i of a word. -/
def bit (w : Word) (i : Nat) : Bool := w.getLsbD i

/-- The low 32 bits of a number. -/
def low (v : Nat) : Word := BitVec.ofNat 32 v

/-- Bits [63:32] of a number. -/
def high (v : Nat) : Word := BitVec.ofNat 32 (v / 2 ^ 32)

/-- A 64-bit number held low word first (R484). -/
def dword (lo hi : Word) : Nat := hi.toNat * 2 ^ 32 + lo.toNat

/-- A word with field [hi:lo] replaced. -/
def setField (w : Word) (hi lo v : Nat) : Word :=
  let m := (2 ^ (hi + 1 - lo) - 1) * 2 ^ lo
  (w &&& ~~~ (BitVec.ofNat 32 m)) ||| BitVec.ofNat 32 ((v % 2 ^ (hi + 1 - lo)) * 2 ^ lo)

/-- Field [hi:lo] as two's complement. -/
def sbits (w : Word) (hi lo : Nat) : Int :=
  let v := bits w hi lo
  if v < 2 ^ (hi - lo) then (v : Int) else (v : Int) - 2 ^ (hi + 1 - lo)

/-- An integer as the two's complement word that holds it. -/
def wordOfInt (i : Int) : Word := BitVec.ofInt 32 i

/-- A number in 64-bit two's complement. -/
def signed64 (v : Nat) : Int := if v < 2 ^ 63 then (v : Int) else (v : Int) - 2 ^ 64

/-- The bytes of a word, byte 0 first (R47). -/
def wordBytes (w : Word) : List Byte :=
  [w.extractLsb' 0 8, w.extractLsb' 8 8, w.extractLsb' 16 8, w.extractLsb' 24 8]

/-- A word from its bytes, byte 0 first. -/
def bytesWord : List Byte → Word
  | [] => 0
  | b :: r => (bytesWord r).shiftLeft 8 ||| b.setWidth 32

end Sys2Proof.Machine

namespace Sys2Proof
open Sys2Proof.Machine

/-! ## Command packets (R47) -/

/-- OPCODE of a packet that lies in a ring. -/
def packetOp (ws : List Word) : BitVec 16 := BitVec.ofNat 16 (bits (ws.getD 0 0) 31 16)

/-- The command that the words of a packet spell, fetched from queue `sq`. -/
def packetCmd (sq : Fin 64) (ws : List Word) : Cmd :=
  { sq := sq, tag := BitVec.ofNat 16 (bits (ws.getD 0 0) 15 0), w1 := ws.getD 1 0, obj := ws.getD 2 0, w3 := ws.getD 3 0,
    par := ws.drop 4 }

/-- Word k of a packet, k ≥ 4; a word the packet does not hold reads 0. -/
def Cmd.word (c : Cmd) (k : Nat) : Word := c.par.getD (k - 4) 0

/-- LEN of a packet, in 64-byte units. -/
def Cmd.len (c : Cmd) : Nat := bits c.w1 3 0

/-- Slots that a command takes: LEN, and one where LEN is 0 or above 8 (R45). -/
def Cmd.slots (c : Cmd) : Nat := if 1 ≤ c.len && c.len ≤ 8 then c.len else 1

def Cmd.fence (c : Cmd) : Bool := bit c.w1 8
def Cmd.barrier (c : Cmd) : Bool := bit c.w1 9
def Cmd.wake (c : Cmd) : Bool := bit c.w1 10

/-- Object number of a packet. -/
def Cmd.num (c : Cmd) : Nat := c.obj.toNat

/-- Reserved bits of header words 1 and 3 are clear (R47). DEDUCED, log entry 138. -/
def Cmd.headerOk (c : Cmd) : Bool := bits c.w1 31 11 == 0 && bits c.w1 7 4 == 0 && c.w3 == 0

/-- Bytes of parameter words from word k, n bytes. -/
def Cmd.bytes (c : Cmd) (k n : Nat) : List Byte :=
  (((c.par.drop (k - 4)).map wordBytes).flatten).take n

end Sys2Proof

namespace Sys2Proof.Machine

/-! ## Tables -/

/-- The entry of key k, or the default of its table. -/
def tget (d : α) : Tab α → Nat → α
  | [], _ => d
  | (a, v) :: r, k => if a = k then v else tget d r k

/-- A table without key k. -/
def tdel : Tab α → Nat → Tab α
  | [], _ => []
  | (a, v) :: r, k => if a = k then tdel r k else (a, v) :: tdel r k

/-- A table with an entry put in its place in rising order. -/
def tins : Tab α → Nat → α → Tab α
  | [], k, v => [(k, v)]
  | (a, w) :: r, k, v => if k < a then (k, v) :: (a, w) :: r else (a, w) :: tins r k v

/-- A table in which key k reads v: the default is not listed. -/
def tset [DecidableEq α] (d : α) (t : Tab α) (k : Nat) (v : α) : Tab α :=
  if v = d then tdel t k else tins (tdel t k) k v

/-- Change the entry of key k. -/
def tmod [DecidableEq α] (d : α) (t : Tab α) (k : Nat) (f : α → α) : Tab α := tset d t k (f (tget d t k))

/-- Keys rise strictly. -/
def keysRise : Tab α → Bool
  | [] => true
  | [_] => true
  | (a, _) :: (b, w) :: r => decide (a < b) && keysRise ((b, w) :: r)

/-- Canonical form of a table: keys rise strictly and no entry equals the default. -/
def tabWf [DecidableEq α] (d : α) (t : Tab α) : Bool := keysRise t && t.all fun e => e.2 ≠ d

/-- The entry of key k in a table that has no default. -/
def tfind : Tab α → Nat → Option α
  | [], _ => none
  | (a, v) :: r, k => if a = k then some v else tfind r k

/-- Put an entry, whatever it is. -/
def tput (t : Tab α) (k : Nat) (v : α) : Tab α := tins (tdel t k) k v

/-- A table without the keys of a range. -/
def tdelRange (t : Tab α) (lo hi : Nat) : Tab α := t.filter fun e => e.1 < lo || hi ≤ e.1

/-- A number put into a rising list without repeats. -/
def linsert (l : List Nat) (n : Nat) : List Nat :=
  match l with
  | [] => [n]
  | a :: r => if n < a then n :: a :: r else if n = a then a :: r else a :: linsert r n

/-! ## Registers and counters (R12-R17) -/

/-- Registers whose reset value is not 0: first address, count, stride and value (R15, the Reset columns).
DESIGN CHOICE, log entry 3. PRESUMED, log entry 16. -/
def regResetRows : List (Nat × Nat × Nat × Word) :=
  [ (0x0010_0000, 1, 4, 0x0000_0002), (0x0011_0008, 64, 0x20, 0x0001_0004), (0x0011_1008, 64, 0x20, 0x0000_0004),
    -- PCIe sets the mask bit of every MSI-X vector at reset
    (0x0014_000C, 2048, 16, 0x0000_0001),
    (0x0020_2000, 1, 4, 0x8000_0030), (0x0020_2004, 1, 4, 0x8000_0031), (0x0020_2008, 1, 4, 0x8000_0032),
    (0x0020_200C, 1, 4, 0x8000_0033), (0x0020_2010, 1, 4, 0x8000_0034), (0x0020_2014, 1, 4, 0x8000_0035),
    (0x0021_0080, 1, 8, 0x8000_3E00), (0x0021_0088, 1, 8, 0x8000_3E01), (0x0021_0090, 1, 8, 0x8000_3E00),
    (0x0021_0098, 1, 8, 0x8000_3F40), (0x0021_0000, 1024, 8, 0x0000_3E00),
    (0x0140_0104, 1, 4, 0x0000_0040), (0x0140_0114, 1, 4, 0x0000_0041), (0x0140_0124, 1, 4, 0x0000_0042),
    (0x0160_0040, 1, 4, 0x0000_041A), (0x0160_0044, 1, 4, 0x0000_047E),
    (0x0050_0004, 1, 4, 0x0000_042A), (0x0050_000C, 1, 4, 0x0000_1046), (0x0050_0010, 1, 4, 0x021A_5480),
    (0x0050_0014, 1, 4, 0x006B_AA80), (0x0050_0018, 1, 4, 0x0000_1B90), (0x0050_001C, 1, 4, 0x0000_0064),
    (0x0058_0100, 8, 4, 0x0001_000F),
    (0x0040_0024, 1, 4, 0x0000_0800), (0x0040_0028, 1, 4, 0x0000_2000), (0x0040_002C, 1, 4, 0x0000_4000),
    (0x0040_0034, 1, 4, 0x0000_4000), (0x0040_0038, 1, 4, 0x0001_0000), (0x0040_003C, 1, 4, 0x0002_0000),
    (0x0030_0010, 1, 4, 0x0180_0200), (0x0030_0014, 1, 4, 0x0200_0280), (0x0030_0018, 1, 4, 0x0280_0300),
    (0x0030_001C, 1, 4, 0x0300_0380), (0x0030_0020, 1, 4, 0x0434_A900), (0x0030_0030, 1, 4, 0x0000_0100) ]

/-- Value of the first row that names address a. -/
def regResetIn : List (Nat × Nat × Nat × Word) → Nat → Word
  | [], _ => 0
  | (b, n, st, v) :: r, a =>
    if b ≤ a && (a - b) / st < n && (a - b) % st == 0 then v else regResetIn r a

/-- Reset value of the plain register at an address. -/
def regReset (a : Nat) : Word := regResetIn regResetRows a

/-- Present value of the plain register at an address. -/
def State.reg (s : State) (a : Nat) : Word := tget (regReset a) s.regs a

/-- Write the plain register at an address. -/
def State.setReg (s : State) (a : Nat) (v : Word) : State := { s with regs := tset (regReset a) s.regs a v }

/-- Count n events in a 32-bit counter; past its top the manual gives no value. DEDUCED, log entry 9. -/
def State.bump (s : State) (a n : Nat) : State :=
  let v := s.reg a
  if v.toNat + n < 2 ^ 32 then s.setReg a (low (v.toNat + n)) else s.setReg a (Config.counterPast v n)

/-- Count n events in a saturating counter. DEDUCED, log entry 9. -/
def State.bumpSat (s : State) (a n : Nat) : State :=
  let v := s.reg a
  s.setReg a (low (Nat.min (v.toNat + n) (2 ^ 32 - 1)))

/-- Present value of a 64-bit counter. -/
def State.count64 (s : State) (a : Nat) : Dword := tget 0 s.cnt a

/-- Count n in a 64-bit counter. -/
def State.bump64 (s : State) (a n : Nat) : State :=
  { s with cnt := tset 0 s.cnt a (s.count64 a + BitVec.ofNat 64 n) }

/-- Take a free value's number. DESIGN CHOICE, log entry 5. -/
def State.fresh (s : State) : Nat × State := (s.free, { s with free := s.free + 1 })

/-! ## Time -/

/-- TB0 (R461). DESIGN CHOICE, log entry 7. -/
def State.now (s : State) : Nat := s.blv.tb0.toNat

/-- ct in one second (R8). -/
def ctPerSec : Nat := 70560000

/-- ct to ns of an interval (R471): seconds and ns. -/
def ctToNs (c : Nat) : Nat × Nat :=
  (c / ctPerSec, ((c % ctPerSec) * 0xE2C1E2F9A) / 2 ^ 32)

/-- ns to ct (R471). -/
def nsToCt (sec ns : Nat) : Nat := sec * ctPerSec + (ns * 0x1210385D) / 2 ^ 32

/-! ## Rate-limited events -/

/-- Count n occurrences of a limited event; `none` while its period runs, else what to report. DEDUCED, log entry 25. -/
def State.limit (s : State) (key period n m : Nat) : Option (Nat × Nat) × State :=
  let l := tget {} s.limits key
  let ok := match l.last with
    | none => true
    | some t => decide (t + period ≤ s.cyc)
  if ok then
    (some (l.count + n, l.more + m), { s with limits := tset {} s.limits key { last := some s.cyc, count := 0, more := 0 } })
  else
    (none, { s with limits := tset {} s.limits key { l with count := l.count + n, more := l.more + m } })

/-- What a limited event has counted since its last report, once its period has passed. DEDUCED, log entry 25. -/
def State.limitDue (s : State) (key period : Nat) : Option (Nat × Nat) × State :=
  if (tget {} s.limits key).count = 0 then (none, s) else s.limit key period 0 0

/-! ## Which parts are powered (R509, R510, R517) -/

/-- Switched domain d is on. -/
def State.dom (s : State) (d : Nat) : Bool := s.pwr.dom.getLsbD d

/-- A wake from Sleep or Drowse has ended its step k (R522). -/
def State.wakePast (s : State) (k : Nat) : Bool :=
  s.pwr.entering.isNone && s.pwr.wake.any fun w => decide (w.left ≤ 3) && decide (k < w.step)

/-- CORE is on in Run, Idle and Drowse, and from step 1 of a wake on. -/
def State.coreOn (s : State) : Bool := decide (s.pwr.state ≤ 2) || s.wakePast 1

/-- TIME and COMMON are on in Run and Idle (R517: on, on / off). -/
def State.timeOn (s : State) : Bool := decide (s.pwr.state ≤ 2) || s.wakePast 5
def State.commonOn (s : State) : Bool := decide (s.pwr.state ≤ 1) || s.wakePast 5

/-- Engines, pipes, cores and datapaths work only in Run. -/
def State.running (s : State) : Bool := decide (s.pwr.state = 0)

/-! ## Porch: addresses and queue geometry -/

def pchErrA : Nat := 0x0010_000C
def pchInfoA : Nat := 0x0010_0010
def unroutedA : Nat := 0x0010_0030
def sqBaseLo (n : Nat) : Nat := 0x0011_0000 + n * 0x20
def sqBaseHi (n : Nat) : Nat := 0x0011_0004 + n * 0x20
def sqCfgA (n : Nat) : Nat := 0x0011_0008 + n * 0x20
def cqBaseLo (n : Nat) : Nat := 0x0011_1000 + n * 0x20
def cqBaseHi (n : Nat) : Nat := 0x0011_1004 + n * 0x20
def cqCfgA (n : Nat) : Nat := 0x0011_1008 + n * 0x20
def cqModA (n : Nat) : Nat := 0x0011_100C + n * 0x20
def cqModtA (n : Nat) : Nat := 0x0011_1010 + n * 0x20
def cqLostA (n : Nat) : Nat := 0x0011_1018 + n * 0x20

def State.sq (s : State) (n : Nat) : Sq := tget {} s.porch.sq n
def State.cq (s : State) (n : Nat) : Cq := tget {} s.porch.cq n
def State.setSq (s : State) (n : Nat) (q : Sq) : State := { s with porch := { s.porch with sq := tset {} s.porch.sq n q } }
def State.setCq (s : State) (n : Nat) (q : Cq) : State := { s with porch := { s.porch with cq := tset {} s.porch.cq n q } }

def State.sqEn (s : State) (n : Nat) : Bool := bit (s.reg (sqCfgA n)) 31
def State.cqEn (s : State) (n : Nat) : Bool := bit (s.reg (cqCfgA n)) 31
def State.evq (s : State) (n : Nat) : Bool := bit (s.reg (cqCfgA n)) 8

/-- Completion queue that submission queue n is bound to (R39, R82). -/
def State.boundCq (s : State) (n : Nat) : Nat := bits (s.reg (sqCfgA n)) 13 8

/-- Slots of a submission ring and entries of a completion ring (R41). -/
def State.sqSize (s : State) (n : Nat) : Nat := 2 ^ bits (s.reg (sqCfgA n)) 3 0
def State.cqSize (s : State) (n : Nat) : Nat := 2 ^ bits (s.reg (cqCfgA n)) 4 0

/-- Entries of a queue that wait in the holding buffer. DEDUCED, log entry 21. -/
def State.heldOf (s : State) (n : Nat) : Nat := (s.porch.held.filter fun h => h.cq == n).length

/-- The ring holds 2^k - 1 unreleased entries, those that are held included (R44, R57). DEDUCED, log entry 21. -/
def State.cqFull (s : State) (n : Nat) : Bool :=
  let q := s.cq n
  let sz := s.cqSize n
  decide (sz - 1 ≤ (q.tail + sz - q.head) % sz + s.heldOf n)

/-- The Porch can move host memory and send messages: D0, link not down (R568, R72). DEDUCED, log entry 22. -/
def State.hostReach (s : State) : Bool := !s.porch.d3hot && s.porch.link != Link.down

/-- The link is in L1, L1.1 or L1.2. -/
def State.inL1 (s : State) : Bool := s.porch.link == Link.l1 || s.porch.link == Link.l11 || s.porch.link == Link.l12

/-- LINK field of PCH_STATUS (R80). -/
def linkCode : Link → Nat
  | .l0 => 0 | .l1 => 1 | .l11 => 2 | .l12 => 3 | .down => 4

/-! ## Bellboard routing (R489-R500) -/

/-- Sources that R491 assigns. -/
def sourceRanges : List (Nat × Nat) :=
  [(0, 20), (32, 35), (40, 41), (48, 53), (64, 75), (80, 89), (96, 101), (112, 115), (128, 135), (144, 163),
   (164, 175), (176, 191), (256, 509), (512, 1010)]

def sourceAssigned (n : Nat) : Bool := sourceRanges.any fun r => r.1 ≤ n && n ≤ r.2

def srcCfgA (n : Nat) : Nat := 0x0021_0000 + n * 8

def State.srcEn (s : State) (n : Nat) : Bool := bit (s.reg (srcCfgA n)) 31
def State.srcPrio (s : State) (n : Nat) : Nat := bits (s.reg (srcCfgA n)) 3 0
def State.srcTarget (s : State) (n : Nat) : Nat := bits (s.reg (srcCfgA n)) 8 4
def State.srcFallback (s : State) (n : Nat) : Nat := bits (s.reg (srcCfgA n)) 13 9
def State.srcVector (s : State) (n : Nat) : Nat := bits (s.reg (srcCfgA n)) 26 16

/-- A target is asleep (R500): a packet core whose quad is off, any core while the device is not in Run, the host
in D3hot or with its link down. -/
def State.asleep (s : State) (t : Nat) : Bool :=
  if t = 20 then !s.hostReach
  else if t < 4 then !s.running
  else !s.running || !s.dom (68 + (t - 4) / 4)

/-- Target in force of a source (R500). -/
def State.route (s : State) (n : Nat) : Nat :=
  let p := s.srcTarget n
  let f := s.srcFallback n
  if s.asleep p && f ≤ 20 && !s.asleep f then f else p

/-- A pending, enabled source is held for a sleeping primary target that no fallback covers (R500). -/
def State.heldSource (s : State) (n : Nat) : Bool :=
  let p := s.srcTarget n
  let f := s.srcFallback n
  s.asleep p && !(f ≤ 20 && !s.asleep f)

def State.stack (s : State) (t : Nat) : List Nat := tget [] s.bell.levelStacks t

/-- Running priority of a target (R493). -/
def State.runPrio (s : State) (t : Nat) : Nat := (s.stack t).headD 16

def State.targetDisabled (s : State) (t : Nat) : Bool := bit (s.reg (0x0020_1000 + t * 0x20)) 0

/-- A source is signallable to target t (R493). -/
def State.signallable (s : State) (t n : Nat) : Bool :=
  s.srcEn n && s.bell.pend.contains n && s.route n == t && !s.asleep t &&
  decide (s.srcPrio n < s.runPrio t) && !s.targetDisabled t && decide ((s.stack t).length < 16)

/-- The better of two sources: lower priority number, then lower source number (R494). -/
def State.better (s : State) (a b : Nat) : Bool :=
  decide (s.srcPrio a < s.srcPrio b) || (s.srcPrio a == s.srcPrio b && decide (a < b))

/-- The best source of a list. -/
def State.best (s : State) : List Nat → Option Nat
  | [] => none
  | a :: r => match s.best r with
    | none => some a
    | some b => if s.better a b then some a else some b

/-- Highest signallable source of a target. -/
def State.highest (s : State) (t : Nat) : Option Nat := s.best (s.bell.pend.filter fun n => s.signallable t n)

/-! ## Entries and interrupts -/

/-- Words of an entry as it lies in host memory (R52, R54). -/
def entryWords (e : Entry) (seq : BitVec 16) (phase : Bool) : List Word :=
  let w0 : Word := (e.code.setWidth 32).shiftLeft 16 ||| (if e.evt then seq else e.tag).setWidth 32
  let w1 : Nat := (if e.evt then 2 ^ 17 else e.sq * 2 ^ 24) + (if phase then 2 ^ 16 else 0) + e.status.toNat
  [w0, low w1, e.obj, e.r0, e.r1, e.r2, e.r3, e.time]

/-- Write one entry to the next place of its ring, in two posted TLPs (R53). -/
def hostWrite (s : State) (n : Nat) (e : Entry) (seq : BitVec 16) : State :=
  let q := s.cq n
  let base := dword (s.reg (cqBaseLo n)) (s.reg (cqBaseHi n))
  let a := base + 32 * q.tail
  let ws := entryWords e seq q.phase
  let t := q.tail + 1
  let q' := if t < s.cqSize n then { q with tail := t } else { q with tail := 0, phase := !q.phase }
  { s.setCq n q' with out := Out.tlp a (ws.take 2) false false :: Out.tlp (a + 8) (ws.drop 2) true true :: s.out }

/-- Make a source pending, without signalling it (R489): a source that is not assigned never becomes pending. -/
def pendSource (s : State) (n : Nat) : State :=
  if sourceAssigned n then { s with bell := { s.bell with pend := linsert s.bell.pend n } } else s

/-- TIME of an entry: the low 32 bits of TB3 (R52). -/
def State.entryTime (s : State) : Word := s.blv.tb3.setWidth 32

/-- QUEUE_ERROR's code of a PCIe error (R57). -/
def pcieCode : PcieErr → Nat
  | .timeout => 1 | .unsupported => 2 | .abort => 3 | .poisoned => 4

/-- How the host answers an entry write that no row brings: done, or with a PCIe error. DESIGN CHOICE, log entry 150. -/
def hostAnswer (k : Nat) : Option PcieErr :=
  match Config.freeNat k % 5 with
  | 1 => some .timeout | 2 => some .unsupported | 3 => some .abort | 4 => some .poisoned | _ => none

/-- QUEUE_ERROR (R57, R58). -/
def queueErrorEntry (s : State) (isCq : Bool) (n : Nat) (e : PcieErr) : Entry :=
  { evt := true, sq := 0, code := 0x0002, tag := 0, status := 0, obj := low n, r0 := if isCq then 1 else 0,
    r1 := low (pcieCode e), r2 := 0, r3 := 0, time := s.entryTime, wake := false }

/-- A DMA error on a queue (R58): the queue is in error, PCH_ERR.DMA_ERR and PCH_ERR_INFO name it, source 32 is pending and
QUEUE_ERROR is raised. EN keeps its value. DESIGN CHOICE, log entry 151. -/
def queueFails (s : State) (isCq : Bool) (n : Nat) (e : PcieErr) : State :=
  let s := if isCq then s.setCq n { s.cq n with error := true } else s.setSq n { s.sq n with error := true }
  let s := s.setReg pchInfoA (low ((if isCq then 256 else 0) + n % 64))
  let s := pendSource (s.setReg pchErrA (s.reg pchErrA ||| 4)) 32
  { s with porch := { s.porch with produced := s.porch.produced ++ [queueErrorEntry s isCq n e] } }

/-- A waiting entry is lost for its queue: counted, and an event towards the next EVENTS_LOST too (R56, R58). -/
def loseWaited (s : State) (n : Nat) (e : Entry) : State :=
  let s := s.bump (cqLostA n) 1
  if e.evt then s.setCq n { s.cq n with lostSince := Nat.min ((s.cq n).lostSince + 1) (2 ^ 32 - 1) } else s

/-- Write an entry that waited: a queue in error discards it, and the host may answer the write with an error (R58).
DESIGN CHOICE, log entry 150. -/
def writeWaited (s : State) (n : Nat) (e : Entry) (seq : BitVec 16) : State :=
  if (s.cq n).error then loseWaited s n e
  else
    let (k, s) := s.fresh
    match hostAnswer k with
    | none => hostWrite s n e seq
    | some x => queueFails (loseWaited s n e) true n x

/-- Write every held entry, in the order produced (R71, R75, R568). -/
def writeHeld (s : State) : State :=
  s.porch.held.foldl (fun s h => writeWaited s h.cq h.entry h.seq) { s with porch := { s.porch with held := [] } }

/-- The link leaves L1 and the held entries of every queue are written (R71). -/
def leaveL1 (s : State) : State :=
  if s.inL1 && !s.porch.d3hot then
    pendSource (writeHeld { s with porch := { s.porch with link := .l0 } }) 33
  else s

/-- The vector is masked in the MSI-X table. PRESUMED, log entry 16. -/
def State.masked (s : State) (v : Nat) : Bool := bit (s.reg (0x0014_000C + v * 16)) 0

/-- Send an MSI-X message, or set its pending bit (R70). -/
def sendMsix (s : State) (v : Nat) : State :=
  if s.masked v then { s with porch := { s.porch with pba := linsert s.porch.pba v } }
  else { s with out := Out.msix v :: s.out }

/-- Send every pending vector that is unmasked (R70). -/
def sendUnmasked (s : State) : State :=
  if s.hostReach then
    let go := s.porch.pba.filter fun v => !s.masked v
    { s with porch := { s.porch with pba := s.porch.pba.filter fun v => s.masked v },
             out := (go.map Out.msix).reverse ++ s.out }
  else s

/-- Signal the host target's highest source once (R492, R493). DEDUCED, log entry 177. -/
def belSignal (s : State) : State :=
  match s.highest 20 with
  | none => { s with bell := { s.bell with hostSent := none } }
  | some n =>
    if s.bell.hostSent = some n then s
    else
      let s := leaveL1 s
      match s.highest 20 with
      | none => { s with bell := { s.bell with hostSent := none } }
      | some m => { sendMsix s (s.srcVector m) with bell := { s.bell with hostSent := some m } }

/-- WAKE_PIN_EN of PCH_CTRL (R79). -/
def State.wakePinEn (s : State) : Bool := bit (s.reg 0x0010_0000) 1

/-- Ask the host to wake: PME, or WAKE_N while the link is down (R73). -/
def wakeHost (s : State) : State :=
  if s.porch.wakeActive || !s.porch.pmeEn then s
  else if s.porch.link != Link.down then
    { s with porch := { s.porch with wakeActive := true, pmeStatus := true }, out := Out.pme :: s.out }
  else if s.wakePinEn then
    { s with porch := { s.porch with wakeActive := true, pmeStatus := true, wakeN := true }, out := Out.wakeN true :: s.out }
  else s

/-- An entry that is about to be held for queue n may wake the host: the command's WAKE flag, or WAKE_EVT as it stands now
(R42, R51, R73). -/
def State.wakeCapable (s : State) (n : Nat) (e : Entry) : Bool :=
  if e.evt then bit (s.reg (cqCfgA n)) 9 else e.wake

/-- The wake request of R73, while the function is in D3hot and a wake-capable entry is held. It is made when an entry is
held, at the entry to D3hot and when PME_Status is cleared. DEDUCED, log entry 24. DESIGN CHOICE, log entry 152. -/
def checkWake (s : State) : State :=
  if s.porch.d3hot && s.porch.held.any (fun h => h.wake) then wakeHost s else s

/-! ## Waking a sleeping core target or the device (R500, R501, R519) -/

/-- Start the wake of the device, with GTH_WAKE_CAUSE (R519, R522). Idle and Drowse skip steps 2 and 3. A wake that
arrives while a state is being entered is taken once it is entered (R518). DEDUCED, log entry 142. -/
def beginWake (s : State) (cause src : Nat) : State :=
  if s.pwr.wake.isSome then s
  else if s.pwr.state = 0 && s.pwr.entering.isNone then s
  else
    { s with
      pwr := { s.pwr with wake := some { step := 1, cause := cause, src := src, left := s.pwr.state } }
      gate := { s.gate with wakeCause := cause + 1, wakeSrc := if cause = 2 then src else 0 } }

/-- A wake source that POWER_STATE word 5 enables; bit 6 always (R519). -/
def State.wakeEnabled (s : State) (b : Nat) : Bool := b == 6 || s.pwr.wakeEn.getLsbD b

/-- A watch entry names the source (R501). -/
def State.watches (s : State) (n : Nat) : Bool :=
  (List.range 64).any fun w => bit (s.reg (0x0020_2000 + w * 4)) 31 && bits (s.reg (0x0020_2000 + w * 4)) 9 0 == n

/-- Wake the primary target of a held source; a wake that this starts is counted (R500). -/
def wakeTarget (s : State) (n : Nat) : State :=
  let t := s.srcTarget n
  let quad := 68 + (t - 4) / 4
  let s' :=
    if t = 20 then wakeHost s
    else if !s.running then (if s.wakeEnabled 1 then beginWake s 1 n else s)
    else if (tfind s.pwr.rising quad).isSome then s
    else { s with pwr := { s.pwr with rising := tput s.pwr.rising quad s.cyc } }
  let same := s'.porch.wakeActive == s.porch.wakeActive && s'.pwr.wake.isSome == s.pwr.wake.isSome &&
    s'.pwr.rising.length == s.pwr.rising.length
  if same then s' else s'.bump 0x0020_000C 1

/-- Pending, enabled sources that wait for a sleeping primary target. -/
def State.heldNow (s : State) (n : Nat) : Bool := s.bell.pend.contains n && s.srcEn n && s.heldSource n

/-- Between two states: the target of every source that has come to wait is woken (R500). -/
def wakeHeld (a b : State) : State :=
  (b.bell.pend.filter fun n => b.heldNow n && !a.heldNow n).foldl wakeTarget b

/-- Lines of core targets (R493) that rise between two states. -/
def irqEdges (a b : State) : State :=
  (List.range 20).foldl (fun s t =>
    if (a.highest t).isSome == (b.highest t).isSome then s
    else { s with out := Out.irq t (b.highest t).isSome :: s.out }) b

/-- After a change of pending bits, stacks, configuration or sleep of targets: sleeping targets are woken, and the host and
the core lines are signalled (R493, R499, R500). -/
def resignal (a b : State) : State := irqEdges a (belSignal (wakeHeld a b))

/-- A unit pulses its source; any enabled one ends Idle or Drowse, and with the Bellboard off only the sources 48 to 53 of the
watch list count (R489, R500, R501, R519). DEDUCED, log entry 176. -/
def pulse (s : State) (n : Nat) : State :=
  if s.coreOn then
    let s' := wakeHeld s (pendSource s n)
    let s' := if s.srcEn n && sourceAssigned n && !s.running && s.wakeEnabled 1 then beginWake s' 1 n else s'
    irqEdges s (belSignal s')
  else if s.watches n && decide (48 ≤ n) && decide (n ≤ 53) then
    let s' := { s with bell := { s.bell with watched := linsert s.bell.watched n } }
    if s.wakeEnabled 2 then beginWake s' 2 n else s'
  else s

/-! ## Moderation and interrupts (R69-R75) -/

/-- Send a queue's interrupt, or keep it (R69, R71, R72, R568). -/
def interrupt (s : State) (n : Nat) : State :=
  let q := { s.cq n with count := 0, timer := none }
  if s.hostReach then
    let s := leaveL1 (s.setCq n { q with due := false })
    let s := s.setCq n { s.cq n with count := 0, timer := none, due := false }
    sendMsix s (bits (s.reg (cqCfgA n)) 26 16)
  else s.setCq n { q with due := true }

/-- Count an entry towards its queue's interrupt (R69, R70). -/
def moderate (s : State) (n : Nat) : State :=
  let q := s.cq n
  let cnt := q.count + 1
  let mc := bits (s.reg (cqModA n)) 7 0
  let mt := bits (s.reg (cqModtA n)) 23 0
  let q := { q with count := cnt, modCount := mc, modTime := mt, timer := some (q.timer.getD 0) }
  let s := s.setCq n q
  if (mc = 0 && mt = 0) || (mc ≠ 0 && mc ≤ cnt) then interrupt s n else s

/-- Place an entry: in its ring, or in the holding buffer (R53, R71, R72, R568). -/
def placeEntry (s : State) (n : Nat) (e : Entry) (seq : BitVec 16) : State :=
  if s.hostReach && !s.inL1 then moderate (hostWrite s n e seq) n
  else
    let s := { s with porch := { s.porch with held := s.porch.held ++
      [{ cq := n, entry := e, seq := seq, wake := s.wakeCapable n e }] } }
    let s := moderate s n
    let s := checkWake s
    if s.porch.held.length = 192 then
      let s := pulse s 35
      if s.inL1 && !s.porch.d3hot then belSignal (leaveL1 s) else s
    else s

/-! ## Errors of the Porch (R81) -/

/-- Set a bit of PCH_ERR; source 32 pulses (R491). -/
def pchErr (s : State) (b : Nat) : State :=
  pulse (s.setReg pchErrA (s.reg pchErrA ||| BitVec.ofNat 32 (2 ^ b))) 32

/-- Set a bit of PCH_ERR that names a queue. -/
def pchErrQ (s : State) (b : Nat) (isCq : Bool) (n : Nat) : State :=
  pchErr (s.setReg pchInfoA (low ((if isCq then 256 else 0) + n % 64))) b

/-! ## Status codes (R59) -/

abbrev Status := BitVec 16
def stOk : Status := 0
def stOkPartial : Status := 1
def stBadOpcode : Status := 0x0101
def stBadLength : Status := 0x0102
def stBadObject : Status := 0x0103
def stBadField : Status := 0x0104
def stNotStopped : Status := 0x0201
def stBusy : Status := 0x0202
def stNoResource : Status := 0x0203
def stWrongState : Status := 0x0204
def stKeyStale : Status := 0x0301
def stKeyErased : Status := 0x0302
def stNonceExhausted : Status := 0x0303
def stLocked : Status := 0x0304
def stAlarm : Status := 0x0305
def stRefMissing : Status := 0x0401
def stBudgetExhausted : Status := 0x0402
def stFenceTimeout : Status := 0x0403
def stPowerState : Status := 0x0F02
def stHostDma : Status := 0x0F03

/-! ## Producing completions and events -/

/-- The command in flight, whose meaning has begun. -/
def State.flightOf (s : State) (op : BitVec 16) (c : Cmd) : Option Flight :=
  s.porch.flights.find? fun f => f.op == op && f.c == c && f.started

/-- A command's completion is produced (R52), for the completion queue that its submission queue was bound to at the fetch;
one that a reset overtook is discarded (R38). DESIGN CHOICE, log entry 153. -/
def complete (s : State) (op : BitVec 16) (c : Cmd) (st : Status) (r0 r1 r2 r3 : Word) : State :=
  match s.flightOf op c with
  | some f =>
    if f.discard then
      pchErr { s with porch := { s.porch with flights := s.porch.flights.erase f } } 3
    else
      { s with porch := { s.porch with produced := s.porch.produced ++
        [{ evt := false, sq := c.sq, code := op, tag := c.tag, status := st, obj := c.obj,
           r0 := r0, r1 := r1, r2 := r2, r3 := r3, time := s.entryTime, wake := c.wake, cq := f.cq }] } }
  | none =>
    { s with porch := { s.porch with produced := s.porch.produced ++
      [{ evt := false, sq := c.sq, code := op, tag := c.tag, status := st, obj := c.obj,
         r0 := r0, r1 := r1, r2 := r2, r3 := r3, time := s.entryTime, wake := c.wake, cq := s.boundCq c.sq }] } }

/-- A completion with every result 0. -/
def finish (s : State) (op : BitVec 16) (c : Cmd) (st : Status) : State := complete s op c st 0 0 0 0

/-- An event with a status (R54). -/
def eventSt (s : State) (code : BitVec 16) (st : Status) (obj r0 r1 r2 r3 : Word) : State :=
  { s with porch := { s.porch with produced := s.porch.produced ++
    [{ evt := true, sq := 0, code := code, tag := 0, status := st, obj := obj, r0 := r0, r1 := r1, r2 := r2, r3 := r3,
       time := s.entryTime, wake := false }] } }

/-- An event with status OK. -/
def event (s : State) (code : BitVec 16) (obj r0 r1 r2 r3 : Word) : State := eventSt s code stOk obj r0 r1 r2 r3

/-! ## Running a command (R49, R50, R60) -/

/-- Opcodes that take no object and carry OBJECT 0: NOP, GET_INFO, POWER_STATE, GTH_ALARM_CLEAR, KEY_CASCADE, KEY_ALARM_CLEAR,
TELEM_SNAPSHOT, FLASH_WRITE (R47 and the command tables). -/
def objectless : List (BitVec 16) := [0x0000, 0x0004, 0x0113, 0x0114, 0x0513, 0x0514, 0x0F10, 0x0F20]

/-- Two commands are on the same object: the same opcode range and object number (R48). -/
def sameObject (op : BitVec 16) (c : Cmd) (f : Flight) : Bool :=
  !objectless.contains op && !objectless.contains f.op && f.op.extractLsb' 8 8 == op.extractLsb' 8 8 && f.c.obj == c.obj

/-- Order within a submission queue: what is earlier has started; a FENCE command, a command before which a BARRIER stands, and
a command on the same object wait until the earlier one has completed (R49, R50). -/
def blockedBy (op : BitVec 16) (c : Cmd) (f : Flight) : Bool :=
  f.c.sq == c.sq && (!f.started || c.fence || f.c.barrier || sameObject op c f)

/-- Flights before the first one that is this command and has not begun. -/
def flightsBefore (op : BitVec 16) (c : Cmd) : List Flight → Option (List Flight)
  | [] => none
  | f :: r =>
    if f.op == op && f.c == c && !f.started then some []
    else (flightsBefore op c r).map fun l => f :: l

/-- A command may start: nothing earlier of its queue holds it back (R49, R50). A command that is not in flight is
taken as just fetched with nothing before it. -/
def mayStart (s : State) (op : BitVec 16) (c : Cmd) : Bool :=
  match flightsBefore op c s.porch.flights with
  | none => true
  | some l => !l.any fun f => blockedBy op c f

/-- Mark the command's flight as begun. -/
def markStarted (op : BitVec 16) (c : Cmd) : List Flight → List Flight
  | [] => []
  | f :: r =>
    if f.op == op && f.c == c && !f.started then { f with started := true } :: r
    else f :: markStarted op c r

def beginCmd (s : State) (op : BitVec 16) (c : Cmd) : State :=
  { s with porch := { s.porch with flights := markStarted op c s.porch.flights } }

/-- Entries are held: L1 in D0, link down, or D3hot (R71, R72, R568). -/
def State.holding (s : State) : Bool := s.inL1 || !s.hostReach

/-- The holding buffer is full, and the commands in flight pause where they stand (R74, R568). DESIGN CHOICE, log entry 154. -/
def State.paused (s : State) : Bool := s.holding && decide (256 ≤ s.porch.held.length)

/-- The checks of R60 in their order, then the opcode's own body. -/
def runCmd (s : State) (op : BitVec 16) (c : Cmd) (lenLo lenHi : Nat) (objOk powered : Bool)
    (body : State → State) : State :=
  if mayStart s op c && !s.paused then
    let s := beginCmd s op c
    if c.len < lenLo || lenHi < c.len then finish s op c stBadLength
    else if !c.headerOk then finish s op c stBadField
    else if !objOk then finish s op c stBadObject
    else if !powered then finish s op c stPowerState
    else body s
  else s

/-- The first failing check of a list, in its order (R60). DEDUCED, log entry 28. -/
def firstFail : List (Bool × Status) → Option Status
  | [] => none
  | (bad, st) :: r => if bad then some st else firstFail r

/-- Complete with the first failing check, or go on. DEDUCED, log entry 28. DEDUCED, log entry 138. -/
def checked (s : State) (op : BitVec 16) (c : Cmd) (checks : List (Bool × Status)) (go : State → State) : State :=
  match firstFail checks with
  | some st => finish s op c st
  | none => go s

/-! ## Objects (R65, R66) -/

/-- Key of an object: its opcode range and number. -/
def objKey (range : Nat) (num : Nat) : Nat := range * 2 ^ 32 + num

def State.obj (s : State) (k : Nat) : ObjRec := tget {} s.objs k
def State.setObj (s : State) (k : Nat) (o : ObjRec) : State := { s with objs := tset {} s.objs k o }

def State.stopped (s : State) (k : Nat) : Bool := (s.obj k).st == .stopped
def State.isRunning (s : State) (k : Nat) : Bool := (s.obj k).st == .running

/-- Count an accepted configure command (R66). -/
def bumpGen (s : State) (k : Nat) : State := s.setObj k { s.obj k with gen := (s.obj k).gen + 1 }

/-! ## Ports and legs (R84, R118, R124) -/

def State.netPort (s : State) (p : Nat) : NetPort := tget {} s.net.ports p
def State.setNetPort (s : State) (p : Nat) (x : NetPort) : State := { s with net := { s.net with ports := tset {} s.net.ports p x } }
def State.legSet (s : State) (l : Nat) : LegSet := tget {} s.net.sets l
def State.setLegSet (s : State) (l : Nat) (x : LegSet) : State := { s with net := { s.net with sets := tset {} s.net.sets l x } }
def State.legRun (s : State) (l : Nat) : LegRun := tget {} s.net.runs l
def State.setLegRun (s : State) (l : Nat) (x : LegRun) : State := { s with net := { s.net with runs := tset {} s.net.runs l x } }

/-- Connection state of a leg: NONE unless the leg is RUNNING (R91). -/
def State.conn (s : State) (l : Nat) : Conn := if s.isRunning (objKey 4 l) then (s.legRun l).conn else .absent

/-- The leg is a hatch-leg (R92, R228). -/
def State.hatchLeg (s : State) (l : Nat) : Bool := (tfind s.hat.legs l).isSome

/-- NET_MODE strap, the ports it names and their speed in Mbit/s (R84). -/
def State.netMode (s : State) : Nat := s.gate.straps.toNat / 2 ^ 8 % 4

def State.portSpeed (s : State) (p : Nat) : Nat :=
  match s.netMode with
  | 0 => 25000
  | 1 => 10000
  | 2 => if p = 0 || p = 4 then 100000 else 0
  | _ => if p < 4 then 25000 else if p = 4 then 100000 else 0

def State.portPresent (s : State) (p : Nat) : Bool := decide (p < 8) && s.portSpeed p != 0

/-- A 100 Gbit/s port lies on four lanes, that is on two pairs (R84, R509). -/
def State.portPowered (s : State) (p : Nat) : Bool :=
  s.dom (73 + p / 2) && (s.portSpeed p != 100000 || s.dom (74 + p / 2))

/-- Port of a leg's LEG_CONFIG. -/
def State.legPort (s : State) (l : Nat) : Option Nat := (s.legSet l).cfg.map fun c => c.port

/-- The link of an egress queue's port is down (R374). -/
def State.egressDown (s : State) (q : Nat) : Bool :=
  if q < 32768 then (match s.legPort (q / 4) with
    | some p => !(s.netPort p).linkUp
    | none => false)
  else if q < 32808 then !(s.netPort ((q - 32768) / 5)).linkUp
  else false

/-- Some object of a range is not STOPPED. -/
def State.anyLive (s : State) (range : Nat) : Bool :=
  s.objs.any fun e => e.1 / 2 ^ 32 == range && e.2.st != .stopped

/-- Identity of a requester as STY_WBARRIER gives it (R29). -/
def reqId : Requester → Nat
  | .host => 0
  | .study n => 0x10 + n
  | .core n => 0x20 + n

/-- Return data to a requester. The host's first read after the link has reached L0 ends the Gatehouse's WAKE_N (R521). -/
def readOut (s : State) (r : Requester) (a : Nat) (v : Word) : State :=
  if r = .host && s.pwr.wakeN && s.porch.link = .l0 then
    { s with pwr := { s.pwr with wakeN := false }, out := Out.read r a v :: Out.wakeN false :: s.out }
  else { s with out := Out.read r a v :: s.out }

/-- A TLP of the host brings the link out of L1 (R71). -/
def hostArrives (s : State) (r : Requester) : State :=
  if r = .host then belSignal (leaveL1 s) else s

/-! ## Main memory: configuration and layout (R431-R436) -/

/-- The straps name a supported configuration (R431, R432). -/
def strapsOk (st : BitVec 19) : Bool :=
  let ch := st.extractLsb' 4 3
  ch == 4 || (ch == 2 && st.getLsbD 7)

/-- Populated channels. -/
def State.channels (s : State) : Nat := if s.gate.straps.extractLsb' 4 3 = 4 then 8 else 4

def State.ranks (s : State) : Nat := if s.gate.straps.getLsbD 7 then 2 else 1

/-- The 4 GiB configuration. -/
def State.gib4 (s : State) : Bool := s.channels == 8 && s.ranks == 2

/-- Channel n is populated; none is while STRAP_ERR is set (R460). DEDUCED, log entry 132. -/
def State.present (s : State) (n : Nat) : Bool := !s.cel.strapErr && strapsOk s.gate.straps && decide (n < s.channels)

/-- Fields of a PA (R435). -/
def State.paChan (s : State) (pa : Nat) : Nat := if s.channels = 8 then pa / 2 ^ 6 % 8 else pa / 2 ^ 6 % 4
def State.paBank (s : State) (pa : Nat) : Nat :=
  if s.channels = 8 then pa / 2 ^ 9 % 4 + 4 * (pa / 2 ^ 29 % 4) else pa / 2 ^ 8 % 4 + 4 * (pa / 2 ^ 28 % 4)
def State.paRank (s : State) (pa : Nat) : Nat :=
  if s.ranks = 1 then 0 else if s.channels = 8 then pa / 2 ^ 31 % 2 else pa / 2 ^ 30 % 2

/-- Base of an area (R436). -/
def State.areaBase (s : State) (a : Nat) : Nat :=
  match a with
  | 0 => 0
  | 1 => 0x0800_0000
  | 2 => 0x1800_0000
  | 3 => 0x2000_0000
  | 4 => if s.gib4 then 0x8800_0000 else 0x4800_0000
  | 5 => if s.gib4 then 0xB8C0_0000 else 0x5AC0_0000
  | 6 => if s.gib4 then 0xD8C0_0000 else 0x6AC0_0000
  | _ => if s.gib4 then 0xE8C0_0000 else 0x7AC0_0000

/-- Size of an area in bytes. -/
def State.areaSize (s : State) (a : Nat) : Nat :=
  let mib := 1048576
  match a with
  | 0 => 128 * mib
  | 1 => 256 * mib
  | 2 => 128 * mib
  | 3 => (if s.gib4 then 1664 else 640) * mib
  | 4 => (if s.gib4 then 780 else 300) * mib
  | 5 => (if s.gib4 then 512 else 256) * mib
  | 6 => 256 * mib
  | _ => (if s.gib4 then 372 else 84) * mib

/-- Area of a PA. -/
def State.areaOf (s : State) (pa : Nat) : Nat :=
  ((List.range 8).find? fun a => s.areaBase a ≤ pa && pa < s.areaBase a + s.areaSize a).getD 7

/-- A byte of main memory (R441). DESIGN CHOICE, log entry 11. -/
def State.memByte (s : State) (pa : Nat) : Byte := tget 0 s.cel.mem pa

/-- Bytes of main memory from an address. -/
def State.memBytes (s : State) (pa n : Nat) : List Byte := (List.range n).map fun i => s.memByte (pa + i)

/-- Write bytes of main memory: valid check bits for the words they fill. DESIGN CHOICE, log entry 11. -/
def State.writeMem (s : State) (pa : Nat) (bs : List Byte) : State :=
  let mem := bs.zipIdx.foldl (fun m b => tset 0 m (pa + b.2) b.1) s.cel.mem
  let errs := s.cel.errs.filter fun e => e.1 * 8 + 8 ≤ pa || pa + bs.length ≤ e.1 * 8
  { s with cel := { s.cel with mem := mem, errs := errs } }

/-- Some line of a range of main memory is poisoned (R439). -/
def State.poisoned (s : State) (pa n : Nat) : Bool :=
  s.cel.errs.any fun e => e.2 == 2 && decide (pa / 64 ≤ e.1 / 8) && decide (e.1 / 8 ≤ (pa + n - 1) / 64)

end Sys2Proof.Machine
end

