-- ==== Sys2Proof/Machine/Pantry.lean ====
section
/-!
DEFINITION. The Pantry: cells and pools, open and loose packets, queues, gap markers and pool accounting
(R413-R430).
-/
namespace Sys2Proof.Machine

open Host

/-! ## Pools (R413, R416, R427) -/

def nearA (off : Nat) : Nat := 0x0040_0000 + off

/-- Cells of a pool: near quarters that are powered, the far pool once it is laid out. -/
def State.poolCells (s : State) (far : Bool) : Nat :=
  if far then s.pan.farCells else if s.pwr.state ≤ 1 then 98304 else if s.pwr.state = 2 then 24576 else 0

def State.pool (s : State) (far : Bool) : Pool := if far then s.pan.far else s.pan.near
def State.setPool (s : State) (far : Bool) (p : Pool) : State :=
  if far then { s with pan := { s.pan with far := p } } else { s with pan := { s.pan with near := p } }

/-- Cells of a pool that are free, the gap reserve included (R429). -/
def State.poolFree (s : State) (far : Bool) : Nat :=
  s.poolCells far - (s.pool far).used - (s.pool far).gapUsed

/-- Free cells of a pool's gap reserve of 256 cells (R425). -/
def State.gapFree (s : State) (far : Bool) : Nat := if s.poolCells far = 0 then 0 else 256 - (s.pool far).gapUsed

/-- Free data cells of a pool: the gap reserve is held back (R416, R425). -/
def State.dataFree (s : State) (far : Bool) : Nat := s.poolCells far - 256 - (s.pool far).used

/-- Cells in use of a pool (R427). -/
def Pool.inUse (p : Pool) : Nat := p.used + p.gapUsed

/-- Reserve of a class in a pool (R416, R429). -/
def State.reserve (s : State) (far : Bool) (cls : Nat) : Nat :=
  if far then bits (s.reg (nearA (0x30 + cls * 4))) 21 0 else bits (s.reg (nearA (0x20 + cls * 4))) 16 0

/-- Low mark of a pool (R428). -/
def State.lowMark (s : State) (far : Bool) : Nat :=
  if far then bits (s.reg (nearA 0x44)) 21 0 else bits (s.reg (nearA 0x40)) 16 0

/-- PAN_POOL_LOW at a cell taken below the low mark (R428). -/
def poolLow (s : State) (far : Bool) : State :=
  let p := s.pool far
  let free := s.poolFree far
  if free < s.lowMark far then
    let again := match p.lowLast with
      | some t => decide (t + ctPerSec ≤ s.cyc)
      | none => true
    if !p.below || again then
      let s := s.setPool far { p with below := true, lowLast := some s.cyc, drops := 0, lost := 0 }
      pulse (event s 0x0340 (if far then 1 else 0) (low free) (low p.drops) (low p.lost) 0) (if far then 100 else 99)
    else s
  else s.setPool far { p with below := false }

/-- Take one data cell of a pool. -/
def takeCell (s : State) (far : Bool) : State :=
  let s := poolLow s far
  let p := s.pool far
  let p := { p with used := p.used + 1 }
  s.setPool far { p with peak := Nat.max p.peak p.inUse }

/-- Take n data cells of a pool, one after the other. -/
def takeCells (s : State) (far : Bool) : Nat → State
  | 0 => s
  | n + 1 => takeCell (takeCells s far n) far

/-- Cells return to their pool, or a marker's cell to its reserve. -/
def giveCells (s : State) (far gap : Bool) (n : Nat) : State :=
  let p := s.pool far
  s.setPool far (if gap then { p with gapUsed := p.gapUsed - n } else { p with used := p.used - n })

/-- A pool admits the first cell of a packet of a class (R416). -/
def State.admits (s : State) (far : Bool) (cls : Nat) : Bool :=
  decide (0 < s.dataFree far) && decide (s.reserve far cls ≤ s.dataFree far)

/-- Cells in use. -/
def State.usedCells (s : State) : List Nat :=
  (s.pan.queues.flatMap fun e => e.2.entries.flatMap fun q => q.handle :: q.rest) ++ (s.pan.loose.flatMap fun e => e.1 :: e.2.rest) ++
  s.pan.opens.flatMap fun e => e.2.handle :: e.2.rest

/-- The first number from k on, within n, that is not taken. DESIGN CHOICE, log entry 129. -/
def freeFrom (taken : List Nat) (base n : Nat) : Nat → Nat → Nat
  | 0, k => base + k % n
  | f + 1, k => if taken.contains (base + k % n) then freeFrom taken base n f (k + 1) else base + k % n

/-- A free cell of a pool besides those of a list: which one the manual does not say. DESIGN CHOICE, log entry 129. -/
def newCell (s : State) (far : Bool) (besides : List Nat) : Nat × State :=
  let (k, s) := s.fresh
  let base := if far then 0x20_0000 else 0
  let taken := besides ++ s.usedCells
  (freeFrom taken base (Nat.max 1 (s.poolCells far)) taken.length (Config.freeNat k), s)

/-- A packet's first cell. -/
def newHandle (s : State) (far : Bool) : Nat × State := newCell s far []

/-- n further cells of a packet, after those of a list. -/
def newCells (s : State) (far : Bool) (got : List Nat) : Nat → List Nat × State
  | 0 => ([], s)
  | n + 1 =>
    let (c, s) := newCell s far got
    let (r, s) := newCells s far (c :: got) n
    (c :: r, s)

/-! ## Descriptors (R414) -/

/-- The number that names no cell. -/
def noCell : Nat := 0x1FFFF

/-- A cell's descriptor: NEXT, BYTES, FIRST, LAST, GAP and META. -/
def descriptor (next bytes : Nat) (first last gap : Bool) (note : Nat) : BitVec 64 :=
  let f := fun (b : Bool) (i : Nat) => if b then 2 ^ i else 0
  BitVec.ofNat 64 (next % 2 ^ 22 * 2 ^ 42 + bytes % 2 ^ 9 * 2 ^ 33 + f first 32 + f last 31 + f gap 30 + note % 2 ^ 28)

/-- Descriptors of a packet's cells after its first: its cells, the bytes they hold, and the cell after the last. -/
def restDescriptors (next : Nat) : List Nat → Nat → List (Nat × BitVec 64)
  | [], _ => []
  | [c], n => [(c, descriptor next n false true false 0)]
  | c :: d :: r, n => (c, descriptor d 256 false false false 0) :: restDescriptors next (d :: r) (n - 256)

/-- Descriptors of a packet or gap marker that `next` follows. -/
def chainOf (next handle bytes : Nat) (gap : Bool) (note : Nat) (rest : List Nat) : List (Nat × BitVec 64) :=
  (handle, descriptor (rest.headD next) (Nat.min 256 bytes) true rest.isEmpty gap note) :: restDescriptors next rest (bytes - 256)

/-- Descriptors of a queue's entries, each chained to the next. -/
def queueChain : List QEntry → List (Nat × BitVec 64)
  | [] => []
  | e :: r => chainOf ((r.head?.map QEntry.handle).getD noCell) e.handle e.bytes e.gap e.note e.rest ++ queueChain r

/-- Link RAM: the descriptor of every cell of a queued or loose packet. -/
def State.linkRam (s : State) : List (Nat × BitVec 64) :=
  (s.pan.queues.flatMap fun e => queueChain e.2.entries) ++
  s.pan.loose.flatMap fun (e : Nat × Loose) => chainOf noCell e.1 e.2.bytes false e.2.note e.2.rest

/-! ## Queues (R415, R422-R426) -/

def State.queue (s : State) (q : Nat) : PQueue := tget {} s.pan.queues q
def State.setQueue (s : State) (q : Nat) (p : PQueue) : State := { s with pan := { s.pan with queues := tset {} s.pan.queues q p } }

/-- POOL of a queue: 0 near, 1 far, 2 near then far (R415). -/
def queuePool (q : Nat) : Nat :=
  if q < 32768 then (if q % 4 = 1 || q % 4 = 2 then 2 else 0)
  else if q < 32808 then (if (q - 32768) % 5 = 2 || (q - 32768) % 5 = 3 then 2 else 0)
  else if q < 33104 then 0
  else Config.fwQueuePool q % 3

/-- CLASS of a queue (R415). -/
def queueClass (q : Nat) : Nat :=
  if q < 32768 then (if q % 4 = 1 then 1 else if q % 4 = 2 then 2 else 0)
  else if q < 32808 then (match (q - 32768) % 5 with | 2 => 1 | 3 => 2 | 4 => 2 | _ => 0)
  else if q < 33096 then 1
  else if q < 33104 then 3
  else Config.fwQueueClass q % 4

/-- Byte limit of a queue (R373, R415). -/
def State.queueLimit (s : State) (q : Nat) : Nat :=
  if q < 32768 then (tget {} s.prg.legs (q / 4)).qlimit.getD (q % 4) 0
  else if q < 32808 then (match (q - 32768) % 5 with | 2 => 1048576 | 3 => 1048576 | _ => 65536)
  else if q < 33096 then 4194304
  else if q < 33104 then 262144
  else Config.fwQueueLimit q

/-- Byte count of a queue: its unreleased data cells (R424). -/
def PQueue.bytes (p : PQueue) : Nat := (p.entries.map QEntry.bytes).sum

def PQueue.cells (p : PQueue) : Nat := (p.entries.map QEntry.cells).sum

/-- The tail is a gap marker that has not been read. -/
def PQueue.gapTail (p : PQueue) : Bool :=
  match p.entries.getLast? with
  | some e => e.gap && decide (p.read < p.entries.length)
  | none => false

/-- A gap marker of a count. -/
def gapEntry (s : State) (h : Nat) (far : Bool) (n : Nat) : QEntry :=
  { handle := h, bytes := 0, cells := 1, far := far, gap := true, note := Nat.min n 0x0FFFFFFF, born := s.now, pkt := {} }

/-- Link a gap marker at a queue's tail, its cell from a pool's reserve. -/
def linkGap (s : State) (q : Nat) (far : Bool) (n : Nat) : State :=
  let (h, s) := newHandle (poolLow s far) far
  let p := s.pool far
  let s := s.setPool far { p with gapUsed := p.gapUsed + 1, peak := Nat.max p.peak (p.inUse + 1) }
  let x := s.queue q
  (s.setQueue q { x with entries := x.entries ++ [gapEntry s h far n] }).bump (nearA 0x5C) 1

/-- A drop is recorded in its queue (R425). -/
def recordDrop (s : State) (q : Nat) (far : Bool) : State :=
  let x := s.queue q
  if x.gapTail then
    match x.entries.getLast? with
    | some e => s.setQueue q { x with entries := x.entries.dropLast ++ [{ e with note := Nat.min (e.note + 1) 0x0FFFFFFF }] }
    | none => s
  else if 0 < s.gapFree far then linkGap (s.setQueue q { x with pend := 0 }) q far (x.pend + 1)
  else s.setQueue q { x with pend := x.pend + 1 }

/-- A pending count goes ahead of the next admitted packet, or is lost (R425). -/
def flushPending (s : State) (q : Nat) (far : Bool) : State :=
  let x := s.queue q
  if x.pend = 0 then s
  else
    let s := s.setQueue q { x with pend := 0 }
    if 0 < s.gapFree far then linkGap s q far x.pend
    else
      let s := s.bump (nearA 0x60) x.pend
      let p := s.pool far
      pulse (s.setPool far { p with lost := p.lost + x.pend }) 101

/-- Count a drop for want of cells (R416, R421, R428). -/
def countPoolDrop (s : State) (far : Bool) : State :=
  let p := s.pool far
  (s.setPool far { p with drops := p.drops + 1 }).bump (nearA 0x54) 1

/-! ## Drops that the Pergola counts for its queues (R373, R374, R379, R386) -/

/-- Leg of a leg service queue. -/
def queueLeg (q : Nat) : Option Nat := if q < 32768 then some (q / 4) else none

/-- Port of a port queue. -/
def queuePort (q : Nat) : Option Nat := if 32768 ≤ q && q < 32808 then some ((q - 32768) / 5) else none

/-- Object and service or port queue of an egress queue, as PRG_QUEUE_DROP names it. -/
def queueObj (q : Nat) : Nat × Nat :=
  if q < 32768 then (q / 4, q % 4) else (0x10000 + (q - 32768) / 5, (q - 32768) % 5)

/-- PRG_QUEUE_DROP with the count since the last (R386). -/
def queueDropEvent (s : State) (q cause : Nat) : State :=
  let (obj, svc) := queueObj q
  match s.limit (objKey 0x0611 obj) ctPerSec 1 0 with
  | (some (n, _), s) => event s 0x0611 (low obj) (low n) (low (svc + cause * 256)) 0 0
  | (none, s) => s

def legPrgA (l off : Nat) : Nat := 0x0081_0000 + l * 0x10 + off

/-- A packet of an egress queue is dropped: cause 1 full, 2 aged, 3 link down. -/
def countQueueDrop (s : State) (q cause : Nat) : State :=
  let s := s.bump (match cause with | 1 => 0x0080_0008 | 2 => 0x0080_000C | _ => 0x0080_0010) 1
  let s := match queueLeg q with
    | some l =>
      let s := s.bump (legPrgA l 0x0C) 1
      let x := tget {} s.prg.legs l
      { s with prg := { s.prg with legs := tset {} s.prg.legs l { x with qDrops := x.qDrops + 1 } } }
    | none => match queuePort q with
      | some p =>
        let x := tget {} s.prg.ports p
        if cause = 3 then { s with prg := { s.prg with ports := tset {} s.prg.ports p { x with linkDrops := x.linkDrops + 1 } } } else s
      | none => s
  queueDropEvent s q cause

/-- PEAK of control and best-effort queues: largest depth in bytes (R382). -/
def depthPeak (s : State) (q : Nat) : State :=
  let b := (s.queue q).bytes
  let upd := fun (a : Nat) => s.setReg a (low (Nat.max (bits (s.reg a) 27 0) (Nat.min b 0x0FFFFFFF)))
  if q < 32768 then (if q % 4 = 3 then upd (0x0088_0000 + q / 4 * 0x10 + 0xC) else s)
  else if q < 32808 then
    let n := (q - 32768) / 5
    let k := (q - 32768) % 5
    if k = 0 || k = 4 then upd (0x0080_1048 + n * 0x100 + k * 0x10) else s
  else s

/-- Link an admitted packet to its queue's tail. -/
def linkPacket (s : State) (q : Nat) (far : Bool) (h bytes cells : Nat) (rest : List Nat) (pkt : Pkt) : State :=
  let s := flushPending s q far
  let x := s.queue q
  let e : QEntry := { handle := h, bytes := bytes, cells := cells, far := far, gap := false,
                      note := s.now % 2 ^ 28, born := s.now, pkt := pkt, rest := rest }
  depthPeak ((s.setQueue q { x with entries := x.entries ++ [e] }).bump64 (nearA 0x70) 1) q

/-- A packet whose cells are taken is committed to a queue: refused by a link that is down, by a launch too far
ahead, or by a full queue, else linked (R374, R379, R424). -/
def commitCells (s : State) (q : Nat) (far : Bool) (h bytes cells : Nat) (rest : List Nat) (pkt : Pkt) : State :=
  let drop := fun (s : State) => giveCells s far false cells
  let x := s.queue q
  if s.egressDown q then countQueueDrop (drop s) q 3
  else if q < 32808 && (match pkt.launch with | some t => decide (s.now + ctPerSec < t) | none => false) then
    (drop s).bump 0x0080_0018 1
  else if s.queueLimit q < x.bytes + bytes then
    let s := (drop s).bump (nearA 0x50) 1
    let s := if q < 32808 then countQueueDrop s q 1 else s
    recordDrop s q far
  else linkPacket s q far h bytes cells rest pkt

/-! ## Whole packets that a producer of the device writes and commits -/

/-- The pool whose admission takes a packet's first cell, or the last pool that refused it (R416, R425). -/
def State.choosePool (s : State) (pool cls : Nat) : Except Bool Bool :=
  match pool with
  | 0 => if s.admits false cls then .ok false else .error false
  | 1 => if s.admits true cls then .ok true else .error true
  | _ => if s.admits false cls then .ok false else if s.admits true cls then .ok true else .error true

/-- Cells of a packet (R414). -/
def cellsOf (bytes : Nat) : Nat := (bytes + 255) / 256

/-- Open, write and commit a packet to a queue in one step. -/
def sendPacket (s : State) (q bytes : Nat) (pkt : Pkt) : State :=
  match s.choosePool (queuePool q) (queueClass q) with
  | .error far => recordDrop (countPoolDrop s far) q far
  | .ok far =>
    if s.dataFree far < cellsOf bytes then recordDrop (countPoolDrop s far) q far
    else
      let (h, s) := newHandle s far
      let (rest, s) := newCells s far [h] (cellsOf bytes - 1)
      commitCells (takeCells s far (cellsOf bytes)) q far h bytes (cellsOf bytes) rest pkt

/-- Write a loose packet in one step: its handle, none when no pool admits it (R572). -/
def writeLoose (s : State) (pool cls bytes : Nat) : Option Nat × State :=
  match s.choosePool pool cls with
  | .error far => (none, countPoolDrop s far)
  | .ok far =>
    if s.dataFree far < cellsOf bytes then (none, countPoolDrop s far)
    else
      let (h, s) := newHandle s far
      let (rest, s) := newCells s far [h] (cellsOf bytes - 1)
      let s := takeCells s far (cellsOf bytes)
      (some h, { s with pan := { s.pan with loose := tput s.pan.loose h { bytes := bytes, cells := cellsOf bytes, far := far, rest := rest, note := s.now % 2 ^ 28 } } })

/-- Release a loose packet by its handle (R418). -/
def releaseHandle (s : State) (h : Nat) : State :=
  match tfind s.pan.loose h with
  | some l => giveCells { s with pan := { s.pan with loose := tdel s.pan.loose h } } l.far false l.cells
  | none => s.bump (nearA 0x68) 1

/-! ## Producer operations (R417-R421) -/

def producerKey : Producer → Nat
  | .boathouse => 0
  | .icehouse => 1
  | .dumbwaiter => 2
  | .core n => 3 + n
  | .study n => 19 + n
  | .encode n => 23 + n

def State.openPkt (s : State) (p : Producer) : Option OpenPkt := tfind s.pan.opens (producerKey p)
def State.setOpen (s : State) (p : Producer) (o : OpenPkt) : State :=
  { s with pan := { s.pan with opens := tput s.pan.opens (producerKey p) o } }
def State.closeOpen (s : State) (p : Producer) : State :=
  { s with pan := { s.pan with opens := tdel s.pan.opens (producerKey p) } }

def poolSelNum : PoolSel → Nat
  | .near => 0 | .far => 1 | .nearThenFar => 2

/-- Pool and class under which a packet is written (R415, R572). -/
def boundPool : Bound → Nat × Nat
  | .queue q => (queuePool q, queueClass q)
  | .loose p c => (poolSelNum p, c)

/-- A drop of an open packet is recorded when it is bound for a queue. -/
def dropBound (s : State) (b : Bound) (far : Bool) : State :=
  match b with
  | .queue q => recordDrop s q far
  | .loose _ _ => s

/-- The longest packet (R414). -/
def maxPacket : Nat := 1048576

/-- Write n bytes, within one word, of an open packet; `none` when the write closed it (R417, R421). -/
def writeWord (s : State) (p : Producer) (o : OpenPkt) (n : Nat) : Option OpenPkt × State :=
  if maxPacket < o.bytes + n then
    (none, (giveCells (s.closeOpen p) o.far false o.cells).bump (nearA 0x58) 1)
  else if o.cells * 256 < o.bytes + n then
    if s.dataFree o.far = 0 then
      (none, dropBound (countPoolDrop (giveCells (s.closeOpen p) o.far false o.cells) o.far) o.bound o.far)
    else
      let (c, s) := newCell s o.far []
      let o := { o with bytes := o.bytes + n, cells := o.cells + 1, rest := o.rest ++ [c] }
      (some o, (takeCell s o.far).setOpen p o)
  else
    let o := { o with bytes := o.bytes + n }
    (some o, s.setOpen p o)

/-- Open a packet with its first word (R416). -/
def openPacket (s : State) (p : Producer) (b : Bound) : State :=
  let (pool, cls) := boundPool b
  match s.choosePool pool cls with
  | .error far => dropBound (countPoolDrop s far) b far
  | .ok far =>
    let (h, s) := newHandle s far
    (takeCell s far).setOpen p { bound := b, far := far, handle := h, bytes := 8, cells := 1, mark := none }

/-- A producer writes a word of its open packet, or opens one. -/
def execPacketWordWrite (p : Producer) (b : Bound) (s : State) : Outcome State Fault Refusal :=
  match s.openPkt p with
  | none => .next (openPacket s p b)
  | some o => .next (writeWord s p o 8).2

/-- Bytes of the final word (1 to 8). -/
def lastBytes (k : Fin 8) : Nat := if k.val = 0 then 8 else k.val

def pktOf (i : PktInfo) : Pkt :=
  { counted := i.counted, launch := i.launch.map (·.toNat), exact := i.exact, tstamp := i.tstamp, body := [0] }

/-- The final word closes a packet bound for a queue with COMMIT (R417, R424). -/
def execPacketCommit (p : Producer) (last : Fin 8) (info : PktInfo) (s : State) : Outcome State Fault Refusal :=
  match s.openPkt p with
  | none => .next s
  | some o =>
    match o.bound with
    | .loose _ _ => .next s
    | .queue q =>
      match writeWord s p o (lastBytes last) with
      | (none, s) => .next s
      | (some o, s) => .next (commitCells (s.closeOpen p) q o.far o.handle o.bytes o.cells o.rest (pktOf info))

/-- The final word closes a packet loose; the producer receives its handle. -/
def execCommitLoose (p : Producer) (last : Fin 8) (s : State) : Outcome State Fault Refusal :=
  match s.openPkt p with
  | none => .next s
  | some o =>
    match o.bound with
    | .queue _ => .next s
    | .loose _ _ =>
      match writeWord s p o (lastBytes last) with
      | (none, s) => .next s
      | (some o, s) =>
        let s := s.closeOpen p
        .next { s with pan := { s.pan with loose := tput s.pan.loose o.handle { bytes := o.bytes, cells := o.cells, far := o.far, rest := o.rest, note := s.now % 2 ^ 28 } } }

/-- A producer's open packet is closed BAD: its cells return, nothing becomes visible. -/
def closeBad (s : State) (p : Producer) : State :=
  match s.openPkt p with
  | none => s
  | some o => (giveCells (s.closeOpen p) o.far false o.cells).bump (nearA 0x58) 1

def execCloseBad (p : Producer) (s : State) : Outcome State Fault Refusal := .next (closeBad s p)

/-- Link a loose packet to a queue by its handle (R418). -/
def execEnqueue (h : Nat) (q : Fin 33792) (info : PktInfo) (s : State) : Outcome State Fault Refusal :=
  match tfind s.pan.loose h with
  | none => .next (s.bump (nearA 0x68) 1)
  | some l =>
    let s := { s with pan := { s.pan with loose := tdel s.pan.loose h } }
    .next (commitCells s q l.far h l.bytes l.cells l.rest (pktOf info))

def execHandleRelease (h : Nat) (s : State) : Outcome State Fault Refusal := .next (releaseHandle s h)

/-- MARK: the open packet's present write position (R419). -/
def execMark (p : Producer) (s : State) : Outcome State Fault Refusal :=
  match s.openPkt p with
  | none => .next s
  | some o => .next (s.setOpen p { o with mark := some o.bytes })

/-- WREWIND: every word after the mark is discarded, and the cells they alone occupied return (R419). -/
def execWrewind (p : Producer) (s : State) : Outcome State Fault Refusal :=
  match s.openPkt p with
  | none => .next s
  | some o =>
    match o.mark with
    | none => .next s
    | some m =>
      let keep := cellsOf m
      .next ((giveCells s o.far false (o.cells - keep)).setOpen p { o with bytes := m, cells := keep, rest := o.rest.take (keep - 1) })

/-! ## Consumer operations (R422, R423) -/

/-- READ: the entry at the read position, or the last one again with UNDERRUN. -/
def execRead (q : Fin 33792) (s : State) : Outcome State Fault Refusal :=
  let x := s.queue q
  match x.entries[x.read]? with
  | some e =>
    .next (s.setQueue q { x with
      read := x.read + 1
      last := ({ handle := e.handle, bytes := e.bytes, gap := e.gap, note := e.note, under := false } : ReadOut) })
  | none => .next ((s.setQueue q { x with under := true, last := { x.last with under := true } }).bump (nearA 0x64) 1)

def execQueueMark (q : Fin 33792) (s : State) : Outcome State Fault Refusal :=
  let x := s.queue q
  .next (s.setQueue q { x with mark := some x.read })

def execRewind (q : Fin 33792) (s : State) : Outcome State Fault Refusal :=
  let x := s.queue q
  .next (match x.mark with
    | some m => s.setQueue q { x with read := m }
    | none => s)

/-- Free the first n entries of a queue. -/
def freeHead (s : State) (q n : Nat) : State :=
  let x := s.queue q
  let s := (x.entries.take n).foldl (fun s e => giveCells s e.far e.gap e.cells) s
  s.setQueue q { x with entries := x.entries.drop n, read := x.read - n, mark := x.mark.map fun m => m - n }

/-- RELEASE: entries up to the earlier of the read position and the mark. -/
def execRelease (q : Fin 33792) (s : State) : Outcome State Fault Refusal :=
  let x := s.queue q
  .next (freeHead s q (Nat.min x.read (x.mark.getD x.read)))

def execUnmark (q : Fin 33792) (s : State) : Outcome State Fault Refusal :=
  let x := s.queue q
  .next (s.setQueue q { x with mark := none })

/-- Empty a queue whole, as a port's link-down or a drain does. -/
def emptyQueue (s : State) (q : Nat) : State :=
  let x := s.queue q
  let s := x.entries.foldl (fun s e => giveCells s e.far e.gap e.cells) s
  s.setQueue q { x with entries := [], read := 0, mark := none, pend := 0 }

/-! ## Errors reported to the Bellboard (R502-R506) -/

/-- Offer an error to the log (R505). DESIGN CHOICE, log entry 136. -/
def logError (s : State) (e : ErrRec) : State :=
  if s.bell.log.length < 32 then
    let first := s.bell.log.isEmpty
    let s := { s with bell := { s.bell with log := s.bell.log ++ [e] } }
    if first then pulse s 20 else s
  else
    let s := s.bump 0x0020_002C 1
    if s.bell.fullSaid then s else pulse { s with bell := { s.bell with fullSaid := true } } 20

def sevNum : Severity → Nat
  | .corrected => 0 | .deferred => 1 | .fatal => 2

/-- The safe state of R506: outputs stop and every frame queued to send is discarded, source 19 is signalled to the
host whatever its DISABLE, stack and running priority; ALERT_N follows. DEDUCED, log entry 137. -/
def doubleFault (s0 : State) : State :=
  let s := s0
  let s := ((s.pan.queues.filter fun e => decide (e.1 < 32808)).map Prod.fst).foldl emptyQueue s
  let s := { s with bell := { s.bell with double := true }, gate := { s.gate with doubleFault := true } }
  let s := wakeHeld s0 (pendSource s 19)
  irqEdges s0 (
    if s0.bell.double then s
    else if s.hostReach then
      let s := leaveL1 s
      { sendMsix s (s.srcVector 19) with bell := { s.bell with hostSent := some 19, alertWait := true } }
    else { s with gate := { s.gate with alertN := true }, out := Out.alertN true :: s.out })

/-- A unit reports an error (R502, R503). -/
def reportError (s : State) (src : Nat) (sev : Severity) (i0 i1 : Word) : State :=
  let t : Word := s.blv.tb0.setWidth 32
  let s := s.bumpSat (0x0020_0020 + sevNum sev * 4) 1
  let fatalOpen := s.bell.levels.any fun l => l.sev == Severity.fatal
  let opens := match sev with
    | .corrected => false
    | .deferred => s.bell.levels.isEmpty
    | .fatal => !fatalOpen
  let e : ErrRec := { sev := sev, handled := opens, src := src, i0 := i0, i1 := i1, time := t }
  let s := logError s e
  if sev = .corrected then pulse s 16
  else if opens then
    pulse { s with bell := { s.bell with levels := e :: s.bell.levels } } (if sev = .deferred then 17 else 18)
  else if sev = .fatal then doubleFault s
  else s

/-- Two information words that a report leaves open. -/
def reportOpen (s : State) (src : Nat) (sev : Severity) : State :=
  let (a, s) := s.fresh
  let (b, s) := s.fresh
  reportError s src sev (Config.freeWord a) (Config.freeWord b)

end Sys2Proof.Machine
end

