-- ==== Sys2Proof/Machine/Hall.lean ====
section
/-!
DEFINITION. The Hall: items, flows, priorities, dispatch, flow timers, admission and the load ladder (R389-R412,
R573).
-/
namespace Sys2Proof.Machine

open Host

def halA (off : Nat) : Nat := 0x0030_0000 + off

/-! ## Flows and groups (R389, R390) -/

def flowClass (f : Nat) : Nat := f / 8192

/-- Consumer group of a flow. -/
def flowGroup (f : Nat) : Nat :=
  match flowClass f with
  | 0 => f % 4
  | 1 => f % 4
  | 2 => f % 4
  | 3 => 3
  | 4 => f % 8 / 2
  | _ => 4

def consumerGroup (k : Nat) : Nat := if k < 16 then k / 4 else 4

/-- Flow of a leg, and of a submission queue's doorbell work. -/
def legFlow (l : Nat) : Nat := l
/-- DESIGN CHOICE, log entry 127. -/
def doorbellFlow (q : Nat) : Nat := 0xA000 + q

def State.flow (s : State) (f : Nat) : Flow := tget {} s.hall.flows f

/-- Store a flow; one that is IDLE has no place in a list. -/
def State.setFlow (s : State) (f : Nat) (x : Flow) : State :=
  let x := if x.items.isEmpty && x.active.isNone then { x with join := 0, held := false, item := none } else x
  { s with hall := { s.hall with flows := tset {} s.hall.flows f x } }

/-- Highest priority among a flow's queued items; 15 when it has none (R393). -/
def Flow.prio (x : Flow) : Nat := x.items.foldl (fun p i => Nat.min p i.prio) 15

/-- The flow stands on a ready list (R394). -/
def Flow.ready (x : Flow) : Bool := x.active.isNone && !x.items.isEmpty

/-- Items of the Study partition (R391). -/
def studyItem (f : Nat) (i : Item) : Bool := flowClass f == 5 || flowClass f == 6 || i.prio == 0

/-- Group g has a flow on its priority-15 list. -/
def State.bgReady (s : State) (g : Nat) : Bool :=
  s.hall.flows.any fun e => e.2.ready && flowGroup e.1 == g && e.2.prio == 15

/-- Since when a group's priority-15 list has been non-empty (R396). -/
def bgUpdate (s : State) (g : Nat) : State :=
  if s.bgReady g then
    if (tfind s.hall.bgSince g).isSome then s
    else { s with hall := { s.hall with bgSince := tput s.hall.bgSince g s.cyc } }
  else { s with hall := { s.hall with bgSince := tdel s.hall.bgSince g, promote := s.hall.promote.filter (· != g) } }

/-- An item joins its flow (R393, R394, R399). -/
def joinItem (s : State) (f : Nat) (i : Item) : State :=
  let x := s.flow f
  let moves := x.active.isNone && (x.items.isEmpty || decide (i.prio < x.prio))
  let n := s.hall.nextJoin
  let timer := match x.timer with
    | some t => if t.waitAny then none else some t
    | none => none
  let x := { x with items := x.items ++ [i], timer := timer, join := if moves then n else x.join }
  let s := if moves then { s with hall := { s.hall with nextJoin := n + 1 } } else s
  bgUpdate (s.setFlow f x) (flowGroup f)

/-! ## Admission (R391, R401, R402) -/

/-- Free entries that a priority of the general pool needs (R401). -/
def prioReserve (p : Nat) : Nat := if p ≤ 1 then 1 else if p ≤ 3 then 1024 else if p ≤ 7 then 4096 else 8192

/-- Items a flow may hold (R402). -/
def State.flowLimit (s : State) : Nat := Nat.max 16 (bits (s.reg (halA 0x30)) 9 0)

/-- HALL_DROP, at most once per second (R410). -/
def hallDropEvent (s : State) (r : Option (Nat × Nat)) : State :=
  match r with
  | some (n, m) =>
    let s := pulse (event s 0x0011 0 (low n) (low m) (low s.hall.dropPrio) 0) 98
    { s with hall := { s.hall with dropPrio := 15 } }
  | none => s

/-- An item is dropped: its cells return, and the drop is counted. -/
def dropItem (s : State) (i : Item) (flowLimit : Bool) : State :=
  let s := match i.handle with
    | some h => releaseHandle s h
    | none => s
  let s := if flowLimit then s.bump (halA 0x80) 1 else s.bump (halA (0x40 + i.prio * 4)) 1
  let s := { s with hall := { s.hall with dropPrio := Nat.min s.hall.dropPrio i.prio } }
  let p := s.limit (objKey 0x0011 0) ctPerSec (if flowLimit then 0 else 1) (if flowLimit then 1 else 0)
  hallDropEvent p.2 p.1

/-- An item arrives for a flow: it is admitted, waits, or is dropped. DESIGN CHOICE, log entry 127. -/
def hallAdmit (s : State) (f : Nat) (i : Item) : State :=
  if flowClass f = 7 then
    (match i.handle with
      | some h => releaseHandle s h
      | none => s).bump (halA 0x80) 1
  else if studyItem f i then
    if s.hall.studyUse < 4096 then
      joinItem { s with hall := { s.hall with studyUse := s.hall.studyUse + 1 } } f i
    else { s with hall := { s.hall with waiting := s.hall.waiting ++ [(f, i)] } }
  else if 126976 - s.hall.genUse < prioReserve i.prio then dropItem s i false
  else if 1 < i.prio && s.flowLimit ≤ (s.flow f).items.length then dropItem s i true
  else
    let u := s.hall.genUse + 1
    joinItem { s with hall := { s.hall with genUse := u, usePeak := Nat.max s.hall.usePeak u } } f i

/-- An item of work would be admitted (R401, R402). -/
def State.hallTakes (s : State) (f : Nat) (i : Item) : Bool :=
  flowClass f != 7 && (studyItem f i ||
    (decide (prioReserve i.prio ≤ 126976 - s.hall.genUse) && (decide (i.prio ≤ 1) || decide ((s.flow f).items.length < s.flowLimit))))

/-- An item of work of a priority without cells of its own: whether it is admitted, and the state after (R389, R392). -/
def hallWork (s : State) (f prio : Nat) : Bool × State :=
  let i : Item := { kind := .work, prio := prio, handle := none, due := 0 }
  (s.hallTakes f i, hallAdmit s f i)

/-- Flow of a conference's packetisation, of a canvas stream's, and of a port (R389). -/
def confFlow (c : Nat) : Nat := 0x2000 + c
def canvasFlow (c i : Nat) : Nat := 0x4000 + c + 128 * i
def portFlow (p : Nat) : Nat := 0x8000 + p

/-- The doorbell item of a submission queue; one that waits already takes in the next (R391, R392). -/
def doorbellItem (s : State) (q : Nat) : State :=
  let f := doorbellFlow q
  if (s.flow f).items.any (fun i => i.kind == .doorbell) || s.hall.waiting.any (fun w => w.1 == f) then s
  else hallAdmit s f { kind := .doorbell, prio := 10, handle := none, due := 0 }

/-- Entries of an item return; waiting producers of the Study partition go on. -/
def freeItem (s : State) (f : Nat) (i : Item) : State :=
  if i.kind == .timeout then s
  else if studyItem f i then
    match s.hall.waiting with
    | [] => { s with hall := { s.hall with studyUse := s.hall.studyUse - 1 } }
    | (g, j) :: r => joinItem { s with hall := { s.hall with waiting := r } } g j
  else { s with hall := { s.hall with genUse := s.hall.genUse - 1 } }

/-- Items behind a STOP are discarded (R95, R400). -/
def discardItems (s : State) (f : Nat) (l : List Item) : State :=
  l.foldl (fun s i =>
    freeItem (match i.handle with
      | some h => releaseHandle s h
      | none => s) f i) s

/-! ## Dispatch and release (R394-R398) -/

/-- The consumer is a powered, running core that serves nothing. -/
def State.consumerIdle (s : State) (k : Nat) : Bool :=
  s.running && (decide (16 ≤ k) || s.dom (68 + k / 4)) &&
  !s.hall.flows.any fun e => match e.2.active with
    | some (j, _) => j == k
    | none => false

/-- The better ready flow: lower priority number, then earlier join. -/
def readyBetter (a b : Nat × Flow) : Bool :=
  decide (a.2.prio < b.2.prio) || (a.2.prio == b.2.prio && decide (a.2.join < b.2.join))

def firstReady : List (Nat × Flow) → Option (Nat × Flow)
  | [] => none
  | a :: r => match firstReady r with
    | none => some a
    | some b => if readyBetter a b then some a else some b

/-- The flow that group g serves next, and whether it is a promoted one (R395, R396). -/
def State.nextFlow (s : State) (g : Nat) : Option (Nat × Flow) × Bool :=
  let l := s.hall.flows.filter fun e => e.2.ready && flowGroup e.1 == g
  let bg := firstReady (l.filter fun e => e.2.prio == 15)
  if s.hall.promote.contains g && bg.isSome then (bg, true) else (firstReady l, false)

/-- A dispatch from a group's priority-15 list restarts its wait. -/
def bgServed (s : State) (g : Nat) : State :=
  bgUpdate { s with hall := { s.hall with bgSince := tdel s.hall.bgSince g, promote := s.hall.promote.filter (· != g) } } g

/-- An idle core takes a flow's head item. Answers the flow and the item. -/
def hallDispatch (s : State) (k : Nat) : Option (Nat × Item) × State :=
  let g := consumerGroup k
  if !s.consumerIdle k then (none, s)
  else match s.nextFlow g with
    | (none, _) => (none, s)
    | (some (f, x), promoted) =>
      match x.items with
      | [] => (none, s)
      | i :: rest =>
        let s := if promoted then s.bump (halA (0x300 + g * 4)) 1 else s
        let bg := x.prio == 15
        let s := s.bump64 (halA 0x98) 1
        let stop := i.kind == .stop && flowClass f == 0
        let x := { x with active := some (k, s.cyc), held := false, items := if stop then [] else rest,
                          timer := if stop then none else x.timer, item := some i }
        let s := freeItem (s.setFlow f x) f i
        let s := if stop then discardItems s f rest else s
        (some (f, i), if bg then bgServed s g else bgUpdate s g)

/-- The TIMEOUT item of a flow's timer joins it (R399, R400). -/
def fireTimer (s : State) (f : Nat) : State :=
  let x := s.flow f
  match x.timer with
  | none => s
  | some t =>
    let s := (s.setFlow f { x with timer := none }).bump64 (halA 0x90) 1
    joinItem s f { kind := .timeout, prio := t.prio, handle := none, due := t.due }

/-- A timer is armed; a deadline that has passed fires at once (R400). -/
def armTimer (s : State) (f : Nat) (t : FlowTimer) : State :=
  let s := s.setFlow f { s.flow f with timer := some t }
  if t.due ≤ s.now then fireTimer s f else s

/-- The flow that a consumer serves. -/
def State.serving (s : State) (k : Nat) : Option Nat :=
  (s.hall.flows.find? fun e => match e.2.active with
    | some (j, _) => j == k
    | none => false).map Prod.fst

/-- A flow's service ends (R397). -/
def releaseFlow (s : State) (f : Nat) : State :=
  let n := s.hall.nextJoin
  let s := s.setFlow f { s.flow f with active := none, item := none, join := n }
  bgUpdate { s with hall := { s.hall with nextJoin := n + 1 } } (flowGroup f)

/-- What a done write does with the flow's timer (R399). -/
def setTimer (s : State) (f : Nat) (arm : TimerArm) : State :=
  match arm with
  | .keep => s
  | .disarm => s.setFlow f { s.flow f with timer := none }
  | .waitAny d p => armTimer s f { due := d.toNat, waitAny := true, prio := p }
  | .deadline d p => armTimer s f { due := d.toNat, waitAny := false, prio := p }

/-- Everything that waits in a flow is discarded, and its timer is unarmed. -/
def dropFlow (s : State) (f : Nat) : State :=
  let x := s.flow f
  let s := discardItems (s.setFlow f { x with items := [], timer := none }) f x.items
  bgUpdate { s with hall := { s.hall with waiting := s.hall.waiting.filter fun w => w.1 != f } } (flowGroup f)

/-- The flow's item in service is a TIMEOUT (R573). -/
def State.timeoutServed (s : State) (f : Nat) : Bool :=
  match (s.flow f).item with
  | some i => i.kind == .timeout
  | none => false

/-- TB0 reaches an armed deadline. -/
def execHallTimeout (f : Fin 65536) (s : State) : Outcome State Fault Refusal :=
  match (s.flow f).timer with
  | some t => .next (if t.due ≤ s.now then fireTimer s f else s)
  | none => .next s

/-- A group's priority-15 list has waited 70,560 ct (R396). -/
def execPriorityPromotion (g : Fin 5) (s : State) : Outcome State Fault Refusal :=
  match tfind s.hall.bgSince g with
  | some t =>
    if t + 70560 ≤ s.cyc then .next { s with hall := { s.hall with promote := linsert s.hall.promote g } } else .next s
  | none => .next s

/-- A flow has stayed ACTIVE for more than 70,560 ct (R398). -/
def execFlowHoldOver (f : Fin 65536) (s : State) : Outcome State Fault Refusal :=
  let x := s.flow f
  match x.active with
  | some (_, t) =>
    if !x.held && t + 70560 < s.cyc then
      let s := (s.setFlow f { x with held := true }).bump (halA 0x84) 1
      .next (pulse (reportOpen s 97 .deferred) 97)
    else .next s
  | none => .next s

/-! ## The load ladder (R403-R409) -/

def State.enterAt (s : State) (n : Nat) : Nat := bits (s.reg (halA (0x0C + n * 4))) 9 0
def State.exitAt (s : State) (n : Nat) : Nat := bits (s.reg (halA (0x0C + n * 4))) 25 16
def State.exitHold (s : State) : Nat := Nat.max 70560 (s.reg (halA 0x20)).toNat

/-- FORCE_MIN; 5 to 7 are taken as 4. -/
def State.forceMin (s : State) : Nat := Nat.min 4 (bits (s.reg (halA 0x04)) 2 0)

/-- The load sample (R403). -/
def State.loadNow (s : State) : Nat :=
  Nat.max (1024 * s.hall.genUse / 126976) (1024 * s.pan.near.inUse / 98304)

/-- Highest step above the present one whose entry threshold the sample reaches. -/
def State.risesTo (s : State) (u : Nat) : Option Nat :=
  ([4, 3, 2, 1].find? fun n => decide (s.hall.computed < n) && decide (s.enterAt n ≤ u))

/-- The computed step and the run below its exit threshold, after a sample (R404). -/
def ladderStep (s : State) (u : Nat) : Nat × Option Nat :=
  let n := s.hall.computed
  match s.risesTo u with
  | some m => (m, none)
  | none =>
    if 1 ≤ n && u < s.exitAt n then
      let t := s.hall.below.getD s.now
      if t + s.exitHold ≤ s.now then
        (n - 1, if 1 ≤ n - 1 && u < s.exitAt (n - 1) then some s.now else none)
      else (n, some t)
    else (n, none)

/-- The Hall's part of a load sample: u, the ladder, LADDER_CHANGED, HALL_DROP. -/
def hallSample (s : State) : State :=
  let u := s.loadNow
  let (c, below) := ladderStep s u
  let old := s.hall.step
  let step := Nat.max c s.forceMin
  let forced := decide (c < s.forceMin)
  let s := { s with hall := { s.hall with u := u, computed := c, below := below, step := step,
                                          lastBlock := some (s.now / 70560) } }
  let s := if step = old then s
    else pulse ((event s 0x0010 0 (low (step + old * 16 + if forced then 256 else 0)) (low u) (low (s.now / 70560)) 0).bump
      (halA 0x88) 1) 96
  let p := s.limitDue (objKey 0x0011 0) ctPerSec
  hallDropEvent p.2 p.1

/-- A write of HAL_LADDER_CTRL (R408). -/
def execLadderForceWrite (r : Requester) (v : Word) (s : State) : Outcome State Fault Refusal :=
  let s := hostArrives s r
  .next (if s.coreOn then s.setReg (halA 0x04) (v &&& 7) else s)

/-- Every EXIT lies below its ENTER and the ENTERs rise (R405). -/
def State.ladderOk (s : State) : Bool :=
  (List.range 4).all (fun n => decide (s.exitAt (n + 1) < s.enterAt (n + 1))) &&
  decide (s.enterAt 1 < s.enterAt 2) && decide (s.enterAt 2 < s.enterAt 3) && decide (s.enterAt 3 < s.enterAt 4)

/-- A write of HAL_LADDERn. -/
def writeLadder (s : State) (n : Nat) (v : Word) : State :=
  let t := s.setReg (halA (0x10 + n * 4)) (v &&& 0x03FF_03FF)
  if t.ladderOk then t else { s with hall := { s.hall with cfgErr := true } }

def execLadderThresholdWrite (r : Requester) (n : Fin 4) (v : Word) (s : State) : Outcome State Fault Refusal :=
  let s := hostArrives s r
  .next (if s.coreOn then writeLadder s n v else s)

end Sys2Proof.Machine
end

