-- ==== Sys2Proof/Machine/Lifecycle.lean ====
section
/-!
DEFINITION. The four states of every configurable object, and the shared part of START, STOP and GET_STATE
(R65, R66).
-/
namespace Sys2Proof.Machine

/-- STARTING, RUNNING or DRAINING. DEDUCED, log entry 29. -/
def State.live (s : State) (k : Nat) : Bool := (s.obj k).st != .stopped

/-- RUNNING or DRAINING: the object works. DEDUCED, log entry 36. -/
def State.working (s : State) (k : Nat) : Bool := (s.obj k).st == .running || (s.obj k).st == .draining

def State.starting (s : State) (k : Nat) : Bool := (s.obj k).st == .starting
def State.draining (s : State) (k : Nat) : Bool := (s.obj k).st == .draining

/-- Complete every command of a list with OK, in order. -/
def finishAll (op : BitVec 16) : List Cmd → State → State
  | [], s => s
  | c :: r, s => finishAll op r (finish s op c stOk)

/-- Opcodes of a range. -/
def startOp (range : Nat) : BitVec 16 := BitVec.ofNat 16 (range * 256 + 1)
def stopOp (range : Nat) : BitVec 16 := BitVec.ofNat 16 (range * 256 + 2)

/-- The object reaches STOPPED: every STOP that waits completes with OK. -/
def reachStopped (s : State) (range num : Nat) : State :=
  let k := objKey range num
  let o := s.obj k
  finishAll (stopOp range) o.stoppers
    (s.setObj k { o with st := .stopped, starter := none, stoppers := [], abort := false, since := s.cyc })

/-- START as far as every range has it: group 1, the object's state, the parameter word, group 3; then STARTING, and
what the range does then. `note` counts a refusal of group 3. DEDUCED, log entry 27. -/
def startCmd (s : State) (range : Nat) (c : Cmd) (objOk powered : Bool) (g1 g3 : State → List (Bool × Status))
    (note begun : State → State) : State :=
  let op := startOp range
  let k := objKey range c.num
  runCmd s op c 1 1 objOk powered fun s =>
    checked s op c (g1 s ++ [(!s.stopped k, stWrongState), (c.word 4 != 0, stBadField)]) fun s =>
      match firstFail (g3 s) with
      | some st => finish (note s) op c st
      | none => begun (s.setObj k { s.obj k with st := .starting, starter := some c, stoppers := [], abort := false, since := s.cyc })

/-- A status with which a START that an ABORT ends may complete: one of R59's shared codes that refuse. DEDUCED, log entry 26. -/
def cutShort (k : Nat) : Status :=
  let l := [stNotStopped, stBusy, stNoResource, stWrongState, stLocked, stAlarm, stPowerState]
  l.getD (k % l.length) stNoResource

/-- STOP: at once on a STOPPED object, with ABORT on a STARTING one, else a drain that `drain` begins or cuts short; `undo` gives
back what a STARTING object reserved. The status of a START that an ABORT ends is open.
DEDUCED, log entry 26. DEDUCED, log entry 27. -/
def stopCmd (s : State) (range : Nat) (c : Cmd) (objOk powered : Bool) (g1 : State → List (Bool × Status))
    (undo : State → State) (drain : State → Bool → State) : State :=
  let op := stopOp range
  let k := objKey range c.num
  let ab := bit (c.word 4) 0
  runCmd s op c 1 1 objOk powered fun s =>
    checked s op c (g1 s ++ [(s.starting k && !ab, stWrongState), (bits (c.word 4) 31 1 != 0, stBadField)]) fun s =>
      let o := s.obj k
      match o.st with
      | .stopped => finish s op c stOk
      | .starting =>
        let (n, s) := s.fresh
        let s := match o.starter with
          | some b => finish s (startOp range) b (cutShort (Config.freeNat n))
          | none => s
        finish (undo (s.setObj k { s.obj k with st := .stopped, starter := none, since := s.cyc })) op c stOk
      | .running =>
        drain (s.setObj k { o with st := .draining, stoppers := [c], abort := ab, since := s.cyc }) ab
      | .draining =>
        let s := s.setObj k { o with stoppers := o.stoppers ++ [c], abort := o.abort || ab }
        if ab then drain s true else s

def objStateNum : ObjState → Nat
  | .stopped => 0 | .starting => 1 | .running => 2 | .draining => 3

/-- GET_STATE: state, generation and what the range adds; an object whose domain is off reports STOPPED (R62). -/
def getStateCmd (s : State) (range : Nat) (c : Cmd) (objOk powered : Bool) (r2 : State → Word) : State :=
  let op := BitVec.ofNat 16 (range * 256 + 3)
  let k := objKey range c.num
  runCmd s op c 1 1 objOk true fun s =>
    checked s op c [(c.word 4 != 0, stBadField)] fun s =>
      complete s op c stOk (low (if powered then objStateNum (s.obj k).st else 0)) (s.obj k).gen (r2 s) 0

/-- The Study grants or refuses what a STARTING object needs: START completes with OK and RUNNING, or with the
refusing status and STOPPED. -/
def settleStart (s : State) (range num : Nat) (refused : Option Status) : State :=
  let k := objKey range num
  let o := s.obj k
  let s := s.setObj k { o with st := if refused.isNone then .running else .stopped, starter := none, since := s.cyc }
  match o.starter with
  | some c => finish s (startOp range) c (refused.getD stOk)
  | none => s

/-- A command whose host buffer the Porch reaches: it leaves L1 first; without a reachable host it stays in flight.
DEDUCED, log entry 22. -/
def viaHost (s : State) (go : State → State) : State := if s.hostReach then go (belSignal (leaveL1 s)) else s

end Sys2Proof.Machine
end

