-- ==== Sys2Proof/Machine/Belvedere.lean ====
section
/-!
DEFINITION. The Belvedere: the four time bases, their single steps and rates, the lock of TB0 to PTP, stamps,
the transmit stamp queue, the capture and trigger pins and the Study servo (R461-R488).
-/
namespace Sys2Proof.Machine

open Host

/-! ## Bases -/

/-- Values a PTP base takes: 48-bit seconds in units of 2^-40 ns (R461). -/
def ptpMod : Nat := 2 ^ 48 * 10 ^ 9 * 2 ^ 40

/-- Seconds, ns and 16-bit fractional ns of a PTP value. -/
def ptpSec (v : Nat) : Nat := v / (10 ^ 9 * 2 ^ 40)
def ptpNs (v : Nat) : Nat := v / 2 ^ 40 % 10 ^ 9
def ptpFrac (v : Nat) : Nat := v / 2 ^ 24 % 2 ^ 16

/-- Seconds [47:32] and fractional ns in one word. -/
def ptpSecHi (v : Nat) : Word := low (ptpFrac v * 2 ^ 16 + ptpSec v / 2 ^ 32 % 2 ^ 16)

/-- A PTP value moved by a signed amount of 2^-40 ns. -/
def ptpAdd (v : Nat) (d : Int) : Nat := (((v : Int) + d) % (ptpMod : Int)).toNat

/-- The nominal increment of a CK_CT cycle, to the nearest 2^-40 ns (R464). -/
def nominalInc : Nat := (10 ^ 9 * 2 ^ 40 + 35280000) / 70560000

/-- The increment at a rate offset, truncated (R464). -/
def rateInc (r : Int) : Nat := ((nominalInc : Int) * (2 ^ 40 + r) / 2 ^ 40).toNat

/-- The further rate of a relock (R470). DEDUCED, log entry 134. -/
def slewRate : Int := 109951163

/-- Base 1 or 2 of the Belvedere. -/
def Belvedere.base (b : Belvedere) (two : Bool) : PtpBase := if two then b.tb2 else b.tb1

def Belvedere.setBase (b : Belvedere) (two : Bool) (p : PtpBase) : Belvedere :=
  if two then { b with tb2 := p } else { b with tb1 := p }

/-- The base is TB0's lock base now. -/
def Belvedere.isLock (b : Belvedere) (two : Bool) : Bool := b.lock == some two

/-- Increment of a base in one CK_CT cycle: the lock base keeps its nominal increment, and a relock's further rate
does not reach it (R464, R469, R470). -/
def Belvedere.inc (b : Belvedere) (two : Bool) : Nat :=
  let p := b.base two
  if b.isLock two then
    match b.slew with
    | some d => (nominalInc * 2 ^ 40) / (2 ^ 40 + (if d < 0 then -slewRate else slewRate)).toNat
    | none => nominalInc
  else rateInc p.rate

/-- A base one CK_CT cycle later. -/
def Belvedere.stepBase (b : Belvedere) (two : Bool) : PtpBase :=
  let p := b.base two
  if p.armed then { p with val := (p.val + b.inc two) % ptpMod } else p

/-- What is left of a relock offset after one more cycle (R470). DEDUCED, log entry 134. -/
def slewLeft (d : Int) : Int :=
  if d < 0 then min 0 (d + slewRate) else max 0 (d - slewRate)

/-- Advance TB3 by whole REFCLK cycles: 625/1764 of a cycle per CK_CT cycle at rate 0 (R462, R463). -/
def Belvedere.refclk (b : Belvedere) : Belvedere :=
  let unit := 1764 * (2 ^ 40 + b.rate0).toNat
  let p := b.phase + 625 * 2 ^ 40
  if unit ≤ p then { b with phase := p - unit, tb3 := b.tb3 + 40 } else { b with phase := p }

/-- One CK_CT cycle of the time bases. DEDUCED, log entry 133. -/
def Belvedere.tick (b : Belvedere) : Belvedere :=
  let t1 := b.stepBase false
  let t2 := b.stepBase true
  { b.refclk with tb0 := b.tb0 + 1, tb1 := t1, tb2 := t2, slew := b.slew.map slewLeft }

/-! ## Commands on the bases -/

/-- Every object of R467 is STOPPED. -/
def State.mediaStopped (s : State) : Bool :=
  s.objs.all fun e =>
    let r := e.1 / 2 ^ 32
    e.2.st == .stopped ||
    !((r == 4 && e.1 % 2 ^ 32 < 8192) || r == 7 || r == 8 || r == 10 || r == 11 || r == 12 || r == 13 || r == 14)

def stStepUsed : Status := 0x1201
def stMediaRunning : Status := 0x1202

/-- Object number of a PTP base. -/
def baseObj (two : Bool) : Word := if two then 2 else 1

/-- TIME_LOCK; source 74 pulses (R486, R491). -/
def timeLock (s : State) (two : Bool) (state : Word) (offset : Int) : State :=
  pulse (event s 0x0214 (baseObj two) state (wordOfInt offset) 0 0) 74

/-- TB0 loses its lock base (R470). -/
def enterHoldover (s : State) (two : Bool) : State :=
  let off := (s.blv.slew.getD 0) / 2 ^ 40
  timeLock { s with blv := { s.blv with lock := none, holdover := true, slew := none } } two 0 off

/-- The servo of a base, and its replacement. -/
def Belvedere.servo (b : Belvedere) (two : Bool) : Servo := if two then b.servo2 else b.servo1
def Belvedere.setServo (b : Belvedere) (two : Bool) (v : Servo) : Belvedere :=
  if two then { b with servo2 := v } else { b with servo1 := v }

/-- Arm a base from 0, or disarm it (R464, R470). -/
def armBase (s : State) (two : Bool) (en : Bool) : State :=
  let p := s.blv.base two
  if !en && !p.armed then s
  else
    let s := if s.blv.isLock two then enterHoldover s two else s
    let b := s.blv.setBase two { armed := en, stepped := false, val := 0, rate := 0 }
    let v := b.servo two
    { s with blv := b.setServo two { v with usedStep := false, state := 0 } }

/-- TIME_ARM (R464). -/
def execTimeArm (c : Cmd) (s : State) : Outcome State Fault Refusal :=
  .next (runCmd s 0x0210 c 1 1 (c.num == 1 || c.num == 2) true fun s =>
    checked s 0x0210 c [(bits (c.word 4) 31 1 != 0, stBadField)] fun s =>
      finish (armBase s (c.num == 2) (bit (c.word 4) 0)) 0x0210 c stOk)

/-- TIME_STEPPED of a base (R486). -/
def timeStepped (s : State) (obj : Word) (off : Nat) : State :=
  event s 0x0210 obj (low off) (high off) (s.blv.tb0.setWidth 32) 0

/-- Add an offset, in two's complement of 64 bits, to a base in one cycle (R465). -/
def applyStep (s : State) (num : Nat) (off : Nat) : State :=
  let b := s.blv
  let s :=
    if num = 0 then { s with blv := { b with tb0 := b.tb0 + BitVec.ofNat 64 off, stepped0 := true } }
    else
      let two := num == 2
      let p := b.base two
      { s with blv := b.setBase two { p with stepped := true, val := ptpAdd p.val (signed64 off * 2 ^ 40) } }
  timeStepped s (low num) off

/-- A base's step has been used. -/
def State.baseStepped (s : State) (num : Nat) : Bool :=
  if num = 0 then s.blv.stepped0 else (s.blv.base (num == 2)).stepped

def State.baseArmed (s : State) (num : Nat) : Bool := num == 0 || (s.blv.base (num == 2)).armed

/-- Checks of 0x0211 in their order (R60). -/
def State.timeStepChecks (s : State) (c : Cmd) : List (Bool × Status) :=
  [(!s.baseArmed c.num, stWrongState), (s.baseStepped c.num, stStepUsed),
   (c.num == 0 && !s.mediaStopped, stMediaRunning)]

/-- TIME_STEP (R465, R467). -/
def execTimeStep (c : Cmd) (s : State) : Outcome State Fault Refusal :=
  .next (runCmd s 0x0211 c 1 1 (decide (c.num ≤ 2)) true fun s =>
    checked s 0x0211 c (s.timeStepChecks c) fun s =>
      let s := applyStep s c.num (dword (c.word 4) (c.word 5))
      complete s 0x0211 c stOk (s.blv.tb0.setWidth 32) 0 0 0)

/-- The largest rate offset (R466). -/
def rateMax : Int := 549755813

/-- Put a rate in force on a base; on the lock base it steers the PLL (R466, R469, R470). -/
def setRate (s : State) (num : Nat) (r : Int) : State :=
  let b := s.blv
  if num = 0 then { s with blv := { b with rate0 := r } }
  else
    let two := num == 2
    let b' := b.setBase two { b.base two with rate := r }
    if b.isLock two then
      let extra := match b.slew with
        | some d => if d < 0 then -slewRate else slewRate
        | none => 0
      { s with blv := { b' with rate0 := r + extra } }
    else { s with blv := b' }

/-- Checks of 0x0212 in their order (R60). -/
def State.timeRateChecks (s : State) (c : Cmd) : List (Bool × Status) :=
  let r := (c.word 4).toInt
  [(!s.baseArmed c.num, stWrongState), (c.num == 0 && s.blv.lock.isSome, stWrongState),
   (decide (rateMax < r) || decide (r < -rateMax), stBadField)]

/-- TIME_RATE (R466). -/
def execTimeRate (c : Cmd) (s : State) : Outcome State Fault Refusal :=
  .next (runCmd s 0x0212 c 1 1 (decide (c.num ≤ 2)) true fun s =>
    let r := (c.word 4).toInt
    checked s 0x0212 c (s.timeRateChecks c) fun s =>
      finish (setRate s c.num r) 0x0212 c stOk)

/-- TIME_READ: every value from one cycle (R483). -/
def execTimeRead (c : Cmd) (s : State) : Outcome State Fault Refusal :=
  .next (runCmd s 0x0213 c 1 1 (decide (c.num ≤ 3)) true fun s =>
    let t0 := s.blv.tb0.toNat
    let t3 := s.blv.tb3.toNat
    if c.num = 0 then complete s 0x0213 c stOk (low t0) (high t0) (low t3) (high t3)
    else if c.num = 3 then complete s 0x0213 c stOk (low t3) (high t3) (low t0) (high t0)
    else
      let v := (s.blv.base (c.num == 2)).val
      complete s 0x0213 c stOk (low (ptpNs v)) (low (ptpSec v)) (ptpSecHi v) (low t0))

/-- TB0 as a PTP base tells it (R469, R471). -/
def computedTb0 (v : Nat) : Nat := nsToCt (ptpSec v) (ptpNs v) % 2 ^ 64

/-- CT_REF strap (R543). -/
def State.ctRef (s : State) : Bool := s.gate.straps.getLsbD 17

/-- The signed offset of a relock: computed TB0 less TB0. -/
def relockOffset (s : State) (two : Bool) : Int :=
  signed64 ((computedTb0 (s.blv.base two).val + 2 ^ 64 - s.blv.tb0.toNat) % 2 ^ 64)

/-- First lock of TB0 (R469). -/
def firstLock (s : State) (two : Bool) : State :=
  let b := s.blv
  let new := computedTb0 (b.base two).val
  let off := (new + 2 ^ 64 - b.tb0.toNat) % 2 ^ 64
  let b := { b with tb0 := BitVec.ofNat 64 new, stepped0 := true, lock := some two, lockBase2 := two, holdover := false,
                    rate0 := (b.base two).rate }
  timeLock (timeStepped { s with blv := b } 0 off) two 1 0

/-- Relock from holdover by slewing (R470). -/
def relock (s : State) (two : Bool) (off : Int) : State :=
  let b := s.blv
  { s with blv := { b with lock := some two, lockBase2 := two, holdover := false, slew := some (off * 2 ^ 40),
                           rate0 := (b.base two).rate + (if off < 0 then -slewRate else slewRate) } }

/-- TIME_TB0_LOCK (R469, R470). -/
def execTimeTb0Lock (c : Cmd) (s : State) : Outcome State Fault Refusal :=
  .next (runCmd s 0x0214 c 1 1 (c.num == 1 || c.num == 2) true fun s =>
    let two := c.num == 2
    let p := s.blv.base two
    if s.blv.holdover then
      let off := relockOffset s two
      checked s 0x0214 c
        [(!s.ctRef || !p.armed || !p.stepped || decide (70560 < off) || decide (off < -70560), stWrongState)] fun s =>
        let n := (off % 2 ^ 64).toNat
        complete (relock s two off) 0x0214 c stOk (low n) (high n) 0 0
    else
      checked s 0x0214 c
        [(!s.ctRef || !p.armed || !p.stepped || s.blv.stepped0 || !s.mediaStopped, stWrongState)] fun s =>
        let s := firstLock s two
        complete s 0x0214 c stOk (low s.now) (high s.now) 0 0)

/-- The relock offset has reached 0 (R470). -/
def execRelockSlewDone (s : State) : Outcome State Fault Refusal :=
  let b := s.blv
  match b.lock, b.slew with
  | some two, some d =>
    if d = 0 then .next (timeLock { s with blv := { b with slew := none, rate0 := (b.base two).rate } } two 2 0)
    else .next s
  | _, _ => .next s

/-! ## Ports (R473, R474) -/

def Belvedere.port (b : Belvedere) (n : Nat) : StampPort := tget {} b.ports n
def State.setStampPort (s : State) (n : Nat) (p : StampPort) : State :=
  { s with blv := { s.blv with ports := tset {} s.blv.ports n p } }

/-- A latency constant in ns, Q16.16 (R471, R474). -/
def latQ16 (ct : Nat) : Word := low ((ctToNs ct).2 * 2 ^ 16)

/-- Load the constants of R473 into a port's compensation (R474). -/
def loadComp (s : State) (n rx tx : Nat) : State :=
  s.setStampPort n { s.blv.port n with rxlat := latQ16 rx, txlat := latQ16 tx, asym := 0, rxCt := rx, txCt := tx }

/-- Key of port n in range 0x04. -/
def portKey (n : Nat) : Nat := objKey 4 (0x10000 + n)

/-- Checks of 0x0215 in their order (R60). -/
def State.timePortCompChecks (s : State) (c : Cmd) : List (Bool × Status) :=
  let n := c.num - 0x10000
  let w := c.word 4
  let dflt := bit w 1
  let lim := 10000 * 2 ^ 16
  [(!s.isRunning (portKey n), stWrongState), (bits w 31 2 != 0, stBadField),
   (!dflt && (decide (lim < (c.word 5).toNat) || decide (lim < (c.word 6).toNat)), stBadField),
   (!dflt && (decide ((lim : Int) < (c.word 7).toInt) || decide ((c.word 7).toInt < -(lim : Int))), stBadField)]

/-- TIME_PORT_COMP (R474, R484). -/
def execTimePortComp (c : Cmd) (s : State) : Outcome State Fault Refusal :=
  .next (runCmd s 0x0215 c 1 1 (decide (0x10000 ≤ c.num) && s.portPresent (c.num - 0x10000)) (s.portPowered (c.num - 0x10000)) fun s =>
    let n := c.num - 0x10000
    let w := c.word 4
    let dflt := bit w 1
    checked s 0x0215 c (s.timePortCompChecks c) fun s =>
      let p := { s.blv.port n with base2 := bit w 0 }
      let p := if dflt then { p with rxlat := latQ16 p.rxCt, txlat := latQ16 p.txCt, asym := 0 }
               else { p with rxlat := c.word 5, txlat := c.word 6, asym := c.word 7 }
      finish (s.setStampPort n p) 0x0215 c stOk)

/-- A base's value at a capture: refined by 1/64 of a ct (R473). -/
def Belvedere.capture (b : Belvedere) (two : Bool) (fine : Nat) : Nat :=
  let p := b.base two
  if p.armed then (p.val + fine * b.inc two / 64) % ptpMod else 0

/-- Ingress PTP stamp of a port (R474). -/
def rxStamp (s : State) (n fine : Nat) : Rxts :=
  let q := s.blv.port n
  let p := s.blv.base q.base2
  let v := s.blv.capture q.base2 fine
  { stamp := if p.armed then ptpAdd v ((q.asym.toInt - (q.rxlat.toNat : Int)) * 2 ^ 24) else 0,
    valid := true, epoch := p.stepped, base2 := q.base2, baseOff := !p.armed }

/-- Egress PTP stamp of a port, as an entry of the transmit stamp queue (R474, R477). -/
def txStampEntry (s : State) (n fine : Nat) (tag : BitVec 16) : Txts :=
  let q := s.blv.port n
  let p := s.blv.base q.base2
  let v := s.blv.capture q.base2 fine
  { tag := tag, port := n, base2 := q.base2, epoch := p.stepped, baseOff := !p.armed,
    stamp := if p.armed then ptpAdd v ((q.txlat.toNat : Int) * 2 ^ 24) else 0, tb0 := s.blv.tb0.setWidth 32 }

/-- Key of a limited event without an object. -/
def limitKey (code obj : Nat) : Nat := code * 2 ^ 32 + obj

/-- Raise TIME_TXTS_LOST if its period has passed (R478). -/
def txtsLost (s : State) (n : Nat) : State :=
  match (if n = 0 then s.limitDue (limitKey 0x0212 0) ctPerSec else s.limit (limitKey 0x0212 0) ctPerSec n 0) with
  | (some (k, _), s) => pulse (event s 0x0212 0 (low k) 0 0 0) 65
  | (none, s) => s

/-- A transmit stamp enters its queue, or is lost when it holds 64 entries (R477, R478). -/
def pushTxts (s : State) (e : Txts) : State :=
  if 64 ≤ s.blv.txts.length then txtsLost (s.bump 0x0060_011C 1) 1
  else
    let first := s.blv.txts.isEmpty
    let s := { s with blv := { s.blv with txts := s.blv.txts ++ [e] } }
    if first then pulse (event s 0x0211 0 1 0 0 0) 64 else s

/-- A write of BLV_TXTS_POP (R477). -/
def execTxtsPop (r : Requester) (v : Word) (s : State) : Outcome State Fault Refusal :=
  let s := hostArrives s r
  .next (if s.timeOn && bit v 0 then
      txtsLost { s with blv := { s.blv with txts := s.blv.txts.drop 1 } } 0
    else s)

/-- Capture all four bases in one cycle (R487). -/
def latchBases (s : State) : State :=
  let b := s.blv
  { s with blv := { b with lat0 := b.tb0, lat1 := b.tb1.val, lat2 := b.tb2.val, lat3 := b.tb3 } }

/-- A write of BLV_LATCH. -/
def execBaseLatch (r : Requester) (v : Word) (s : State) : Outcome State Fault Refusal :=
  let s := hostArrives s r
  .next (if s.timeOn && bit v 0 then latchBases s else s)

/-! ## Pins (R480) -/

def State.pin (s : State) (k : Nat) : Pin := tget {} s.blv.pins k
def State.setPin (s : State) (k : Nat) (p : Pin) : State := { s with blv := { s.blv with pins := tset {} s.blv.pins k p } }

/-- TB0 instant of the next whole second of a PTP base (R480). -/
def nextSecond (s : State) (two : Bool) : Nat := s.now + nsToCt 0 (10 ^ 9 - ptpNs (s.blv.base two).val)

/-- TB0 instant of the whole second after the one at which a pulse has just begun (R480). DEDUCED, log entry 175. -/
def secondAfter (s : State) (two : Bool) : Nat :=
  let left := 10 ^ 9 - ptpNs (s.blv.base two).val
  s.now + nsToCt 0 (if left < 500000000 then left + 10 ^ 9 else left)

/-- First instant of a trigger series that has not passed (R480). -/
def firstInstant (start period now : Nat) : Option Nat :=
  if now ≤ start then some start
  else if period = 0 then none
  else some (start + (now - start + period - 1) / period * period)

/-- Checks of 0x0216 in their order (R60). -/
def State.timePinChecks (s : State) (c : Cmd) : List (Bool × Status) :=
  let k := c.num - 0x20000
  let w := c.word 4
  let m := bits w 2 0
  let old := (s.pin k).mode
  let cap := fun (x : Nat) => 1 ≤ x && x ≤ 3
  let per := (c.word 7).toNat
  let wid := (c.word 8).toNat
  [((cap old && m == 4) || (old == 4 && cap m), stWrongState),
   (bit w 3 || bits w 31 6 != 0 || decide (5 ≤ m), stBadField),
   (m == 4 && (wid == 0 || (per != 0 && decide (per ≤ wid))), stBadField)]

/-- TIME_PIN (R480, R484). -/
def execTimePin (c : Cmd) (s : State) : Outcome State Fault Refusal :=
  .next (runCmd s 0x0216 c 1 1 (decide (0x20000 ≤ c.num) && decide (c.num < 0x20008)) true fun s =>
    let k := c.num - 0x20000
    let w := c.word 4
    let m := bits w 2 0
    let old := (s.pin k).mode
    let cap := fun (x : Nat) => 1 ≤ x && x ≤ 3
    let per := (c.word 7).toNat
    let wid := (c.word 8).toNat
    checked s 0x0216 c (s.timePinChecks c) fun s =>
      let start := dword (c.word 5) (c.word 6)
      let two := bit w 5
      let al := bit w 4
      let st := if al then nextSecond s two else start
      let p : Pin := { mode := m, align := al, base2 := two, start := st, period := per, width := wid,
                       level := if cap m || m == 0 then (s.pin k).level && old != 4 else false,
                       next := if m == 4 then firstInstant st per s.now else none }
      let s := if old == 4 && m == 4 && (s.pin k).level then { s with out := Out.pin k false :: s.out } else s
      finish (s.setPin k p) 0x0216 c stOk)

/-- An edge arrives on a pin in capture mode; one edge is held, more are counted (R480). -/
def execCaptureEdge (k : Fin 8) (rising : Bool) (s : State) : Outcome State Fault Refusal :=
  let p := s.pin k
  if p.mode = 4 || !s.timeOn then .next s
  else
    let hit := p.mode == 3 || (p.mode == 1 && rising) || (p.mode == 2 && !rising)
    let s := s.setPin k { p with level := rising }
    if !hit then .next s
    else if p.edge.isSome then .next (pulse (s.bump (0x0062_0004 + k * 0x10) 1) (66 + k))
    else .next (pulse (s.setPin k { p with level := rising, edge := some rising }) (66 + k))

/-- Study firmware, in Run, stamps the held edge through BLV_LATCH (R479, R480). -/
def execSoftwareStamp (k : Fin 8) (s : State) : Outcome State Fault Refusal :=
  let p := s.pin k
  match p.edge with
  | none => .next s
  | some rising =>
    if !s.running then .next s
    else
    let s := latchBases s
    let b := s.blv.base p.base2
    let s := s.setPin k { p with edge := none }
    .next (event s 0x0213 (low (0x20000 + k)) (low s.now) (high s.now) (low (ptpNs b.val))
      (low ((if rising then 1 else 0) + (if b.stepped then 2 else 0))))

/-- A trigger pin rises or falls at its instant; instants that a step of TB0 has passed are left out (R480).
DEDUCED, log entry 175. -/
def execTriggerEdge (k : Fin 8) (s : State) : Outcome State Fault Refusal :=
  let p := s.pin k
  let fallDue := match p.fall with
    | some t => decide (t ≤ s.now)
    | none => false
  let riseDue := match p.next with
    | some t => decide (t ≤ s.now)
    | none => false
  if fallDue then
    .next { s.setPin k { p with level := false, fall := none } with out := Out.pin k false :: s.out }
  else if riseDue then
    let t := p.next.getD 0
    let nxt := if p.period = 0 then none else if p.align then some (secondAfter s p.base2) else firstInstant (t + p.period) p.period s.now
    .next { s.setPin k { p with level := true, fall := some (t + p.width), next := nxt } with
            out := Out.pin k true :: s.out }
  else .next s

/-! ## The Study servo (R482) -/

/-- TIME_SERVO_STATE (R486). -/
def servoState (s : State) (two : Bool) (st : Nat) (off path : Int) : State :=
  event s 0x0215 (baseObj two) (low st) (wordOfInt off) (wordOfInt path) 0

/-- Checks of 0x0217 in their order (R60). -/
def State.timeServoChecks (s : State) (c : Cmd) : List (Bool × Status) :=
  let w := c.word 4
  let v := c.word 5
  let port := bits w 6 4
  let ld := sbits v 15 8
  [(!s.isRunning (portKey port), stWrongState),
   (bits w 3 2 != 0 || bit w 7 || bits w 31 12 != 0 || bits v 31 16 != 0, stBadField),
   (decide (127 < bits v 7 0) || decide (ld < -7) || decide (4 < ld), stBadField)]

/-- TIME_SERVO (R482, R484). -/
def execTimeServo (c : Cmd) (s : State) : Outcome State Fault Refusal :=
  .next (runCmd s 0x0217 c 1 1 (c.num == 1 || c.num == 2) true fun s =>
    let two := c.num == 2
    let w := c.word 4
    let v := c.word 5
    let port := bits w 6 4
    let ld := sbits v 15 8
    checked s 0x0217 c (s.timeServoChecks c) fun s =>
      let old := s.blv.servo two
      let s := if old.on then s.setStampPort old.port { s.blv.port old.port with servo := false } else s
      let en := bit w 0
      let sv : Servo := if en then
          { on := true, transport := bit w 1, port := port, addr := bits w 11 8, domain := bits v 7 0, logDelay := ld }
        else {}
      let s := { s with blv := s.blv.setServo two sv }
      let s := if en then s.setStampPort port { s.blv.port port with servo := true } else s
      let (k, s) := s.fresh
      let (m, s) := s.fresh
      let s := if en then servoState s two 0 (Config.servoNs k) (Config.servoNs m) else s
      finish s 0x0217 c stOk)

/-- A rate offset kept within R466. -/
def clampRate (r : Int) : Int := max (-rateMax) (min rateMax r)

/-- A PTP frame reaches the servo: what it measures is free; it steps its base once above 1,000,000 ns, and after
that sets only the rate; a later offset as large is its fault state, until the base is armed afresh (R482).
DEDUCED, log entry 42. -/
def servoFrame (s : State) (two : Bool) : State :=
  let sv := s.blv.servo two
  let p := s.blv.base two
  let (a, s) := s.fresh
  let (b, s) := s.fresh
  let (d, s) := s.fresh
  let (e, s) := s.fresh
  let off := Config.servoNs a
  let path := Config.servoNs b
  let k := Config.freeNat d % 3
  if sv.state = 3 || !p.armed then s
  else
    let big := decide (1000000 < off) || decide (off < -1000000)
    let st := if k ≠ 0 && big && sv.usedStep then 3 else k
    let s := if k ≠ 0 && big && !sv.usedStep && !p.stepped then applyStep s (if two then 2 else 1) ((-off) % 2 ^ 64).toNat
             else if k ≠ 0 && !big then setRate s (if two then 2 else 1) (clampRate (Config.freeInt e))
             else s
    let used := sv.usedStep || (k != 0 && big)
    let s := { s with blv := s.blv.setServo two { sv with state := st, usedStep := used } }
    if st = sv.state then s else servoState s two st off path

end Sys2Proof.Machine
end

