-- ==== Sys2Proof/Machine/Pergola.lean ====
section
/-!
DEFINITION. The Pergola: token buckets, policing, the service of a port, launch times, samples and commands
(R367-R388, R571).
-/
namespace Sys2Proof.Machine

open Host

def prgA (off : Nat) : Nat := 0x0080_0000 + off
def prgPortA (n off : Nat) : Nat := 0x0080_1000 + n * 0x100 + off

def State.legPrg (s : State) (l : Nat) : LegPrg := tget {} s.prg.legs l
def State.setLegPrg (s : State) (l : Nat) (x : LegPrg) : State := { s with prg := { s.prg with legs := tset {} s.prg.legs l x } }
def State.portPrg (s : State) (p : Nat) : PortPrg := tget {} s.prg.ports p
def State.setPortPrg (s : State) (p : Nat) (x : PortPrg) : State := { s with prg := { s.prg with ports := tset {} s.prg.ports p x } }

/-! ## The token bucket (R369, R370) -/

/-- Tokens brought up to an instant, the remainder below 2^-16 byte carried. -/
def Shaper.at (x : Shaper) (t : Nat) : Shaper :=
  if x.rate = 0 then { x with last := t }
  else
    let a := x.rem + x.rate * (t - x.last) * 65536
    let tok := x.tok + (a / 564480 : Nat)
    if (x.burst * 65536 : Nat) ≤ tok then { x with tok := (x.burst * 65536 : Nat), rem := 0, last := t }
    else { x with tok := tok, rem := a % 564480, last := t }

/-- The bucket admits a packet of counted length c. -/
def Shaper.admits (x : Shaper) (c : Nat) : Bool := x.rate == 0 || decide (((Nat.min c x.burst) * 65536 : Nat) ≤ x.tok)

/-- Sending the packet debits the bucket. -/
def Shaper.debit (x : Shaper) (c : Nat) : Shaper := if x.rate = 0 then x else { x with tok := x.tok - (c * 65536 : Nat) }

/-- Whole bytes of tokens, truncated toward zero. -/
def Shaper.bytes (x : Shaper) : Int := x.tok.tdiv 65536

/-- A write resets the tokens to 0 (R376). -/
def writeShaper (s : State) (rate burst : Nat) : Shaper := { rate := rate, burst := burst, last := s.now }

def LegPrg.svc (x : LegPrg) (k : Nat) : Shaper :=
  match k with | 0 => x.svc0 | 1 => x.svc1 | 2 => x.svc2 | _ => x.svc3
def LegPrg.setSvc (x : LegPrg) (k : Nat) (y : Shaper) : LegPrg :=
  match k with
  | 0 => { x with svc0 := y } | 1 => { x with svc1 := y } | 2 => { x with svc2 := y } | _ => { x with svc3 := y }

/-- Counted length of a packet on a port (R371). -/
def State.countedOn (s : State) (p : Nat) (bytes : Nat) : Nat := ((bytes : Int) + (s.portPrg p).overhead).toNat

/-- Time a frame of counted bytes takes on the lanes, in ct, with preamble, FCS and gap. DEDUCED, log entry 124. -/
def State.txTime (s : State) (p : Nat) (bytes : Nat) : Nat :=
  let d := s.portSpeed p * 1000000
  if d = 0 then 0 else ((Nat.max bytes 60 + 24) * 8 * ctPerSec + d - 1) / d

/-! ## Heads (R368, R372, R373) -/

/-- Queues that port p sends: legs whose LEG_CONFIG names it, and its own five. -/
def State.portQueues (s : State) (p : Nat) : List Nat :=
  (s.pan.queues.filter fun e => !e.2.entries.isEmpty &&
    (if e.1 < 32768 then s.legPort (e.1 / 4) == some p
     else decide (32768 + 5 * p ≤ e.1) && decide (e.1 < 32773 + 5 * p))).map Prod.fst

/-- Age limit of a queue, 0 off (R373). -/
def State.ageLimitOf (s : State) (q : Nat) : Nat := if q < 32768 then (s.legPrg (q / 4)).age.getD (q % 4) 0 else 0

/-- Gap markers at a queue's head are passed over and aged packets dropped (R373, R425). -/
def cleanHead : Nat → Nat → State → State
  | 0, _, s => s
  | n + 1, q, s =>
    match (s.queue q).entries with
    | [] => s
    | e :: _ =>
      if e.gap then cleanHead n q (freeHead s q 1)
      else if s.ageLimitOf q ≠ 0 && s.ageLimitOf q < s.now - e.born then
        cleanHead n q (countQueueDrop (freeHead s q 1) q 2)
      else s

/-- The packet at a queue's head; gap markers are no packets. -/
def State.headOf (s : State) (q : Nat) : Option QEntry := (s.queue q).entries.find? fun e => !e.gap

/-- Leg and service shapers of a leg queue admit its head (R368). -/
def State.legAdmits (s : State) (q c : Nat) : Bool :=
  if q < 32768 then
    let x := s.legPrg (q / 4)
    ((x.svc (q % 4)).at s.now).admits c && (x.leg.at s.now).admits c
  else true

/-- Order in which a queue's head is served (R372). -/
def headOrder (q : Nat) (e : QEntry) : Nat :=
  if q < 32768 then (match q % 4 with | 0 => 2 | 1 => 4 | 2 => 5 | _ => 3)
  else match (q - 32768) % 5 with
    | 0 => if e.pkt.launch.isSome then 1 else 3
    | 1 => 2 | 2 => 4 | 3 => 5 | _ => 6

/-- DEDUCED, log entry 126. -/
def launchCome (s : State) (e : QEntry) : Bool :=
  match e.pkt.launch with
  | some t => decide (t ≤ s.now)
  | none => true

/-- The head of queue q may go on port p, but for a guard. -/
def State.eligible0 (s : State) (p q : Nat) (e : QEntry) : Bool :=
  let c := s.countedOn p e.pkt.counted
  launchCome s e && (headOrder q e == 1 || (s.legAdmits q c && ((s.portPrg p).shaper.at s.now).admits c))

/-- The next exact launch that port p waits for (R378). -/
def State.nextExact (s : State) (p : Nat) : Option Nat :=
  (s.queue (32768 + 5 * p)).entries.foldl (fun m e =>
    match e.pkt.launch, m with
    | some t, some u => some (Nat.min t u)
    | some t, none => some t
    | none, m => m) none

/-- A frame would end after the next exact launch (R378). DEDUCED, log entry 125. -/
def State.guarded (s : State) (p : Nat) (e : QEntry) : Bool :=
  match s.nextExact p with
  | some t => decide (t < s.now + s.txTime p e.pkt.counted)
  | none => false

/-- Eligible heads of a port in one order. -/
def State.candidates (s : State) (p k : Nat) : List (Nat × QEntry) :=
  (s.portQueues p).filterMap fun q =>
    match s.headOf q with
    | some e => if headOrder q e == k && s.eligible0 p q e then some (q, e) else none
    | none => none

/-- Deficit round-robin over one order's candidates: the queue served, with the deficits left (R372). The queues
stand in turn after the one served last. -/
def drrPick (counted : QEntry → Nat) (quantum : Nat) : Nat → Tab Nat → List (Nat × QEntry) → Option ((Nat × QEntry) × Tab Nat)
  | 0, _, _ => none
  | _, _, [] => none
  | f + 1, d, (q, e) :: r =>
    let have' := tget 0 d q + quantum
    if counted e ≤ have' then some ((q, e), tset 0 d q (have' - counted e))
    else drrPick counted quantum f (tset 0 d q have') (r ++ [(q, e)])

/-- The frame that one order sends next. -/
def State.drr (s : State) (p k : Nat) (l : List (Nat × QEntry)) : Option ((Nat × QEntry) × PortPrg) :=
  let x := s.portPrg p
  let counted := fun (e : QEntry) => s.countedOn p e.pkt.counted
  let cur := tget 0 x.drrAt k
  let live := l.map Prod.fst
  let d := x.deficits.filter fun e => live.contains e.1 || !((s.queue e.1).entries.isEmpty)
  match l.find? fun c => c.1 == cur && decide (counted c.2 ≤ tget 0 d cur) with
  | some c => some (c, { x with deficits := tset 0 d cur (tget 0 d cur - counted c.2) })
  | none =>
    let turn := l.filter (fun c => decide (cur < c.1)) ++ l.filter (fun c => decide (c.1 ≤ cur))
    (drrPick counted x.quantum (turn.length * 64 + 1) d turn).map fun r =>
      (r.1, { x with deficits := r.2, drrAt := tset 0 x.drrAt k r.1.1 })

/-! ## Starting a frame (R368, R370, R372, R377-R379, R477) -/

/-- Debit the shapers that a frame passed. -/
def debitAll (s : State) (p q c : Nat) : State :=
  let s := if q < 32768 then
      let x := s.legPrg (q / 4)
      let k := q % 4
      s.setLegPrg (q / 4) ({ x with leg := (x.leg.at s.now).debit c }.setSvc k (((x.svc k).at s.now).debit c))
    else s
  let y := s.portPrg p
  s.setPortPrg p { y with shaper := (y.shaper.at s.now).debit c }

/-- PRG_LAUNCH_LATE (R379, R386). DEDUCED, log entry 126. -/
def launchLate (s : State) (p late : Nat) : State :=
  let x := s.portPrg p
  let s := (s.setPortPrg p { x with late := x.late + 1, lateMax := Nat.max x.lateMax late }).bump (prgA 0x14) 1
  match s.limit (objKey 0x0612 p) ctPerSec 1 0 with
  | (some (n, _), s) =>
    let x := s.portPrg p
    let s := event s 0x0612 (low (0x10000 + p)) (low n) (low x.lateMax) 0 0
    pulse (s.setPortPrg p { x with lateMax := 0 }) 75
  | (none, s) => s

def netPortA (n off : Nat) : Nat := 0x0090_1000 + n * 0x1000 + off

/-- Place of TB0 in the body that describes a beacon: after the kind, the 16 header bytes, DEVICE_UID and EPOCH (R111). -/
def beaconTb0 : Nat := 19

/-- A frame leaves port p from queue q: its entry goes, the shapers are debited, it is counted and stamped. DEDUCED, log
entry 66. -/
def sendHead (s : State) (p q : Nat) (e : QEntry) (fine : Nat) : State :=
  let bytes := Nat.max e.pkt.counted 60
  let freeAt := (s.portPrg p).freeAt
  let s := freeHead s q 1
  let s := debitAll s p q (s.countedOn p e.pkt.counted)
  let x := s.portPrg p
  let idle := match x.guardAt with
    | some t => s.now - t
    | none => 0
  let s := s.setPortPrg p { x with freeAt := s.now + s.txTime p e.pkt.counted, guardAt := none, guardIdle := x.guardIdle + idle }
  let s := if idle = 0 then s else s.bump (prgPortA p 0x08) idle
  let s := match e.pkt.launch with
    | some t => if headOrder q e = 1 && (t < e.born || t < freeAt) then launchLate s p (s.now - t) else s
    | none => s
  let s := (s.bump64 (netPortA p 0x20) 1).bump64 (netPortA p 0x28) (bytes + 4)
  let s := if q < 32768 && (q % 4 == 0 || q % 4 == 3) then
      let y := s.legPrg (q / 4)
      s.setLegPrg (q / 4) { y with sent := y.sent.filter (fun (h : Nat × Nat) => decide (s.now < h.1 + ctPerSec)) ++ [(s.now, e.pkt.counted)] }
    else s
  -- audio, clones and RTX packets await their feedback reports
  let s := match e.pkt.body with
    | kind :: l :: ssrc :: seq :: _ =>
      if kind = 14 || kind = 15 || kind = 16 then
        let y := s.legPrg l
        s.setLegPrg l { y with log := y.log ++ [(ssrc, seq, s.now, e.pkt.counted)] }
      else s
    | _ => s
  let s := match e.pkt.tstamp with
    | some tag => pushTxts s (txStampEntry s p fine tag)
    | none => s
  -- a beacon carries TB0 at its start-frame delimiter, and is counted as it leaves
  let beacon := e.pkt.body.head? == some 10
  let s := if beacon then s.bump 0x0170_0004 1 else s
  let body := if beacon then e.pkt.body.set beaconTb0 s.now else e.pkt.body
  { s with out := Out.egress p (q :: bytes :: s.now :: body) e.pkt.net :: s.out }

/-- Port p may start frames: its object runs, its link is up, no double fault silences it, the last frame has gone. -/
def State.portFree (s : State) (p : Nat) : Bool :=
  let st := (s.obj (portKey p)).st
  (st == .running || st == .draining) && (s.netPort p).linkUp && !s.bell.double && decide ((s.portPrg p).freeAt ≤ s.now)

/-- Serve a port once: the first order with an eligible head that no guard holds (R372, R378). DEDUCED, log entry 124. -/
def servePort (s : State) (p : Nat) (fine : Nat) : State :=
  let s := (s.portQueues p).foldl (fun s q => cleanHead (s.queue q).entries.length q s) s
  match s.candidates p 1 with
  | (q, e) :: _ => sendHead s p q e fine
  | [] =>
    let pick := [2, 3, 4, 5, 6].findSome? fun k =>
      let free := (s.candidates p k).filter fun c => !s.guarded p c.2
      s.drr p k free
    match pick with
    | some ((q, e), x) => sendHead (s.setPortPrg p x) p q e fine
    | none =>
      let held := [2, 3, 4, 5, 6].any fun k => !(s.candidates p k).isEmpty
      let x := s.portPrg p
      if held && x.guardAt.isNone then s.setPortPrg p { x with guardAt := some s.now } else s

/-- A port that can start a frame takes the next one. DESIGN CHOICE, log entry 1. DEDUCED, log entry 125. -/
def execPortFrameStart (p : Fin 8) (fine : Fin 64) (s : State) : Outcome State Fault Refusal :=
  .next (if s.portFree p then servePort s p fine else s)

/-- The Belvedere raises a launch that has come; its frame starts at once if the port is free (R378, R481). -/
def execLaunchReached (p : Fin 8) (s : State) : Outcome State Fault Refusal :=
  if s.portFree p then
    match s.candidates p 1 with
    | (q, e) :: _ =>
      let (k, s) := s.fresh
      .next (sendHead s p q e (Config.freeNat k % 64))
    | [] => .next s
  else .next s

/-! ## Ingress policing (R375, R377) -/

/-- PRG_POLICE_DROP with the frames and bytes since the last (R386). -/
def policeDrop (s : State) (l c : Nat) : State :=
  let s := (s.bump (legPrgA l 0x08) 1).bump64 (prgA 0x20) 1
  let x := s.legPrg l
  let s := s.setLegPrg l { x with polDrops := x.polDrops + 1 }
  match s.limit (objKey 0x0610 l) ctPerSec 1 c with
  | (some (n, b), s) => event s 0x0610 (low l) (low n) (low b) 0 0
  | (none, s) => s

/-- A frame of a leg is measured at its arrival stamp: it passes, or is dropped. DEDUCED, log entry 37. -/
def police (s : State) (l p bytes stamp : Nat) : Bool × State :=
  let x := s.legPrg l
  if !x.polEn then (true, s)
  else
    let c := s.countedOn p bytes
    let b := x.pol.at stamp
    if ((c * 65536 : Nat) : Int) ≤ b.tok then (true, s.setLegPrg l { x with pol := { b with tok := b.tok - (c * 65536 : Nat) } })
    else (false, policeDrop (s.setLegPrg l { x with pol := b }) l c)

/-! ## Samples (R381, R382) -/

/-- The head of a leg queue is held only by its leg or service shaper. -/
def State.limited (s : State) (p q : Nat) : Bool :=
  match s.headOf q with
  | some e =>
    let c := s.countedOn p e.pkt.counted
    launchCome s e && !s.legAdmits q c && ((s.portPrg p).shaper.at s.now).admits c
  | none => false

/-- DEPTH word: packets and bytes queued, saturating. -/
def PQueue.depthWord (x : PQueue) : Word :=
  let n := (x.entries.filter fun e => !e.gap).length
  low (Nat.min n 255 * 2 ^ 24 + Nat.min x.bytes 0xFFFFFF)

/-- Sample one media queue into its DEPTH, DELAY and PEAK registers. -/
def sampleQueue (s : State) (q depthA delayA peakA : Nat) (lim : Bool) : State :=
  let x := s.queue q
  let d := match s.headOf q with
    | some e => Nat.min (s.now - e.born) 0x0FFFFFFF
    | none => 0
  let s := s.setReg depthA x.depthWord
  let s := s.setReg delayA (low (d + if lim then 2 ^ 31 else 0))
  s.setReg peakA (low (Nat.max (bits (s.reg peakA) 27 0) d))

/-- Legs whose media queues may differ from empty samples: those with queued packets or an earlier sample. -/
def State.sampledQueues (s : State) : List Nat :=
  let live := (s.pan.queues.filter fun e => decide (e.1 < 32768) && e.1 % 4 != 3).map Prod.fst
  let old := (s.regs.filter fun e => decide (0x0084_0000 ≤ e.1) && decide (e.1 < 0x0088_0000)).map fun e =>
    (e.1 - 0x0084_0000) / 0x20 * 4 + (e.1 - 0x0084_0000) % 0x20 / 8
  (live ++ old).eraseDups

/-- Once per block every media queue is sampled (R381). -/
def execQueueSample (s : State) : Outcome State Fault Refusal :=
  let b := s.now / 70560
  if s.prg.sampleBlock = some b || !s.commonOn then .next s
  else
    let s1 := s.sampledQueues.foldl (fun s q =>
      let l := q / 4
      let p := (s.legPort l).getD 0
      sampleQueue s q (0x0084_0000 + l * 0x20 + q % 4 * 8) (0x0084_0004 + l * 0x20 + q % 4 * 8)
        (0x0088_0000 + l * 0x10 + q % 4 * 4) (s.limited p q)) s
    let s2 := (List.range 8).foldl (fun s n => [1, 2, 3].foldl (fun s k =>
      sampleQueue s (32768 + n * 5 + k) (prgPortA n (0x40 + k * 0x10)) (prgPortA n (0x44 + k * 0x10))
        (prgPortA n (0x48 + k * 0x10)) false) s) s1
    .next { s2 with prg := { s2.prg with sampleBlock := some b } }

/-! ## Commands (R384, R385) -/

/-- OBJECT of a leg or of a present port. -/
def State.prgLegOk (_s : State) (n : Nat) : Bool := decide (n < 8192)
def State.prgPortOk (s : State) (n : Nat) : Bool := decide (0x10000 ≤ n) && s.portPresent (n - 0x10000)

/-- Domains of a leg: its quad, the Icehouse, and its port's pair; a hatch-leg's quad and bank group (R509). -/
def State.legPowered (s : State) (l : Nat) : Bool :=
  s.dom (68 + l % 4) &&
  (match tfind s.hat.legs l with
   | some h => (match h.rx.orElse fun _ => h.tx with
      | some (x, _) => s.dom (77 + x / 32)
      | none => true)
   | none => s.dom 72 && (match s.legPort l with
      | some p => s.portPowered p
      | none => true))

def rateOk (w : Word) : Bool := decide (w.toNat ≤ 100000000)
def burstOk (w : Word) : Bool := decide (64 ≤ w.toNat) && decide (w.toNat ≤ 16777215)

/-- Checks of 0x0610 in their order (R60). -/
def State.prgLegShapeChecks (s : State) (c : Cmd) : List (Bool × Status) :=
  let w := c.word 4
  let on := fun (k : Nat) => bit w k
  let bad := (List.range 5).any fun k => on k && !(rateOk (c.word (5 + 2 * k)) && burstOk (c.word (6 + 2 * k)))
  [(s.hatchLeg c.num, stBusy), (bits w 31 5 != 0 || bad, stBadField)]

/-- PRG_LEG_SHAPE: every shaper whose WRITE bit is set is written and emptied. -/
def execPrgLegShape (c : Cmd) (s : State) : Outcome State Fault Refusal :=
  .next (runCmd s 0x0610 c 1 1 (s.prgLegOk c.num) (s.legPowered c.num) fun s =>
    let w := c.word 4
    let on := fun (k : Nat) => bit w k
    checked s 0x0610 c (s.prgLegShapeChecks c) fun s =>
      let sh := fun (k : Nat) => writeShaper s (c.word (5 + 2 * k)).toNat (c.word (6 + 2 * k)).toNat
      let x := s.legPrg c.num
      let x := if on 0 then { x with leg := sh 0 } else x
      let x := [0, 1, 2, 3].foldl (fun x k => if on (k + 1) then x.setSvc k (sh (k + 1)) else x) x
      let n := ((List.range 5).filter fun k => on k).length
      finish ((s.setLegPrg c.num x).bump (prgA 0x1C) n) 0x0610 c stOk)

/-- Default QLIMIT of a service (R373). -/
def qlimitDefault (k : Nat) : Nat := if k = 1 || k = 2 then 262144 else 16384

/-- Checks of 0x0611 in their order (R60). -/
def State.prgLegQueueChecks (s : State) (c : Cmd) : List (Bool × Status) :=
  let q := fun (k : Nat) => bits (c.word (4 + k)) 23 0
  let bad := (List.range 4).any fun k => bits (c.word (4 + k)) 31 24 != 0 ||
    (q k != 0 && (decide (q k < 1600) || decide (4194304 < q k)))
  [(s.hatchLeg c.num, stBusy), (!s.stopped (objKey 4 c.num), stNotStopped),
   (bad || bits (c.word 12) 31 8 != 0, stBadField)]

def execPrgLegQueue (c : Cmd) (s : State) : Outcome State Fault Refusal :=
  .next (runCmd s 0x0611 c 1 1 (s.prgLegOk c.num) (s.legPowered c.num) fun s =>
    let q := fun (k : Nat) => bits (c.word (4 + k)) 23 0
    checked s 0x0611 c (s.prgLegQueueChecks c) fun s =>
      let x := s.legPrg c.num
      let x := { x with
        qlimit := (List.range 4).map fun k => if q k = 0 then qlimitDefault k else q k
        age := (List.range 4).map fun k => (c.word (8 + k)).toNat
        pace := bits (c.word 12) 7 0 }
      finish (bumpGen (s.setLegPrg c.num x) (objKey 4 c.num)) 0x0611 c stOk)

/-- Checks of 0x0612 in their order (R60). -/
def State.prgPoliceChecks (s : State) (c : Cmd) : List (Bool × Status) :=
  let w := c.word 4
  [(s.hatchLeg c.num, stBusy),
   (bits w 31 1 != 0 || !rateOk (c.word 5) || !burstOk (c.word 6) || (bit w 0 && c.word 5 == 0), stBadField)]

/-- PRG_POLICE: the written policer is full (R377). -/
def execPrgPolice (c : Cmd) (s : State) : Outcome State Fault Refusal :=
  .next (runCmd s 0x0612 c 1 1 (s.prgLegOk c.num) (s.legPowered c.num) fun s =>
    let w := c.word 4
    checked s 0x0612 c (s.prgPoliceChecks c) fun s =>
      let b := (c.word 6).toNat
      let x := s.legPrg c.num
      finish (s.setLegPrg c.num { x with polEn := bit w 0, pol := { writeShaper s (c.word 5).toNat b with tok := (b * 65536 : Nat) } })
        0x0612 c stOk)

/-- Checks of 0x0613 in their order (R60). -/
def State.prgPortConfigChecks (s : State) (c : Cmd) : List (Bool × Status) :=
  let p := c.num - 0x10000
  let w := c.word 4
  let q := bits (c.word 5) 15 0
  [(!s.stopped (portKey p), stNotStopped),
   (bits w 31 8 != 0 || decide (sbits w 7 0 < -32), stBadField),
   (bits (c.word 5) 31 16 != 0 || (q != 0 && (decide (q < 256) || decide (16384 < q))), stBadField)]

def execPrgPortConfig (c : Cmd) (s : State) : Outcome State Fault Refusal :=
  .next (runCmd s 0x0613 c 1 1 (s.prgPortOk c.num) (s.portPowered (c.num - 0x10000)) fun s =>
    let p := c.num - 0x10000
    let w := c.word 4
    let q := bits (c.word 5) 15 0
    checked s 0x0613 c (s.prgPortConfigChecks c) fun s =>
      finish (bumpGen (s.setPortPrg p { s.portPrg p with overhead := sbits w 7 0, quantum := if q = 0 then 1600 else q })
        (portKey p)) 0x0613 c stOk)

def execPrgPortShape (c : Cmd) (s : State) : Outcome State Fault Refusal :=
  .next (runCmd s 0x0614 c 1 1 (s.prgPortOk c.num) (s.portPowered (c.num - 0x10000)) fun s =>
    let p := c.num - 0x10000
    checked s 0x0614 c [(!rateOk (c.word 4) || !burstOk (c.word 5), stBadField)] fun s =>
      finish ((s.setPortPrg p { s.portPrg p with shaper := writeShaper s (c.word 4).toNat (c.word 5).toNat }).bump (prgA 0x1C) 1)
        0x0614 c stOk)

/-- Services whose head is held by leg or service tokens now (R388). -/
def State.heldServices (s : State) (l : Nat) : Nat :=
  let p := (s.legPort l).getD 0
  (List.range 4).foldl (fun n k => n + if s.limited p (4 * l + k) then 2 ^ k else 0) 0

def execPrgLegStats (c : Cmd) (s : State) : Outcome State Fault Refusal :=
  .next (runCmd s 0x0615 c 1 1 (s.prgLegOk c.num) true fun s =>
    checked s 0x0615 c [(s.hatchLeg c.num, stBusy)] fun s =>
      let x := s.legPrg c.num
      complete s 0x0615 c stOk (low x.polDrops) (low x.qDrops) (wordOfInt (x.leg.at s.now).bytes) (low (s.heldServices c.num)))

def execPrgPortStats (c : Cmd) (s : State) : Outcome State Fault Refusal :=
  .next (runCmd s 0x0616 c 1 1 (s.prgPortOk c.num) true fun s =>
    let x := s.portPrg (c.num - 0x10000)
    complete s 0x0616 c stOk (low x.linkDrops) (low x.late) (low x.guardIdle) (wordOfInt (x.shaper.at s.now).bytes))

end Sys2Proof.Machine
end

