-- ==== Sys2Proof/Machine/Packets.lean ====
section
/-!
DEFINITION. The packets that the device builds itself: their lengths and queues (R367, R571).
-/
namespace Sys2Proof.Machine

/-- Local address of a leg (R89). -/
def State.legAddr (s : State) (l : Nat) : Option PortAddr :=
  match (s.legSet l).cfg with
  | some c => tfind (s.netPort c.port).addrs c.addr
  | none => none

/-- Bytes of a UDP frame of a leg before its FCS, padded to 60 (R571). -/
def State.udpBytes (s : State) (l payload : Nat) : Nat :=
  let (v6, tag) := match s.legAddr l with
    | some a => (a.ip.v6, a.vid != 0)
    | none => (false, false)
  Nat.max 60 (14 + (if tag then 4 else 0) + (if v6 then 40 else 20) + 8 + payload)

/-- MAC address of a port. -/
def State.portMac (s : State) (p : Nat) : Nat := ((s.netPort p).cfg.map fun c => c.mac).getD 0

/-- Addresses of a frame of a leg: it goes to the next hop of the leg's local address, tagged with that address's VID, and
to the leg's remote address (R89, R91). -/
def State.legNet (s : State) (l : Nat) : List Nat :=
  match (s.legSet l).cfg, s.legAddr l with
  | some c, some a =>
    [a.hop, s.portMac c.port, a.vid, a.ip.bits.toNat, c.udp, (s.legRun l).remote.bits.toNat, (s.legRun l).remoteUdp]
  | _, _ => []

/-- Queue a frame of a leg on one of its services, from a launch time on. -/
def sendLegAt (s : State) (l svc payload : Nat) (launch : Option Nat) (body : List Nat) : State :=
  let n := s.udpBytes l payload
  sendPacket s (4 * l + svc) n { counted := n, launch := launch, body := body, net := s.legNet l }

def sendLeg (s : State) (l svc payload : Nat) (body : List Nat) : State := sendLegAt s l svc payload none body

/-- An SRTCP packet: the RTCP packet, E flag and index, and the tag. -/
def sendRtcp (s : State) (l rtcp : Nat) (body : List Nat) : State := sendLeg s l 3 (rtcp + 20) body

/-- Queue a frame on a port queue. -/
def sendPort (s : State) (p k bytes : Nat) (pkt : Pkt) : State :=
  sendPacket s (32768 + 5 * p + k) bytes { pkt with counted := bytes }

/-- Bytes of a Footbridge frame before its FCS (R571): header, tag, Footbridge header, payload, GCM tag. -/
def ftbBytes (payload : Nat) : Nat := 14 + 4 + 16 + payload + 16

/-- CASCADE_ID strap. -/
def State.cascadeId (s : State) : Nat := s.gate.straps.toNat / 2 ^ 10 % 16

/-- A number in n bytes, big-endian. -/
def beField (n v : Nat) : List Byte := (List.range n).map fun i => BitVec.ofNat 8 (v / 2 ^ (8 * (n - 1 - i)))

/-- Bytes 0 to 7 of a Footbridge frame's body: VERSION, TYPE, BRIDGE_ID, SRC, DST and LENGTH (R108). -/
def State.ftbHead (s : State) (g : FtbCfg) (type dst len : Nat) : List Byte :=
  beField 1 1 ++ beField 1 type ++ beField 2 g.bridge ++ beField 1 s.cascadeId ++ beField 1 dst ++ beField 2 len

/-- A MIX or LAYER frame for a peer goes to the Icehouse, which gives it its COUNTER and encrypts it (R109, R130).
DESIGN CHOICE, log entry 161. -/
def sendFtb (s : State) (g : FtbCfg) (peer type k payload : Nat) (body : List Nat) : State :=
  let (n, s) := s.fresh
  let job : JobReq :=
    { kind := .ftbSend, slot := Fin.ofNat 16384 (g.keyBase + 2 * peer), sa := BitVec.ofNat 32 peer, part := if type = 2 then 0 else 1,
      seq := 0, eflag := false, bytes := payload, hdr := s.ftbHead g type peer payload,
      frame := some { queue := 32768 + 5 * g.port + k, bytes := ftbBytes payload, kind := 9 + type, body := body,
                      net := [Config.freeNat n % 2 ^ 48, s.portMac g.port, g.vid] } }
  { s with ice := { s.ice with queue := s.ice.queue ++ [job] } }

/-- First stream of a leg in a direction and of a kind. -/
def State.legStream (s : State) (l : Nat) (send : Bool) (kind : Nat) : Option (Nat × StreamCfg) :=
  (s.legSet l).streams.find? fun e => e.2.send == send && e.2.kind == kind

/-- Run state of a leg's stream. -/
def State.stream (s : State) (l i : Nat) : StreamRun := tget {} (s.legRun l).streams i
def State.setStream (s : State) (l i : Nat) (x : StreamRun) : State :=
  s.setLegRun l { s.legRun l with streams := tset {} (s.legRun l).streams i x }

/-- Take the next RTP sequence number of a send stream. -/
def nextSeq (s : State) (l i : Nat) : BitVec 16 × State :=
  let x := s.stream l i
  (x.sendSeq, s.setStream l i { x with sendSeq := x.sendSeq + 1 })

end Sys2Proof.Machine
end

