-- ==== Sys2Proof/Machine/Bandstand.lean ====
section
/-!
DEFINITION. The Bandstand: conferences, selection, the mix, limiters, routes, decode and encode jobs (R156-R187).
-/
namespace Sys2Proof.Machine

open Host

def bndA (off : Nat) : Nat := 0x00B0_0000 + off
def confKey (c : Nat) : Nat := objKey 7 c

def stPinLimit : Status := 0x1701
def stNotMember : Status := 0x1702
def stSwapPending : Status := 0x1703
def stCopyChain : Status := 0x1704

def State.confSet (s : State) (c : Nat) : ConfSet := tget {} s.bnd.sets c
def State.setConfSet (s : State) (c : Nat) (x : ConfSet) : State := { s with bnd := { s.bnd with sets := tset {} s.bnd.sets c x } }
def State.confRun (s : State) (c : Nat) : ConfRun := tget {} s.bnd.runs c
def State.setConfRun (s : State) (c : Nat) (x : ConfRun) : State := { s with bnd := { s.bnd with runs := tset {} s.bnd.runs c x } }
def State.legAudio (s : State) (l : Nat) : LegAudio := tget {} s.bnd.legs l
def State.setLegAudio (s : State) (l : Nat) (x : LegAudio) : State := { s with bnd := { s.bnd with legs := tset {} s.bnd.legs l x } }

/-! ## Members and banks (R162, R174) -/

/-- Conference of a leg: LEG_CONFIG's, or HAT_LEG's. -/
def State.legConf (s : State) (l : Nat) : Option Nat :=
  match tfind s.hat.legs l with
  | some h => some h.conf
  | none => (s.legSet l).cfg.map fun c => c.conf

/-- Bank of a hatch-leg. -/
def HatLeg.bank (h : HatLeg) : Option Nat := (h.rx.orElse fun _ => h.tx).map fun x => x.1 / 8

def bankKey (b : Nat) : Nat := objKey 8 (0x10000 + b)

/-- Object state of a leg: a hatch-leg has its bank's (R228). -/
def State.legState (s : State) (l : Nat) : ObjState :=
  match tfind s.hat.legs l with
  | some h => (match h.bank with
    | some b => (s.obj (bankKey b)).st
    | none => .stopped)
  | none => (s.obj (objKey 4 l)).st

/-- Legs configured into a conference, in rising order. -/
def State.members (s : State) (c : Nat) : List Nat :=
  let net := (s.net.sets.filter fun e => !s.hatchLeg e.1 && (match e.2.cfg with
    | some g => g.conf == c
    | none => false)).map Prod.fst
  let hat := (s.hat.legs.filter fun e => e.2.conf == c).map Prod.fst
  (net ++ hat).mergeSort

def ConfSet.bank (x : ConfSet) (b : Bool) : List (Nat × RouteEntry) := if b then x.bankB else x.bankA
def ConfSet.setBank (x : ConfSet) (b : Bool) (t : List (Nat × RouteEntry)) : ConfSet :=
  if b then { x with bankB := t } else { x with bankA := t }

/-- A leg's entry in a bank, or the defaults (R174). -/
def bankEntry (t : List (Nat × RouteEntry)) (l : Nat) : RouteEntry := (tfind t l).getD {}

/-- A leg's entry in the active bank. -/
def State.entry (s : State) (c l : Nat) : RouteEntry := bankEntry ((s.confSet c).bank (s.confSet c).active) l

/-- The leg has an audio receive stream, or a receive slot. -/
def State.hasAudio (s : State) (l : Nat) : Bool :=
  match tfind s.hat.legs l with
  | some h => h.rx.isSome
  | none => (s.legStream l false 0).isSome

/-- A crossfade of conference c runs in block b (R177). -/
def State.fading (s : State) (c b : Nat) : Bool :=
  let r := s.confRun c
  decide (r.xfFrom ≤ b) && decide (b < r.xfTo)

/-- Eligible apart from mute and pin (R162). -/
def State.present1 (s : State) (l : Nat) : Bool :=
  s.legState l == .running && (s.hatchLeg l || (s.legRun l).conn == .active) && s.hasAudio l

/-- The bank mutes the leg, but for a leg whose mute still fades in (R177). -/
def State.mutedNow (s : State) (c b l : Nat) : Bool :=
  (s.entry c l).mute && !(s.fading c b && !(bankEntry (s.confRun c).oldBank l).mute)

def State.isEligible (s : State) (c b l : Nat) : Bool :=
  s.legConf l == some c && s.present1 l && !s.mutedNow c b l && !(s.entry c l).pin

/-- Pinned legs that are decoded (R166). -/
def State.pinned (s : State) (c b : Nat) : List Nat :=
  (s.members c).filter fun l => s.present1 l && !s.mutedNow c b l && (s.entry c l).pin

/-- Score of a leg (R162). -/
def State.score (s : State) (c l : Nat) : Nat :=
  let w := (s.confSet c).cfg.scoreCt
  (s.legAudio l).levels.foldl (fun m e => if s.now < e.1 + w then Nat.min m e.2 else m) 127

/-- A frame is committed with its level (R162, R229). -/
def commitLevel (s : State) (l level : Nat) : State :=
  let x := s.legAudio l
  s.setLegAudio l { x with last := level,
                           levels := (s.now, level) :: x.levels.filter fun e => decide (s.now < e.1 + ctPerSec) }

/-! ## Selection (R163-R166) -/

/-- N of R163. -/
def State.selN (s : State) (c : Nat) : Nat :=
  let n := (s.confSet c).cfg.selCount
  if 2 ≤ s.hall.step then Nat.min n 2 else n

/-- A change of the selection: added, removed, cause. -/
abbrev SelChange := Option Nat × Option Nat × Nat

/-- Louder of two (score, leg): the lower leg number wins a tie. DEDUCED, log entry 76. -/
def louder (a b : Nat × Nat) : Bool := decide (a.1 < b.1) || (a.1 == b.1 && decide (a.2 < b.2))

/-- DEDUCED, log entry 76. -/
def loudest : List (Nat × Nat) → Option (Nat × Nat)
  | [] => none
  | a :: r => match loudest r with
    | none => some a
    | some b => if louder a b then some a else some b

def quietest : List (Nat × Nat) → Option (Nat × Nat)
  | [] => none
  | a :: r => match quietest r with
    | none => some a
    | some b => if louder a b then some b else some a

/-- Score of a leg with its number. -/
def State.scored (s : State) (c : Nat) (ls : List Nat) : List (Nat × Nat) := ls.map fun l => (s.score c l, l)

/-- Remove the quietest while more than n are selected; newest change first. -/
def shrinkSel (s : State) (c n : Nat) : Nat → List Selected → List SelChange → List Selected × List SelChange
  | 0, sel, ch => (sel, ch)
  | f + 1, sel, ch =>
    if sel.length ≤ n then (sel, ch)
    else match quietest (s.scored c (sel.map (·.leg))) with
      | none => (sel, ch)
      | some (_, q) => shrinkSel s c n f (sel.filter fun e => e.leg != q) ((none, some q, 4) :: ch)

/-- Add the loudest while a place is free. -/
def growSel (s : State) (c b n floor : Nat) : Nat → List Selected → List SelChange → List Selected × List SelChange
  | 0, sel, ch => (sel, ch)
  | f + 1, sel, ch =>
    if n ≤ sel.length then (sel, ch)
    else
      let free := (s.members c).filter fun l => s.isEligible c b l && !sel.any fun e => e.leg == l
      match loudest (s.scored c free) with
      | none => (sel, ch)
      | some (sc, u) =>
        if sc < floor then growSel s c b n floor f (sel ++ [{ leg := u, since := s.now }]) ((some u, none, 1) :: ch)
        else (sel, ch)

/-- The selection of a block: the new selection and its changes, oldest first (R163). -/
def State.select (s : State) (c b : Nat) : List Selected × List SelChange :=
  let g := (s.confSet c).cfg
  let r := s.confRun c
  let n := s.selN c
  let bad := r.selected.filter fun e => !s.isEligible c b e.leg
  let sel := r.selected.filter fun e => s.isEligible c b e.leg
  let old := sel.filter fun e =>
    decide (g.floor ≤ s.score c e.leg) && decide ((tfind r.floorAt e.leg).getD s.now + g.hold ≤ s.now)
  let sel := sel.filter fun e => !old.contains e
  let ch : List SelChange := (bad.map (fun (e : Selected) => ((none, some e.leg, 3) : SelChange)) ++
    old.map (fun (e : Selected) => ((none, some e.leg, 2) : SelChange))).reverse
  let (sel, ch) := shrinkSel s c n sel.length sel ch
  let (sel, ch) := growSel s c b n g.floor n sel ch
  let free := (s.members c).filter fun l => s.isEligible c b l && !sel.any fun e => e.leg == l
  match loudest (s.scored c free), quietest (s.scored c (sel.map (·.leg))) with
  | some (su, u), some (sq, q) =>
    let held := sel.any fun e => e.leg == q && decide (e.since + g.hold ≤ s.now)
    if sel.length = n && su + g.margin ≤ sq && held then
      (sel.filter (fun e => e.leg != q) ++ [{ leg := u, since := s.now }], ((some u, some q, 1) :: ch).reverse)
    else (sel, ch.reverse)
  | _, _ => (sel, ch.reverse)

/-- Samples of a leg that are decoded from index n on. -/
def decodedFrom (x : LegAudio) (n : Nat) : Nat := x.runs.foldl (fun m r => Nat.max m (r.start + r.smp.length - n)) 0

/-- First source sample that a block of a conference uses: 24 samples of delay on the normal path (R171, R172). -/
def State.mixFrom (s : State) (c b : Nat) : Nat := if (s.confSet c).cfg.lowlat then 48 * b else 48 * b - 24

/-- A removed leg ramps out over what is decoded; its decode unit is freed (R165). DEDUCED, log entry 77. -/
def rampOut (s : State) (c b l : Nat) : State :=
  let x := s.legAudio l
  let left := Nat.min 96 (decodedFrom x (s.mixFrom c b))
  let r := s.confRun c
  let s := s.setLegAudio l { x with jobs := [] }
  if left = 0 || (s.entry c l).mute || (s.entry c l).pin then s
  else s.setConfRun c { r with ramps := tput r.ramps l { done := 0, total := left } }

/-- One change takes effect: its ramp, its counts, CONF_SPEAKERS (R163, R186). -/
def applyChange (s : State) (c b : Nat) (h : SelChange) : State :=
  let s := match h.2.1 with
    | some l => if (s.entry c l).pin then s else rampOut s c b l
    | none => s
  let s := match h.1 with
    | some l =>
      let r := s.confRun c
      (s.setConfRun c { r with ramps := tdel r.ramps l }).bump (bndA 0x20) 1
    | none => s
  let s := if h.2.2 = 4 then s.bump (bndA 0x24) 1 else s
  if (s.confSet c).cfg.speakerEvt then
    let w := fun (o : Option Nat) => match o with
      | some l => low l
      | none => (0xFFFF_FFFF : Word)
    event s 0x0710 (low c) (w h.1) (w h.2.1) (low b) (low h.2.2)
  else s

/-- Selection at a block start. -/
def selectBlock (s : State) (c b : Nat) : State :=
  let (sel, ch) := s.select c b
  let r := s.confRun c
  let fl := (s.confSet c).cfg.floor
  let at' := sel.filterMap fun e =>
    if fl ≤ s.score c e.leg then some (e.leg, (tfind r.floorAt e.leg).getD s.now) else none
  let s := s.setConfRun c { r with selected := sel, floorAt := at'.foldl (fun t e => tput t e.1 e.2) [] }
  ch.foldl (fun s h => applyChange s c b h) s

/-! ## Routes and swaps (R174-R178) -/

/-- A swap takes effect in block b. DESIGN CHOICE, log entry 31. -/
def swapNow (s : State) (c b : Nat) (fade : Bool) : State :=
  let x := s.confSet c
  let r := s.confRun c
  let n := if fade && !x.cfg.lowlat then x.cfg.xfade / 70560 else 0
  let s := s.setConfSet c { x with active := !x.active }
  let s := s.setConfRun c { r with swap := none, swapBlk := b, oldBank := x.bank x.active, xfFrom := b, xfTo := b + n }
  (event s 0x0711 (low c) (low b) (if x.active then 0 else 1) 0 0).bump (bndA 0x28) 1

/-! ## Samples -/

/-- The decoded sample at an index, silence where none is. -/
def sampleAt : List DecRun → Nat → Int × Int
  | [], _ => (0, 0)
  | r :: rs, n => if r.start ≤ n && n < r.start + r.smp.length then r.smp.getD (n - r.start) (0, 0) else sampleAt rs n

/-- A sample of 24 bits (R167). -/
def clip24 (v : Int) : Int := max (-8388608) (min 8388607 v)

/-- Saturate to ±(2^23 − 1), as a limiter does (R173). -/
def sat24 (v : Int) : Int := max (-8388607) (min 8388607 v)

/-- A bank entry's gain, 0 when it mutes. -/
def RouteEntry.effGain (e : RouteEntry) : Nat := if e.mute then 0 else e.gain

/-- Gain of a leg at sample i of block b, moving through a crossfade (R177). -/
def State.gainAt (s : State) (c b l i : Nat) : Int :=
  let r := s.confRun c
  let new : Int := (s.entry c l).effGain
  if s.fading c b then
    let old : Int := (bankEntry r.oldBank l).effGain
    old + ((new - old) * (48 * (b - r.xfFrom) + i + 1 : Nat)).fdiv (48 * (r.xfTo - r.xfFrom) : Nat)
  else new

/-- Numerator of a leg's removal ramp at sample i. DEDUCED, log entry 77. -/
def rampAt (r : LegRamp) (i : Nat) : Int := ((r.total - (r.done + i + 1) : Nat) : Int)

/-- Fade gain of a hatch-leg at sample i of a block, in 1/96 (R179). -/
def fadeAt (x : LegAudio) (marked : Bool) (i : Nat) : Int :=
  if marked then ((96 - Nat.min 96 (x.fadeFrom + i + 1) : Nat) : Int) else ((96 - (x.fadeFrom - (i + 1)) : Nat) : Int)

/-- The leg's settings leave its samples as they are: no filter stage acts (R171). -/
def ConfCfg.noFilter (g : ConfCfg) : Bool :=
  g.hpf == 0 && g.deess == 0 && g.eqLow == 0 && g.eqMid == 0 && g.eqHigh == 0

/-- Settings of the filter chain as one number. -/
def ConfCfg.filterCode (g : ConfCfg) : Nat :=
  g.hpf + 4 * g.deess + 256 * (g.eqLow + 128).toNat + 65536 * (g.eqMid + 128).toNat + 16777216 * (g.eqHigh + 128).toNat

/-- Whether the mix-time filters act on a leg. -/
def State.filtered (s : State) (c l : Nat) : Bool :=
  let g := (s.confSet c).cfg
  !g.lowlat && (s.entry c l).filt && !g.noFilter

/-- One channel's contribution of a sample (R167): gain, ramp and fade, the shifts toward −∞. -/
def contribute (smp gain rampN rampD fade : Int) : Int := (smp * ((gain * rampN).fdiv rampD * fade).fdiv 96).fdiv 1048576

/-- A leg's contribution to block b, both channels, and the free values it took. -/
def contribution (s : State) (c b l : Nat) : List (Int × Int) × State :=
  let x := s.legAudio l
  let ramp := tfind (s.confRun c).ramps l
  let marked := x.under.contains b
  let n0 := s.mixFrom c b
  let stereo := (s.confSet c).cfg.stereo
  let filt := s.filtered c l
  let code := (s.confSet c).cfg.filterCode
  let out := (List.range 48).map fun i =>
    let p := sampleAt x.runs (n0 + i)
    let k := s.free + 2 * i
    let p := if filt then (clip24 (Config.filterChain code [k, p.1]), clip24 (Config.filterChain code [k + 1, p.2])) else p
    let p := if stereo then p else let m := (p.1 + p.2).fdiv 2; (m, m)
    let g := s.gainAt c b l i
    let (rn, rd) := match ramp with
      | some r => (rampAt r i, (r.total : Int))
      | none => (1, 1)
    let f := fadeAt x marked i
    (contribute p.1 g rn rd f, contribute p.2 g rn rd f)
  (out, if filt then { s with free := s.free + 96 } else s)

def addSmp (a b : List (Int × Int)) : List (Int × Int) := List.zipWith (fun p q => (p.1 + q.1, p.2 + q.2)) a b
def subSmp (a b : List (Int × Int)) : List (Int × Int) := List.zipWith (fun p q => (p.1 - q.1, p.2 - q.2)) a b
def silence : List (Int × Int) := List.replicate 48 (0, 0)

/-! ## Peers' partial mixes (R116, R170) -/

def linkKey (c : Nat) : Nat := objKey 0x0E c

/-- The link carries partial mixes of its conference. -/
def State.mixLink (s : State) (c : Nat) : Option ConfLink :=
  if s.isRunning (linkKey c) then
    match tfind s.ftb.links c with
    | some k => if k.mix then some k else none
    | none => none
  else none

def State.peer (s : State) (p : Nat) : Peer := tget {} s.ftb.peers p
def State.setPeer (s : State) (p : Nat) (x : Peer) : State := { s with ftb := { s.ftb with peers := tset {} s.ftb.peers p x } }

/-- The Footbridge exchanges MIX and LAYER frames with the peer (R115). -/
def State.peerReady (s : State) (p : Nat) : Bool :=
  let x := s.peer p
  s.isRunning (objKey 0x0E 0x10000) && x.present && x.keyTx && x.keyRx && x.sync

/-- MIX_DELAY of the Footbridge (R116). -/
def State.mixDelay (s : State) : Nat := (s.ftb.cfg.map fun c => c.mixDelay).getD 2

/-- Block n of peer p that is held. -/
def State.peerBlock (s : State) (p n : Nat) : Option (List MixRec) :=
  (s.ftb.mixes.find? fun m => m.1 == p && m.2.1 == n).map fun m => m.2.2

/-- A peer's samples for a conference: sample × 2^EXP, on a ramp while its blocks resume. -/
def peerMix (recs : List MixRec) (ccid ramp : Nat) (stereo : Bool) : List (Int × Int) :=
  let chan := fun (k : Nat) => match recs.find? fun r => r.ccid.toNat == ccid && r.channel.val == k with
    | some r => some ((List.range 48).map fun i => (r.samples.getD i 0) * 2 ^ r.exp.val)
    | none => none
  let l := (chan 0).getD (List.replicate 48 0)
  let r := if stereo then (chan 1).getD l else l
  ((List.zip l r).zipIdx).map fun e =>
    let g : Int := (Nat.min 96 (ramp + e.2 + 1) : Nat)
    ((e.1.1 * g).fdiv 96, (e.1.2 * g).fdiv 96)

/-- Sum of the peers' partial mixes due in block b for conference c. -/
def State.peerSum (s : State) (c b : Nat) : List (Int × Int) :=
  match s.mixLink c with
  | none => silence
  | some k =>
    (List.range 16).foldl (fun acc p =>
      if k.mask.testBit p && s.mixDelay ≤ b then
        match s.peerBlock p (b - s.mixDelay) with
        | some recs => addSmp acc (peerMix recs k.ccid (s.peer p).ramp (s.confSet c).cfg.stereo)
        | none => acc
      else acc) silence

/-- Peers that some MIX link names and that have been seen. -/
def State.mixPeers (s : State) : List Nat :=
  (List.range 16).filter fun p => (s.peer p).epoch.isSome &&
    s.ftb.links.any fun e => match s.mixLink e.1 with
      | some k => k.mask.testBit p
      | none => false

/-- The blocks of the peers for local block b are used up: missing ones are counted, ramps go on (R116, R170). -/
def peersTaken (s : State) (b : Nat) : State :=
  let n := b - s.mixDelay
  let s := s.mixPeers.foldl (fun s p =>
    let x := s.peer p
    if (s.peerBlock p n).isSome then s.setPeer p { x with ramp := Nat.min 96 (x.ramp + 48) }
    else (s.setPeer p { x with ramp := 0 }).bump (0x0170_0108 + p * 0x10) 1) s
  { s with ftb := { s.ftb with mixes := s.ftb.mixes.filter fun m => decide (n < m.2.1) } }

/-! ## Outputs and limiters (R168, R169, R173) -/

/-- Limiter ceiling of LIM_CEIL: (2^23 − 1) · 10^(−k / 40), to the nearest whole number (R183). -/
def ceilings : List Nat :=
  [8388607, 7919356, 7476354, 7058133, 6663307, 6290568, 5938679, 5606474, 5292853, 4996776, 4717260, 4453381,
   4204263, 3969080, 3747053, 3537446, 3339565, 3152752, 2976390, 2809893, 2652710, 2504320, 2364231, 2231978, 2107123]

/-- Unity in Q0.24. -/
def unity : Nat := 0x1000000

/-- min(1, ceiling ÷ peak) in Q0.24 (R173). -/
def limTarget (ceil peak : Nat) : Nat := if peak ≤ ceil then unity else ceil * unity / peak

/-- e^(−n / d) in Q0.40: the series of the sixteenth part, squared four times. -/
def expNeg (n d : Nat) : Nat :=
  let one := 2 ^ 40
  let x := n * one / (16 * d)
  let terms := (List.range 12).foldl (fun (a : Int × Nat) i =>
    (if i % 2 = 0 then a.1 + a.2 else a.1 - a.2, a.2 * x / one / (i + 1))) ((0 : Int), one)
  (List.range 4).foldl (fun y _ => y * y / one) terms.1.toNat

/-- A gain one sample nearer to 1 with time constant τ; the last bit is free. DESIGN CHOICE, log entry 78. -/
def recover (gain t k : Nat) : Nat :=
  Nat.min unity (unity - ((unity - gain) * expNeg 1470 t + 2 ^ 40 - 1) / 2 ^ 40 + Config.freeNat k % 2)

/-- A limiter at its next sample: a lower target starts a line that reaches it within 24 samples; without a line the gain
recovers (R173). DEDUCED, log entry 179. -/
def Limiter.next (x : Limiter) (ceil release peak k : Nat) : Limiter :=
  let t := limTarget ceil peak
  let x := if t < (if x.step = 0 then x.gain else x.goal) then { x with goal := t, step := (x.gain - t + 23) / 24 } else x
  if x.step ≠ 0 then
    let g := Nat.max x.goal (x.gain - x.step)
    if g = x.goal then { x with gain := g, step := 0 } else { x with gain := g }
  else if x.gain = unity then {} else { gain := recover x.gain release k }

/-- One sample of an output through its limiter: the limiter, the output, and the samples that saturate, of one channel
or of two (R173). -/
def limitOne (ceil release : Nat) (two : Bool) (x : Limiter) (k : Nat) (p : Int × Int) : Limiter × (Int × Int) × Nat :=
  let x := x.next ceil release (Nat.max p.1.natAbs p.2.natAbs) k
  let a := (p.1 * (x.gain : Int)).fdiv 16777216
  let b := (p.2 * (x.gain : Int)).fdiv 16777216
  let n := (if sat24 a = a then 0 else 1) + (if !two || sat24 b = b then 0 else 1)
  (x, (sat24 a, sat24 b), n)

/-- A block through a limiter. -/
def limitBlock (ceil release : Nat) (two : Bool) : Limiter → Nat → List (Int × Int) → Limiter × List (Int × Int) × Nat
  | x, _, [] => (x, [], 0)
  | x, k, p :: r =>
    let (x, o, n) := limitOne ceil release two x k p
    let (x', os, m) := limitBlock ceil release two x (k + 1) r
    (x', o :: os, n + m)

/-- Count samples clipped in a conference; CONF_CLIP at most once per second (R173, R186). -/
def countClips (s : State) (c n : Nat) : State :=
  if n = 0 then s
  else
    let s := s.bump (bndA 0x18) n
    let r := s.confRun c
    let s := s.setConfRun c { r with clipped := r.clipped + n }
    match s.limit (objKey 0x0713 c) ctPerSec n 0 with
    | (some (k, _), s) => pulse (event s 0x0713 (low c) (low k) 0 0 0) 509
    | (none, s) => s

/-- Drain ramp of R185 on a block. DEDUCED, log entry 84. -/
def drainRamp (d : Option Nat) (l : List (Int × Int)) : List (Int × Int) :=
  match d with
  | none => l
  | some n => l.zipIdx.map fun e =>
    let g : Int := ((96 - (n + e.2 + 1) : Nat) : Int)
    ((e.1.1 * g).fdiv 96, (e.1.2 * g).fdiv 96)

/-- What an output takes in a block: its number, its mixed samples, and what a frame that it joins part-way held so far. -/
structure OutFeed where
  out  : Nat
  mix  : List (Int × Int)
  seed : List (Int × Int)

/-- An output of conference c takes a block of mixed samples; its channels are made from the mix (R169, R173). -/
def feedOutput (s : State) (c : Nat) (two : Bool) (f : OutFeed) : State :=
  let g := (s.confSet c).cfg
  let r := s.confRun c
  let x := (tfind r.outs f.out).getD { buf := f.seed }
  let mix := if two || !g.stereo then f.mix else f.mix.map fun p => let m := (p.1 + p.2).fdiv 2; (m, m)
  let (lim, out, n) := limitBlock (ceilings.getD g.ceil 0) g.release two x.lim s.free (drainRamp r.drain mix)
  let s := if x.lim = {} && lim = {} then s else { s with free := s.free + 48 }
  let s := s.setConfRun c { r with outs := tset {} r.outs f.out { x with lim := lim, buf := x.buf ++ out } }
  countClips s c n

/-- Frame length of a format in 48 kHz samples (R158, R183). -/
def ConfFormat.len (f : ConfFormat) : Nat := match f.frame with | 0 => 120 | 1 => 240 | 2 => 480 | _ => 960

def State.confFormat (s : State) (c i : Nat) : ConfFormat := tget {} (s.confSet c).formats i

/-- Output numbers: shared mix of a format, mix-minus of a leg, a listener's own during a crossfade. DEDUCED, log entry 79. -/
def outShared (i : Nat) : Nat := i
def outMinus (l : Nat) : Nat := 16 + l
def outFade (l : Nat) : Nat := 0x4000 + l

/-- Legs that are heard: selected, then pinned. -/
def State.heard (s : State) (c b : Nat) : List Nat :=
  let sel := (s.confRun c).selected.map (·.leg)
  sel ++ (s.pinned c b).filter fun l => !sel.contains l

/-- Leg of an output of its own. -/
def outLeg (o : Nat) : Nat := if o < 0x4000 then o - 16 else o - 0x4000

/-- What a leg hears under a bank: a shared mix or a mix-minus (R168). A FORMAT that the conference does not have gives no
shared mix. DESIGN CHOICE, log entry 165. -/
def hears (formats : Nat) (t : List (Nat × RouteEntry)) (heard members : List Nat) (l : Nat) : Option Nat :=
  let own := fun (m : Nat) =>
    if heard.contains m then some (outMinus m)
    else if (bankEntry t m).format < formats then some (outShared (bankEntry t m).format) else none
  let e := bankEntry t l
  match e.route with
  | 0 => own l
  | 2 => if members.contains e.copyOf && (bankEntry t e.copyOf).route == 0 then own e.copyOf else none
  | _ => none

/-- A listener's route changed with the latest swap (R177). -/
def routeChanged (a b : RouteEntry) : Bool := a.route != b.route || a.copyOf != b.copyOf || a.format != b.format

/-- An output holds samples of the present frame. -/
def ConfRun.holds (r : ConfRun) (o : Nat) : Bool := !(tget {} r.outs o).buf.isEmpty

/-- A mix-minus or a fade that a block forms: its leg is heard and routed AUTO, or its route fades (R168, R177). -/
def State.forms (s : State) (c b o : Nat) : Bool :=
  let x := s.confSet c
  let t := x.bank x.active
  let l := outLeg o
  if o < 16 then decide (o < x.cfg.formats)
  else if o < 0x4000 then (s.heard c b).contains l && (bankEntry t l).route == 0
  else s.fading c b && (s.members c).contains l && routeChanged (bankEntry (s.confRun c).oldBank l) (bankEntry t l)

/-- Outputs a conference forms in a block with their mixed samples: each shared mix, each mix-minus, each listener whose
route fades, and an output of a leg's own whose frame is not yet closed, which goes on with what the leg hears
(R168, R177). DEDUCED, log entry 79. -/
def outputsOf (s : State) (c b : Nat) (total : List (Int × Int)) (parts : List (Nat × List (Int × Int))) : List OutFeed :=
  let x := s.confSet c
  let r := s.confRun c
  let heard := s.heard c b
  let members := s.members c
  let t := x.bank x.active
  let held := fun (o : Option Nat) => match o with
    | some o => (tget {} r.outs o).buf
    | none => []
  let signal := fun (o : Option Nat) => match o with
    | some o => if o < 16 then total else subSmp total ((tfind parts (outLeg o)).getD silence)
    | none => silence
  let now := fun (l : Nat) => signal (hears x.cfg.formats t heard members l)
  let shared := (List.range x.cfg.formats).map fun i => { out := outShared i, mix := total, seed := [] : OutFeed }
  let own := (heard.filter fun l => (bankEntry t l).route == 0).map fun l =>
    { out := outMinus l, mix := signal (some (outMinus l)), seed := held (some (outShared (bankEntry t l).format)) : OutFeed }
  let fades := if s.fading c b then
      (members.filter fun l => routeChanged (bankEntry r.oldBank l) (bankEntry t l)).map fun l =>
        let o := hears x.cfg.formats r.oldBank heard members l
        let n : Int := (48 * (r.xfTo - r.xfFrom) : Nat)
        { out := outFade l, seed := held o, mix := ((List.zip (signal o) (now l)).zipIdx).map fun e =>
            let k : Int := (48 * (b - r.xfFrom) + e.2 + 1 : Nat)
            ((e.1.1.1 * (n - k)).fdiv n + (e.1.2.1 * k).fdiv n, (e.1.1.2 * (n - k)).fdiv n + (e.1.2.2 * k).fdiv n) : OutFeed }
    else []
  let rest := (r.outs.filter fun e => decide (16 ≤ e.1) && r.holds e.1 && !s.forms c b e.1).map fun e =>
    { out := e.1, mix := now (outLeg e.1), seed := [] : OutFeed }
  shared ++ own ++ fades ++ rest

/-- The output that a leg's frames come from: its own while one holds samples, else what its route names; a copy takes what
its COPY_OF leg takes (R168). -/
def State.legOutput (s : State) (c b l : Nat) : Option Nat :=
  let x := s.confSet c
  let r := s.confRun c
  let t := x.bank x.active
  let own := fun (m : Nat) =>
    if r.holds (outFade m) then some (outFade m)
    else if (bankEntry t m).route != 0 then none
    else if r.holds (outMinus m) then some (outMinus m)
    else hears x.cfg.formats t (s.heard c b) (s.members c) m
  let e := bankEntry t l
  if e.route = 2 && !r.holds (outFade l) then (if (s.members c).contains e.copyOf then own e.copyOf else none) else own l

/-- Format of an output in a conference. -/
def State.outFormat (s : State) (c o : Nat) : ConfFormat :=
  let x := s.confSet c
  if o < 16 then s.confFormat c o
  else
    let e := bankEntry (x.bank x.active) (outLeg o)
    s.confFormat c (if e.route = 2 then (bankEntry (x.bank x.active) e.copyOf).format else e.format)

/-- Legs that hear an output in a block over the network (R168). -/
def State.listeners (s : State) (c b o : Nat) : List Nat :=
  (s.members c).filter fun l => !s.hatchLeg l && s.legOutput c b l == some o

/-- An output goes to an encoder: not a mix-minus that a hatch-leg alone takes as L16 (R157). -/
def State.encoded (s : State) (c b o : Nat) : Bool :=
  decide (o < 16) || !s.hatchLeg (outLeg o) || !(s.listeners c b o).isEmpty

/-- An output has two channels: its format's, and one where a hatch-leg alone takes it (R169). -/
def State.outTwo (s : State) (c o : Nat) : Bool :=
  decide ((s.outFormat c o).channels = 2) && (decide (o < 16) || !s.hatchLeg (outLeg o))

/-! ## Encode jobs (R161, R181) -/

/-- An output at the end of block b − 1: a frame that ended in it goes to its encoder, and whether an encode of the frame
before is discarded. An output of a leg's own that is no longer formed ends with its frame. -/
def closeOut (s : State) (c b o : Nat) (x : MixOut) : MixOut × Nat :=
  let f := s.outFormat c o
  let rest := fun (buf : List (Int × Int)) =>
    { x with buf := buf, lim := if s.forms c (b - 1) o || !buf.isEmpty then x.lim else {} : MixOut }
  if !s.encoded c (b - 1) o then (rest [], 0)
  else if 48 * (b - 1) / f.len < 48 * b / f.len then
    let y := rest (x.buf.drop (x.buf.length - 48 * b % f.len))
    if x.buf.isEmpty then (y, 0)
    else ({ y with job := some { first := (48 * b / f.len - 1) * f.len, format := f, legs := s.listeners c (b - 1) o } },
      if x.job.isSome then 1 else 0)
  else (x, 0)

/-- Block b − 1 has closed: every output whose frame ended in it hands the frame to its encoder. -/
def closeFrames (s : State) (c b : Nat) : State :=
  let r := s.confRun c
  let (outs, late) := r.outs.foldl (fun (acc : Tab MixOut × Nat) e =>
    let (x, n) := closeOut s c b e.1 e.2
    (tset {} acc.1 e.1 x, acc.2 + n)) ([], 0)
  let s := s.setConfRun c { r with outs := outs }
  if late = 0 then s else pulse (s.bump (bndA 0x14) late) 508

/-- Bytes of an encoded frame: 64 kbit/s of G.711 and G.722, BITRATE of Opus with CBR, else what the encoder made, at most
an Opus frame's 1,275 and none only with DTX (R158). PRESUMED, log entry 166. -/
def ConfFormat.bytes (f : ConfFormat) (n : Nat) : Nat :=
  if f.codec ≠ 3 then f.len / 6
  else if f.dtx then Nat.min n 1275
  else if f.cbr then f.bitrate * f.len / 384000
  else Nat.max 1 (Nat.min n 1275)

/-- A 48 kHz sample index in the codec's RTP clock (R158). -/
def ConfFormat.stamp (f : ConfFormat) (n : Nat) : Nat := if f.codec = 3 then n else n / 6

/-- A leg receives an encoded frame: an RTP packet on its audio service. -/
def sendAudio (s : State) (l bytes ts : Nat) : State :=
  match s.legStream l true 0 with
  | none => s
  | some (i, st) =>
    let (q, s) := nextSeq s l i
    sendLeg s l 0 (12 + bytes + 16) [14, l, st.ssrc.toNat, q.toNat, ts, bytes]

/-- The leg can still be sent media. -/
def State.hearing (s : State) (l : Nat) : Bool := s.legState l == .running && (s.legRun l).conn == .active

/-- A codec encode finishes: the frame goes to packetisation for the legs that heard it; one that was discarded is gone
(R168, R181). -/
def execAudioEncodeDone (n : Fin 1024) (output bytes : Nat) (s : State) : Outcome State Fault Refusal :=
  let r := s.confRun n
  let x := tget {} r.outs output
  match x.job with
  | none => .next s
  | some j =>
    let s := s.setConfRun n { r with outs := tset {} r.outs output { x with job := none } }
    let k := j.format.bytes bytes
    if k = 0 then .next s
    else
      -- the conference's packetisation is an item of the Hall (R389, R392)
      let (ok, s) := hallWork s (confFlow n) 1
      .next (if !ok then s else (j.legs.filter s.hearing).foldl (fun s l => sendAudio s l k (j.format.stamp j.first)) s)

/-! ## Decode jobs (R160, R164, R180) -/

/-- The leg holds a decode unit: selected or pinned in a running conference, and not a hatch-leg (R157). -/
def State.decodes (s : State) (l : Nat) : Option Nat :=
  match s.legConf l with
  | some c =>
    if !s.hatchLeg l && s.working (confKey c) && (s.heard c (s.now / 70560)).contains l then some c else none
  | none => none

/-- End of what a leg has decoded or is decoding. -/
def LegAudio.endAt (x : LegAudio) : Nat :=
  let r := x.runs.foldl (fun m e => Nat.max m (e.start + e.smp.length)) 0
  x.jobs.foldl (fun m e => Nat.max m (e.start + e.dur)) r

/-- A jitter buffer releases an audio frame, or reports it lost; its decode job is dispatched (R102, R180). -/
def releaseAudio (s : State) (l dur : Nat) (lost : Bool) : State :=
  match s.decodes l with
  | none => s
  | some _ =>
    let x := s.legAudio l
    let b := (s.now + 141120 + 70559) / 70560
    let start := if 48 * b ≤ x.endAt && x.endAt < 48 * b + 48 then x.endAt else 48 * b
    s.setLegAudio l { x with jobs := x.jobs ++ [{ start := start, dur := dur, block := b, lost := lost, late := false }] }

/-- A frame of a leg's decoder as it is concealed (R160): Opus conceals as it will; G.711 and G.722, whose clock is 8,000,
repeat the last pitch period, which is free, and fade linearly to silence over 60 ms of consecutive losses.
DESIGN CHOICE, log entry 167. -/
def conceal (s : State) (l : Nat) (x : LegAudio) (dur : Nat) (own : List (Int × Int)) : List (Int × Int) × LegAudio × State :=
  match s.legStream l false 0 with
  | some (_, g) =>
    if g.clock = 48000 then (own, x, s)
    else if x.tail.isEmpty then (List.replicate dur (0, 0), x, s)
    else
      let p := if x.lossRun = 0 then 1 + Config.freeNat s.free % x.tail.length else x.pitch
      let s := if x.lossRun = 0 then { s with free := s.free + 1 } else s
      ((List.range dur).map fun i =>
        let v := x.tail.getD (x.tail.length - p + (x.lossRun + i) % p) (0, 0)
        let w : Int := (2880 - (x.lossRun + i + 1) : Nat)
        ((v.1 * w).fdiv 2880, (v.2 * w).fdiv 2880), { x with lossRun := x.lossRun + dur, pitch := p }, s)
  | none => (own, x, s)

/-- The last 20 ms that frames gave, from which a pitch period is taken. -/
def LegAudio.heardFrame (x : LegAudio) (smp : List (Int × Int)) : LegAudio :=
  let t := x.tail ++ smp
  { x with tail := t.drop (t.length - 960), lossRun := 0 }

/-- A decode finishes: its samples stand ready, or it was late and is silence (R160, R180). -/
def execAudioDecodeDone (l : Fin 8192) (samples : List (Int × Int)) (concealed : Bool) (s : State) :
    Outcome State Fault Refusal :=
  let x := s.legAudio l
  match x.jobs with
  | [] => .next s
  | j :: r =>
    let own := (samples.take j.dur).map fun p => (clip24 p.1, clip24 p.2)
    let (smp, x, s) := if j.lost || concealed then conceal s l x j.dur own else (own, x.heardFrame own, s)
    let x := { x with jobs := r, runs := if j.late then x.runs else x.runs ++ [{ start := j.start, smp := smp }] }
    let s := s.setLegAudio l x
    if j.lost || concealed then
      let s := s.bump (bndA 0x1C) 1
      match s.legConf l with
      | some c =>
        let r := s.confRun c
        .next (s.setConfRun c { r with concealed := r.concealed + 1 })
      | none => .next s
    else .next s

/-- Decodes that have not finished when their block starts are late (R180). -/
def lateDecodes (s : State) (b : Nat) : State :=
  s.bnd.legs.foldl (fun s e =>
    let l := e.1
    let n := (e.2.jobs.filter fun j => !j.late && decide (j.block ≤ b)).length
    if n = 0 then s
    else
      let x := s.legAudio l
      let s := s.setLegAudio l { x with jobs := x.jobs.map fun j => if j.block ≤ b then { j with late := true } else j }
      let s := pulse (s.bump (bndA 0x10) n) 508
      match s.legConf l with
      | some c =>
        let r := s.confRun c
        s.setConfRun c { r with decLate := r.decLate + n }
      | none => s) s

/-! ## A block (R176) -/

/-- Fades of the hatch-legs at a block start: HATCH_FADE at silence and at full gain (R179). -/
def fadeBlock (s : State) (b l : Nat) : State :=
  let x := s.legAudio l
  let marked := x.under.contains b
  let f := if marked then Nat.min 96 (x.fade + 48) else x.fade - 48
  let s := s.setLegAudio l { x with fade := f, fadeFrom := x.fade, fadeSaid := f == 96 || (x.fadeSaid && f != 0),
                                    under := x.under.filter fun n => decide (b ≤ n) }
  if f = 96 && x.fade != 96 then (event s 0x0712 (low l) 1 (low b) 0 0).bump (bndA 0x2C) 1
  else if f = 0 && x.fadeSaid then event s 0x0712 (low l) 0 (low b) 0 0
  else s

/-- Smallest EXP at which every sample fits in 24 bits after the shift (R113). -/
def mixExp (l : List Int) : Nat :=
  ((List.range 17).find? fun e => l.all fun v => decide (-8388608 ≤ v.fdiv (2 ^ e)) && decide (v.fdiv (2 ^ e) ≤ 8388607)).getD 16

/-- One MIX record as it is sent: CCID, channel, EXP, level, 48 samples in 24-bit two's complement. -/
def mixRecord (ccid chan level : Nat) (l : List Int) : List Nat :=
  let e := mixExp l
  [ccid, chan, e, level] ++ l.map fun v => (v.fdiv (2 ^ e) % 16777216).toNat

/-- Level of the loudest local speaker of a conference. -/
def State.speakerLevel (s : State) (c b : Nat) : Nat := (s.heard c b).foldl (fun m l => Nat.min m (s.score c l)) 127

/-- The records of a conference's partial mix (R170). -/
def partialMix (s : State) (c b : Nat) (k : ConfLink) (local' : List (Int × Int)) : List (List Nat) :=
  let lv := s.speakerLevel c b
  let left := mixRecord k.ccid 0 lv (local'.map Prod.fst)
  if (s.confSet c).cfg.stereo then [left, mixRecord k.ccid 1 lv (local'.map Prod.snd)] else [left]

/-- A conference's mix of block b: contributions, outputs, hatch-legs, and the records for its link. -/
def mixConf (s : State) (c b : Nat) : List (List Nat) × State :=
  let r := s.confRun c
  let ls := s.heard c b ++ (r.ramps.map Prod.fst).filter fun l => !(s.heard c b).contains l
  let (parts, s) := ls.foldl (fun (acc : List (Nat × List (Int × Int)) × State) l =>
    let (v, s) := contribution acc.2 c b l
    (acc.1 ++ [(l, v)], s)) ([], s)
  let local' := parts.foldl (fun acc e => addSmp acc e.2) silence
  let total := addSmp local' (s.peerSum c b)
  let outs := outputsOf s c b total parts
  let s := outs.foldl (fun s o => feedOutput s c (s.outTwo c o.out) o) s
  let toHat : List (Nat × Nat × List Int) := ((s.members c).filter fun l => s.hatchLeg l).filterMap fun l =>
    match s.legOutput c b l, tfind s.hat.legs l with
    | some o, some h =>
      let slave : Bool := match h.bank with
        | some k => !((tfind s.hat.cfgs k).map (fun (g : BankCfg) => g.master)).getD false
        | none => false
      let buf := (tget {} (s.confRun c).outs o).buf
      some (l, b + (if slave then 3 else 2), (buf.drop (buf.length - 48)).map fun p => (p.1 + p.2).fdiv 2)
    | _, _ => none
  let s := { s with bnd := { s.bnd with toHatch := (s.bnd.toHatch.filter fun (e : Nat × Nat × List Int) => decide (b ≤ e.2.1)) ++ toHat } }
  let r := s.confRun c
  let ramps := r.ramps.filterMap fun (e : Nat × LegRamp) => 
    if e.2.done + 48 < e.2.total then some (e.1, { e.2 with done := e.2.done + 48 }) else none
  let s := s.setConfRun c { r with ramps := ramps, drain := r.drain.map (· + 48) }
  (match s.mixLink c with
    | some k => partialMix s c b k local'
    | none => [], s)

/-- Conferences that mix: RUNNING or DRAINING. -/
def State.liveConfs (s : State) : List Nat :=
  (s.objs.filter fun e => e.1 / 2 ^ 32 == 7 && (e.2.st == .running || e.2.st == .draining)).map fun e => e.1 % 2 ^ 32

/-- A peer's MIX frames of a block: at most 9 records each, on the cascade audio queue (R113, R170). -/
def sendMix (s : State) (p b : Nat) (recs : List (List Nat)) : State :=
  match s.ftb.cfg with
  | none => s
  | some g =>
    let groups := (List.range ((recs.length + 8) / 9)).map fun i => (recs.drop (9 * i)).take 9
    groups.foldl (fun s rs =>
      sendFtb s g p 2 1 (9 + 150 * rs.length) (b :: rs.length :: rs.flatten)) s

/-- The Bandstand's block: encoders take what has closed, then swaps, selection, hatch fades, the mix, partial mixes (R176). -/
def blockBandstand (s : State) (b : Nat) : State :=
  let cs := s.liveConfs
  let s := lateDecodes s b
  let s := cs.foldl (fun s c => closeFrames s c b) s
  let s := cs.foldl (fun s c => match (s.confRun c).swap with
    | some n => if n ≤ b then swapNow s c b true else s
    | none => s) s
  let s := cs.foldl (fun s c => selectBlock s c b) s
  let s := (s.hat.legs.map Prod.fst).foldl (fun s l => fadeBlock s b l) s
  let (recs, s) := cs.foldl (fun (acc : List (Nat × List (List Nat)) × State) c =>
    let (v, s) := mixConf acc.2 c b
    (acc.1 ++ [(c, v)], s)) ([], s)
  let s := (List.range 16).foldl (fun s p =>
    if s.peerReady p then
      let rs := (recs.filter fun e => match s.mixLink e.1 with
        | some k => k.mask.testBit p
        | none => false).map Prod.snd
      sendMix s p b rs.flatten
    else s) s
  let s := peersTaken s b
  let keep := 48 * b - 24
  { s with bnd := { s.bnd with
    block := some b
    legs := s.bnd.legs.filterMap fun e =>
      let x := { e.2 with runs := e.2.runs.filter fun r => decide (keep < r.start + r.smp.length) }
      if x = {} then none else some (e.1, x) } }

/-! ## Commands (R182-R184) -/

def confOk (n : Nat) : Bool := decide (n < 1024)
def State.confPowered (s : State) (c : Nat) : Bool := s.dom (68 + c % 4)

/-- Checks of 0x0710 in their order (R60). -/
def State.confConfigChecks (s : State) (c : Cmd) : List (Bool × Status) :=
  let w := c.word 4
  let v := c.word 5
  let n := fun (k : Nat) => (c.word k).toNat
  let eq := fun (hi lo : Nat) => sbits (c.word 12) hi lo
  let eqBad := fun (i : Int) => decide (i < -24) || decide (24 < i)
  let bad := decide (16 < bits w 4 0) || decide (16 < bits w 12 8) || bits w 22 20 == 0 || decide (4 < bits w 22 20) ||
    decide (40 < bits v 13 8) || decide (705600000 < n 6) || decide (n 7 < 70560) || decide (70560000 < n 7) ||
    n 8 % 70560 != 0 || decide (8 * 70560 < n 8) || decide (24 < bits (c.word 9) 4 0) ||
    decide (n 10 < 70560) || decide (70560000 < n 10) || decide (60 < bits (c.word 11) 13 8) ||
    eqBad (eq 7 0) || eqBad (eq 15 8) || eqBad (eq 23 16)
  [(!s.stopped (confKey c.num), stNotStopped), (bad, stBadField)]

def execConfConfig (c : Cmd) (s : State) : Outcome State Fault Refusal :=
  .next (runCmd s 0x0710 c 1 1 (confOk c.num) (s.confPowered c.num) fun s =>
    let w := c.word 4
    let v := c.word 5
    let n := fun (k : Nat) => (c.word k).toNat
    let eq := fun (hi lo : Nat) => sbits (c.word 12) hi lo
    checked s 0x0710 c (s.confConfigChecks c) fun s =>
      let g : ConfCfg :=
        { selCount := bits w 4 0, pinSlots := bits w 12 8, stereo := bit w 16, lowlat := bit w 17, speakerEvt := bit w 18,
          formats := bits w 22 20, floor := bits v 6 0, margin := bits v 13 8, hold := n 6, scoreCt := n 7, xfade := n 8,
          ceil := bits (c.word 9) 4 0, release := n 10, hpf := bits (c.word 11) 1 0, deess := bits (c.word 11) 13 8,
          eqLow := eq 7 0, eqMid := eq 15 8, eqHigh := eq 23 16 }
      finish (bumpGen (s.setConfSet c.num { s.confSet c.num with cfg := g }) (confKey c.num)) 0x0710 c stOk)

/-- Checks of 0x0711 in their order (R60). -/
def State.confFormatChecks (s : State) (c : Cmd) : List (Bool × Status) :=
  let w := c.word 4
  let v := c.word 6
  let i := bits w 1 0
  let codec := bits w 7 4
  let ch := bits w 9 8
  let fr := bits w 14 12
  let rate := (c.word 5).toNat
  let mode := bits v 5 4
  let bad := decide ((s.confSet c.num).cfg.formats ≤ i) || decide (3 < codec) || ch == 0 || ch == 3 ||
    (ch == 2 && codec != 3) || decide (3 < fr) || (codec != 3 && decide (fr < 2)) || decide (4 < bits w 19 16) ||
    (codec == 3 && (decide (rate < 6000) || decide (510000 < rate))) ||
    (codec == 3 && (mode == 1 || mode == 3) && decide (fr < 2))
  [(!s.stopped (confKey c.num), stNotStopped), (bad, stBadField)]

def execConfFormat (c : Cmd) (s : State) : Outcome State Fault Refusal :=
  .next (runCmd s 0x0711 c 1 1 (confOk c.num) (s.confPowered c.num) fun s =>
    let w := c.word 4
    let v := c.word 6
    let i := bits w 1 0
    let codec := bits w 7 4
    let ch := bits w 9 8
    let fr := bits w 14 12
    let rate := (c.word 5).toNat
    let mode := bits v 5 4
    checked s 0x0711 c (s.confFormatChecks c) fun s =>
      let f : ConfFormat :=
        { codec := codec, channels := ch, frame := fr, bandwidth := bits w 19 16, bitrate := rate, fec := bit v 0,
          dtx := bit v 1, cbr := bit v 2, mode := mode }
      let x := s.confSet c.num
      finish (bumpGen (s.setConfSet c.num { x with formats := tset {} x.formats i f }) (confKey c.num)) 0x0711 c stOk)

/-- Live changes are accepted in STOPPED and RUNNING (R174, R182). -/
def State.confLive (s : State) (c : Nat) : Bool := s.stopped (confKey c) || s.isRunning (confKey c)

/-- Entry i of a ROUTE_LOAD. -/
def routeEntry (c : Cmd) (i : Nat) : Nat × RouteEntry :=
  let a := c.word (5 + 2 * i)
  let b := c.word (6 + 2 * i)
  (bits a 12 0, { copyOf := bits a 25 13, route := bits a 27 26, format := bits a 29 28, pin := bit a 30, mute := bit a 31,
                  gain := bits b 23 0, filt := bit b 24 })

/-- What refuses an entry, in the order of R184. -/
def State.routeRefused (s : State) (c : Nat) (t : List (Nat × RouteEntry)) (l : Nat) (e : RouteEntry) : Option Status :=
  let pins := ((tput t l e).filter fun x => x.2.pin).length
  if e.pin && decide ((s.confSet c).cfg.pinSlots < pins) then some stPinLimit
  else if s.legConf l != some c || (e.route == 2 && s.legConf e.copyOf != some c) then some stNotMember
  else if e.route == 2 && e.copyOf == l then some stCopyChain
  else none

/-- Apply entries in order until one fails: how many were applied, the bank, the failing status. DEDUCED, log entry 82. -/
def loadEntries (s : State) (c : Nat) : List (Nat × RouteEntry) → Nat → List (Nat × RouteEntry) →
    Nat × List (Nat × RouteEntry) × Option Status
  | [], n, t => (n, t, none)
  | (l, e) :: r, n, t =>
    match s.routeRefused c t l e with
    | some st => (n, t, some st)
    | none => loadEntries s c r (n + 1) (tput t l e)

/-- Checks of 0x0720 in their order (R60). -/
def State.routeLoadChecks (s : State) (c : Cmd) : List (Bool × Status) :=
  let n := bits (c.word 4) 5 0
  let es := (List.range n).map fun i => routeEntry c i
  [(!s.confLive c.num, stWrongState), ((s.confRun c.num).swap.isSome, stSwapPending),
   (n == 0 || decide (61 < n), stBadField), (decide (16 * c.len < 5 + 2 * n), stBadLength),
   (es.any fun e => e.2.route == 3, stBadField)]

/-- DEDUCED, log entry 82. -/
def execRouteLoad (c : Cmd) (s : State) : Outcome State Fault Refusal :=
  .next (runCmd s 0x0720 c 1 8 (confOk c.num) (s.confPowered c.num) fun s =>
    let n := bits (c.word 4) 5 0
    let es := (List.range n).map fun i => routeEntry c i
    let x := s.confSet c.num
    checked s 0x0720 c (s.routeLoadChecks c) fun s =>
      let (k, t, bad) := loadEntries s c.num es 0 (x.bank !x.active)
      let s := s.setConfSet c.num (x.setBank (!x.active) t)
      match bad with
      | none => complete s 0x0720 c stOk (low k) 0 0 0
      | some st => complete s 0x0720 c (if k = 0 then st else stOkPartial) (low k) 0 0 0)

/-- Checks of 0x0721 in their order (R60). -/
def State.routeCopyChecks (s : State) (c : Cmd) : List (Bool × Status) :=
  [(!s.confLive c.num, stWrongState), ((s.confRun c.num).swap.isSome, stSwapPending), (c.word 4 != 0, stBadField)]

def execRouteCopy (c : Cmd) (s : State) : Outcome State Fault Refusal :=
  .next (runCmd s 0x0721 c 1 1 (confOk c.num) (s.confPowered c.num) fun s =>
    let x := s.confSet c.num
    checked s 0x0721 c (s.routeCopyChecks c) fun s =>
      finish (s.setConfSet c.num (x.setBank (!x.active) (x.bank x.active))) 0x0721 c stOk)

/-- The loadable bank copies a leg that it copies itself (R168). -/
def copyChain (t : List (Nat × RouteEntry)) : Bool := t.any fun e => e.2.route == 2 && (bankEntry t e.2.copyOf).route == 2

/-- First block that satisfies R175. DEDUCED, log entry 80. -/
def State.swapBlock (s : State) (c atBlock : Nat) : Nat :=
  Nat.max (Nat.max atBlock ((s.now + 70560 + 70559) / 70560)) (s.confRun c).xfTo

/-- Checks of 0x0722 in their order (R60). -/
def State.routeSwapChecks (s : State) (c : Cmd) : List (Bool × Status) :=
  let x := s.confSet c.num
  [(!s.confLive c.num, stWrongState), ((s.confRun c.num).swap.isSome, stSwapPending),
   (copyChain (x.bank !x.active), stCopyChain)]

/-- DEDUCED, log entry 80. -/
def execRouteSwap (c : Cmd) (s : State) : Outcome State Fault Refusal :=
  .next (runCmd s 0x0722 c 1 1 (confOk c.num) (s.confPowered c.num) fun s =>
    let x := s.confSet c.num
    checked s 0x0722 c (s.routeSwapChecks c) fun s =>
      let run := s.isRunning (confKey c.num)
      let b := if run then s.swapBlock c.num (dword (c.word 4) (c.word 5)) else s.now / 70560
      let s := if run then s.setConfRun c.num { s.confRun c.num with swap := some b } else swapNow s c.num b false
      complete s 0x0722 c stOk (low b) (high b) (if x.active then 0 else 1) 0)

def execConfStats (c : Cmd) (s : State) : Outcome State Fault Refusal :=
  .next (runCmd s 0x0730 c 1 1 (confOk c.num) true fun s =>
    let r := s.confRun c.num
    let p := if s.working (confKey c.num) then (s.pinned c.num (s.now / 70560)).length else 0
    complete s 0x0730 c stOk (low (r.selected.length + p * 256)) (low r.concealed) (low r.decLate) (low r.clipped))

end Sys2Proof.Machine
end

