-- ==== Sys2Proof/Machine/Bellboard.lean ====
section
/-!
DEFINITION. The Bellboard: sources, claims, priority stacks, retargeting, the watch list, errors and their log
(R489-R508).
-/
namespace Sys2Proof.Machine

open Host

/-- A unit pulses a source (R489). -/
def execSourcePulse (n : Fin 1024) (s : State) : Outcome State Fault Refusal := .next (pulse s n)

/-- A write of BEL_PEND_SET (R489, R507). -/
def execPendSet (r : Requester) (v : Word) (s : State) : Outcome State Fault Refusal :=
  let s := hostArrives s r
  .next (if s.coreOn then pulse s (bits v 9 0) else s)

/-- A write of BEL_PEND_CLR (R507). -/
def execPendClear (r : Requester) (v : Word) (s : State) : Outcome State Fault Refusal :=
  let s := hostArrives s r
  .next (if s.coreOn then
      resignal s { s with bell := { s.bell with pend := s.bell.pend.filter fun n => n != bits v 9 0 } }
    else s)

/-- Sources that a claim by target t may take: running priority and DISABLE play no part (R494). DEDUCED, log entry 135. -/
def State.claimable (s : State) (t : Nat) : Option Nat :=
  s.best (s.bell.pend.filter fun n => s.srcEn n && s.route n == t)

/-- Value and effect of a claim (R494, R496). DEDUCED, log entry 135. -/
def claim (s : State) (t : Nat) : Word × State :=
  match s.claimable t with
  | none => (0x8000_0000, s)
  | some n =>
    if 16 ≤ (s.stack t).length then
      (0x4000_0000, { s with bell := { s.bell with fullHeld := linsert s.bell.fullHeld t } })
    else
      (low (s.srcPrio n * 2 ^ 26 + n),
       resignal s { s with bell := { s.bell with
         pend := s.bell.pend.filter (fun m => m != n),
         levelStacks := tset [] s.bell.levelStacks t (s.srcPrio n :: s.stack t) } })

/-- A read of BEL_Tt_CLAIM. -/
def execInterruptClaim (r : Requester) (t : Fin 21) (s : State) : Outcome State Fault Refusal :=
  let s := hostArrives s r
  let a := 0x0020_1004 + t.val * 0x20
  if s.coreOn then
    let p := claim s t
    .next (readOut p.2 r a p.1)
  else .next (readOut s r a 0)

/-- Pop the top of a target's stack (R495). -/
def endOfInterrupt (s : State) (t : Nat) : State :=
  match s.stack t with
  | [] => { s with bell := { s.bell with eoiEmpty := linsert s.bell.eoiEmpty t } }
  | _ :: r => resignal s { s with bell := { s.bell with
      levelStacks := tset [] s.bell.levelStacks t r, fullHeld := s.bell.fullHeld.filter (fun u => u != t) } }

/-- A write of BEL_Tt_EOI. -/
def execEoiWrite (r : Requester) (t : Fin 21) (v : Word) (s : State) : Outcome State Fault Refusal :=
  let s := hostArrives s r
  .next (if s.coreOn && bit v 0 then endOfInterrupt s t else s)

/-- A write of BEL_Tt_CTRL (R497). -/
def writeTargetCtrl (s : State) (t : Nat) (v : Word) : State :=
  resignal s (s.setReg (0x0020_1000 + t * 0x20) (v &&& 1))

def execTargetDisableWrite (r : Requester) (t : Fin 21) (v : Word) (s : State) : Outcome State Fault Refusal :=
  let s := hostArrives s r
  .next (if s.coreOn then writeTargetCtrl s t v else s)

/-- The value a write of BEL_SRCs_CFG leaves: fixed fields of sources 17 to 19 keep theirs (R491, R508). -/
def srcCfgValue (n : Nat) (v : Word) : Word :=
  let v := v &&& 0x87FF_3FFF
  if n = 17 then setField v 3 0 1
  else if n = 18 then setField v 3 0 0
  else if n = 19 then setField (setField v 3 0 0) 8 4 20 ||| 0x8000_0000
  else v

/-- A write of BEL_SRCs_CFG reroutes from the cycle it lands (R490, R499, R500). -/
def writeSrcCfg (s : State) (n : Nat) (v : Word) : State :=
  let w := srcCfgValue n v
  if 21 ≤ bits w 8 4 || (21 ≤ bits w 13 9 && bits w 13 9 ≠ 31) then
    { s with bell := { s.bell with cfgErr := true } }
  else
    resignal s (s.setReg (srcCfgA n) w)

def execSourceConfigWrite (r : Requester) (n : Fin 1024) (v : Word) (s : State) : Outcome State Fault Refusal :=
  let s := hostArrives s r
  .next (if s.coreOn then writeSrcCfg s n v else s)

/-- A write of BEL_WATCHw (R501). -/
def writeWatch (s : State) (w : Nat) (v : Word) : State := s.setReg (0x0020_2000 + w * 4) (v &&& 0x8000_03FF)

def execWatchWrite (r : Requester) (w : Fin 64) (v : Word) (s : State) : Outcome State Fault Refusal :=
  let s := hostArrives s r
  .next (if s.coreOn then writeWatch s w v else s)

/-- A unit reports an error (R502, R503). DESIGN CHOICE, log entry 136. -/
def execErrorReport (n : Fin 1024) (sev : Severity) (i0 i1 : Word) (s : State) : Outcome State Fault Refusal :=
  .next (if s.coreOn then reportError s n sev i0 i1 else s)

/-- ALERT_N follows source 19's message (R506): a message that is masked has not been sent. DEDUCED, log entry 137. -/
def execAlertNAssert (s : State) : Outcome State Fault Refusal :=
  if s.bell.alertWait && (!s.hostReach || !s.porch.pba.contains (s.srcVector 19)) then
    .next { s with bell := { s.bell with alertWait := false }, gate := { s.gate with alertN := true },
                   out := Out.alertN true :: s.out }
  else .next s

/-- Target of a requester (R490). -/
def reqTarget : Requester → Nat
  | .host => 20
  | .study n => n
  | .core n => 4 + n

/-- Close the innermost level (R504). -/
def errDone (s : State) (r : Requester) : State :=
  match s.bell.levels with
  | [] => s
  | e :: rest =>
    let src := if e.sev = .fatal then 18 else 17
    if r = .host || s.route src == reqTarget r then { s with bell := { s.bell with levels := rest } }
    else { s with bell := { s.bell with doneDenied := true } }

def execErrDone (r : Requester) (v : Word) (s : State) : Outcome State Fault Refusal :=
  let s := hostArrives s r
  .next (if s.coreOn && bit v 0 then errDone s r else s)

/-- A test error: the two information words are not given by the manual (R507). -/
def errInject (s : State) (v : Word) : State :=
  let (a, s) := s.fresh
  let (b, s) := s.fresh
  let i0 := Config.freeWord a
  let i1 := Config.freeWord b
  match bits v 1 0 with
  | 0 => reportError s (bits v 25 16) .corrected i0 i1
  | 1 => reportError s (bits v 25 16) .deferred i0 i1
  | 2 => reportError s (bits v 25 16) .fatal i0 i1
  | _ => s

def execErrInject (r : Requester) (v : Word) (s : State) : Outcome State Fault Refusal :=
  let s := hostArrives s r
  .next (if s.coreOn then errInject s v else s)

/-- Remove the head log entry; the log has room again (R505). -/
def logPop (s : State) : State :=
  { s with bell := { s.bell with log := s.bell.log.drop 1, fullSaid := false } }

def execLogPop (r : Requester) (v : Word) (s : State) : Outcome State Fault Refusal :=
  let s := hostArrives s r
  .next (if s.coreOn && bit v 0 then logPop s else s)

end Sys2Proof.Machine
end

