-- ==== Sys2Proof/Machine/GlassDecode.lean ====
section
/-!
DEFINITION. Glasshouse decode pipes: slots, units and pages, band order, fences, missing references, taint and
freeze, key requests and commands (R252-R278).
-/
namespace Sys2Proof.Machine

open Host

def gldA (n off : Nat) : Nat := 0x0100_0000 + n * 0x1_0000 + off
def gldSlotA (k off : Nat) : Nat := gldA (k / 16) (0x100 + k % 16 * 0x40 + off)
def slotKey (k : Nat) : Nat := objKey 0x0A k

def stNotVideoStream : Status := 0x1A01
def stStreamBound : Status := 0x1A02

def State.slotCfg (s : State) (k : Nat) : SlotCfg := tget {} s.dec.cfgs k
def State.slotRun (s : State) (k : Nat) : SlotRun := tget {} s.dec.runs k
def State.setSlotRun (s : State) (k : Nat) (x : SlotRun) : State := { s with dec := { s.dec with runs := tset {} s.dec.runs k x } }

/-! ## Reservations (R256, R260, R516) -/

def ceilDiv (a b : Nat) : Nat := (a + b - 1) / b

def SlotCfg.units (g : SlotCfg) : Nat := ceilDiv (g.maxW * g.maxH * g.maxFps) 27648000

/-- Pages of one picture and of the slot. -/
def SlotCfg.picPages (g : SlotCfg) : Nat :=
  ceilDiv (ceilDiv g.maxW 64 * ceilDiv g.maxH 64 * ((if g.bit10 then 7680 else 6144) + 4)) 32768
def SlotCfg.pages (g : SlotCfg) : Nat := g.dpb * g.picPages

def sumNat (l : List Nat) : Nat := l.foldl (· + ·) 0

def pipeSlots (n : Nat) : List Nat := (List.range 16).map fun i => 16 * n + i

/-- Units that the slots of pipe n hold. -/
def State.pipeUnits (s : State) (n : Nat) : Nat :=
  sumNat (((pipeSlots n).filter fun k => s.live (slotKey k)).map fun k => (s.slotCfg k).units)

/-- Units of a pipe at run point p of VDD_EAST. -/
def unitLimit (p : Nat) : Nat := match p with | 0 => 16 | 1 => 12 | 2 => 9 | _ => 6

def State.eastPoint (s : State) : Nat := (tget ({} : Rail) s.pwr.rails 1).freq

def State.storePages (s : State) : Nat := if s.gib4 then 53248 else 20480
def State.freeStore (s : State) : Nat :=
  s.storePages - sumNat (s.dec.runs.map fun (e : Nat × SlotRun) => e.2.pages + e.2.oldPages)

/-! ## What the Orangery uses (R261, R294) -/

def layersUse (l : Tab Layer) (k : Nat) : Bool := l.any fun (e : Nat × Layer) => e.2.kind == 0 && e.2.source == k

/-- A layer of an active or pending commit of a canvas that is not STOPPED uses slot k. -/
def State.orgUses (s : State) (k : Nat) : Bool :=
  s.org.runs.any fun (e : Nat × CanvasRun) => s.live (objKey 0x0B e.1) && (layersUse e.2.active k ||
    (match e.2.pend with | some p => layersUse p.layers k | none => false))

/-- Some canvas has picture n of slot k latched. -/
def State.latchedPic (s : State) (k n : Nat) : Bool :=
  s.org.runs.any fun (e : Nat × CanvasRun) => s.live (objKey 0x0B e.1) && e.2.frame.isSome &&
    (e.2.latched ++ e.2.oldLatched).any fun x => x.slot == k && x.num == n

/-- Release the holds of slot k that R294 ends, with `start` those of a slot in no commit; pages of a STOPPED slot return
with the last hold (R275). -/
def pruneHolds (s : State) (k : Nat) (start : Bool) : State :=
  let x := s.slotRun k
  let free := start && !s.orgUses k
  let store := x.store.map fun p =>
    let newer := x.store.any fun q => decide (p.num < q.num) && q.shown && !q.missing
    if p.held && !s.latchedPic k p.num && (free || newer) then { p with held := false } else p
  -- the newest published picture stays readable until its buffer is taken
  let store := store.filter fun p => p.missing || p.isRef || p.held ||
    (p.shown && !(store.any fun q => decide (p.num < q.num) && q.shown && !q.missing))
  let old := if s.org.runs.any fun (e : Nat × CanvasRun) => e.2.frame.isSome && (e.2.latched ++ e.2.oldLatched).any fun l =>
      l.slot == k && !(store.any fun p => p.num == l.num) && (x.cur.map fun c => c.num) != some l.num
    then x.oldPages else 0
  let pages := if s.stopped (slotKey k) && !(store.any fun p => p.held) then 0 else x.pages
  s.setSlotRun k { x with store := store, oldPages := old, pages := pages }

/-- Operating point in use: the chosen one, or 0 when the stream does not define it (R273). -/
def SlotCfg.point (g : SlotCfg) (i : StreamInfo) : Nat := if g.opPoint < i.points then g.opPoint else 0

def State.slotPoint (s : State) (k : Nat) : Nat :=
  if (s.slotCfg k).av1 then ((s.slotRun k).info.map (s.slotCfg k).point).getD (s.slotCfg k).opPoint else 0

/-! ## Pictures from the jitter buffer (R104, R259, R264, R266) -/

/-- A picture is missing: skipped if nothing depends on it, else recorded in the reference state. DEDUCED, log entry 100. -/
def recordMissing (s : State) (k n : Nat) (skip : Bool) : State :=
  if skip then s.bump (gldSlotA k 0x20) 1
  else
    let x := s.slotRun k
    s.setSlotRun k { x with store := x.store ++
      [{ num := n, isRef := true, missing := true, tainted := false, shown := false, held := false, w := 0, h := 0 }] }

/-- The jitter buffer reports a picture missing. -/
def pictureMissing (s : State) (k : Nat) (skip : Bool) : State :=
  if s.isRunning (slotKey k) then
    let x := s.slotRun k
    recordMissing (s.setSlotRun k { x with next := x.next + 1 }) k x.next skip
  else s

/-- The jitter buffer releases a picture to its slot. -/
def releasePicture (s : State) (k : Nat) (key nonRef : Bool) : State :=
  if s.isRunning (slotKey k) then
    let x := s.slotRun k
    let n := x.next
    let s := s.setSlotRun k { x with next := n + 1 }
    if 4 ≤ x.waiting.length then recordMissing (s.bump (gldSlotA k 0x30) 1) k n nonRef
    else
      let x := s.slotRun k
      s.setSlotRun k { x with waiting := x.waiting ++
        [{ num := n, deadline := s.now + 70560000 / (s.slotCfg k).maxFps, key := key, nonRef := nonRef }] }
  else s

/-- Slot that decodes receive stream i of leg l. -/
def State.slotOf (s : State) (l i : Nat) : Option Nat :=
  (s.dec.cfgs.find? fun (e : Nat × SlotCfg) => e.2.leg == l && e.2.stream == i && s.working (slotKey e.1)).map Prod.fst

/-! ## Key requests (R269) -/

/-- A PLI (or FIR) on leg l for its receive stream i; requests within 70,560 ct leave as one packet. -/
def askLeg (s : State) (l i : Nat) (fir : Bool) : State :=
  let key := 8 * l + i
  let soon := match tfind s.dec.asked key with
    | some t => decide (s.now < t + 70560)
    | none => false
  if soon || s.conn l != .active then s
  else match tfind (s.legSet l).streams i with
    | some c =>
      let s := { s with dec := { s.dec with asked := tput s.dec.asked key s.now } }
      sendRtcp s l (if fir then 20 else 12) [if fir then 7 else 6, c.ssrc.toNat]
    | none => s

/-- One request of a slot, counted; KEYREQ 2 sends nothing. DEDUCED, log entry 104. -/
def slotAsks (s : State) (k : Nat) : State :=
  let g := s.slotCfg k
  if g.keyreq = 2 then s
  else
    let s := (askLeg s g.leg g.stream (g.keyreq == 1)).bump (gldSlotA k 0x28) 1
    let x := s.slotRun k
    s.setSlotRun k { x with keys := x.keys + 1 }

/-- A request of a taint run: it counts towards KEYREQ_MAX, and the next one is set. -/
def runAsks (s : State) (k : Nat) : State :=
  let g := s.slotCfg k
  if g.keyreq = 2 then s
  else
    let s := slotAsks s k
    let x := s.slotRun k
    let n := x.keySent + 1
    let past := g.keyreqMax ≤ n
    let s := s.setSlotRun k { x with keySent := n, starved := x.starved || past,
                                     keyNext := some (s.now + if past then 70560000 else g.keyreqCt) }
    if past && !x.starved then event s 0x0A14 (low k) (low n) 0 0 0 else s

/-! ## Taint and freeze (R268, R270) -/

/-- DEC_FREEZE: 1 begun, 0 ended, 2 switched to SHOW; the slot's source pulses (R276, R491). -/
def decFreeze (s : State) (k how : Nat) : State :=
  pulse (event s 0x0A16 (low k) (low how) (low (s.slotRun k).lastPub) 0 0) (512 + k)

/-- Under policy 2 a run that has lasted FREEZE_CT switches to SHOW. -/
def freezeSwitch (s : State) (k : Nat) : State :=
  let x := s.slotRun k
  let g := s.slotCfg k
  match x.taint with
  | some (t, _) =>
    if g.freeze = 2 && !x.switched && decide (t + g.freezeCt ≤ s.now) && s.working (slotKey k) then
      let s := s.setSlotRun k { x with switched := true, frozen := false }
      if x.frozen then decFreeze s k 2 else s
    else s
  | none => s

/-- The present picture of slot k is TAINTED by a reference: withheld under the freeze policy unless a fence has been
signalled. -/
def taintCur (s : State) (k : Nat) : State :=
  let x := s.slotRun k
  match x.cur with
  | none => s
  | some c =>
    let hide := (s.slotCfg k).freeze ≠ 1 && !x.switched && c.final = 0
    let s := s.setSlotRun k { x with cur := some { c with tainted := true, shown := c.shown && !hide }, frozen := x.frozen || hide }
    if hide && !x.frozen then decFreeze s k 1 else s

/-- A taint run begins. -/
def beginTaint (s : State) (k : Nat) : State :=
  let x := s.slotRun k
  pulse (runAsks (s.setSlotRun k { x with taint := some (s.now, 0), switched := false, keySent := 0, keyNext := none, starved := false }) k)
    (512 + k)

/-- A picture that is still held as a reference and is not MISSING. -/
def SlotRun.ref (x : SlotRun) (n : Nat) : Option StorePic := x.store.find? fun p => p.num == n && p.isRef && !p.missing

/-- The substitute for a missing reference: the most recently decoded picture of the spatial layer that is still a reference
(R267). DEDUCED, log entry 100. -/
def SlotRun.substitute (x : SlotRun) (layer : Nat) : Word :=
  match (x.store.filter fun p => p.isRef && !p.missing && p.layer == layer).getLast? with
  | some p => low p.num
  | none => 0xFFFF_FFFF

/-- What a missing or tainted reference does: the run's first picture raises DEC_REF_MISSING; one whose reference is only
tainted names that reference as its own substitute. DESIGN CHOICE, log entry 169. -/
def refTaint (s : State) (k num : Nat) (name sub : Word) : State :=
  let s := if (s.slotRun k).taint.isNone then eventSt (beginTaint s k) 0x0A12 stRefMissing (low k) (low num) name sub 0 else s
  taintCur s k

/-- A concealed block: copied from the co-located block of the first reference, or mid-grey (R271). -/
def SlotRun.concealBlock (x : SlotRun) (c : CurPic) (b : Nat × Nat) : (Nat × Nat) × Option Nat :=
  (b, match c.firstRef.bind x.ref with
    | some p => ((p.conc.find? fun e => e.1 == b).map Prod.snd).getD (some p.uid)
    | none => none)

/-- Damage conceals blocks and taints the picture, which keeps its fences (R268, R270, R271). -/
def damage (s : State) (k : Nat) (bs : List (Nat × Nat)) : State :=
  let x := s.slotRun k
  match x.cur with
  | none => s
  | some c =>
    let s := s.setSlotRun k { x with cur := some { c with tainted := true, conc := c.conc ++ bs.map (x.concealBlock c) } }
    let s := s.bump (gldSlotA k 0x24) bs.length
    let s := if x.taint.isNone then beginTaint s k else s
    match s.limit (objKey 0x0A15 k) ctPerSec bs.length 0 with
    | (some (n, _), s) => event s 0x0A15 (low k) (low c.num) (low n) 0 0
    | (none, s) => s

/-- What a band shows of missing references, damage and taint. -/
def applyObs (s : State) (k : Nat) (o : BandObs) : State :=
  let s := freezeSwitch s k
  let x := s.slotRun k
  match x.cur with
  | none => s
  | some c =>
    let lost := (o.refs.filter fun r => (x.ref r.1).isNone).map Prod.snd
    let lost := match o.gap with | some g => g :: lost | none => lost
    let s := s.setSlotRun k { x with cur := some { c with firstRef := c.firstRef.orElse fun _ => o.refs.head?.map Prod.fst } }
    let s := if lost.isEmpty then s else s.bump (gldSlotA k 0x18) lost.length
    let s := match lost with
      | r :: _ => refTaint s k c.num r (x.substitute c.layer)
      | [] => s
    let s := match o.refs.find? fun r => (match x.ref r.1 with | some p => p.tainted | none => false) with
      | some r => refTaint s k c.num r.2 (low r.1)
      | none => s
    if o.damaged.isEmpty then s else damage s k o.damaged

/-! ## The order of work (R253, R257, R261) -/

/-- Buffers of a slot that are not free. -/
def SlotRun.used (x : SlotRun) : Nat := (x.store.filter fun p => !p.missing && (p.isRef || p.held)).length

/-- Take a buffer for a new picture: a free one, or that of the oldest reference that no layer holds, which becomes
MISSING; none while every buffer is held. -/
def SlotRun.takeBuffer (x : SlotRun) (dpb : Nat) : Option SlotRun :=
  if x.used < dpb then some x
  else match x.store.find? fun p => p.isRef && !p.held && !p.missing with
    | some p => some { x with store := x.store.map fun q => if q = p then { q with missing := true, shown := false } else q }
    | none => none

/-- Deadline of the next band that slot k offers its pipe. -/
def State.offers (s : State) (k : Nat) : Option Nat :=
  let x := s.slotRun k
  if !s.working (slotKey k) then none
  else match x.cur with
    | some c => if c.decoded < c.bands then some c.deadline else none
    | none =>
      if !s.isRunning (slotKey k) || (x.takeBuffer (s.slotCfg k).dpb).isNone then none
      else x.waiting.head?.map fun w => w.deadline

/-- Earliest deadline, then lower slot number. -/
def earliest : List (Nat × Nat) → Option (Nat × Nat)
  | [] => none
  | a :: r => match earliest r with
    | none => some a
    | some b => if b.1 < a.1 then some b else some a

def State.pickSlot (s : State) (n : Nat) : Option Nat :=
  (earliest ((pipeSlots n).filterMap fun k => (s.offers k).map fun d => (d, k))).map Prod.snd

/-- The profile is in the table of R252. PRESUMED, log entry 170. -/
def profileOk (av1 : Bool) (i : StreamInfo) : Bool :=
  if av1 then i.profile == 0 else i.profile == 77 || i.profile == 100 || (i.profile == 66 && i.constrained)

/-- Highest level of the table of R252: 4.1, or AV1 4.0. PRESUMED, log entry 170. -/
def levelMax (av1 : Bool) : Nat := if av1 then 8 else 41

/-- Cause for which a picture of this stream is not decoded (R253, R276). -/
def SlotCfg.refuses (g : SlotCfg) (i : StreamInfo) (excluded : Bool) : Option Nat :=
  if !profileOk g.av1 i then some 1
  else if levelMax g.av1 < i.level.toNat then some 2
  else if g.maxW < i.width || g.maxH < i.height then some 3
  else if i.depth ≠ 8 && !(g.bit10 && i.depth = 10) then some 4
  else if i.excluded || excluded then some 5
  else if i.chroma ≠ 1 then some 6
  else none

/-- DEC_STREAM for a parameter set that the slot decodes when what it reports is new, and DEC_DPB_SHORT once per sequence
(R253, R262). -/
def streamSeen (s : State) (k n : Nat) (i : StreamInfo) (newSeq : Bool) : State :=
  let x := s.slotRun k
  let g := s.slotCfg k
  let changed := match x.told with
    | some j => j.width != i.width || j.height != i.height || g.point j != g.point i
    | none => true
  let raise := decide (g.dpb < i.refs + 2) && (newSeq || !x.short)
  let s := s.setSlotRun k { x with told := some i, short := raise || (x.short && !newSeq) }
  let s := if changed then
      event s 0x0A10 (low k) (low (i.width + i.height * 65536))
        (low (i.profile.toNat + i.level.toNat * 256 + (if i.depth = 10 then 65536 else 0) + g.point i * 2 ^ 17)) (low n) 0
    else s
  if raise then event s 0x0A17 (low k) (low i.refs) (low g.dpb) 0 0 else s

/-- A picture is not decoded: DEC_UNSUPPORTED once for each parameter set and cause (R253). -/
def refusePicture (s : State) (k : Nat) (w : WaitPic) (i : StreamInfo) (cause : Nat) : State :=
  let x := s.slotRun k
  let s := if x.refused.contains (i, cause) then s
    else pulse (event (s.setSlotRun k { x with refused := x.refused ++ [(i, cause)] }) 0x0A11 (low k) (low cause) (low w.num) 0 0) (512 + k)
  let s := recordMissing (s.bump (gldSlotA k 0x2C) 1) k w.num w.nonRef
  s.setSlotRun k { s.slotRun k with unsupp := true, needKey := true }

/-- A picture takes its buffer; one that starts a new reference state releases every reference (R261, R268). -/
def takePicture (s : State) (k : Nat) (w : WaitPic) (i : StreamInfo) (o : BandObs) : State :=
  let g := s.slotCfg k
  let clean := match o.clean with
    | some .idr | some .keyFrame | some .intraAll => true
    | _ => false
  let recovery := match o.clean with
    | some (.recovery n) => some n
    | _ => none
  let x := (s.slotRun k).takeBuffer g.dpb |>.getD (s.slotRun k)
  let store := if clean then (x.store.filter fun p => !p.missing).map fun p => { p with isRef := false } else x.store
  let store := store.filter fun p => p.missing || p.isRef || p.held
  let s := s.setSlotRun k { x with needKey := false, unsupp := false, store := store,
                                   cur := some { num := w.num, deadline := w.deadline, nonRef := w.nonRef,
                                                 bands := ceilDiv i.height 64, w := i.width, h := i.height,
                                                 clean := clean, recovery := recovery, sb128 := g.av1 && i.sb128,
                                                 layer := o.layer, uid := s.free, ten := i.depth == 10 } }
  { s with free := s.free + 1 }

/-- The head of the waiting pictures begins, or counts as missing; `true` when a band of it is decoded. DEDUCED, log entry 101. -/
def beginPicture (s : State) (k : Nat) (o : BandObs) : Bool × State :=
  let x := s.slotRun k
  match x.waiting with
  | [] => (false, s)
  | w :: r =>
    let s := s.setSlotRun k { x with waiting := r }
    if x.needKey && !w.key then
      (false, recordMissing (if x.unsupp then s.bump (gldSlotA k 0x2C) 1 else s) k w.num w.nonRef)
    else match o.stream.orElse fun _ => x.info with
      | none => (false, recordMissing s k w.num w.nonRef)
      | some i =>
        let s := s.setSlotRun k { s.slotRun k with info := some i }
        match (s.slotCfg k).refuses i o.excluded with
        | some cause => (false, refusePicture s k w i cause)
        | none => (true, takePicture (if o.stream.isSome || o.newSeq then streamSeen s k w.num i o.newSeq else s) k w i o)

/-- Rows of band n of a picture of h rows. -/
def bandRows (h n : Nat) : Nat := Nat.min 64 (h - 64 * n)

/-- At a band boundary the pipe decodes the next band of the waiting picture with the earliest deadline.
DEDUCED, log entry 102. -/
def execDecodeBandBoundary (pipe : Fin 24) (o : BandObs) (s : State) : Outcome State Fault Refusal :=
  if !s.running || !s.dom (28 + pipe) then .next s
  else match s.pickSlot pipe with
    | none => .next s
    | some k =>
      let prev := tget 0 s.dec.last pipe
      let s := { s with dec := { s.dec with last := tset 0 s.dec.last pipe (k + 1) } }
      let s := if prev ≠ 0 && prev ≠ k + 1 then s.bump (gldA pipe 8) 1 else s
      let (go, s) := if (s.slotRun k).cur.isSome then (true, s) else beginPicture s k o
      if !go then .next s
      else
        let s := applyObs s k o
        let x := s.slotRun k
        match x.cur with
        | none => .next s
        | some c =>
          let s := s.setSlotRun k { x with cur := some { c with decoded := c.decoded + 1, isRef := o.isRef, unref := o.unref } }
          .next (s.bump64 (gldA pipe 0x18) (c.w * bandRows c.h c.decoded))

/-! ## Fences (R263, R264) -/

def fenceWord (n bands : Nat) : Word := low (n % 2 ^ 27 * 32 + bands)

/-- Bands that must be decoded before the next band of a picture is final: the filters reach one band or superblock row
below it, and every band once the last one is decoded (R263). -/
def CurPic.finalAt (c : CurPic) : Nat := if c.sb128 then c.final / 2 * 2 + 4 else c.final + 2

/-- A band's filters have written its last pixel: its fence, unless the picture is withheld; the first fence takes the
Orangery's hold. DEDUCED, log entry 102. -/
def execBandFinal (k : Fin 384) (s : State) : Outcome State Fault Refusal :=
  let x := s.slotRun k
  match x.cur with
  | none => .next s
  | some c =>
    if s.working (slotKey k) && c.final < c.bands && (c.finalAt ≤ c.decoded || c.decoded = c.bands) then
      let c := { c with final := c.final + 1 }
      if c.shown then
        .next (s.setSlotRun k { x with cur := some { c with held := c.held || (c.final = 1 && s.orgUses k) },
                                       progress := fenceWord c.num c.final, lastPub := c.num })
      else .next (s.setSlotRun k { x with cur := some c })
    else .next s

/-- The clean picture that ends a taint run; a policy 2 switch that is due is taken first (R268, R270). -/
def endTaint (s : State) (k n : Nat) : State :=
  let s := freezeSwitch s k
  let x := s.slotRun k
  match x.taint with
  | none => s
  | some (t, m) =>
    let s := s.setSlotRun k { x with taint := none, frozen := false, switched := false, keySent := 0, keyNext := none, starved := false }
    let s := event s 0x0A13 (low k) (low n) (low m) (low (s.now - t)) 0
    if x.frozen then decFreeze s k 0 else s

/-- The slot's work has ended: its units return at once, its pages with the last hold (R275). -/
def slotStopped (s : State) (k : Nat) : State :=
  let x := s.slotRun k
  let s := s.setSlotRun k { x with cur := none, waiting := [], units := 0, keyNext := none, taint := none,
                                   frozen := false, switched := false, unsupp := false }
  pruneHolds (reachStopped s 0x0A k) k false

/-- A picture as the store keeps it. -/
def CurPic.stored (c : CurPic) : StorePic :=
  { num := c.num, isRef := false, missing := false, tainted := c.tainted, shown := c.shown, held := c.held, w := c.w, h := c.h,
    layer := c.layer, uid := c.uid, ten := c.ten, conc := c.conc }

/-- Every band and tile of a picture has been written. -/
def completePicture (s : State) (k : Nat) (c : CurPic) : State :=
  let x := s.slotRun k
  let n := k / 16
  let p := { c.stored with isRef := c.isRef }
  let recov := if c.tainted then none
    else match c.recovery with
      | some n => some n
      | none => x.recov.map fun n => if c.isRef then n - 1 else n
  let store := x.store.map fun q => if c.unref.contains q.num then { q with isRef := false } else q
  let taint := if c.tainted then x.taint.map fun t => (t.1, t.2 + 1) else x.taint
  let s := s.setSlotRun k { x with cur := none, store := store.filter (fun q => !(q.missing && !q.isRef)) ++ [p], recov := recov, w := c.w, h := c.h, pics := x.pics + 1,
                                   taints := x.taints + (if c.tainted then 1 else 0), taint := taint,
                                   progress := if c.shown then fenceWord c.num 31 else x.progress,
                                   lastPub := if c.shown then c.num else x.lastPub }
  let s := s.bump64 (gldSlotA k 0x10) 1
  let s := if c.tainted then s.bump (gldSlotA k 0x1C) 1 else s
  let s := if c.deadline < s.now then
      let s := (s.bump (gldSlotA k 0x34) 1).bump (gldA n 4) 1
      { s with dec := { s.dec with late := tset 0 s.dec.late n (tget 0 s.dec.late n + 1) } }
    else s
  let s := if !c.tainted && (c.clean || recov == some 0) then
      let s := endTaint s k c.num
      s.setSlotRun k { s.slotRun k with recov := none }
    else s
  let s := pruneHolds s k false
  if s.draining (slotKey k) then slotStopped s k else s

def execPictureCompleteFence (k : Fin 384) (s : State) : Outcome State Fault Refusal :=
  match (s.slotRun k).cur with
  | some c => .next (if c.decoded = c.bands && c.final = c.bands && s.working (slotKey k) then completePicture s k c else s)
  | none => .next s

/-- KEYREQ_CT (or, once starved, 70,560,000 ct) has passed in a taint run. -/
def execKeyreqRepeat (k : Fin 384) (s : State) : Outcome State Fault Refusal :=
  let x := s.slotRun k
  match x.keyNext with
  | some t => .next (if x.taint.isSome && s.isRunning (slotKey k) && decide (t ≤ s.now) then runAsks s k else s)
  | none => .next s

/-- Under policy 2 a run that has lasted FREEZE_CT switches to SHOW. -/
def execFreezeTimeout (k : Fin 384) (s : State) : Outcome State Fault Refusal := .next (freezeSwitch s k)

/-! ## Starting and stopping a slot (R256, R274, R275) -/

def slotOk (n : Nat) : Bool := decide (n < 384)
def State.slotPowered (s : State) (k : Nat) : Bool := s.dom (28 + k / 16)

/-- STREAM is a receive video stream of LEG. -/
def State.slotStreamOk (s : State) (g : SlotCfg) : Bool :=
  match tfind (s.legSet g.leg).streams g.stream with
  | some c => !c.send && c.kind == 1
  | none => false

/-- Another slot that is STARTING or RUNNING decodes the stream. -/
def State.streamBound (s : State) (k : Nat) (g : SlotCfg) : Bool :=
  s.objs.any fun e => e.1 / 2 ^ 32 == 0x0A && e.1 % 2 ^ 32 != k && (e.2.st == .starting || e.2.st == .running) &&
    (s.slotCfg (e.1 % 2 ^ 32)).leg == g.leg && (s.slotCfg (e.1 % 2 ^ 32)).stream == g.stream

/-- What START of slot k is refused for, with the units and pages that others hold. DEDUCED, log entry 104. -/
def State.slotChecks (s : State) (k units free : Nat) : List (Bool × Status) :=
  let g := s.slotCfg k
  [(decide (unitLimit s.eastPoint < units + g.units) || decide (free < g.pages), stNoResource),
   (!s.slotStreamOk g, stNotVideoStream), (s.streamBound k g, stStreamBound)]

/-- A START that was accepted reserves, and begins a run of pictures from number 0. -/
def slotReserve (s : State) (k : Nat) : State :=
  let x := s.slotRun k
  let g := s.slotCfg k
  if s.starting (slotKey k) then
    s.setSlotRun k { units := g.units, pages := g.pages, oldPages := x.pages + x.oldPages }
  else s

/-- STOP discards the waiting pictures; with ABORT the decode ends at the band boundary, and what the Orangery holds of the
picture stays until it is released (R275). -/
def slotDrain (s : State) (k : Nat) (ab : Bool) : State :=
  let x := s.slotRun k
  let s := s.setSlotRun k { x with waiting := [], sealed := x.progress, cur := if ab then none else x.cur,
                                   store := (match x.cur with
                                     | some c => if ab && c.held then x.store ++ [c.stored] else x.store
                                     | none => x.store) }
  if ab || x.cur.isNone then slotStopped s k else s

/-! ## Commands (R272, R273) -/

/-- Checks of 0x0A10 in their order (R60). -/
def State.decConfigChecks (s : State) (c : Cmd) : List (Bool × Status) :=
  let w := c.word 4
  let codec := bits w 17 16
  let av1 := codec == 1
  let dpb := bits w 23 20
  let mw := bits (c.word 5) 11 0
  let mh := bits (c.word 5) 27 16
  let fps := bits (c.word 6) 6 0
  let kc := (c.word 8).toNat
  let bad := bit w 19 || bits w 31 28 != 0 || bits (c.word 5) 15 12 != 0 || bits (c.word 5) 31 28 != 0 ||
    bits (c.word 6) 31 7 != 0 || bits (c.word 9) 31 8 != 0 || bits (c.word 10) 31 5 != 0 || decide (1 < codec) ||
    (bit w 18 && !av1) || dpb == 1 || decide (10 < dpb) || bits w 25 24 == 3 || bits w 27 26 == 3 || decide (mw < 64) ||
    decide ((if av1 then 2048 else 1920) < mw) || decide (mh < 64) || decide ((if av1 then 1152 else 1088) < mh) ||
    fps == 0 || decide (60 < fps) || (kc != 0 && decide (kc < 1411200))
  [(!s.stopped (slotKey c.num), stNotStopped), (bad, stBadField)]

def execDecConfig (c : Cmd) (s : State) : Outcome State Fault Refusal :=
  .next (runCmd s 0x0A10 c 1 1 (slotOk c.num) (s.slotPowered c.num) fun s =>
    let w := c.word 4
    let codec := bits w 17 16
    let av1 := codec == 1
    let dpb := bits w 23 20
    let mw := bits (c.word 5) 11 0
    let mh := bits (c.word 5) 27 16
    let fps := bits (c.word 6) 6 0
    let fz := (c.word 7).toNat
    let kc := (c.word 8).toNat
    let km := bits (c.word 9) 7 0
    checked s 0x0A10 c (s.decConfigChecks c) fun s =>
      let g : SlotCfg :=
        { leg := bits w 12 0, stream := bits w 15 13, av1 := av1, bit10 := bit w 18, dpb := if dpb = 0 then 3 else dpb,
          freeze := bits w 25 24, keyreq := bits w 27 26, maxW := mw, maxH := mh, maxFps := fps,
          freezeCt := if fz = 0 then 70560000 else fz, keyreqCt := if kc = 0 then 21168000 else kc,
          keyreqMax := if km = 0 then 10 else km, opPoint := bits (c.word 10) 4 0 }
      let s := { s with dec := { s.dec with cfgs := tset {} s.dec.cfgs c.num g } }
      complete (bumpGen s (slotKey c.num)) 0x0A10 c stOk (low g.units) (low g.pages) 0 0)

/-- DEC_KEYREQ: one request at once; the repeat timer stays. -/
def execDecKeyreq (c : Cmd) (s : State) : Outcome State Fault Refusal :=
  .next (runCmd s 0x0A11 c 1 1 (slotOk c.num) (s.slotPowered c.num) fun s =>
    checked s 0x0A11 c [(!s.isRunning (slotKey c.num), stWrongState)] fun s =>
      finish (slotAsks s c.num) 0x0A11 c stOk)

def execDecStats (c : Cmd) (s : State) : Outcome State Fault Refusal :=
  .next (runCmd s 0x0A12 c 1 1 (slotOk c.num) true fun s =>
    let x := s.slotRun c.num
    complete s 0x0A12 c stOk (low x.pics) (low x.taints) (low x.keys) (low (x.w + x.h * 65536)))

/-- Local slots of pipe n that are RUNNING, as a mask. -/
def State.slotsRunning (s : State) (n : Nat) : Nat :=
  sumNat ((List.range 16).map fun i => if s.isRunning (slotKey (16 * n + i)) then 2 ^ i else 0)

def execDecPipeStats (c : Cmd) (s : State) : Outcome State Fault Refusal :=
  let n := c.num - 0x10000
  .next (runCmd s 0x0A13 c 1 1 (decide (0x10000 ≤ c.num) && decide (c.num < 0x10018)) true fun s =>
    complete s 0x0A13 c stOk (low (s.pipeUnits n)) (low (s.slotsRunning n)) (low (tget 0 s.dec.late n)) (low s.freeStore))

/-! ## Registers (R277, R278) -/

def State.gldPipeStat (s : State) (n : Nat) : Word :=
  let last := tget 0 s.dec.last n
  let busy := (pipeSlots n).any fun k => (s.slotRun k).cur.isSome && s.working (slotKey k)
  low ((if last = 0 then 0 else (last - 1) % 16 * 2 ^ 25) + (if busy then 2 ^ 24 else 0) + s.pipeUnits n * 65536 + s.slotsRunning n)

def State.gldSlotStat (s : State) (k : Nat) : Word :=
  let x := s.slotRun k
  let g := s.slotCfg k
  let st := (s.obj (slotKey k)).st
  let f := fun (b : Bool) (i : Nat) => if b then 2 ^ i else 0
  let live := st != .stopped
  low (objStateNum st * 2 ^ 30 + f x.taint.isSome 29 + f x.frozen 28 + f x.unsupp 27 + f x.keyNext.isSome 26 +
    f (live && g.av1) 24 + (if live then g.units * 2 ^ 20 + g.dpb * 2 ^ 16 else 0) + x.waiting.length * 2 ^ 13 + x.pages)

end Sys2Proof.Machine
end

