-- ==== Sys2Proof/Machine/Pixels.lean ====
section
/-!
DEFINITION. Samples of the Orangery: what a picture or an image holds at a place, scaling, blending and dithering
(R283-R286, R300, R301).
-/
namespace Sys2Proof.Machine

open Host

/-! ## One sample (R286, R300, R301) -/

/-- Alpha of a pixel from its source alpha and the layer's OPACITY. -/
def pixelAlpha (pa opacity : Nat) : Nat := pa * (opacity + opacity / 2 ^ 7) / 2 ^ 8

/-- One sample drawn over another under alpha a. -/
def blend (dst src : Int) (a : Nat) : Int := dst + ((a + a / 2 ^ 7 : Nat) : Int) * (src - dst) / 2 ^ 8

/-- Alpha of a chroma sample from its four luma alphas. -/
def chromaAlpha (a b c d : Nat) : Nat := (a + b + c + d) / 4

/-- The fixed pattern D. -/
def ditherD (x y : Nat) : Nat :=
  if y % 2 = 0 then (if x % 2 = 0 then 0 else 2) else if x % 2 = 0 then 3 else 1

/-- Output of a 10-bit composed value v at canvas coordinates (x, y). -/
def dither (v x y : Nat) : Nat := Nat.min 255 ((v + ditherD x y) / 4)

/-! ## Planes -/

/-- A plane of a picture, an image or a canvas; only images have alpha. -/
inductive Plane where
  | luma | cb | cr | alpha
  deriving DecidableEq, Repr

/-- Chroma planes have half the width and height. -/
def Plane.chroma : Plane → Bool
  | .cb | .cr => true
  | _ => false

def Plane.num : Plane → Nat
  | .luma => 0 | .cb => 1 | .cr => 2 | .alpha => 3

/-- Greatest value of a sample. -/
def Plane.top : Plane → Nat
  | .alpha => 255
  | _ => 1023

/-! ## Decoded pictures (R271, R285) -/

/-- Sample of decode `uid`: 8-bit samples shifted left by 2, 10-bit ones unchanged. DESIGN CHOICE, log entry 109. -/
def decodedSample (uid : Nat) (ten : Bool) (p : Plane) (x y : Nat) : Nat :=
  let v := Config.decoded uid p.num x y
  if ten then v % 1024 else v % 256 * 4

/-- Sample of a picture: a concealed block shows another picture's, or mid-grey. -/
def PicSrc.sample (q : PicSrc) (p : Plane) (x y : Nat) : Nat :=
  let n := if p.chroma then 8 else 16
  match q.conc.find? fun e => e.1 == (x / n, y / n) with
  | some (_, some u) => decodedSample u q.ten p x y
  | some (_, none) => 512
  | none => decodedSample q.uid q.ten p x y

/-! ## Images (R285, R302) -/

/-- Bytes of an image of a format. -/
def imageBytes (format w h : Nat) : Nat :=
  match format with | 0 => 4 * w * h | 1 => 5 * w * h / 2 | _ => 5 * w * h

def Image.byte (m : Image) (i : Nat) : Nat := (m.bytes.getD i 0).toNat

/-- R, G, B and alpha of a pixel of an ARGB8888 image. PRESUMED, log entry 181. -/
def Image.argb (m : Image) (x y : Nat) : Nat × Nat × Nat × Nat :=
  let i := 4 * (y * m.w + x)
  (m.byte (i + 2), m.byte (i + 1), m.byte i, m.byte (i + 3))

/-- Luma of a full-range R'G'B' pixel, scaled by 10,000. PRESUMED, log entry 181. -/
def luma10k (r g b : Nat) : Nat := 2126 * r + 7152 * g + 722 * b

/-- A full-range BT.709 R'G'B' pixel in 10-bit limited range, truncated. PRESUMED, log entry 181. -/
def toLimited (p : Plane) (r g b : Nat) : Nat :=
  let s := luma10k r g b
  match p with
  | .luma => 64 + 876 * s / (10000 * 255)
  | .cb => (512 + 896 * (10000 * (b : Int) - s) / (18556 * 255)).toNat
  | .cr => (512 + 896 * (10000 * (r : Int) - s) / (15748 * 255)).toNat
  | .alpha => 0

/-- The chroma sample that four converted pixels give, between their least and greatest. DESIGN CHOICE, log entry 171. -/
def chromaSite (a b c d : Nat) : Nat :=
  let lo := Nat.min (Nat.min a b) (Nat.min c d)
  let hi := Nat.max (Nat.max a b) (Nat.max c d)
  lo + Config.chromaSite a b c d % (hi - lo + 1)

/-- Place of a sample in a planar YUVA image, counted in samples: planes in order Y, Cb, Cr, A. -/
def Image.place (m : Image) (p : Plane) (x y : Nat) : Nat :=
  match p with
  | .luma => y * m.w + x
  | .cb => m.w * m.h + y * (m.w / 2) + x
  | .cr => m.w * m.h + m.w * m.h / 4 + y * (m.w / 2) + x
  | .alpha => m.w * m.h + m.w * m.h / 2 + y * m.w + x

/-- Sample of an image as it enters composition; alpha in 0 to 255. DESIGN CHOICE, log entry 171. -/
def Image.sample (m : Image) (p : Plane) (x y : Nat) : Nat :=
  match m.format with
  | 0 =>
    let px := fun (x y : Nat) => let v := m.argb x y; toLimited p v.1 v.2.1 v.2.2.1
    match p with
    | .luma => px x y
    | .alpha => (m.argb x y).2.2.2
    | _ => chromaSite (px (2 * x) (2 * y)) (px (2 * x + 1) (2 * y)) (px (2 * x) (2 * y + 1)) (px (2 * x + 1) (2 * y + 1))
  | 1 =>
    let v := m.byte (m.place p x y)
    if p = .alpha then v else 4 * v
  | _ =>
    let i := 2 * m.place p x y
    let v := (m.byte i + 256 * m.byte (i + 1)) % 1024
    if p = .alpha then Config.alpha10 v % 256 else v

/-! ## Sources and scaling (R283) -/

def Source.sample (q : Source) (p : Plane) (x y : Nat) : Nat :=
  match q with
  | .colour => 0
  | .picture q => q.sample p x y
  | .image m => m.sample p x y

/-- Width and height of a source, if it has them. -/
def Source.size : Source → Option (Nat × Nat)
  | .colour => none
  | .picture q => some (q.w, q.h)
  | .image m => some (m.w, m.h)

/-- One side of a crop cut to a picture of n samples: its length. -/
def cutCrop (off len n : Nat) : Nat := Nat.min (if len = 0 then n else len) (n - off)

/-- Length of a destination side inside the border. -/
def inset (n border : Nat) : Nat := n - 2 * border

/-- Position of output sample j of n over a crop of m samples, in 1/64 of a sample. DESIGN CHOICE, log entry 171. -/
def tapAt (n m j : Nat) : Nat := 64 * j * m / n

/-- The six taps about a position: one outside the crop repeats the crop's edge. DESIGN CHOICE, log entry 171. -/
def taps (m base : Nat) : List Nat := (List.range 6).map fun i => Nat.min (m - 1) (base + i - 2)

/-- Output sample j of n over a crop of m samples f: 64 phases of 6 taps, and at 1:1 the sample itself (R301).
DESIGN CHOICE, log entry 171. -/
def scaleAt (top n m j : Nat) (f : Nat → Nat) : Nat :=
  if n = m then f j
  else
    let t := tapAt n m j
    Nat.min top (Config.sixTap n m (t % 64) ((taps m (t / 64)).map f))

/-- Least and greatest crop sample that output samples j to k of n read. -/
def axisReads (n m j k : Nat) : Nat × Nat :=
  if n = m then (j, k) else (tapAt n m j / 64 - 2, Nat.min (m - 1) (tapAt n m k / 64 + 3))

/-! ## Composed bands -/

/-- Rows of samples i to i + n of three planes. -/
def Pixels.of (f : Plane → Nat → Nat → Nat) (w row n : Nat) : Pixels :=
  let plane := fun (p : Plane) (w row n : Nat) => (List.range n).map fun y => (List.range w).map fun x => f p x (row + y)
  { y := plane .luma w row n, cb := plane .cb (w / 2) (row / 2) (n / 2), cr := plane .cr (w / 2) (row / 2) (n / 2) }

/-- Rows put under others. -/
def Pixels.append (a b : Pixels) : Pixels := { y := a.y ++ b.y, cb := a.cb ++ b.cb, cr := a.cr ++ b.cr }

def Pixels.plane (q : Pixels) : Plane → List (List Nat)
  | .luma => q.y
  | .cb => q.cb
  | .cr => q.cr
  | .alpha => []

end Sys2Proof.Machine
end

