-- ==== Sys2Proof/Machine/Orangery.lean ====
section
/-!
DEFINITION. The Orangery: canvases, layers, culling, band timing, commits and fences, composition, images and commands
(R279-R308).
-/
namespace Sys2Proof.Machine

open Host

def orgA (off : Nat) : Nat := 0x0130_0000 + off
def orgPipeA (n off : Nat) : Nat := orgA (0x10 + n * 0x10 + off)
def canvasA (c off : Nat) : Nat := orgA (0x1_0000 + c * 0x40 + off)
def canvasKey (c : Nat) : Nat := objKey 0x0B c
def encKey (c : Nat) : Nat := objKey 0x0C c

def stCommitPending : Status := 0x1B01
def stImageInUse : Status := 0x1B02
def stNoImage : Status := 0x1B03

def State.canvasCfg (s : State) (c : Nat) : CanvasCfg := tget {} s.org.cfgs c
def State.canvas (s : State) (c : Nat) : CanvasRun := tget {} s.org.runs c
def State.setCanvas (s : State) (c : Nat) (x : CanvasRun) : State := { s with org := { s.org with runs := tset {} s.org.runs c x } }

/-! ## Rates and frame timing (R279-R281) -/

/-- Frame period P of a rate code. -/
def framePeriod (code : Nat) : Nat :=
  match code with
  | 0 => 4704000 | 1 => 2822400 | 2 => 2354352 | 3 => 2352000 | 4 => 1411200 | 5 => 1177176 | _ => 1176000

/-- The rate a reservation counts. -/
def countedRate (code : Nat) : Nat :=
  match code with
  | 0 => 15 | 1 => 25 | 2 => 30 | 3 => 30 | 4 => 50 | _ => 60

def CanvasCfg.period (g : CanvasCfg) : Nat := framePeriod g.rate
def CanvasCfg.pxRate (g : CanvasCfg) : Nat := g.w * g.h * countedRate g.rate
def CanvasCfg.bands (g : CanvasCfg) : Nat := ceilDiv g.h 64

/-- I, the time between the releases of two bands. -/
def CanvasCfg.interval (g : CanvasCfg) : Nat := g.period / g.bands
def CanvasCfg.waitCt (g : CanvasCfg) : Nat := if g.wait = 0 then g.interval else g.wait
def CanvasCfg.start (g : CanvasCfg) (k : Nat) : Nat := k * g.period + g.phase
def CanvasCfg.release (g : CanvasCfg) (k n : Nat) : Nat := g.start k + n * g.interval

/-- Number of the frame whose start is the latest, once one has started. -/
def CanvasCfg.frameAt (g : CanvasCfg) (t : Nat) : Option Nat := if t < g.phase then none else some ((t - g.phase) / g.period)

/-- Pixel rate of an Orangery pipe at run point p of VDD_EAST (R280, R516). -/
def orgLimit (p : Nat) : Nat := match p with | 0 => 1492992000 | 1 => 1194393600 | 2 => 895795200 | _ => 597196800

def pipeCanvases (n : Nat) : List Nat := (List.range 24).map fun i => 24 * n + i

/-- Rate reserved on pipe n by its RUNNING and STARTING canvases. -/
def State.orgRate (s : State) (n : Nat) : Nat :=
  sumNat (((pipeCanvases n).filter fun c => s.isRunning (canvasKey c) || s.starting (canvasKey c)).map fun c => (s.canvasCfg c).pxRate)

/-! ## Geometry of layers (R282, R283, R287, R288) -/

/-- The part of [d, d + n) that lies in [0, lim). -/
def span (d : Int) (n lim : Nat) : Nat × Nat := ((max d 0).toNat, (min (d + n) lim).toNat)

/-- Common length of two spans. -/
def meet (a b : Nat × Nat) : Nat := Nat.min a.2 b.2 - Nat.max a.1 b.1

def Layer.spanX (l : Layer) (g : CanvasCfg) : Nat × Nat := span l.dx l.dw g.w
def Layer.spanY (l : Layer) (g : CanvasCfg) : Nat × Nat := span l.dy l.dh g.h

/-- A layer that hides what it covers. -/
def Layer.hides (l : Layer) : Bool := l.opacity == 255 && (l.kind == 0 || l.kind == 2 || (l.kind == 1 && l.opq))

/-- Block i of a side of n pixels. -/
def blockSpan (i n : Nat) : Nat × Nat := (16 * i, Nat.min (16 * i + 16) n)

/-- The layer covers every canvas pixel of block (bx, by). -/
def Layer.covers (l : Layer) (g : CanvasCfg) (bx by' : Nat) : Bool :=
  let x := blockSpan bx g.w
  let y := blockSpan by' g.h
  decide ((l.spanX g).1 ≤ x.1) && decide (x.2 ≤ (l.spanX g).2) && decide ((l.spanY g).1 ≤ y.1) && decide (y.2 ≤ (l.spanY g).2)

/-- One single layer above layer i hides the block. -/
def culledAt (ls : Tab Layer) (g : CanvasCfg) (i bx by' : Nat) : Bool :=
  ls.any fun (e : Nat × Layer) => decide (i < e.1) && e.2.hides && e.2.covers g bx by'

/-- Blocks of block row by' that a layer touches. -/
def Layer.blocks (l : Layer) (g : CanvasCfg) (by' : Nat) : List Nat :=
  if meet (l.spanY g) (blockSpan by' g.h) = 0 then []
  else (List.range (ceilDiv g.w 16)).filter fun bx => meet (l.spanX g) (blockSpan bx g.w) != 0

/-- Layer blocks culled on the whole canvas. -/
def culledCount (ls : Tab Layer) (g : CanvasCfg) : Nat :=
  sumNat (ls.map fun (e : Nat × Layer) => sumNat ((List.range (ceilDiv g.h 16)).map fun b =>
    ((e.2.blocks g b).filter fun bx => culledAt ls g e.1 bx b).length))

/-- Block rows of band n. -/
def bandBlocks (g : CanvasCfg) (n : Nat) : List Nat :=
  ((List.range 4).map fun i => 4 * n + i).filter fun b => decide (16 * b < g.h)

/-- Unculled pixels of layer i in band n. -/
def layerPixels (ls : Tab Layer) (g : CanvasCfg) (i : Nat) (l : Layer) (n : Nat) : Nat :=
  sumNat ((bandBlocks g n).map fun b => sumNat (((l.blocks g b).filter fun bx => !culledAt ls g i bx b).map fun bx =>
    meet (l.spanX g) (blockSpan bx g.w) * meet (l.spanY g) (blockSpan b g.h)))

/-- CK_VID cycles of band n (R291). -/
def bandCycles (ls : Tab Layer) (g : CanvasCfg) (n : Nat) : Nat :=
  let a := g.w * bandRows g.h n
  let v := sumNat (ls.map fun (e : Nat × Layer) => layerPixels ls g e.1 e.2 n)
  300 + Nat.max (ceilDiv a 2) (ceilDiv v 8)

/-! ## What a slot layer draws (R284, R289, R290) -/

/-- Size of a picture that a slot has decoded or is decoding, and how many of its bands are final. -/
def State.picture (s : State) (k n : Nat) : Option (Nat × Nat × Nat) :=
  let x := s.slotRun k
  match (match x.cur with | some c => if c.num = n then some (c.w, c.h, c.final) else none | none => none) with
  | some r => some r
  | none => (x.store.find? fun p => p.num == n && !p.missing).map fun p => (p.w, p.h, 31)

/-- The newest picture of slot k that is published and has signalled its band-0 fence. -/
def State.newestShown (s : State) (k : Nat) : Option Nat :=
  let x := s.slotRun k
  match (match x.cur with | some c => if c.shown && decide (1 ≤ c.final) then some c.num else none | none => none) with
  | some n => some n
  | none => ((x.store.filter fun p => p.shown && !p.missing).getLast?).map fun p => p.num

/-- The ratio of destination to crop lies between 1/8 and 8. -/
def ratioOk (dst crop : Nat) : Bool := decide (crop ≤ 8 * dst) && decide (dst ≤ 8 * crop) && decide (0 < crop)

def Layer.ratioOk (l : Layer) (w h : Nat) : Bool :=
  Machine.ratioOk (inset l.dw l.border) (cutCrop l.sx l.sw w) && Machine.ratioOk (inset l.dh l.border) (cutCrop l.sy l.sh h)

/-- Chroma sample of an inset of n chroma samples under inset luma sample j. DESIGN CHOICE, log entry 171. -/
def chromaIndex (border n j : Nat) : Nat := Nat.min (n - 1) ((2 * ((j + border) / 2) + 1 - border) / 2)

/-- Least and greatest luma sample of a crop of m that inset samples j to k of n read, chroma's taps included (R288). -/
def axisNeed (border n m j k : Nat) : Nat × Nat :=
  let l := axisReads n m j k
  let c := axisReads (n / 2) (ceilDiv m 2) (chromaIndex border (n / 2) j) (chromaIndex border (n / 2) k)
  (Nat.min l.1 (2 * c.1), Nat.min (m - 1) (Nat.max l.2 (2 * c.2 + 1)))

/-- The part of a layer's destination inside its border, on the canvas. -/
def Layer.insetX (l : Layer) (g : CanvasCfg) : Nat × Nat := span (l.dx + l.border) (inset l.dw l.border) g.w
def Layer.insetY (l : Layer) (g : CanvasCfg) : Nat × Nat := span (l.dy + l.border) (inset l.dh l.border) g.h

/-- Blocks of block row b in which layer i draws its source. -/
def Layer.drawn (l : Layer) (ls : Tab Layer) (g : CanvasCfg) (i b : Nat) : List Nat :=
  if meet (l.insetY g) (blockSpan b g.h) = 0 then []
  else (l.blocks g b).filter fun bx => meet (l.insetX g) (blockSpan bx g.w) != 0 && !culledAt ls g i bx b

/-- Least and greatest source sample of one axis that block i reads: the layer's inset on that axis, its first place, its
border, the length of the inset, the crop's offset and length. -/
def blockNeed (ins blk : Nat × Nat) (d : Int) (border n off m : Nat) : Nat × Nat :=
  let at' := fun (x : Nat) => ((x : Int) - (d + border)).toNat
  let r := axisNeed border n m (at' (Nat.max ins.1 blk.1)) (at' (Nat.min ins.2 blk.2 - 1))
  (off + r.1, off + r.2)

def Layer.needX (l : Layer) (g : CanvasCfg) (w bx : Nat) : Nat × Nat :=
  blockNeed (l.insetX g) (blockSpan bx g.w) l.dx l.border (inset l.dw l.border) l.sx (cutCrop l.sx l.sw w)

def Layer.needY (l : Layer) (g : CanvasCfg) (h b : Nat) : Nat × Nat :=
  blockNeed (l.insetY g) (blockSpan b g.h) l.dy l.border (inset l.dh l.border) l.sy (cutCrop l.sy l.sh h)

/-- The greatest source row that band n of the canvas reads of a picture of height h. DEDUCED, log entry 108. -/
def Layer.lastRow (l : Layer) (ls : Tab Layer) (g : CanvasCfg) (i n h : Nat) : Option Nat :=
  ((bandBlocks g n).filter fun b => !(l.drawn ls g i b).isEmpty).getLast?.map fun b => (l.needY g h b).2

/-- Layer i has every source band that band n needs of its latched picture. DEDUCED, log entry 108. -/
def State.layerReady (s : State) (r : CanvasRun) (g : CanvasCfg) (i : Nat) (l : Layer) (n : Nat) : Bool :=
  if l.kind ≠ 0 then true
  else match r.latched.find? fun x => x.layer == i with
    | none => true
    | some x => match s.picture x.slot x.num with
      | none => (l.lastRow r.active g i n 64).isNone
      | some (w, h, final) =>
        if !l.ratioOk w h then true
        else match l.lastRow r.active g i n h with
          | none => true
          | some row => decide (row / 64 < final)

/-- Lowest layer whose source bands band n still waits for. -/
def State.unready (s : State) (r : CanvasRun) (g : CanvasCfg) (n : Nat) : Option Nat :=
  (r.active.find? fun (e : Nat × Layer) => !s.layerReady r g e.1 e.2 n).map Prod.fst

/-! ## What a layer shows, and what it fetches (R283, R284, R288, R290) -/

/-- Picture n of slot k as the Orangery reads it. -/
def State.picSrc (s : State) (k n : Nat) : Option PicSrc :=
  let x := s.slotRun k
  match x.cur.bind fun c => if c.num = n then some c else none with
  | some c => some { uid := c.uid, ten := c.ten, w := c.w, h := c.h, conc := c.conc }
  | none => (x.store.find? fun p => p.num == n && !p.missing).map fun p =>
      { uid := p.uid, ten := p.ten, w := p.w, h := p.h, conc := p.conc }

/-- The newest complete picture of slot k that is older than picture n. -/
def State.olderShown (s : State) (k n : Nat) : Option Nat :=
  (((s.slotRun k).store.filter fun p => p.shown && !p.missing && decide (p.num < n)).getLast?).map fun p => p.num

/-- A slot layer's source in band n: its latched picture, or, when that is not final, the newest complete older one; COLOUR
when there is none or its ratio is out of range (R284, R290). -/
def State.slotSource (s : State) (r : CanvasRun) (g : CanvasCfg) (i : Nat) (l : Layer) (n : Nat) : Source :=
  match r.latched.find? fun x => x.layer == i with
  | none => .colour
  | some x =>
    let num := if s.layerReady r g i l n then some x.num else s.olderShown x.slot x.num
    match num.bind (s.picSrc x.slot) with
    | some q => if l.ratioOk q.w q.h then .picture q else .colour
    | none => .colour

/-- What layer i shows inside its border in band n. DESIGN CHOICE, log entry 171. -/
def State.layerSource (s : State) (r : CanvasRun) (g : CanvasCfg) (i : Nat) (l : Layer) (n : Nat) : Source :=
  match l.kind with
  | 0 => s.slotSource r g i l n
  | 1 => match tfind s.org.images l.source with
    | some m => if cutCrop l.sx l.sw m.w = 0 || cutCrop l.sy l.sh m.h = 0 then .colour else .image m
    | none => .colour
  | _ => .colour

/-- Squares of side n that meet the samples x.1 to x.2 and y.1 to y.2. -/
def squares (n : Nat) (x y : Nat × Nat) : List (Nat × Nat) :=
  ((List.range (y.2 / n + 1)).filter fun j => decide (y.1 / n ≤ j)).flatMap fun j =>
    ((List.range (x.2 / n + 1)).filter fun i => decide (x.1 / n ≤ i)).map fun i => (i, j)

/-- Tiles or image blocks that layer i needs of its source in band n, each once (R288). -/
def Layer.fetches (l : Layer) (ls : Tab Layer) (g : CanvasCfg) (i n : Nat) (q : Source) : List (Nat × Nat) :=
  match q.size with
  | none => []
  | some (w, h) =>
    let side := match q with | .picture _ => 64 | _ => 16
    ((bandBlocks g n).flatMap fun b => (l.drawn ls g i b).flatMap fun bx =>
      squares side (l.needX g w bx) (l.needY g h b)).eraseDups

/-- Bytes of one tile or block: a compressed tile takes at most its 6,144 or 7,680 bytes (R260). DESIGN CHOICE, log entry 109. -/
def Source.bytes (q : Source) (t : Nat × Nat) : Nat :=
  match q with
  | .colour => 0
  | .picture q => Config.tileBytes q.uid t.1 t.2 % ((if q.ten then 7680 else 6144) + 1)
  | .image m => imageBytes m.format (Nat.min 16 (m.w - 16 * t.1)) (Nat.min 16 (m.h - 16 * t.2))

/-- Name of a source among those a layer fetches from. -/
def Source.name : Source → Nat
  | .picture q => q.uid + 1
  | _ => 0

/-- Layer i fetches what it needs in band n and the frame has not fetched before: the new list, and the bytes. -/
def fetchLayer (fetched : List (Nat × Nat × Nat × Nat)) (ls : Tab Layer) (g : CanvasCfg) (i n : Nat) (l : Layer) (q : Source) :
    List (Nat × Nat × Nat × Nat) × Nat :=
  let new := (l.fetches ls g i n q).filter fun t => !fetched.contains (i, q.name, t.1, t.2)
  (fetched ++ new.map fun t => (i, q.name, t.1, t.2), sumNat (new.map q.bytes))

/-! ## Composition (R283-R287, R300) -/

/-- Sample j of the destination inside the border, scaled horizontally and then vertically. -/
def Layer.scaled (l : Layer) (q : Source) (p : Plane) (jx jy : Nat) : Nat :=
  match q.size with
  | none => 0
  | some (w, h) =>
    let half := fun (n : Nat) => if p.chroma then ceilDiv n 2 else n
    let nx := half (inset l.dw l.border)
    let ny := half (inset l.dh l.border)
    let mx := half (cutCrop l.sx l.sw w)
    let my := half (cutCrop l.sy l.sh h)
    let ox := if p.chroma then l.sx / 2 else l.sx
    let oy := if p.chroma then l.sy / 2 else l.sy
    scaleAt p.top ny my jy fun y => scaleAt p.top nx mx jx fun x => q.sample p (ox + x) (oy + y)

def Layer.colour (l : Layer) : Plane → Nat
  | .luma => l.colY
  | .cb => l.colCb
  | .cr => l.colCr
  | .alpha => 255

/-- Canvas pixel (x, y) lies inside the layer's border. -/
def Layer.inside (l : Layer) (x y : Nat) : Bool :=
  let in' := fun (d : Int) (n x : Nat) => decide (d + l.border ≤ x) && decide ((x : Int) < d + n - l.border)
  in' l.dx l.dw x && in' l.dy l.dh y

/-- Canvas pixel (x, y) lies in the layer's destination. -/
def Layer.over (l : Layer) (x y : Nat) : Bool :=
  decide (l.dx ≤ x) && decide ((x : Int) < l.dx + l.dw) && decide (l.dy ≤ y) && decide ((y : Int) < l.dy + l.dh)

/-- Luma (or source alpha) of a layer at canvas pixel (x, y). -/
def Layer.pixel (l : Layer) (q : Source) (p : Plane) (x y : Nat) : Nat :=
  if l.inside x y && q != .colour then
    l.scaled q p ((x : Int) - (l.dx + l.border)).toNat ((y : Int) - (l.dy + l.border)).toNat
  else l.colour p

/-- Alpha of a layer's luma pixel: pa is 255 but for the stored alpha of an image that is not OPAQUE. -/
def Layer.alphaAt (l : Layer) (q : Source) (x y : Nat) : Nat :=
  let pa := match q with
    | .image _ => if l.opq then 255 else l.pixel q .alpha x y
    | _ => 255
  pixelAlpha pa l.opacity

/-- Chroma of a layer at chroma place (x, y): COLOUR in the border; across the edge of an odd border, either.
DESIGN CHOICE, log entry 171. -/
def Layer.chromaPixel (c : Nat) (l : Layer) (q : Source) (p : Plane) (x y : Nat) : Nat :=
  let four := [l.inside (2 * x) (2 * y), l.inside (2 * x + 1) (2 * y), l.inside (2 * x) (2 * y + 1), l.inside (2 * x + 1) (2 * y + 1)]
  let place := fun (d : Int) (n x : Nat) => chromaIndex l.border (n / 2) ((2 * (x : Int) - (d + l.border)).toNat)
  if q == .colour || four.all not || (!four.all id && Config.borderChroma c x y) then l.colour p
  else l.scaled q p (place l.dx (inset l.dw l.border) x) (place l.dy (inset l.dh l.border) y)

/-- What a layer shows in a block: COLOUR where the block is drawn from a poisoned line (R439). -/
def sourceAt (bad : List (Nat × Nat × Nat)) (e : Nat × Layer × Source) (bx b : Nat) : Source :=
  if bad.contains (e.1, bx, b) then .colour else e.2.2

/-- One layer drawn over a luma sample, unless it is absent there or culled. -/
def overLuma (ls : Tab Layer) (bad : List (Nat × Nat × Nat)) (g : CanvasCfg) (x y : Nat) (v : Nat) (e : Nat × Layer × Source) : Nat :=
  let q := sourceAt bad e (x / 16) (y / 16)
  if e.2.1.over x y && !culledAt ls g e.1 (x / 16) (y / 16) then
    (blend v (e.2.1.pixel q .luma x y) (e.2.1.alphaAt q x y)).toNat
  else v

/-- One layer drawn over a chroma sample. -/
def overChroma (c : Nat) (ls : Tab Layer) (bad : List (Nat × Nat × Nat)) (g : CanvasCfg) (p : Plane) (x y : Nat) (v : Nat)
    (e : Nat × Layer × Source) : Nat :=
  let l := e.2.1
  let q := sourceAt bad e (x / 8) (y / 8)
  let a := fun (i j : Nat) => l.alphaAt q (2 * x + i) (2 * y + j)
  if l.over (2 * x) (2 * y) && !culledAt ls g e.1 (x / 8) (y / 8) then
    (blend v (l.chromaPixel c q p x y) (chromaAlpha (a 0 0) (a 1 0) (a 0 1) (a 1 1))).toNat
  else v

/-- The composed 10-bit value of a plane at its place: the background under the layers, lowest first. -/
def composedAt (c : Nat) (bad : List (Nat × Nat × Nat)) (g : CanvasCfg) (es : List (Nat × Layer × Source)) (p : Plane) (x y : Nat) : Nat :=
  let ls : Tab Layer := es.map fun e => (e.1, e.2.1)
  match p with
  | .luma => es.foldl (overLuma ls bad g x y) g.bgY
  | .cb => es.foldl (overChroma c ls bad g .cb x y) g.bgCb
  | _ => es.foldl (overChroma c ls bad g .cr x y) g.bgCr

/-- Band n composed and reduced to 8 bits. -/
def composedBand (c : Nat) (bad : List (Nat × Nat × Nat)) (g : CanvasCfg) (es : List (Nat × Layer × Source)) (n : Nat) : Pixels :=
  Pixels.of (fun p x y => dither (composedAt c bad g es p x y) x y) g.w (64 * n) (bandRows g.h n)

/-- The band under way with its samples, its sources let go. -/
def Placed.done (b : Placed) (g : CanvasCfg) : Placed :=
  { b with pix := composedBand b.canvas b.bad g b.src b.band, src := [], bad := [] }

/-! ## Places and backpressure (R292) -/

/-- The canvas's encoding takes its bands. -/
def State.encTakes (s : State) (c : Nat) : Bool := s.isRunning (encKey c)

/-- Bands of a canvas that are composed, placed or being coded. -/
def State.placesUsed (s : State) (c : Nat) : Nat :=
  (s.org.busy.filter fun (e : Nat × Placed) => e.2.canvas == c).length + (s.enc.placed.filter fun p => p.canvas == c).length +
  (s.enc.busy.filter fun (e : Nat × EncJob) => e.2.band.canvas == c).length

def State.placeFree (s : State) (c : Nat) : Bool := !s.encTakes c || decide (s.placesUsed c < 2)

/-- CK_VID in MHz at a run point of VDD_EAST (R513). -/
def vidMHz (p : Nat) : Nat := match p with | 0 => 800 | 1 => 640 | 2 => 480 | _ => 320

/-- CK_VID cycles in an interval of ct. -/
def State.vidCycles (s : State) (ct : Nat) : Nat := ct * vidMHz s.eastPoint * 25 / 1764

/-- The next band waits for a place from now on. DEDUCED, log entry 110. -/
def noteBlocked (s : State) (c : Nat) : State :=
  let r := s.canvas c
  if decide (r.begun < r.released) && r.blocked.isNone && !s.placeFree c then
    pulse (s.setCanvas c { r with blocked := some s.now }) (1004 + c / 24)
  else s

/-- A place is free again: the wait ends and is counted. DEDUCED, log entry 110. -/
def endBlocked (s : State) (c : Nat) : State :=
  let r := s.canvas c
  match r.blocked with
  | some t => if s.placeFree c then (s.setCanvas c { r with blocked := none }).bump (canvasA c 0x20) (s.vidCycles (s.now - t)) else s
  | none => s

/-! ## Commits and fences (R295-R298) -/

def State.hostFence (s : State) (f : Nat) : Word := tget 0 s.org.hfence f

/-- The progress word as a fence sees it: a slot that is STOPPED or DRAINING signals nothing new. DEDUCED, log entry 103. -/
def State.fenceProgress (s : State) (k : Nat) : Word :=
  let st := (s.obj (slotKey k)).st
  if st = .stopped || st = .draining then (s.slotRun k).sealed else (s.slotRun k).progress

def State.fenceValue (s : State) (f : Fence) : Word := if f.kind = 2 then s.hostFence f.obj else s.fenceProgress f.obj

/-- The value less TARGET, as a signed 32-bit value, is at least 0. -/
def State.signalled (s : State) (f : Fence) : Bool := !(s.fenceValue f - f.target).msb

/-- Bit j for each fence j that has not signalled. -/
def State.unsignalled (s : State) (fs : List Fence) : Nat :=
  sumNat (fs.zipIdx.map fun (e : Fence × Nat) => if s.signalled e.1 then 0 else 2 ^ e.2)

/-- Layers that unsignalled fences guard. -/
def State.fenceGuards (s : State) (fs : List Fence) (i : Nat) : Bool :=
  fs.any fun f => !s.signalled f && f.guard.testBit i

/-- ORG_COMMIT_DONE. DEDUCED, log entry 106. -/
def commitDone (s : State) (c seq outcome : Nat) (frame : Word) (left : Nat) : State :=
  pulse (eventSt s 0x0B10 (if outcome = 1 || outcome = 2 then stFenceTimeout else stOk) (low c) (low seq) (low outcome) frame (low left))
    (896 + c)

/-- An outcome that no frame start brings: the manual names no frame for it. DEDUCED, log entry 106. -/
def commitEnds (s : State) (c seq outcome left : Nat) : State :=
  let (n, s) := s.fresh
  commitDone s c seq outcome (Config.freeWord n) left

/-- Layers of the new active commit when guarded ones keep their former state. -/
def keepGuarded (keep : Nat → Bool) (old new : Tab Layer) : Tab Layer :=
  (old.filter fun (e : Nat × Layer) => keep e.1).foldl (fun (t : Tab Layer) (e : Nat × Layer) => tput t e.1 e.2)
    (new.filter fun (e : Nat × Layer) => !keep e.1)

/-- A frame start is from EARLIEST on. -/
def Commit.eligible (p : Commit) (k : Nat) : Bool := p.earliest == 0 || !(low k - p.earliest).msb

/-- What a frame start makes of the pending commit. -/
def handleCommit (s : State) (c k : Nat) : State :=
  let r := s.canvas c
  let g := s.canvasCfg c
  match r.pend with
  | none => s
  | some p =>
    if !p.eligible k then s
    else
      let left := s.unsignalled p.fences
      if left = 0 then
        commitDone (s.setCanvas c { r with pend := none, seq := p.seq, active := p.layers }) c p.seq 0 (low k) 0
      else if g.frames ≤ p.seen + 1 then
        if g.policy then commitDone (s.setCanvas c { r with pend := none }) c p.seq 2 (low k) left
        else
          let act := keepGuarded (fun i => s.fenceGuards p.fences i) r.active p.layers
          commitDone (s.setCanvas c { r with pend := none, seq := p.seq, active := act }) c p.seq 1 (low k) left
      else s.setCanvas c { r with pend := some { p with seen := p.seen + 1 } }

/-- Pictures that no canvas needs any longer are released, with `start` also those of slots in no commit (R294). -/
def pruneAll (s : State) (start : Nat → Bool) : State :=
  s.dec.runs.foldl (fun (s : State) (e : Nat × SlotRun) => pruneHolds s e.1 (start e.1)) s

/-- The Orangery holds picture n of slot k. -/
def holdPicture (s : State) (k n : Nat) : State :=
  let x := s.slotRun k
  s.setSlotRun k { x with store := x.store.map fun p => if p.num = n && !p.missing then { p with held := true } else p,
                          cur := x.cur.map fun c => if c.num = n then { c with held := true } else c }

/-- Every slot layer latches the newest published picture of its slot. -/
def latchLayers (s : State) (c : Nat) : State :=
  let r := s.canvas c
  let ls : List Latch := r.active.filterMap fun (e : Nat × Layer) =>
    if e.2.kind = 0 then (s.newestShown e.2.source).map fun n => { layer := e.1, slot := e.2.source, num := n } else none
  let busy := s.org.busy.any fun (e : Nat × Placed) => e.2.canvas == c
  let s := s.setCanvas c { r with latched := ls, oldLatched := if busy then r.latched else [] }
  ls.foldl (fun s x => holdPicture s x.slot x.num) s

/-- Frame k begins: its commit, its latches, its culling. -/
def beginFrame (s : State) (c k : Nat) : State :=
  let s := latchLayers (handleCommit s c k) c
  let r := s.canvas c
  pruneAll (s.setCanvas c { r with frame := some k, released := 0, begun := 0, torn := false, fetched := [], poisoned := [],
                                   culled := culledCount r.active (s.canvasCfg c) }) fun _ => true

/-- Frame k + 1 is skipped whole because frame k is unfinished. DEDUCED, log entry 107. -/
def skipFrame (s : State) (c k : Nat) : State :=
  let s := s.bump (canvasA c 0x18) 1
  let l := tget ({} : Limit) s.limits (objKey 0x0B11 c)
  let r := s.canvas c
  let first := if l.count = 0 then k else r.skipFirst
  let s := s.setCanvas c { r with skipN := r.skipN + 1, skipFirst := first }
  match s.limit (objKey 0x0B11 c) ctPerSec 1 0 with
  | (some (n, _), s) => pulse (event s 0x0B11 (low c) (low n) (low first) 0 0) (896 + c)
  | (none, s) => pulse s (896 + c)

/-- The ladder stands at L3 or deeper (R293). -/
def State.halfRate (s : State) : Bool := decide (3 ≤ s.hall.step)

/-- At a frame start the pipe handles a pending commit and latches pictures, or skips the frame (R289, R293, R297).
DEDUCED, log entry 107. -/
def execCanvasFrameStart (n : Fin 96) (s : State) : Outcome State Fault Refusal :=
  let r := s.canvas n
  match (s.canvasCfg n).frameAt s.now with
  | none => .next s
  | some k =>
    if !s.running || s.bell.double || !s.dom (64 + n / 24) || !s.isRunning (canvasKey n) || r.lastK = some k then .next s
    else
      let s := s.setCanvas n { r with lastK := some k }
      if s.halfRate && k % 2 = 1 then .next (s.bump (canvasA n 0x1C) 1)
      else if r.frame.isSome && decide (r.begun < (s.canvasCfg n).bands) then .next (skipFrame s n k)
      else .next (beginFrame s n k)

/-- Band n of the frame is released at the frame start plus n × I. -/
def execBandRelease (n : Fin 96) (s : State) : Outcome State Fault Refusal :=
  let r := s.canvas n
  let g := s.canvasCfg n
  match r.frame with
  | none => .next s
  | some k =>
    if s.running && s.working (canvasKey n) && decide (r.released < g.bands) && decide (g.release k r.released ≤ s.now) then
      .next (noteBlocked (s.setCanvas n { r with released := r.released + 1 }) n)
    else .next s

/-! ## Composition (R290-R293) -/

/-- Release of the next band of canvas c, if the pipe may begin it. -/
def State.mayCompose (s : State) (c : Nat) : Option Nat :=
  let r := s.canvas c
  let g := s.canvasCfg c
  match r.frame with
  | none => none
  | some k =>
    if s.working (canvasKey c) && decide (r.begun < r.released) && s.placeFree c && (r.torn || (s.unready r g r.begun).isNone) then
      some (g.release k r.begun)
    else none

/-- A slot picture that a layer meets for the first time is held against the scaling range (R284). -/
def checkScale (s : State) (c : Nat) (i : Nat) (l : Layer) : State :=
  let r := s.canvas c
  match r.latched.find? fun x => x.layer == i with
  | none => s
  | some x =>
    let mark := x.slot * 2 ^ 40 + x.num + 1
    if tget 0 r.checked i = mark then s
    else
      let s := s.setCanvas c { r with checked := tset 0 r.checked i mark }
      match s.picture x.slot x.num with
      | none => s
      | some (w, h, _) =>
        if l.ratioOk w h then s
        else
          let s := s.bump (canvasA c 0x24) 1
          match s.limit (objKey 0x0B13 (c * 16 + i)) ctPerSec 1 0 with
          | (some _, s) => event s 0x0B13 (low c) (low i) (low x.slot) (low (w + h * 65536)) 0
          | (none, s) => s

def checkScales (s : State) (c : Nat) : State :=
  (s.canvas c).active.foldl (fun (s : State) (e : Nat × Layer) => if e.2.kind = 0 then checkScale s c e.1 e.2 else s) s

/-- A band is composed with a source band that is not final: it is counted and reported (R290). -/
def tornBand (s : State) (c k layer : Nat) : State :=
  let s := s.bump (canvasA c 0x14) 1
  let r := s.canvas c
  let s := s.setCanvas c { r with tornN := r.tornN + 1 }
  match s.limit (objKey 0x0B12 c) ctPerSec 1 0 with
  | (some (n, _), s) => event s 0x0B12 (low c) (low n) (low k) (low layer) 0
  | (none, s) => s

/-- The layers of a canvas with what each shows in band n. -/
def State.shown (s : State) (c n : Nat) : List (Nat × Layer × Source) :=
  let r := s.canvas c
  r.active.map fun (e : Nat × Layer) => (e.1, e.2, s.layerSource r (s.canvasCfg c) e.1 e.2 n)

/-- The layers fetch what band n needs, and the bytes are counted (R288). -/
def fetchBand (s : State) (c n : Nat) : State :=
  let r := s.canvas c
  let (f, b) := (s.shown c n).foldl (fun (a : List (Nat × Nat × Nat × Nat) × Nat) e =>
    let x := fetchLayer a.1 r.active (s.canvasCfg c) e.1 n e.2.1 e.2.2
    (x.1, a.2 + x.2)) (r.fetched, 0)
  (s.setCanvas c { r with fetched := f }).bump64 (canvasA c 0x30) b

/-- The pipe begins the next band of canvas c. -/
def composeBand (s : State) (pipe c k : Nat) : State :=
  let g := s.canvasCfg c
  let n := (s.canvas c).begun
  let s := endBlocked s c
  let s := if n = 0 then checkScales s c else s
  let s := match s.unready (s.canvas c) g n with
    | some i => tornBand s c k i
    | none => s
  let s := s.bump (orgPipeA pipe 4) (bandCycles (s.canvas c).active g n)
  let b : Placed := { canvas := c, frame := k, band := n, start := g.start k, release := g.release k n, at' := s.now,
                      w := g.w, h := g.h, rate := g.rate, src := s.shown c n,
                      bad := (s.canvas c).poisoned.filter fun e => e.2.2 / 4 == n }
  let s := fetchBand s c n
  let s := { s with org := { s.org with busy := tput s.org.busy pipe b } }
  noteBlocked (s.setCanvas c { s.canvas c with begun := n + 1, torn := false }) c

/-- An idle pipe takes the band with the earliest release, the lower canvas on a tie; none after a double fault (R506). -/
def composeNext (s : State) (pipe : Nat) : State :=
  if !s.running || s.bell.double || !s.dom (64 + pipe) || (tfind s.org.busy pipe).isSome then s
  else match earliest ((pipeCanvases pipe).filterMap fun c => (s.mayCompose c).map fun t => (t, c)) with
    | none => s
    | some (_, c) => composeBand s pipe c ((s.canvas c).frame.getD 0)

def execBandCompose (pipe : Fin 4) (s : State) : Outcome State Fault Refusal := .next (composeNext s pipe)

/-- BAND_WAIT_CT has passed since the release with a needed source band not final: the band waits for it no longer. -/
def execBandWaitExpiry (n : Fin 96) (s : State) : Outcome State Fault Refusal :=
  let r := s.canvas n
  let g := s.canvasCfg n
  match r.frame with
  | none => .next s
  | some k =>
    if s.running && s.working (canvasKey n) && decide (r.begun < r.released) && decide (g.release k r.begun + g.waitCt ≤ s.now) &&
        (s.unready r g r.begun).isSome then
      .next (composeNext (s.setCanvas n { r with torn := true }) (n / 24))
    else .next s

/-- The canvas holds nothing more and is STOPPED; its active commit and its staging set stay (R294, R299). -/
def canvasStopped (s : State) (c : Nat) : State :=
  let r := s.canvas c
  let mine := fun (k : Nat) => layersUse r.active k || (r.latched ++ r.oldLatched).any fun x => x.slot == k
  pruneAll (reachStopped (s.setCanvas c { r with frame := none, released := 0, begun := 0, latched := [], oldLatched := [],
                                                 torn := false, blocked := none }) 0x0B c) mine

/-- A sample of a layer that is the canvas of w × h divided by k; past the last row placed that row is repeated (R316).
DESIGN CHOICE, log entry 172. -/
def shrunk (rows : Pixels) (w h k : Nat) (p : Plane) (x y : Nat) : Nat :=
  let src := rows.plane p
  let half := fun (n : Nat) => if p.chroma then n / 2 else n
  let at' := fun (i j : Nat) => (src.getD (Nat.min j (src.length - 1)) []).getD i 0
  scaleAt 255 (half h / k) (half h) y fun j => scaleAt 255 (half w / k) (half w) x fun i => at' i j

/-- A band is placed, and downscaled at once into the row buffers of the lower layers: of each, the rows whose last source
row it or a band before it holds (R316). -/
def place (s : State) (b : Placed) : State :=
  let x := tget {} s.enc.runs b.canvas
  let rows := if b.band = 0 then b.pix else x.rows.append b.pix
  let g := (tget {} s.enc.sets b.canvas : EncSet).cfg
  let lower := (List.range (g.spatial - 1)).foldl (fun (t : Tab Pixels) i =>
    let k := 2 ^ (g.spatial - 1 - i)
    let old := if b.band = 0 then {} else tget {} t i
    let have' := old.y.length
    tset {} t i (old.append (Pixels.of (shrunk rows b.w b.h k) (b.w / k) have' (rows.y.length / k - have')))) x.lower
  { s with enc := { s.enc with placed := s.enc.placed ++ [b], runs := tset {} s.enc.runs b.canvas { x with rows := rows, lower := lower } } }

/-- The band that pipe `pipe` composed lies in the encode pipe's band buffer, or is discarded there: when the encoding does
not run, and after a STOP with ABORT (R292, R299). -/
def execBandPlaced (pipe : Fin 4) (s : State) : Outcome State Fault Refusal :=
  match tfind s.org.busy pipe with
  | none => .next s
  | some b =>
    if !s.running then .next s
    else
      let c := b.canvas
      let s := { s with org := { s.org with busy := tdel s.org.busy pipe } }
      let cut := s.draining (canvasKey c) && (s.obj (canvasKey c)).abort
      let s := if s.encTakes c && !s.bell.double && !cut then place s { b.done (s.canvasCfg c) with at' := s.now } else s
      let r := s.canvas c
      let last := b.band + 1 = (s.canvasCfg c).bands
      let s := s.setCanvas c { r with oldLatched := [], frames := r.frames + (if last then 1 else 0),
                                      frame := if last && r.frame = some b.frame then none else r.frame }
      let s := endBlocked s c
      if s.draining (canvasKey c) && ((s.obj (canvasKey c)).abort || (last && (s.canvas c).frame.isNone)) then .next (canvasStopped s c)
      else .next (if last then pruneAll s fun _ => false else s)

/-- The Orangery meets a poisoned line: the blocks that layer i draws from it show its COLOUR in this frame (R439). -/
def poisonFetch (s : State) (c i : Nat) (bs : List (Nat × Nat)) : State :=
  let under := fun (b : Placed) (e : Nat × Nat) => b.canvas == c && b.band == e.2 / 4
  let now := fun (e : Nat × Nat) => s.org.busy.any fun (p : Nat × Placed) => under p.2 e
  let mark := fun (e : Nat × Nat) => (i, e.1, e.2)
  let s := { s with org := { s.org with busy := s.org.busy.map fun (p : Nat × Placed) => (p.1, { p.2 with bad := p.2.bad ++ (bs.filter (under p.2)).map mark }) } }
  let r := s.canvas c
  s.setCanvas c { r with poisoned := r.poisoned ++ (bs.filter fun e => !now e).map mark }

/-! ## Starting and stopping a canvas (R280, R299) -/

def canvasOk (n : Nat) : Bool := decide (n < 96)
def State.canvasPowered (s : State) (c : Nat) : Bool := s.dom (64 + c / 24)

/-- What START of canvas c is refused for. -/
def State.canvasChecks (s : State) (c : Nat) : List (Bool × Status) :=
  let others := sumNat (((pipeCanvases (c / 24)).filter fun d => d != c && (s.isRunning (canvasKey d) || s.starting (canvasKey d))).map
    fun d => (s.canvasCfg d).pxRate)
  [(decide (orgLimit s.eastPoint < others + (s.canvasCfg c).pxRate), stNoResource)]

/-- An accepted START begins its counts. -/
def canvasReserve (s : State) (c : Nat) : State :=
  if s.starting (canvasKey c) then
    s.setCanvas c { s.canvas c with frame := none, released := 0, begun := 0, frames := 0, tornN := 0, skipN := 0, checked := [] }
  else s

/-- A canvas that becomes RUNNING within a frame period begins with the next frame. -/
def canvasBegins (s : State) (c : Nat) : State :=
  let g := s.canvasCfg c
  s.setCanvas c { s.canvas c with
    lastK := match g.frameAt s.now with
      | none => none
      | some k => if g.start k < s.now then some k else none }

/-- STOP ends a pending commit; the frame in progress is completed, or with ABORT the band. -/
def canvasDrain (s : State) (c : Nat) (ab : Bool) : State :=
  let r := s.canvas c
  let s := match r.pend with
    | some p => commitEnds (s.setCanvas c { r with pend := none }) c p.seq 4 (s.unsignalled p.fences)
    | none => s
  let busy := s.org.busy.any fun (e : Nat × Placed) => e.2.canvas == c
  if (r.frame.isNone && !busy) || (ab && !busy) then canvasStopped s c else s

/-! ## Commands (R304-R306) -/

/-- Checks of 0x0B10 in their order (R60). -/
def State.orgCanvasConfigChecks (s : State) (c : Cmd) : List (Bool × Status) :=
  let w := bits (c.word 4) 10 0
  let h := bits (c.word 4) 26 16
  let rate := bits (c.word 5) 2 0
  let bad := bits (c.word 4) 15 11 != 0 || bits (c.word 4) 31 27 != 0 || bits (c.word 5) 31 3 != 0 || bits (c.word 7) 31 30 != 0 ||
    bits (c.word 8) 7 4 != 0 || bits (c.word 8) 31 9 != 0 || decide (w < 128) || decide (1920 < w) || w % 16 != 0 ||
    decide (h < 64) || decide (1080 < h) || h % 8 != 0 || rate == 7 || decide (framePeriod rate ≤ (c.word 6).toNat)
  [(!s.stopped (canvasKey c.num), stNotStopped), (bad, stBadField)]

def execOrgCanvasConfig (c : Cmd) (s : State) : Outcome State Fault Refusal :=
  .next (runCmd s 0x0B10 c 1 1 (canvasOk c.num) (s.canvasPowered c.num) fun s =>
    let w := bits (c.word 4) 10 0
    let h := bits (c.word 4) 26 16
    let rate := bits (c.word 5) 2 0
    let f := bits (c.word 8) 3 0
    checked s 0x0B10 c (s.orgCanvasConfigChecks c) fun s =>
      let g : CanvasCfg :=
        { w := w, h := h, rate := rate, phase := (c.word 6).toNat, bgY := bits (c.word 7) 9 0, bgCb := bits (c.word 7) 19 10,
          bgCr := bits (c.word 7) 29 20, frames := if f = 0 then 3 else f, policy := bit (c.word 8) 8, wait := (c.word 9).toNat }
      finish (bumpGen { s with org := { s.org with cfgs := tset {} s.org.cfgs c.num g } } (canvasKey c.num)) 0x0B10 c stOk)

/-- STOPPED or RUNNING. -/
def State.canvasSteady (s : State) (c : Nat) : Bool := s.stopped (canvasKey c) || s.isRunning (canvasKey c)

/-- The layer that the words of ORG_LAYER_STAGE give. -/
def layerOf (c : Cmd) : Layer :=
  let w := c.word 4
  { kind := bits w 6 5, opq := bit w 7, opacity := bits w 15 8, border := bits w 19 16, source := bits (c.word 5) 12 0,
    dx := sbits (c.word 6) 12 0, dy := sbits (c.word 6) 28 16, dw := bits (c.word 7) 11 0, dh := bits (c.word 7) 27 16,
    sx := bits (c.word 8) 11 0, sy := bits (c.word 8) 27 16, sw := bits (c.word 9) 11 0, sh := bits (c.word 9) 27 16,
    colY := bits (c.word 10) 9 0, colCb := bits (c.word 10) 19 10, colCr := bits (c.word 10) 29 20 }

def Layer.sound (l : Layer) : Bool :=
  l.kind != 3 && l.dx % 2 == 0 && l.dy % 2 == 0 && l.dw % 2 == 0 && l.dh % 2 == 0 && l.sx % 2 == 0 && l.sy % 2 == 0 &&
  l.sw % 2 == 0 && l.sh % 2 == 0 && decide (-2048 ≤ l.dx) && decide (l.dx ≤ 2046) && decide (-2048 ≤ l.dy) && decide (l.dy ≤ 2046) &&
  decide (2 ≤ l.dw) && decide (l.dw ≤ 2048) && decide (2 ≤ l.dh) && decide (l.dh ≤ 2048)

/-- Checks of 0x0B11 in their order (R60). -/
def State.orgLayerStageChecks (s : State) (c : Cmd) : List (Bool × Status) :=
  let res := fun (w : Word) => bits w 15 12 != 0 || bits w 31 28 != 0
  let bad := bits (c.word 4) 31 20 != 0 || bits (c.word 5) 31 13 != 0 || bits (c.word 6) 15 13 != 0 || bits (c.word 6) 31 29 != 0 ||
    res (c.word 7) || res (c.word 8) || res (c.word 9) || bits (c.word 10) 31 30 != 0 || (bit (c.word 4) 4 && !(layerOf c).sound)
  [(!s.canvasSteady c.num, stWrongState), (bad, stBadField)]

def execOrgLayerStage (c : Cmd) (s : State) : Outcome State Fault Refusal :=
  .next (runCmd s 0x0B11 c 1 1 (canvasOk c.num) (s.canvasPowered c.num) fun s =>
    checked s 0x0B11 c (s.orgLayerStageChecks c) fun s =>
      let r := s.canvas c.num
      let i := bits (c.word 4) 3 0
      let st := if bit (c.word 4) 4 then tput r.staging i (layerOf c) else tdel r.staging i
      finish (s.setCanvas c.num { r with staging := st }) 0x0B11 c stOk)

/-- Fence j of an ORG_COMMIT: a relative target becomes absolute. -/
def State.fenceOf (s : State) (c : Cmd) (j : Nat) : Fence :=
  let w := c.word (6 + 2 * j)
  let t := c.word (7 + 2 * j)
  let k := bits w 1 0
  let o := bits w 12 2
  { kind := k, obj := o, guard := bits w 31 16,
    target := if k = 1 then fenceWord (bits (s.slotRun o).progress 31 5 + bits t 26 5) (bits t 4 0) else t }

/-- A fence word is within its ranges. -/
def fenceBad (c : Cmd) (j : Nat) : Bool :=
  let w := c.word (6 + 2 * j)
  let k := bits w 1 0
  let o := bits w 12 2
  k == 3 || bits w 15 13 != 0 || decide ((if k = 2 then 1024 else 384) ≤ o) || (k == 1 && bits (c.word (7 + 2 * j)) 31 27 != 0)

/-- A staged layer names a slot or an image outside its range. -/
def layerRangeBad (t : Tab Layer) : Bool :=
  t.any fun (e : Nat × Layer) => (e.2.kind == 0 && decide (384 ≤ e.2.source)) || (e.2.kind == 1 && decide (4096 ≤ e.2.source))

def State.imageMissing (s : State) (t : Tab Layer) : Bool :=
  t.any fun (e : Nat × Layer) => e.2.kind == 1 && (tfind s.org.images e.2.source).isNone

/-- Sequence numbers wrap at 2^32 and leave 0 out. -/
def nextSeqNo (n : Nat) : Nat := if n + 1 = 2 ^ 32 then 1 else n + 1

/-- The fences that a commit packet of LEN units holds. DEDUCED, log entry 105. -/
def fenceRoom (len : Nat) : Nat := if len = 1 then 5 else 13

/-- Checks of 0x0B12 in their order (R60). DEDUCED, log entry 105. -/
def State.orgCommitChecks (s : State) (c : Cmd) : List (Bool × Status) :=
  let n := c.num
  let r := s.canvas n
  let cnt := bits (c.word 4) 3 0
  let rep := bit (c.word 4) 8
  let bad := bits (c.word 4) 7 4 != 0 || bits (c.word 4) 31 9 != 0 || (List.range cnt).any (fenceBad c) || layerRangeBad r.staging
  [(!s.canvasSteady n, stWrongState), (decide (fenceRoom c.len < cnt), stBadLength), (bad, stBadField),
   (r.pend.isSome && !rep, stCommitPending), (s.imageMissing r.staging, stNoImage)]

def execOrgCommit (c : Cmd) (s : State) : Outcome State Fault Refusal :=
  .next (runCmd s 0x0B12 c 1 2 (canvasOk c.num) (s.canvasPowered c.num) fun s =>
    let n := c.num
    let r := s.canvas n
    let cnt := bits (c.word 4) 3 0
    checked s 0x0B12 c (s.orgCommitChecks c) fun s =>
      let fs := (List.range cnt).map (s.fenceOf c)
      let seq := r.nextSeq
      let s := match r.pend with
        | some p => commitEnds (s.setCanvas n { r with pend := none }) n p.seq 3 (s.unsignalled p.fences)
        | none => s
      let r := { s.canvas n with nextSeq := nextSeqNo seq }
      if s.stopped (canvasKey n) then
        let s := complete (s.setCanvas n { r with seq := seq, active := r.staging }) 0x0B12 c stOk (low seq) 0 0 0
        commitEnds s n seq 0 (s.unsignalled fs)
      else
        let p : Commit := { seq := seq, earliest := c.word 5, layers := r.staging, fences := fs, seen := 0 }
        complete (s.setCanvas n { r with pend := some p }) 0x0B12 c stOk (low seq) 0 0 0)

def hostFenceOk (n : Nat) : Bool := decide (0x2_0000 ≤ n) && decide (n < 0x2_0400)
def imageOk (n : Nat) : Bool := decide (0x3_0000 ≤ n) && decide (n < 0x3_1000)

/-- The Orangery can take a command that names no canvas: one of its pipes is on. -/
def State.orgPowered (s : State) : Bool := s.dom 64 || s.dom 65 || s.dom 66 || s.dom 67

def execOrgFenceSignal (c : Cmd) (s : State) : Outcome State Fault Refusal :=
  .next (runCmd s 0x0B13 c 1 1 (hostFenceOk c.num) true fun s =>
    let f := c.num - 0x2_0000
    complete { s with org := { s.org with hfence := tset 0 s.org.hfence f (c.word 4) } } 0x0B13 c stOk (s.hostFence f) 0 0 0)

/-- Pages of 64 KiB that no image holds. -/
def State.imagePages (s : State) : Nat := 4096 - sumNat (s.org.images.map fun (e : Nat × Image) => e.2.pages)

/-- A layer of an active or pending commit names image i. -/
def layersShow (t : Tab Layer) (i : Nat) : Bool := t.any fun (e : Nat × Layer) => e.2.kind == 1 && e.2.source == i
def State.imageInUse (s : State) (i : Nat) : Bool :=
  s.org.runs.any fun (e : Nat × CanvasRun) => layersShow e.2.active i ||
    (match e.2.pend with | some p => layersShow p.layers i | none => false)

/-- The image that an ORG_IMAGE_LOAD names, its pages reserved. -/
def imageOf (c : Cmd) (bytes : List Byte) : Image :=
  let f := bits (c.word 6) 1 0
  let w := bits (c.word 7) 11 0
  let h := bits (c.word 7) 27 16
  let size := imageBytes f w h
  { format := f, w := w, h := h, pages := ceilDiv size 65536, bytes := bytes.take size }

def putImage (s : State) (c : Cmd) (m : Image) : State :=
  { s with org := { s.org with images := tput s.org.images (c.num - 0x3_0000) m } }

/-- Checks of 0x0B14 in their order (R60). DEDUCED, log entry 111. -/
def State.imageLoadChecks (s : State) (c : Cmd) : List (Bool × Status) :=
  let i := c.num - 0x3_0000
  let m := imageOf c []
  let side := fun (n : Nat) => decide (n < 2) || decide (2048 < n) || n % 2 != 0
  let bad := m.format == 3 || bits (c.word 6) 31 2 != 0 || bits (c.word 7) 15 12 != 0 || bits (c.word 7) 31 28 != 0 ||
    bits (c.word 8) 31 16 != 0 || side m.w || side m.h
  let old := ((tfind s.org.images i).map fun m => m.pages).getD 0
  [(s.imageInUse i, stImageInUse), (bad, stBadField), (decide (s.imagePages + old < m.pages), stNoResource)]

/-- ORG_IMAGE_LOAD up to its transfer. -/
def imageLoad (c : Cmd) (s : State) (go : State → State) : State :=
  runCmd s 0x0B14 c 1 1 (imageOk c.num) true fun s =>
    checked s 0x0B14 c (s.imageLoadChecks c) fun s => viaHost s go

/-- DEDUCED, log entry 111. -/
def execOrgImageLoad (c : Cmd) (bytes : List Byte) (s : State) : Outcome State Fault Refusal :=
  .next (imageLoad c s fun s =>
    let s := putImage s c (imageOf c bytes)
    complete s 0x0B14 c stOk (low (imageOf c []).pages) (low s.imagePages) 0 0)

def execOrgImageFree (c : Cmd) (s : State) : Outcome State Fault Refusal :=
  .next (runCmd s 0x0B15 c 1 1 (imageOk c.num) true fun s =>
    let i := c.num - 0x3_0000
    checked s 0x0B15 c [(s.imageInUse i, stImageInUse)] fun s =>
      let s := { s with org := { s.org with images := tdel s.org.images i } }
      complete s 0x0B15 c stOk (low s.imagePages) 0 0 0)

def execOrgStats (c : Cmd) (s : State) : Outcome State Fault Refusal :=
  .next (runCmd s 0x0B16 c 1 1 (canvasOk c.num) true fun s =>
    let r := s.canvas c.num
    complete s 0x0B16 c stOk (low r.frames) (low r.tornN) (low r.skipN) (low r.seq))

/-! ## Registers (R308) -/

def State.orgStat (s : State) : Word :=
  low (((List.range 96).filter fun c => s.isRunning (canvasKey c)).length +
    2 ^ 8 * sumNat (s.org.busy.map fun (e : Nat × Placed) => 2 ^ e.1))

def State.canvasStat (s : State) (c : Nat) : Word :=
  let r := s.canvas c
  let f := fun (b : Bool) (i : Nat) => if b then 2 ^ i else 0
  let left := match r.pend with | some p => (p.fences.filter fun x => !s.signalled x).length | none => 0
  let waits := s.working (canvasKey c) && r.frame.isSome && decide (r.begun < r.released) && (s.unready r (s.canvasCfg c) r.begun).isSome
  low (objStateNum (s.obj (canvasKey c)).st * 2 ^ 30 + f r.pend.isSome 29 + f s.halfRate 28 + f waits 27 + left * 2 ^ 20 +
    sumNat (r.active.map fun (e : Nat × Layer) => 2 ^ e.1))

/-- The read-only words of a canvas other than its state, by offset. -/
def State.canvasWord (s : State) (c off : Nat) : Word :=
  let r := s.canvas c
  match off with
  | 0x04 => low (r.frame.getD 0)
  | 0x08 => low r.seq
  | 0x0C => low ((r.pend.map fun p => p.seq).getD 0)
  | 0x10 => match r.pend with
    | some p => low (2 ^ p.fences.length - 1 - s.unsignalled p.fences)
    | none => 0
  | _ => low r.culled

end Sys2Proof.Machine
end

