-- ==== Sys2Proof/Machine/GlassEncode.lean ====
section
/-!
DEFINITION. Glasshouse encode pipes: layer structures, reservations, the order of band work, rate control, key pictures,
and commands (R309-R340).
-/
namespace Sys2Proof.Machine

open Host

def gleA (n off : Nat) : Nat := 0x0120_0000 + n * 0x1_0000 + off
def gleCanvA (c off : Nat) : Nat := gleA (c / 8) (0x100 + c % 8 * 0x80 + off)

def stLayerTooSmall : Status := 0x1C01
def stNoStream : Status := 0x1C02

def State.encSet (s : State) (c : Nat) : EncSet := tget {} s.enc.sets c
def State.setEncSet (s : State) (c : Nat) (x : EncSet) : State := { s with enc := { s.enc with sets := tset {} s.enc.sets c x } }
def State.encRun (s : State) (c : Nat) : EncRun := tget {} s.enc.runs c
def State.setEncRun (s : State) (c : Nat) (x : EncRun) : State := { s with enc := { s.enc with runs := tset {} s.enc.runs c x } }

/-! ## Structures (R309-R311) -/

def EncCfg.av1 (g : EncCfg) : Bool := g.codec == 2

/-- MODE 0: upper layers may predict from the layer below. -/
def EncCfg.stacked (g : EncCfg) : Bool := g.mode == 0

/-- Every layer has a stream of its own. -/
def EncCfg.simulcast (g : EncCfg) : Bool := g.mode == 2 && decide (1 < g.spatial)

/-- Halvings between the canvas and layer s. -/
def EncCfg.shrink (g : EncCfg) (s : Nat) : Nat := 2 ^ (g.spatial - 1 - s)

def layersOf (n : Nat) : List Nat := List.range n

/-- Temporal index of frame k in a structure of T layers. -/
def temporalIndex (t k : Nat) : Nat :=
  match t with
  | 1 => 0
  | 2 => k % 2
  | _ => match k % 4 with | 0 => 0 | 2 => 1 | _ => 2

/-- References kept. -/
def refsKept (t : Nat) : Nat := if t = 3 then 2 else 1

/-- Frames between pictures of a temporal layer. -/
def frameGap (t i : Nat) : Nat :=
  match t with
  | 1 => 1
  | 2 => 2
  | _ => if i = 2 then 2 else 4

/-! ## Reservations (R314, R315) -/

/-- Coded pixels of one frame: width and height of the canvas, all layers. -/
def EncCfg.framePx (g : EncCfg) (w h : Nat) : Nat :=
  sumNat ((layersOf g.spatial).map fun s => (w / g.shrink s) * (h / g.shrink s))

def EncCfg.pages (g : EncCfg) (w h : Nat) : Nat :=
  refsKept g.temporal * sumNat ((layersOf g.spatial).map fun s =>
    ceilDiv (ceilDiv (w / g.shrink s) 64 * ceilDiv (h / g.shrink s) 64 * 6148) 32768)

/-- Pixel rate of an encode pipe at run point p of VDD_EAST (R516). -/
def encLimit (p : Nat) : Nat := match p with | 0 => 653184000 | 1 => 522547200 | 2 => 391910400 | _ => 261273600

def pipeEncs (n : Nat) : List Nat := (List.range 8).map fun i => 8 * n + i

/-- Rate reserved on pipe n by its RUNNING and STARTING encodings. -/
def State.encRate (s : State) (n : Nat) : Nat :=
  sumNat (((pipeEncs n).filter fun c => s.isRunning (encKey c) || s.starting (encKey c)).map fun c => (s.encRun c).px)

def State.encRunning (s : State) (n : Nat) : List Nat := (pipeEncs n).filter fun c => s.isRunning (encKey c)

/-- Reference pages of the machine, and those that no encoding reserves. -/
def State.refPages (s : State) : Nat := if s.gib4 then 24960 else 9600
def State.freeRefs (s : State) : Nat := s.refPages - sumNat (s.enc.runs.map fun (e : Nat × EncRun) => e.2.pages)

/-! ## Operating points (R324, R325) -/

def EncSet.layer (e : EncSet) (s : Nat) : EncLayer := tget {} e.layers s

/-- Share of temporal layer t of layer s, in percent. -/
def EncSet.share (e : EncSet) (s t : Nat) : Nat :=
  let l := e.layer s
  match e.cfg.temporal, t with
  | 1, _ => 100
  | 2, 0 => l.ts0
  | 2, _ => 100 - l.ts0
  | _, 0 => l.ts0
  | _, 1 => l.ts1
  | _, _ => 100 - l.ts0 - l.ts1

/-- Spatial layers of operating point (s, t). -/
def EncCfg.includes (g : EncCfg) (s : Nat) : List Nat := if g.stacked then layersOf (s + 1) else [s]

/-- RATE(q), bit/s. -/
def EncSet.rate (e : EncSet) (s t : Nat) : Nat :=
  sumNat ((e.cfg.includes s).map fun i =>
    (e.layer i).bitrate * sumNat ((List.range (t + 1)).map fun j => e.share i j) / 100)

/-- BUF(q), bits. -/
def EncSet.buf (e : EncSet) (s t : Nat) : Nat := e.rate s t * (e.layer s).buf / 70560000

/-- Every operating point (s, t) of a structure. -/
def EncCfg.points (g : EncCfg) : List (Nat × Nat) :=
  ((layersOf g.spatial).map fun s => (List.range g.temporal).map fun t => (s, t)).flatten

/-- The operating points that contain a picture of layer (s, t). -/
def EncCfg.containing (g : EncCfg) (s t : Nat) : List (Nat × Nat) :=
  g.points.filter fun q => decide (t ≤ q.2) && (q.1 == s || (g.stacked && decide (s < q.1)))

/-- DESIGN CHOICE, log entry 113. -/
def EncRun.fill (r : EncRun) (q : Nat × Nat) : Nat := tget 0 r.full (3 * q.1 + q.2)

/-- F(q) of every operating point falls by what its rate drains in a time. DESIGN CHOICE, log entry 113. -/
def leak (e : EncSet) (ct : Nat) (r : EncRun) : EncRun :=
  { r with full := e.cfg.points.foldl (fun (t : Tab Nat) q =>
      tmod 0 t (3 * q.1 + q.2) fun f => f - e.rate q.1 q.2 * ct / 70560000) r.full }

/-- Add n to a table entry of every operating point that contains (s, t). DEDUCED, log entry 115. -/
def countPoints (g : EncCfg) (s t n : Nat) (tab : Tab Nat) : Tab Nat :=
  (g.containing s t).foldl (fun (x : Tab Nat) q => tmod 0 x (3 * q.1 + q.2) fun f => f + n) tab

/-- Take n from it again. -/
def uncountPoints (g : EncCfg) (s t n : Nat) (tab : Tab Nat) : Tab Nat :=
  (g.containing s t).foldl (fun (x : Tab Nat) q => tmod 0 x (3 * q.1 + q.2) fun f => f - n) tab

/-! ## Budget and floor (R326, R327, R329) -/

/-- The operating point with the least room, and its room. -/
def EncRun.cap (r : EncRun) (e : EncSet) (s t : Nat) : Nat × Nat :=
  ((e.cfg.containing s t).map fun q => (e.buf q.1 q.2 - r.fill q, 3 * q.1 + q.2)).foldl
    (fun (a : Nat × Nat) b => if b.1 < a.1 then b else a)
    (e.buf s t - r.fill (s, t), 3 * s + t)

/-- Budget of a picture of layer (s, t), in bits, truncating. -/
def EncRun.budget (r : EncRun) (e : EncSet) (s t : Nat) (key : Bool) : Nat :=
  let p := framePeriod r.rate
  let t0 := (e.layer s).bitrate * e.share s t * frameGap e.cfg.temporal t * p / (100 * 70560000)
  let t1 := if key then t0 * e.cfg.keyFactor / 16 else t0
  let top := e.cfg.temporal - 1
  let b := e.buf s top
  let t2 := t1 * (b + b / 2 - r.fill (s, top)) / b
  let t3 := Nat.max (t1 / 2) (Nat.min t2 (2 * t1))
  Nat.min t3 (r.cap e s t).1

/-- Coding units of unit u of a layer of w × h pixels. -/
def codingUnits (av1 : Bool) (w h u : Nat) : Nat :=
  if av1 then ceilDiv w 64 else ceilDiv w 16 * ceilDiv (bandRows h u) 16

/-- Bits of a skipped coding unit. -/
def skipBits (av1 intra : Bool) : Nat :=
  match av1, intra with
  | true, false => 4 | false, false => 2 | true, true => 24 | false, true => 12

/-- Cost of units u, u + 1, …, n - 1 of a layer coded as skip. -/
def floorFrom (av1 intra : Bool) (w h n u : Nat) : Nat :=
  sumNat (((List.range n).filter fun i => decide (u ≤ i)).map fun i => 64 + skipBits av1 intra * codingUnits av1 w h i)

def reserveOf (budget : Nat) : Nat := budget / 160

/-! ## Coding one unit of a layer (R329) -/

/-- Code the coding units of a band under its cap: bits so far, bits of a skipped one, the bits each would take. From the
first that would take the output past the cap, every one is coded as skip. Answers the bits and whether any was. -/
def codeUnits (cap skip used : Nat) : List Nat → Nat × Bool
  | [] => (used, false)
  | b :: r =>
    if used + b + skip * r.length ≤ cap then codeUnits cap skip (used + b) r
    else (used + skip * (r.length + 1), true)

/-- The bits of n coding units, in the order the coder meets them. -/
def unitList (n skip : Nat) (code : BandCode) : List Nat := (List.range n).map fun i => code.unitBits.getD i skip

def EncLayer.clampQp (l : EncLayer) (av1 : Bool) (qp : Nat) : Nat :=
  Nat.max l.qpMin (Nat.min (Nat.min (l.qpMax.getD 255) (if av1 then 255 else 51)) qp)

/-- How many coding units come before the first that is coded as skip. -/
def codedBefore (cap skip used : Nat) : List Nat → Nat
  | [] => 0
  | b :: r => if used + b + skip * r.length ≤ cap then 1 + codedBefore cap skip (used + b) r else 0

/-! ## Motion search and mode decision (R323, R331) -/

/-- Vectors at a spacing about a centre. -/
def grid (rx ry step : Nat) (c : Int × Int) : List (Int × Int) :=
  (List.range (2 * ry + 1)).flatMap fun (j : Nat) => (List.range (2 * rx + 1)).map fun (i : Nat) =>
    (c.1 + step * ((i : Int) - rx), c.2 + step * ((j : Int) - ry))

/-- The vector of least cost. -/
def bestOf (cost : Int × Int → Nat) : List (Int × Int) → Option (Int × Int)
  | [] => none
  | v :: r => match bestOf cost r with
    | none => some v
    | some w => if cost w < cost v then some w else some v

/-- A vector reaches at most 128 pixels and 64 rows; `unit` steps make a pixel. -/
def inReach (unit : Int) (v : Int × Int) : Bool :=
  decide (-128 * unit ≤ v.1) && decide (v.1 ≤ 128 * unit) && decide (-64 * unit ≤ v.2) && decide (v.2 ≤ 64 * unit)

def scaleVec (n : Int) (v : Int × Int) : Int × Int := (n * v.1, n * v.2)

/-- The codec's predicted vector of a block, in pixels. DESIGN CHOICE, log entry 172. -/
def predictedVec (seed : Nat) : Int × Int :=
  ((Config.coder seed [5] % 257 : Nat) - 128, (Config.coder seed [6] % 129 : Nat) - 64)

/-- Search of a block against a reference, in quarter pixels: coarse, middle and fine steps, then half-pel and quarter-pel.
The costs are the coder's. DESIGN CHOICE, log entry 172. -/
def searchVec (seed : Nat) : Int × Int :=
  let best := fun (step : Int) (l : List (Int × Int)) => (bestOf (fun v => Config.coder seed [step, v.1, v.2]) l).getD (0, 0)
  let pred := predictedVec seed
  let coarse := grid 32 16 1 (0, 0)
  let a := best 0 coarse
  let b := best 0 (coarse.filter fun v => v != a)
  let mid := best 1 ([scaleVec 2 a, scaleVec 2 b, (pred.1 / 2, pred.2 / 2)].flatMap (grid 4 4 1))
  let full := best 2 (((0, 0) :: pred :: grid 4 4 1 (scaleVec 2 mid)).filter (inReach 1))
  let half := best 3 ((grid 1 1 2 (scaleVec 4 full)).filter (inReach 4))
  best 4 ((grid 1 1 1 half).filter (inReach 4))

/-- Partitions of a square block: whole, two ways in two, or in four, down to 8 × 8. -/
def splitBlock (seed : Nat) : Nat → Nat → Nat → Nat → List (Nat × Nat × Nat × Nat)
  | 0, x, y, n => [(x, y, n, n)]
  | f + 1, x, y, n =>
    let m := n / 2
    match Config.coder seed [7, x, y, n] % 4 with
    | 0 => [(x, y, n, n)]
    | 1 => [(x, y, n, m), (x, y + m, n, m)]
    | 2 => [(x, y, m, n), (x + m, y, m, n)]
    | _ => splitBlock seed f x y m ++ splitBlock seed f (x + m) y m ++ splitBlock seed f x (y + m) m ++ splitBlock seed f (x + m) (y + m) m

/-- Mode of a block among those that its picture allows; the layer below only where its rows are reconstructed. -/
def PicRun.modeOf (p : PicRun) (seed : Nat) (belowReady : Bool) : BlockMode :=
  let intra := BlockMode.intra (Config.coder seed [8])
  let temporal := if p.intra || p.ref = 0 then [] else
    [BlockMode.skip (p.ref - 1), BlockMode.inter (p.ref - 1) (searchVec seed).1 (searchVec seed).2]
  let all := intra :: temporal ++ (if p.below && belowReady then [BlockMode.below] else [])
  all.getD (Config.coder seed [9] % all.length) intra

/-- Unit i of a band of width w: its place, and its size. -/
def unitPlace (av1 : Bool) (w i : Nat) : Nat × Nat × Nat :=
  if av1 then (64 * i, 0, 64) else (16 * (i % ceilDiv w 16), 16 * (i / ceilDiv w 16), 16)

/-- A coding unit as it is coded; `rows` of the layer below are reconstructed. -/
def PicRun.unitOf (p : PicRun) (l : EncLayer) (av1 : Bool) (seed w band rows i : Nat) (skipped : Bool) : CodedUnit :=
  let (x, y, n) := unitPlace av1 w i
  let dull := if p.intra || p.ref = 0 then BlockMode.flat else BlockMode.skip (p.ref - 1)
  let seedAt := fun (x y : Nat) => Config.coder seed [10, p.s, band, x, y]
  let blocks := if skipped then [{ x := x, y := y, w := n, h := n, mode := dull }]
    else (splitBlock (seedAt x y) (if av1 then 3 else 1) x y n).map fun b : Nat × Nat × Nat × Nat =>
      { x := b.1, y := b.2.1, w := b.2.2.1, h := b.2.2.2,
        mode := p.modeOf (seedAt b.1 b.2.1) (decide (64 * band + b.2.1 + b.2.2.2 ≤ 2 * rows)) : CodedBlock }
  { band := band, unit := i, qp := if av1 then l.clampQp av1 (Config.coder (seedAt x y) [11]) else p.bandQp, skipped := skipped,
    blocks := blocks }

/-- The band's units join the picture: the first `coded` as the coder chose, the rest as skip. -/
def PicRun.addUnits (p : PicRun) (e : EncSet) (seed w h band rows coded : Nat) : PicRun :=
  { p with units := p.units ++ (List.range (codingUnits e.cfg.av1 w h band)).map fun i =>
      p.unitOf (e.layer p.s) e.cfg.av1 seed w band rows i (decide (coded ≤ i)) }

/-- The quantiser of the next band: the first takes the picture's base quantiser, a later one moves by at most 4 steps
(R331). -/
def PicRun.nextQp (x : PicRun) (l : EncLayer) (av1 : Bool) (code : BandCode) : Nat :=
  if x.done = 0 then l.clampQp av1 code.baseQp
  else l.clampQp av1 (Nat.max (x.bandQp - 4) (Nat.min (x.bandQp + 4) code.baseQp))

/-- Code the next unit of a picture. -/
def PicRun.codeUnit (x : PicRun) (e : EncSet) (w h n : Nat) (code : BandCode) (seed rows : Nat) : PicRun :=
  let av1 := e.cfg.av1
  let skip := skipBits av1 x.intra
  let m := codingUnits av1 w h x.done
  let start := x.bits + (if x.done = 0 then 1024 else 0) + 64
  let q := x.nextQp (e.layer x.s) av1 code
  let qp := if x.done = 0 then q else x.qp
  let x := { x with bandQp := q }
  if x.skipping then { x.addUnits e seed w h x.done rows 0 with bits := start + skip * m, done := x.done + 1, qp := qp }
  else
    let cap := x.budget - x.reserve - floorFrom av1 x.intra w h n (x.done + 1)
    let us := unitList m skip code
    let (b, hit) := codeUnits cap skip start us
    { x.addUnits e seed w h x.done rows (codedBefore cap skip start us) with bits := b, done := x.done + 1, qp := qp, skipping := hit, firstSkip := if hit then x.done else x.firstSkip }

/-- Code the rest of a picture as skip (R337). -/
def PicRun.skipRest (x : PicRun) (e : EncSet) (w h n : Nat) : PicRun :=
  if x.dropped then x
  else
    let y := ((List.range n).filter fun i => decide (x.done ≤ i)).foldl (fun (y : PicRun) i => y.addUnits e 0 w h i 0 0) x
    { y with bits := x.bits + (if x.done = 0 then 1024 else 0) + floorFrom e.cfg.av1 x.intra w h n x.done, done := Nat.max x.done n }

/-! ## Beginning the pictures of a frame (R325-R333) -/

def EncRun.dims (r : EncRun) (g : EncCfg) (s : Nat) : Nat × Nat := (r.w / g.shrink s, r.h / g.shrink s)

/-- Bands (units) of a layer's picture. -/
def EncRun.units (r : EncRun) (g : EncCfg) (s : Nat) : Nat := ceilDiv (r.dims g s).2 64

/-- Instants and frames are held plus 1, so that 0 means none. -/
def since (t : Tab Nat) (s now ct : Nat) : Bool :=
  let v := tget 0 t s
  v == 0 || decide (v - 1 + ct ≤ now)

/-- Layer s keys in a frame that starts at t. DEDUCED, log entry 114. -/
def EncRun.keys (r : EncRun) (e : EncSet) (s t : Nat) : Bool := tget 0 r.keyPend s != 0 && since r.lastKey s t e.cfg.keyMin

/-- ENC_STREAM that carries layer s. -/
def EncSet.stream (e : EncSet) (s : Nat) : Option EncStream := tfind e.streams (if e.cfg.simulcast then s else 0)

/-- RTP timestamp of a frame that starts at TB0 `start` (R320). -/
def EncSet.stampOf (e : EncSet) (s start : Nat) : Word := ((e.stream s).map fun x => x.tsBase).getD 0 + low (start / 784)

/-- What the sequence header or SPS of an intra picture of a layer carries: every operating point of its stream (R312). -/
def headerOf (e : EncSet) (r : EncRun) (c k layer : Nat) : Out :=
  let qs := e.cfg.points.filter fun q => !e.cfg.simulcast || q.1 == layer
  let top := if e.cfg.simulcast then layer else e.cfg.spatial - 1
  let most := (qs.map fun q => e.rate q.1 q.2).foldl Nat.max 0
  .header c layer k (Config.level e.cfg.av1 (r.w / e.cfg.shrink top) (r.h / e.cfg.shrink top) r.rate most)
    (qs.map fun q => (e.rate q.1 q.2, e.buf q.1 q.2))

/-- The picture of layer s in frame k: dropped before coding, or begun. -/
def beginPic (s : State) (c k layer : Nat) : State :=
  let e := s.encSet c
  let g := e.cfg
  let r := s.encRun c
  let start := r.start
  let key := r.keys e layer start
  let t := if key then 0 else temporalIndex g.temporal k
  let below := g.stacked && decide (1 ≤ layer) && r.pics.any fun p => p.s + 1 == layer && !p.dropped
  let switch := key || (below && t == 0 && since r.lastSwitch layer start g.switchCt)
  let intra := key && !below
  let (w, h) := r.dims g layer
  let n := r.units g layer
  let budget := r.budget e layer t key
  let reserve := reserveOf budget
  let floor := 1024 + floorFrom g.av1 intra w h n 0
  let x : PicRun := { s := layer, t := t, key := key, dropped := decide (budget < floor + reserve), budget := budget, reserve := reserve,
                      bits := 0, done := 0, skipping := false, firstSkip := 0, qp := 0, charged := budget - reserve, intra := intra }
  if x.dropped then
    let s := s.setEncRun c { r with pics := r.pics ++ [x], drops := countPoints g layer t 1 r.drops }
    let s := s.bump (gleCanvA c 0x18) 1
    pulse (event s 0x0C11 (low c) (low k) (low (layer * 16 + t)) (low (r.cap e layer t).2) (low budget)) (896 + c)
  else
    let t0 := tget 0 r.lastT0 layer
    let t1 := tget 0 r.lastT1 layer
    let ref := if switch then 0 else if t = 2 then Nat.max t0 t1 else t0
    let x := { x with ref := ref, below := below }
    let o := Out.picture c layer t k (e.stampOf layer start) key switch (if ref = 0 then none else some (ref - 1)) below
    let r := { r with pics := r.pics ++ [x], full := countPoints g layer t x.charged r.full,
                      lastT0 := if t = 0 then tset 0 r.lastT0 layer (k + 1) else r.lastT0,
                      lastT1 := if t = 0 then tset 0 r.lastT1 layer 0
                                else if t = 1 && g.temporal = 3 then tset 0 r.lastT1 layer (k + 1) else r.lastT1,
                      lastSwitch := if switch then tset 0 r.lastSwitch layer (start + 1) else r.lastSwitch,
                      lastKey := if key then tset 0 r.lastKey layer (start + 1) else r.lastKey,
                      keyPend := if key then tset 0 r.keyPend layer 0 else r.keyPend }
    let s := if key then s.bump (gleCanvA c 0x20) 1 else s
    { s.setEncRun c r with out := if intra then o :: headerOf e r c k layer :: s.out else o :: s.out }

/-- ENC_KEY for the layers keyed in a frame, one event for each cause. -/
def sayKeys (s : State) (c k : Nat) (before : Tab Nat) : State :=
  let r := s.encRun c
  [1, 2, 3, 4].foldl (fun s cause =>
    let m := sumNat ((r.pics.filter fun p => p.key && !p.dropped && tget 0 before p.s == cause).map fun p => 2 ^ p.s)
    if m = 0 then s else event s 0x0C12 (low c) (low k) (low m) (low cause) 0) s

/-- The first band of frame k, which starts at TB0 `start`: the models drain, and every layer's picture begins, lowest
first. -/
def beginPics (s : State) (c k start : Nat) : State :=
  let r := s.encRun c
  let r := { leak (s.encSet c) (start - r.leakAt) r with leakAt := start, frame := some k, start := start, pics := [] }
  let s := (layersOf (s.encSet c).cfg.spatial).foldl (fun s i => beginPic s c k i) (s.setEncRun c r)
  sayKeys s c k r.keyPend

/-! ## Ending a picture (R325, R330) -/

/-- A reconstructed picture takes the place of the reference it replaces; a new T0 leaves no T1 (R311, R315). -/
def keepRef (g : EncCfg) (k : Nat) (x : PicRun) (refs : Tab RefPic) : Tab RefPic :=
  let p : RefPic := { frame := k, units := x.units }
  if x.t = 0 then tput (tdel refs (2 * x.s + 1)) (2 * x.s) p
  else if x.t = 1 && g.temporal = 3 then tput refs (2 * x.s + 1) p
  else refs

/-- A picture is coded whole: the models take its bits, and it is counted. -/
def endPic (s : State) (c k : Nat) (x : PicRun) : State :=
  let r := s.encRun c
  let g := (s.encSet c).cfg
  let full := uncountPoints g x.s x.t x.charged (countPoints g x.s x.t x.bits r.full)
  let q := 3 * x.s + x.t
  let s := s.setEncRun c { r with full := full, refs := keepRef g k x r.refs, lastBits := x.bits, lastQp := low (x.qp + q * 256 + if x.skipping then 65536 else 0),
                                  coded := countPoints g x.s x.t 1 r.coded,
                                  exh := if x.skipping then countPoints g x.s x.t 1 r.exh else r.exh }
  let s := (s.bump64 (gleCanvA c 0x08) 1).bump64 (gleCanvA c 0x10) (ceilDiv x.bits 8)
  if x.skipping then
    let s := s.bump (gleCanvA c 0x1C) 1
    match s.limit (objKey 0x0C10 c) ctPerSec 1 0 with
    | (some (n, _), s) =>
      pulse (eventSt s 0x0C10 stBudgetExhausted (low c) (low k) (low (x.s * 16 + x.t)) (low x.firstSkip) (low n)) (896 + c)
    | (none, s) => pulse s (896 + c)
  else s

/-- Pictures of the present frame that have just been coded whole are counted; the frame ends with the last. -/
def endPics (s : State) (c : Nat) (before : List PicRun) : State :=
  let r := s.encRun c
  let g := (s.encSet c).cfg
  let whole := fun (p : PicRun) => decide (r.units g p.s ≤ p.done)
  let now := r.pics.filter fun p => !p.dropped && whole p && !(before.any fun b => b.s == p.s && whole b)
  let s := now.foldl (fun s p => endPic s c (r.frame.getD 0) p) s
  if r.pics.all (fun p => p.dropped || whole p) then s.setEncRun c { s.encRun c with frame := none } else s

/-! ## The order of work (R316-R322) -/

/-- Unit of layer s that band n of the canvas completes. -/
def EncRun.completes (r : EncRun) (g : EncCfg) (s n : Nat) : Option Nat :=
  let h := (r.dims g s).2
  (List.range (r.units g s)).find? fun u => (Nat.min (64 * u + 64) h * g.shrink s - 1) / 64 == n

/-- Layers whose units band n completes, lowest first; the top layer's is the band itself. -/
def EncRun.work (r : EncRun) (g : EncCfg) (n : Nat) : List Nat :=
  (layersOf g.spatial).filter fun s => (r.completes g s n).isSome

/-- Rows of the layer below a layer that are reconstructed. -/
def rowsBelow (ps : List PicRun) (i : Nat) : Nat := ((ps.find? fun p => p.s + 1 == i && !p.dropped).map fun p => 64 * p.done).getD 0

/-- Code the units of one band: the pictures after it, its tiles, its cycles. -/
def codeBand (e : EncSet) (r : EncRun) (seed : Nat) : List (Nat × BandCode) → List PicRun → List PicRun × List (Nat × Nat × Nat) × Nat
  | [], ps => (ps, [], 0)
  | (i, code) :: rest, ps =>
    let (w, h) := r.dims e.cfg i
    match ps.find? fun p => p.s == i with
    | none => codeBand e r seed rest ps
    | some p =>
      if p.dropped then codeBand e r seed rest ps
      else
        let p' := p.codeUnit e w h (r.units e.cfg i) code seed (rowsBelow ps i)
        let (out, tiles, cyc) := codeBand e r seed rest (ps.map fun q => if q.s = i then p' else q)
        (out, (i, p.done, p'.bits - p.bits) :: tiles, cyc + 400 + w * bandRows h p.done)

/-- The band whose release is earliest, the lower canvas on a tie, and the rest. -/
def pickPlaced (n : Nat) : List Placed → Option Placed
  | [] => none
  | p :: r =>
    match pickPlaced n r with
    | none => if p.canvas / 8 = n then some p else none
    | some q =>
      if p.canvas / 8 = n && (decide (p.release < q.release) || (p.release == q.release && decide (p.canvas ≤ q.canvas))) then some p else some q

/-- The geometry of a band is that latched at START. DEDUCED, log entry 112. -/
def EncRun.fits (r : EncRun) (b : Placed) : Bool := b.w == r.w && b.h == r.h && b.rate == r.rate

/-- Take a band: its geometry, the first band of its frame, its units. DEDUCED, log entry 112. -/
def takeBand (s : State) (n : Nat) (b : Placed) (codes : List BandCode) : State :=
  let c := b.canvas
  let s := { s with enc := { s.enc with placed := s.enc.placed.erase b } }
  let r := s.encRun c
  if r.geom || !r.fits b then
    let s := s.setEncRun c { r with geom := true, frame := none, pics := [] }
    let s := if r.geom then s else event s 0x0C13 (low c) (low (b.w + b.h * 65536)) (low b.rate) 0 0
    endBlocked s c
  else
    let s := if b.band = 0 then beginPics s c b.frame b.start else s
    let e := s.encSet c
    let r := s.encRun c
    if r.frame ≠ some b.frame then endBlocked s c
    else
      let work := r.work e.cfg b.band
      let (ps, tiles, cyc) := codeBand e r s.free (work.zipIdx.map fun (x : Nat × Nat) => (x.1, codes.getD x.2 { unitBits := [], baseQp := 0 })) r.pics
      let s := s.setEncRun c { r with pics := ps, lastBand := b.at' }
      let s := s.bump (gleA n 8) cyc
      { s with free := s.free + 1,
               enc := { s.enc with busy := tput s.enc.busy n { band := b, tiles := tiles, before := r.pics },
                                   window := tset 0 s.enc.window n (c + 1) } }

/-- An idle pipe takes the placed band with the earliest release, codes the lower-layer units it completes, then the band. -/
def execBandEncodeStart (pipe : Fin 12) (codes : List BandCode) (s : State) : Outcome State Fault Refusal :=
  if !s.running || !s.dom (52 + pipe) || (tfind s.enc.busy pipe).isSome then .next s
  else match pickPlaced pipe s.enc.placed with
    | none => .next s
    | some b => .next (takeBand s pipe b codes)

/-- Nothing of an encoding is under way: no band placed or being coded. -/
def State.encIdle (s : State) (c : Nat) : Bool :=
  !(s.enc.placed.any fun p => p.canvas == c) && !(s.enc.busy.any fun (e : Nat × EncJob) => e.2.band.canvas == c)

/-- An encoding reaches STOPPED: its rate and pages return, and bands it holds are discarded. -/
def encStopped (s : State) (c : Nat) : State :=
  let s := { s with enc := { s.enc with placed := s.enc.placed.filter fun p => p.canvas != c,
                                        busy := s.enc.busy.filter fun (e : Nat × EncJob) => e.2.band.canvas != c } }
  let s := s.setEncRun c { s.encRun c with px := 0, pages := 0, frame := none, pics := [], keyPend := [],
                                           rows := {}, lower := [], refs := [] }
  endBlocked (reachStopped s 0x0C c) c

/-- A tile group or slice goes to the packet cores as an item of its canvas stream's flow, unless the Hall drops it
(R319, R389, R392). -/
def passTile (c k : Nat) (s : State) (t : Nat × Nat × Nat) : State :=
  let (ok, s) := hallWork s (canvasFlow c (if (s.encSet c).cfg.simulcast then t.1 else 0)) 5
  if ok then { s with out := Out.tile c t.1 k t.2.1 t.2.2 :: s.out } else s

/-- A band is coded: its tile groups or slices go to the packet cores, and its place is released. -/
def execBandCoded (pipe : Fin 12) (s : State) : Outcome State Fault Refusal :=
  match tfind s.enc.busy pipe with
  | none => .next s
  | some j =>
    if !s.running then .next s
    else
      let c := j.band.canvas
      let s := j.tiles.foldl (passTile c j.band.frame) { s with enc := { s.enc with busy := tdel s.enc.busy pipe } }
      let slow := decide (j.band.at' + (s.encRunning pipe).length * 19038 < s.now)
      let s := if slow then
          pulse { s.bump (gleCanvA c 0x24) 1 with enc := { s.enc with slow := tset 0 s.enc.slow pipe (tget 0 s.enc.slow pipe + 1) } } (992 + pipe)
        else s
      let s := endBlocked (endPics s c j.before) c
      if s.draining (encKey c) && s.encIdle c && (s.encRun c).frame.isNone then .next (encStopped s c) else .next s

/-! ## Key requests (R332) -/

/-- Make a key pending for the layers of a mask; requests join one that is pending. DEDUCED, log entry 114. -/
def pendKeys (s : State) (c mask cause : Nat) : State :=
  let g := (s.encSet c).cfg
  let m := if mask ≠ 0 && !g.simulcast then 2 ^ g.spatial - 1 else mask
  let r := s.encRun c
  s.setEncRun c { r with keyPend := (layersOf g.spatial).foldl (fun (t : Tab Nat) i =>
    if m.testBit i && tget 0 t i == 0 then tset 0 t i cause else t) r.keyPend }

/-- KEY_INTERVAL_CT has passed since a layer's last key. -/
def execKeyIntervalExpiry (n : Fin 96) (s : State) : Outcome State Fault Refusal :=
  let e := s.encSet n
  let r := s.encRun n
  if s.isRunning (encKey n) && e.cfg.keyInt != 0 then
    let m := sumNat ((layersOf e.cfg.spatial).map fun i =>
      if tget 0 r.lastKey i != 0 && since r.lastKey i s.now e.cfg.keyInt then 2 ^ i else 0)
    .next (pendKeys s n m 2)
  else .next s

/-! ## Starting and stopping an encoding (R310, R314, R315, R336, R337) -/

def encOk (n : Nat) : Bool := decide (n < 96)
def State.encPowered (s : State) (c : Nat) : Bool := s.dom (52 + c / 8)

def EncSet.pxRate (e : EncSet) (g : CanvasCfg) : Nat := e.cfg.framePx g.w g.h * countedRate g.rate

/-- What START of encoding c is refused for, given what the others hold. -/
def State.encChecks (s : State) (c : Nat) : List (Bool × Status) :=
  let e := s.encSet c
  let g := s.canvasCfg c
  let small := decide (g.w / e.cfg.shrink 0 < 64) || decide (g.h / e.cfg.shrink 0 < 32)
  let others := sumNat (((pipeEncs (c / 8)).filter fun d => d != c && (s.isRunning (encKey d) || s.starting (encKey d))).map
    fun d => (s.encRun d).px)
  let free := s.freeRefs + (s.encRun c).pages
  let need := if e.cfg.simulcast then layersOf e.cfg.spatial else [0]
  [(small, stLayerTooSmall),
   (decide (encLimit s.eastPoint < others + e.pxRate g) || decide (free < e.cfg.pages g.w g.h), stNoResource),
   (need.any fun i => (tfind e.streams i).isNone, stNoStream)]

/-- An accepted START latches the canvas's geometry and reserves. -/
def encReserve (s : State) (c : Nat) : State :=
  let e := s.encSet c
  let g := s.canvasCfg c
  if s.starting (encKey c) then
    s.setEncRun c { w := g.w, h := g.h, rate := g.rate, px := e.pxRate g, pages := e.cfg.pages g.w g.h }
  else s

/-- RUNNING: every bucket is empty and every layer's key is pending. -/
def encBegins (s : State) (c : Nat) : State :=
  pendKeys (s.setEncRun c { s.encRun c with leakAt := s.now }) c (2 ^ (s.encSet c).cfg.spatial - 1) 1

/-- DEDUCED, log entry 116. -/
def encDrain (s : State) (c : Nat) (ab : Bool) : State :=
  if ab || (s.encIdle c && (s.encRun c).frame.isNone) then encStopped s c else s

/-- While draining, no band of the picture in progress has come within P: its remaining units are coded as skip.
DEDUCED, log entry 116. -/
def execEncodeDrainTimeout (n : Fin 96) (s : State) : Outcome State Fault Refusal :=
  let r := s.encRun n
  if s.running && s.draining (encKey n) && s.encIdle n && r.frame.isSome && decide (r.lastBand + framePeriod r.rate ≤ s.now) then
    let e := s.encSet n
    let k := r.frame.getD 0
    let ps := r.pics.map fun p => p.skipRest e (r.dims e.cfg p.s).1 (r.dims e.cfg p.s).2 (r.units e.cfg p.s)
    let tiles := (r.pics.zip ps).filter fun (x : PicRun × PicRun) => decide (x.1.done < x.2.done)
    let s := (tiles.map fun (x : PicRun × PicRun) => (x.1.s, x.1.done, x.2.bits - x.1.bits)).foldl (passTile n k)
      (s.setEncRun n { r with pics := ps })
    .next (encStopped (endPics s n r.pics) n)
  else .next s

/-! ## Commands (R334, R335) -/

/-- Checks of 0x0C10 in their order (R60). -/
def State.encConfigChecks (s : State) (c : Cmd) : List (Bool × Status) :=
  let w := c.word 4
  let codec := bits w 1 0
  let mode := bits w 5 4
  let sp := bits w 9 8
  let tm := bits w 13 12
  let bad := bits w 3 2 != 0 || bits w 7 6 != 0 || bits w 11 10 != 0 || bits w 31 14 != 0 || bits (c.word 8) 31 8 != 0 ||
    codec == 3 || mode == 3 || (codec == 2 && mode == 2) || (codec != 2 && mode != 2) || (mode == 1 && sp == 1) || sp == 0 || tm == 0 ||
    (bits (c.word 8) 7 0 != 0 && decide (bits (c.word 8) 7 0 < 16))
  [(!s.stopped (encKey c.num), stNotStopped), (bad, stBadField)]

def execEncConfig (c : Cmd) (s : State) : Outcome State Fault Refusal :=
  .next (runCmd s 0x0C10 c 1 1 (encOk c.num) (s.encPowered c.num) fun s =>
    let w := c.word 4
    let codec := bits w 1 0
    let mode := bits w 5 4
    let sp := bits w 9 8
    let tm := bits w 13 12
    checked s 0x0C10 c (s.encConfigChecks c) fun s =>
      let or := fun (n d : Nat) => if n = 0 then d else n
      let g : EncCfg := { codec := codec, mode := mode, spatial := sp, temporal := tm, keyInt := (c.word 5).toNat,
                          keyMin := or (c.word 6).toNat 35280000, switchCt := or (c.word 7).toNat 70560000,
                          keyFactor := or (bits (c.word 8) 7 0) 0x40 }
      let e := { s.encSet c.num with cfg := g }
      let v := s.canvasCfg c.num
      complete (bumpGen (s.setEncSet c.num e) (encKey c.num)) 0x0C10 c stOk (low (e.pxRate v / 1000)) (low (g.pages v.w v.h)) 0 0)

/-- Checks of 0x0C11 in their order (R60). -/
def State.encLayerChecks (s : State) (c : Cmd) : List (Bool × Status) :=
  let e := s.encSet c.num
  let l := bits (c.word 4) 1 0
  let rate := (c.word 5).toNat
  let buf := (c.word 6).toNat
  let t0 := bits (c.word 7) 6 0
  let t1 := bits (c.word 7) 14 8
  let lo := bits (c.word 8) 7 0
  let hi := bits (c.word 8) 15 8
  let most := if e.cfg.av1 then 255 else 51
  let bad := bits (c.word 4) 31 2 != 0 || bit (c.word 7) 7 || bits (c.word 7) 31 15 != 0 || bits (c.word 8) 31 16 != 0 ||
    decide (e.cfg.spatial ≤ l) || decide (rate < 16000) || decide (20000000 < rate) || decide (buf < 1411200) || decide (70560000 < buf) ||
    t0 == 0 || (e.cfg.temporal == 2 && decide (99 < t0)) || (e.cfg.temporal == 3 && decide (99 < t0 + t1)) ||
    decide (most < hi) || decide (hi < lo)
  [(!s.stopped (encKey c.num), stNotStopped), (bad, stBadField)]

def execEncLayer (c : Cmd) (s : State) : Outcome State Fault Refusal :=
  .next (runCmd s 0x0C11 c 1 1 (encOk c.num) (s.encPowered c.num) fun s =>
    let e := s.encSet c.num
    let l := bits (c.word 4) 1 0
    let rate := (c.word 5).toNat
    let buf := (c.word 6).toNat
    let t0 := bits (c.word 7) 6 0
    let t1 := bits (c.word 7) 14 8
    let lo := bits (c.word 8) 7 0
    let hi := bits (c.word 8) 15 8
    checked s 0x0C11 c (s.encLayerChecks c) fun s =>
      let x : EncLayer := { bitrate := rate, buf := buf, ts0 := t0, ts1 := t1, qpMin := lo, qpMax := some hi }
      finish (bumpGen (s.setEncSet c.num { e with layers := tset {} e.layers l x }) (encKey c.num)) 0x0C11 c stOk)

/-- Checks of 0x0C12 in their order (R60). -/
def State.encStreamChecks (s : State) (c : Cmd) : List (Bool × Status) :=
  let e := s.encSet c.num
  let i := bits (c.word 4) 1 0
  let valid := bit (c.word 4) 31
  let w := c.word 6
  let pay := bits w 31 16
  let bad := bits (c.word 4) 30 2 != 0 || bit w 7 || decide ((if e.cfg.simulcast then 2 else 0) < i) ||
    (valid && (bits w 15 8 == 0 || (pay != 0 && (decide (pay < 256) || decide (1400 < pay)))))
  [(!s.stopped (encKey c.num), stNotStopped), (bad, stBadField)]

def execEncStream (c : Cmd) (s : State) : Outcome State Fault Refusal :=
  .next (runCmd s 0x0C12 c 1 1 (encOk c.num) (s.encPowered c.num) fun s =>
    let e := s.encSet c.num
    let i := bits (c.word 4) 1 0
    let valid := bit (c.word 4) 31
    let w := c.word 6
    let pay := bits w 31 16
    checked s 0x0C12 c (s.encStreamChecks c) fun s =>
      let x : EncStream := { ssrc := c.word 5, pt := bits w 6 0, ddId := bits w 15 8, payload := if pay = 0 then 1200 else pay, tsBase := c.word 7 }
      let t := if valid then tput e.streams i x else tdel e.streams i
      finish (bumpGen (s.setEncSet c.num { e with streams := t }) (encKey c.num)) 0x0C12 c stOk)

/-- Checks of 0x0C13 in their order (R60). -/
def State.encKeyreqChecks (s : State) (c : Cmd) : List (Bool × Status) :=
  let m := bits (c.word 4) 2 0
  [(!s.isRunning (encKey c.num), stWrongState),
    (bits (c.word 4) 31 3 != 0 || decide (2 ^ (s.encSet c.num).cfg.spatial ≤ m), stBadField)]

def execEncKeyreq (c : Cmd) (s : State) : Outcome State Fault Refusal :=
  .next (runCmd s 0x0C13 c 1 1 (encOk c.num) (s.encPowered c.num) fun s =>
    let m := bits (c.word 4) 2 0
    checked s 0x0C13 c (s.encKeyreqChecks c) fun s =>
      complete (pendKeys s c.num m 3) 0x0C13 c stOk 0 0 0 0)

/-- F(q) ÷ BUF(q) in Q0.16. -/
def State.fullRatio (s : State) (c q : Nat) : Nat :=
  let b := (s.encSet c).buf (q / 3) (q % 3)
  if b = 0 then 0 else Nat.min 65535 ((s.encRun c).fill (q / 3, q % 3) * 65536 / b)

/-- DEDUCED, log entry 115. -/
def execEncStats (c : Cmd) (s : State) : Outcome State Fault Refusal :=
  .next (runCmd s 0x0C14 c 1 1 (encOk c.num) true fun s =>
    let q := bits (c.word 4) 3 0
    checked s 0x0C14 c [(bits (c.word 4) 31 4 != 0 || decide (8 < q), stBadField)] fun s =>
      let r := s.encRun c.num
      complete s 0x0C14 c stOk (low (tget 0 r.coded q)) (low (tget 0 r.drops q)) (low (tget 0 r.exh q)) (low (s.fullRatio c.num q)))

def execEncPipeStats (c : Cmd) (s : State) : Outcome State Fault Refusal :=
  let n := c.num - 0x1_0000
  .next (runCmd s 0x0C15 c 1 1 (decide (0x1_0000 ≤ c.num) && decide (c.num < 0x1_000C)) true fun s =>
    complete s 0x0C15 c stOk (low (s.encRate n / 1000)) (low (s.encRunning n).length) (low (tget 0 s.enc.slow n)) (low s.freeRefs))

/-! ## Registers (R339, R340) -/

def State.glePipeStat (s : State) (n : Nat) : Word :=
  let job := tfind s.enc.busy n
  low (sumNat ((s.encRunning n).map fun c => 2 ^ (c % 8)) + (if job.isSome then 256 else 0) +
    (job.map fun j => j.band.canvas % 8 * 512).getD 0)

def State.gleCanvStat (s : State) (c : Nat) : Word :=
  let r := s.encRun c
  let g := (s.encSet c).cfg
  let st := (s.obj (encKey c)).st
  let f := fun (b : Bool) (i : Nat) => if b then 2 ^ i else 0
  let bandq := (s.enc.placed.filter fun p => p.canvas == c).length + (s.enc.busy.filter fun (e : Nat × EncJob) => e.2.band.canvas == c).length
  let shape := if st = .stopped then 0 else g.codec * 2 ^ 26 + g.mode * 2 ^ 24 + g.spatial * 2 ^ 22 + g.temporal * 2 ^ 20
  low (objStateNum st * 2 ^ 30 + f (r.keyPend.any fun (e : Nat × Nat) => e.2 != 0) 29 + f r.geom 28 + shape + Nat.min 2 bandq * 2 ^ 18 + r.pages)

end Sys2Proof.Machine
end

