-- ==== Sys2Proof/Machine/Operands.lean ====
section
/-!
DEFINITION. What a DSP instruction reaches: its engine's registers and memories, the fields of its word, the
pointer modes and circular buffers of its operands (R188, R189, R194, R200, R201, R206).
-/
namespace Sys2Proof.Machine

/-! ## Engines and their memories -/

def engKey (e : Nat) : Nat := objKey 9 e

/-- Offset in the window of parlour p. -/
def parA (p off : Nat) : Nat := 0x00C0_0000 + p * 0x1_0000 + off

/-- A register of engine e: offset from PAR_ENGj_STAT. -/
def engA (e off : Nat) : Nat := parA (e / 8) (0x100 + e % 8 * 0x40 + off)

def State.eng (s : State) (e : Nat) : Engine := tget {} s.par.engines e
def State.setEng (s : State) (e : Nat) (x : Engine) : State := { s with par := { s.par with engines := tset {} s.par.engines e x } }
def State.engRun (s : State) (e : Nat) : EngRun := (s.eng e).run
def State.setRun (s : State) (e : Nat) (r : EngRun) : State := s.setEng e { s.eng e with run := r }
def State.engCfg (s : State) (e : Nat) : EngCfg := tget {} s.par.cfgs e

/-- A container of program memory, of data memory and of the shared bank (R188, R189). -/
def State.progWord (s : State) (e a : Nat) : Word := tget 0 (tget [] s.par.prog e) a
def State.dataWord (s : State) (e a : Nat) : Word := tget 0 (tget [] s.par.data e) a
def State.sharedWord (s : State) (e a : Nat) : Word := tget 0 (tget [] s.par.shared e) a

def State.setProg (s : State) (e a : Nat) (v : Word) : State :=
  { s with par := { s.par with prog := tset [] s.par.prog e (tset 0 (tget [] s.par.prog e) a v) } }
def State.setData (s : State) (e a : Nat) (v : Word) : State :=
  { s with par := { s.par with data := tset [] s.par.data e (tset 0 (tget [] s.par.data e) a v) } }
def State.setShared (s : State) (e a : Nat) (v : Word) : State :=
  { s with par := { s.par with shared := tset [] s.par.shared e (tset 0 (tget [] s.par.shared e) a v) } }

/-- The engine reads bits [23:0] of a data word (R189). -/
def State.read24 (s : State) (e a : Nat) : BitVec 24 := (s.dataWord e a).setWidth 24

/-- The engine writes a data word with its sign extension (R189). -/
def State.write24 (s : State) (e a : Nat) (v : BitVec 24) : State := s.setData e a (v.signExtend 32)

/-! ## Registers (R194) -/

def EngRun.getW (x : EngRun) (i : Nat) : BitVec 24 := tget 0 x.w (i % 8)
def EngRun.setW (x : EngRun) (i : Nat) (v : BitVec 24) : EngRun := { x with w := tset 0 x.w (i % 8) v }
def EngRun.getAcc (x : EngRun) (i : Nat) : BitVec 56 := tget 0 x.acc (i % 4)
def EngRun.getPt (x : EngRun) (i : Nat) : BitVec 14 := tget 0 x.pt (i % 8)
def EngRun.setPt (x : EngRun) (i : Nat) (v : BitVec 14) : EngRun := { x with pt := tset 0 x.pt (i % 8) v }
def EngRun.getMd (x : EngRun) (i : Nat) : BitVec 14 := tget 0 x.md (i % 8)
def EngRun.setMd (x : EngRun) (i : Nat) (v : BitVec 14) : EngRun := { x with md := tset 0 x.md (i % 8) v }
def EngRun.getCl (x : EngRun) (i : Nat) : BitVec 15 := tget 0 x.cl (i % 8)
def EngRun.setCl (x : EngRun) (i : Nat) (v : BitVec 15) : EngRun := { x with cl := tset 0 x.cl (i % 8) v }

/-! ## Fields of the formats (R206) -/

def fOp (w : Word) : Nat := bits w 31 26
/-- Format A. -/
def fAccA (w : Word) : Nat := bits w 25 24
def fAccB (w : Word) : Nat := bits w 23 22
def fWi (w : Word) : Nat := bits w 21 19
def fWj (w : Word) : Nat := bits w 18 16
def fPt (w : Word) : Nat := bits w 15 13
def fMode (w : Word) : Nat := bits w 12 10
def fImm (w : Word) : Nat := bits w 9 0
/-- Format M: the first accumulator of the pair, pointers and modes. -/
def fPair (w : Word) : Nat := 2 * bits w 25 25
def fPx (w : Word) : Nat := bits w 24 22
def fMx (w : Word) : Nat := bits w 21 19
def fPy (w : Word) : Nat := bits w 18 16
def fMy (w : Word) : Nat := bits w 15 13
/-- Format I. -/
def fIdx (w : Word) : Nat := bits w 25 23
def fImm23 (w : Word) : Int := sbits w 22 0
/-- The 24 flags of WAIT and CLRF take imm[23:0], whose bit 23 lies in the unused index field. -/
def fFlags (w : Word) : BitVec 24 := w.setWidth 24
/-- Format K. -/
def fImm16 (w : Word) : Int := sbits w 23 8
def fShift (w : Word) : Nat := bits w 5 0
/-- Format C. -/
def fCond (w : Word) : Nat := bits w 25 14
def fTarget (w : Word) : Nat := bits w 12 0

/-! ## Operand modes and circular buffers (R200, R201) -/

/-- The smallest power of two that is at least n. -/
def pow2From (n : Nat) : Nat := 2 ^ (((List.range 16).find? fun i => n ≤ 2 ^ i).getD 16)

/-- A pointer moved by a step: linear, or wrapping modulo CL in its buffer at B. -/
def EngRun.stepFrom (x : EngRun) (n : Nat) (a : BitVec 14) (d : Int) : BitVec 14 :=
  let c := (x.getCl n).toNat
  if c = 0 then a + BitVec.ofInt 14 d
  else
    let k := pow2From c
    BitVec.ofNat 14 ((x.getPt n).toNat / k * k + (((a.toNat % k : Nat) : Int) + d).emod c |>.toNat)

/-- Where an operand's access lies. DEDUCED, log entry 85. -/
def EngRun.access (x : EngRun) (n mode : Nat) : Nat :=
  (if mode = 7 then x.stepFrom n (x.getPt n) (x.getMd n).toInt else x.getPt n).toNat

/-- The word after address a, which wraps in a circular buffer. -/
def EngRun.after (x : EngRun) (n a : Nat) : Nat := (x.stepFrom n (BitVec.ofNat 14 a) 1).toNat

/-- The pointer's step of a mode. -/
def EngRun.modeStep (x : EngRun) (n mode : Nat) : Int :=
  match mode with
  | 1 => 1 | 2 => 2 | 3 => -1 | 4 => -2
  | 5 => (x.getMd n).toInt
  | 6 => -(x.getMd n).toInt
  | _ => 0

/-- The registers after an operand's mode has acted. -/
def EngRun.modify (x : EngRun) (n mode : Nat) : EngRun :=
  if mode = 0 || mode = 7 then x else x.setPt n (x.stepFrom n (x.getPt n) (x.modeStep n mode))

/-- Slots of a pair: one if its words lie in different banks. -/
def pairSlots (a b : Nat) : Nat := if a % 2 = b % 2 then 2 else 1

/-- Pointer registers that an operand's address uses (R205). -/
def ptrUse (n mode : Nat) : List (Nat × Nat) := if 5 ≤ mode then [(0, n), (2, n), (1, n)] else [(0, n), (2, n)]

end Sys2Proof.Machine
end

