-- ==== Sys2Proof/Machine/Domains.lean ====
section
/-!
DEFINITION. What lies in each switched domain, what it loses when it goes off, the reservations that a run point must
carry, and what the main die loses with its supplies (R156, R448, R449, R509-R511, R516-R518, R522, R540).
-/
namespace Sys2Proof.Machine

/-! ## Reservations of decode and encode units (R156, R516) -/

/-- Units per powered pool engine at a run point of VDD_WEST. -/
def dspUnits (p : Nat) : Nat := match p with | 0 => 8 | 1 => 6 | 2 => 4 | _ => 3

def State.westPoint (s : State) : Nat := (tget ({} : Rail) s.pwr.rails 0).freq

/-- Engines that run codecs: powered and not reserved, with parlour `without` left out. DEDUCED, log entry 83. -/
def State.poolEngines (s : State) (without : Option Nat) : Nat :=
  ((List.range 28).map fun p =>
    if s.dom p && without != some p then ((List.range 8).filter fun j => !(s.eng (8 * p + j)).reserved).length else 0).foldl (· + ·) 0

/-- DEDUCED, log entry 83. -/
def State.audioLimit (s : State) (point : Nat) (without : Option Nat) : Nat :=
  Nat.min 1536 (dspUnits point * s.poolEngines without)

def ConfCfg.decUnits (g : ConfCfg) : Nat := g.selCount + g.pinSlots
def ConfCfg.encUnits (g : ConfCfg) : Nat := g.formats + g.selCount + g.pinSlots

/-- Conferences that hold a reservation: every one that is not STOPPED. DEDUCED, log entry 29. -/
def State.heldConfs (s : State) : List Nat :=
  (s.objs.filter fun e => e.1 / 2 ^ 32 == 7 && e.2.st != .stopped).map fun e => e.1 % 2 ^ 32

def State.decReserved (s : State) : Nat := sumNat (s.heldConfs.map fun c => (s.confSet c).cfg.decUnits)
def State.encReserved (s : State) : Nat := sumNat (s.heldConfs.map fun c => (s.confSet c).cfg.encUnits)

/-- The reservations in force stand above a limit. -/
def State.audioOver (s : State) (limit : Nat) : Bool := decide (limit < s.decReserved) || decide (limit < s.encReserved)

/-- Point p of a rail would leave the reservations in force above its limits (R516). -/
def State.railOver (s : State) (rail p : Nat) : Bool :=
  match rail with
  | 0 => s.audioOver (s.audioLimit p none)
  | 1 => ((List.range 24).any fun n => decide (unitLimit p < s.pipeUnits n)) ||
         ((List.range 4).any fun n => decide (orgLimit p < s.orgRate n)) ||
         ((List.range 12).any fun n => decide (encLimit p < s.encRate n))
  | _ => false

/-- A parlour holds a reserved engine, or the reservations need its pool engines (R511). -/
def State.domainHeld (s : State) (d : Nat) : Bool :=
  decide (d < 28) && (((List.range 8).any fun j => (s.eng (8 * d + j)).reserved) || s.audioOver (s.audioLimit s.westPoint (some d)))

/-! ## Objects of a domain (R509) -/

/-- Some object of a range whose number satisfies p is not STOPPED. -/
def State.someLive (s : State) (range : Nat) (p : Nat → Bool) : Bool :=
  s.objs.any fun e => e.1 / 2 ^ 32 == range && e.2.st != .stopped && p (e.1 % 2 ^ 32)

/-- Some leg that satisfies p is not STOPPED; a hatch-leg has its bank's state. -/
def State.legLive (s : State) (p : Nat → Bool) : Bool :=
  s.someLive 4 (fun l => decide (l < 8192) && p l) || s.hat.legs.any fun e => s.legState e.1 != .stopped && p e.1

/-- Lane pairs of a port: four lanes at 100 Gbit/s (R84). -/
def State.onPair (s : State) (p j : Nat) : Bool :=
  decide (p / 2 = j) || (s.portSpeed p == 100000 && decide (p / 2 + 1 = j))

def State.ftbOnPair (s : State) (j : Nat) : Bool :=
  match s.ftb.cfg with
  | some g => s.onPair g.port j
  | none => false

def State.bankOfLeg (s : State) (l : Nat) : Option Nat := (tfind s.hat.legs l).bind fun h => h.bank

/-- An object of R65 that lies in domain d is not STOPPED. -/
def State.domainLive (s : State) (d : Nat) : Bool :=
  let ftb := s.someLive 0x0E fun n => n == 0x10000
  if d < 28 then s.someLive 9 fun e => e / 8 == d
  else if d < 52 then s.someLive 0x0A fun k => k / 16 == d - 28
  else if d < 64 then s.someLive 0x0C fun c => c / 8 == d - 52
  else if d < 68 then s.someLive 0x0B fun c => c / 24 == d - 64
  else if d < 72 then
    s.legLive (fun l => l % 4 == d - 68) || s.someLive 7 (fun c => c % 4 == d - 68) || (d == 71 && ftb)
  else if d = 72 then s.legLive (fun l => !s.hatchLeg l) || ftb
  else if d < 77 then
    s.someLive 4 (fun n => decide (0x10000 ≤ n) && decide (n < 0x10008) && s.onPair (n - 0x10000) (d - 73)) ||
    s.legLive (fun l => !s.hatchLeg l && (match s.legPort l with | some p => s.onPair p (d - 73) | none => false)) ||
    (ftb && s.ftbOnPair (d - 73))
  else
    s.someLive 8 (fun n => decide (0x10000 ≤ n) && (n - 0x10000) / 4 == d - 77) ||
    s.legLive (fun l => (s.bankOfLeg l).any fun b => b / 4 == d - 77)

/-! ## What a domain loses (R511) -/

/-- Plain registers and counters of an address range return to their reset values. -/
def clearRegs (s : State) (lo hi : Nat) : State :=
  { s with regs := tdelRange s.regs lo hi, cnt := tdelRange s.cnt lo hi, hi := tdelRange s.hi lo hi }

/-- Keep the entries of a table whose key satisfies p. -/
def tkeep (t : Tab α) (p : Nat → Bool) : Tab α := t.filter fun e => p e.1

def clearParlour (s : State) (p : Nat) (keep : Bool) : State :=
  let out := fun (e : Nat) => e / 8 != p
  let eng : Tab Engine := (s.par.engines.filter fun e => out e.1 || (keep && e.2.reserved)).map fun e =>
    if out e.1 then e else (e.1, { reserved := true })
  { clearRegs s (parA p 0) (parA p 0x1_0000) with
    par := { engines := eng, cfgs := if keep then s.par.cfgs else tkeep s.par.cfgs out, prog := tkeep s.par.prog out,
             data := tkeep s.par.data out, shared := tkeep s.par.shared out } }

def clearDecPipe (s : State) (n : Nat) (keep : Bool) : State :=
  let out := fun (k : Nat) => k / 16 != n
  { clearRegs s (gldA n 0) (gldA n 0x1_0000) with
    dec := { s.dec with cfgs := if keep then s.dec.cfgs else tkeep s.dec.cfgs out, runs := tkeep s.dec.runs out,
                        last := tdel s.dec.last n, late := tdel s.dec.late n } }

def clearEncPipe (s : State) (n : Nat) (keep : Bool) : State :=
  let out := fun (c : Nat) => c / 8 != n
  { clearRegs s (gleA n 0) (gleA n 0x1_0000) with
    enc := { sets := if keep then s.enc.sets else tkeep s.enc.sets out, runs := tkeep s.enc.runs out,
             placed := s.enc.placed.filter fun b => out b.canvas, busy := tdel s.enc.busy n, slow := tdel s.enc.slow n } }

def clearOrgPipe (s : State) (n : Nat) (keep : Bool) : State :=
  let out := fun (c : Nat) => c / 24 != n
  let s := clearRegs s (canvasA (24 * n) 0) (canvasA (24 * n + 24) 0)
  { clearRegs s (orgPipeA n 0) (orgPipeA n 0x10) with
    org := { s.org with cfgs := if keep then s.org.cfgs else tkeep s.org.cfgs out, runs := tkeep s.org.runs out, busy := tdel s.org.busy n } }

def clearQuad (s : State) (q : Nat) (keep : Bool) : State :=
  let out := fun (l : Nat) => l % 4 != q
  { s with
    net := { s.net with sets := if keep then s.net.sets else tkeep s.net.sets out, runs := tkeep s.net.runs out }
    bnd := { s.bnd with sets := if keep then s.bnd.sets else tkeep s.bnd.sets out, runs := tkeep s.bnd.runs out, legs := tkeep s.bnd.legs out }
    dmb := { s.dmb with sends := tkeep s.dmb.sends fun k => out (k / 8) } }

/-- The Icehouse: every slot is zeroised, and no alarm is raised. DEDUCED, log entry 75. A command that waits for the window
completes with POWER_STATE, a query with what an Icehouse without power answers (R62). DEDUCED, log entry 73. -/
def clearIcehouse (s : State) : State :=
  s.ice.waiting.foldl (fun s w => finish s w.1 w.2.1 (if w.1 = 0x0512 then stOk else stPowerState))
    { clearRegs s 0x0070_0000 0x0080_0000 with ice := {} }

/-- DESIGN CHOICE, log entry 139. -/
def clearPair (s : State) (j : Nat) (keep : Bool) : State :=
  (List.range 8).foldl (fun s p =>
    if s.onPair p j then
      let x := s.netPort p
      clearRegs (s.setNetPort p (if keep then { cfg := x.cfg, addrs := x.addrs } else {})) (0x0090_1000 + p * 0x1000) (0x0090_2000 + p * 0x1000)
    else s) s

/-- A hatch's settings: packing, idle level, rings and slot masks. -/
def Hatch.settings (h : Hatch) : Hatch :=
  { pack := h.pack, sdoIdle := h.sdoIdle, rx := h.rx, tx := h.tx, rxAct := h.rxAct, txAct := h.txAct }

def clearBanks (s : State) (g : Nat) (keep : Bool) : State :=
  let out := fun (b : Nat) => b / 4 != g
  let outH := fun (h : Nat) => h / 32 != g
  let legs := s.hat.legs.filter fun e => keep || (e.2.bank.all fun b => out b)
  let ports : Tab Hatch :=
    if keep then (s.hat.ports.map fun e => if outH e.1 then e else (e.1, e.2.settings)).filter fun e => e.2 ≠ {}
    else tkeep s.hat.ports outH
  let s := clearRegs s (0x00E0_1000 + g * 0x100) (0x00E0_1100 + g * 0x100)
  { clearRegs s (0x00E1_0000 + g * 0x800) (0x00E1_0800 + g * 0x800) with
    hat := { cfgs := if keep then s.hat.cfgs else tkeep s.hat.cfgs out, runs := tkeep s.hat.runs out, ports := ports, legs := legs } }

/-- Domain d goes off and loses what it holds; `keep` spares what the host configured of its objects.
DESIGN CHOICE, log entry 139. -/
def clearDomain (s : State) (d : Nat) (keep : Bool) : State :=
  if d < 28 then clearParlour s d keep
  else if d < 52 then clearDecPipe s (d - 28) keep
  else if d < 64 then clearEncPipe s (d - 52) keep
  else if d < 68 then clearOrgPipe s (d - 64) keep
  else if d < 72 then clearQuad s (d - 68) keep
  else if d = 72 then clearIcehouse s
  else if d < 77 then clearPair s (d - 73) keep
  else clearBanks s (d - 77) keep

/-- COMMON goes off in Drowse: the Bandstand, the Dumbwaiter, the Pergola and the Footbridge keep what the host
configured (R517). -/
def clearCommon (s : State) : State :=
  let s := clearRegs s 0x0080_0000 0x0090_0000
  let s := clearRegs s 0x00A8_0000 0x00C0_0000
  { clearRegs s 0x0170_0000 0x0180_0000 with
    bnd := { sets := s.bnd.sets }, ftb := { cfg := s.ftb.cfg, seq := s.ftb.seq, links := s.ftb.links }, dmb := { cfgs := s.dmb.cfgs } }

/-! ## Memory that a Sleep keeps (R448, R449) -/

/-- Mask of CEK_CHn_KEEP. -/
def State.keepMask (s : State) (n : Nat) : Word := s.reg (0x0058_0100 + 4 * n)

/-- The bank of an address is one that its channel's keeper refreshes. -/
def State.kept (s : State) (pa : Nat) : Bool :=
  let m := s.keepMask (s.paChan pa)
  bit m (s.paBank pa) && bit m (16 + s.paRank pa)

/-- Every bank of area 2, which holds the retention area, is kept: its channels and the four banks of its quarter.
DESIGN CHOICE, log entry 140. -/
def State.retained (s : State) : Bool :=
  let q := if s.channels = 8 then 0 else 1
  (List.range s.channels).all fun n => bit (s.keepMask n) 16 && (List.range 4).all fun b => bit (s.keepMask n) (4 * q + b)

/-- Every populated channel's refresh lies with its keeper. -/
def State.keepersDone (s : State) : Bool :=
  (List.range 8).all fun n => !s.present n || (tget ({} : Chan) s.cel.chans n).keeper

/-- Memory and the far pool are laid out (R415, R436). -/
def layMemory (s : State) : State :=
  { s with pan := { s.pan with ready := true, farCells := if s.gib4 then 2097152 else 1048576 } }

/-- With four channels the Study keeps banks 0 to 7 of rank 0 (R449). -/
def setKeepers (s : State) : State :=
  if s.channels = 4 then (List.range 4).foldl (fun s n => s.setReg (0x0058_0100 + 4 * n) 0x0001_00FF) s else s

/-! ## The main die without its supplies (R518, R540) -/

/-- Settings of the Pergola: shapers keep their rate and burst. -/
def Shaper.settings (x : Shaper) : Shaper := { rate := x.rate, burst := x.burst }

def LegPrg.settings (x : LegPrg) : LegPrg :=
  { leg := x.leg.settings, svc0 := x.svc0.settings, svc1 := x.svc1.settings, svc2 := x.svc2.settings, svc3 := x.svc3.settings,
    polEn := x.polEn, pol := x.pol.settings, qlimit := x.qlimit, age := x.age, pace := x.pace }

def PortPrg.settings (x : PortPrg) : PortPrg := { shaper := x.shaper.settings, overhead := x.overhead, quantum := x.quantum }

/-- A table of settings, without the entries at their defaults. -/
def tsettings [DecidableEq α] (d : α) (t : Tab α) (f : α → α) : Tab α := (t.map fun e => (e.1, f e.2)).filter fun e => e.2 ≠ d

/-- The near quarters 1 to 3 go off in Drowse: a packet or a gap marker with a cell there is lost (R413, R517). -/
def loseQuarters (s : State) : State :=
  let gone := fun (far : Bool) (h : Nat) (r : List Nat) => !far && (h :: r).any fun c => decide (24576 ≤ c)
  let lost := fun (e : QEntry) => gone e.far e.handle e.rest
  let kept := fun (x : PQueue) (n : Nat) => ((x.entries.take n).filter fun e => !lost e).length
  let out := s.pan.opens.filter fun e => gone e.2.far e.2.handle e.2.rest
  let loose := s.pan.loose.filter fun e => gone e.2.far e.1 e.2.rest
  let s := (s.pan.queues.flatMap fun e => e.2.entries.filter lost).foldl (fun s e => giveCells s e.far e.gap e.cells) s
  let s := out.foldl (fun s e => giveCells s false false e.2.cells) s
  let s := loose.foldl (fun s e => giveCells s false false e.2.cells) s
  { s with pan := { s.pan with
      queues := tsettings {} s.pan.queues fun x =>
        { x with entries := x.entries.filter fun e => !lost e, read := kept x x.read, mark := x.mark.map (kept x) }
      opens := s.pan.opens.filter fun e => !gone e.2.far e.2.handle e.2.rest
      loose := s.pan.loose.filter fun e => !gone e.2.far e.1 e.2.rest } }

/-- The saved configuration of every object, as the retention area holds it (R518 step 1, R522 step 6).
DESIGN CHOICE, log entry 140. -/
def restoreConfig (old s : State) : State :=
  { s with
    objs := tsettings {} old.objs fun o => { gen := o.gen }
    net := { s.net with ports := tsettings {} old.net.ports fun x => { cfg := x.cfg, addrs := x.addrs }, sets := old.net.sets,
                        punt := { on := old.net.punt.on, base := old.net.punt.base, size := old.net.punt.size } }
    ftb := { s.ftb with cfg := old.ftb.cfg, seq := old.ftb.seq, links := old.ftb.links }
    prg := { s.prg with legs := tsettings {} old.prg.legs LegPrg.settings, ports := tsettings {} old.prg.ports PortPrg.settings }
    hat := { s.hat with cfgs := old.hat.cfgs, ports := tsettings {} old.hat.ports Hatch.settings, legs := old.hat.legs }
    bnd := { s.bnd with sets := old.bnd.sets }
    par := { s.par with cfgs := old.par.cfgs, engines := tsettings {} old.par.engines fun x => { reserved := x.reserved } }
    dec := { s.dec with cfgs := old.dec.cfgs }
    org := { s.org with cfgs := old.org.cfgs }
    enc := { s.enc with sets := old.enc.sets }
    dmb := { s.dmb with cfgs := old.dmb.cfgs } }

/-- The main die loses its state. The pins, the flash, the Gatehouse and what the Gatehouse holds for the Fusebox
outlive it; in Sleep (`keep`) so do the boot, the keepers with the banks they refresh, and the saved configuration. -/
def mainDieDown (s : State) (keep : Bool) : State :=
  let d : State :=
    { pending := s.pending, out := s.out, free := s.free, cyc := s.cyc, gate := s.gate, porch := { perst := s.porch.perst },
      boot := { flash := s.boot.flash }, bell := { watched := s.bell.watched },
      pwr := { wakeEn := s.pwr.wakeEn, notify := s.pwr.notify, wakeN := s.pwr.wakeN, wake := s.pwr.wake },
      regs := s.regs.filter fun e => decide (0x0020_2000 ≤ e.1) && decide (e.1 < 0x0020_2100) }
  if !keep then d
  else
    let d := { d with
      boot := s.boot
      regs := s.regs.filter fun e => (decide (0x0020_2000 ≤ e.1) && decide (e.1 < 0x0020_2100)) ||
        (decide (0x0058_0000 ≤ e.1) && decide (e.1 < 0x0059_0000))
      cel :=
        { trained := s.cel.trained, trainFail := s.cel.trainFail, strapErr := s.cel.strapErr, laid := s.cel.laid,
          chans := tsettings {} s.cel.chans fun c => { keeper := c.keeper, mrs := c.mrs, postponed := c.postponed },
          mem := s.cel.mem.filter fun e => s.kept e.1, errs := s.cel.errs.filter fun e => s.kept (8 * e.1) } }
    if s.retained then restoreConfig s d else d

end Sys2Proof.Machine
end

