-- ==== Sys2Proof/Machine/Power.lean ====
section
/-!
DEFINITION. Fusebox, Gatehouse and Attic: switched domains, rails and run points, device states, wakes, the alarm
latch, thermal clamp and the supply sequence (R509-R530, R537-R546).
-/
namespace Sys2Proof.Machine

open Host

/-! ## The supply sequence of the Gatehouse (R537-R540) -/

/-- 1 ms, 2 ms, 5 ms and 10 ms in ct. -/
def msCt (n : Nat) : Nat := n * 70560

def Gate.setEn (g : Gate) (k : Nat) (b : Bool) : Gate :=
  { g with en := if b then g.en ||| BitVec.ofNat 4 (2 ^ k) else g.en &&& ~~~ BitVec.ofNat 4 (2 ^ k) }
def Gate.setPg (g : Gate) (k : Nat) (b : Bool) : Gate :=
  { g with pg := if b then g.pg ||| BitVec.ofNat 4 (2 ^ k) else g.pg &&& ~~~ BitVec.ofNat 4 (2 ^ k) }

/-- Lower the first enable of a list that is still high; the rest follow in order (R539). -/
def lowerNext (g : Gate) (cyc : Nat) : List Nat → Gate
  | [] => { g with lowering := [] }
  | k :: r => if g.en.getLsbD k then { g.setEn k false with lowering := k :: r, since := cyc } else lowerNext g cyc r

/-- VOUT_COMMAND 0.85 V to the three scaling regulators (R537). -/
def voutAll (s : State) : State := { s with out := Out.vout 2 0 :: Out.vout 1 0 :: Out.vout 0 0 :: s.out }

/-- Step 2 of R537 begins. -/
def powerUp (s : State) : State :=
  voutAll { s with gate := { (s.gate.setEn 0 true) with step := 2, since := s.cyc, railsOk := [] } }

/-- The Gatehouse goes on once it may: step 1 with PORST_N high and 2 ms of VDD_GH, or a wake from Sleep or Off
whose lowering has ended (R518, R537, R539). -/
def gateAdvance (s : State) : State :=
  let g := s.gate
  if !g.lowering.isEmpty then s
  else if g.step = 1 && g.porst && g.vdd && decide (g.vddSince + msCt 2 ≤ s.cyc) then powerUp s
  else match s.pwr.wake with
    | some w =>
      if w.step = 1 && s.pwr.entering.isNone && g.step = 7 then
        if w.left = 3 && !g.en.getLsbD 1 then
          voutAll { s with gate := { (g.setEn 1 true) with since := s.cyc } }
        else if w.left = 4 && !g.en.getLsbD 0 then powerUp s
        else s
      else s
    | none => s

/-- PORST_N rises: the straps are sampled and the power-up begins (R537, R544). -/
def execPorstNRise (pins : Straps) (s : State) : Outcome State Fault Refusal :=
  if s.gate.porst || !s.gate.vdd then .next s
  else .next (gateAdvance { s with gate := { s.gate with porst := true, straps := pins } })

/-- Step 3 also waits for READ_VOUT of each scaling rail (R537). -/
def Gate.step3Done (g : Gate) : Bool := g.pg.getLsbD 1 && g.railsOk.contains 0 && g.railsOk.contains 1 && g.railsOk.contains 2

/-- Go on from steps 2 to 5 as their power-goods stand (R537). -/
def seqAdvance (s : State) : State :=
  let g := s.gate
  if g.step = 2 && g.pg.getLsbD 0 then { s with gate := { (g.setEn 1 true) with step := 3, since := s.cyc } }
  else if g.step = 3 && g.step3Done then { s with gate := { (g.setEn 2 true) with step := 4, since := s.cyc } }
  else if g.step = 4 && g.pg.getLsbD 2 then { s with gate := { (g.setEn 3 true) with step := 5, since := s.cyc } }
  else if g.step = 5 && g.pg.getLsbD 3 then { s with gate := { g with step := 6, since := s.cyc } }
  else s

/-- A group's power-good rises; in a wake from Sleep, GH_EN3 follows GH_PG1 (R537, R539). -/
def execPowerGoodRise (k : Fin 4) (s : State) : Outcome State Fault Refusal :=
  if !s.gate.vdd then .next s
  else
    let s := { s with gate := s.gate.setPg k true }
    let s := seqAdvance s
    if s.gate.step = 7 && s.pwr.wake.isSome && s.gate.en.getLsbD 1 && s.gate.pg.getLsbD 1 && !s.gate.en.getLsbD 3 then
      .next { s with gate := { (s.gate.setEn 3 true) with since := s.cyc } }
    else .next s

/-- A power-good did not rise in time, or fell while enabled: everything is lowered (R538). -/
def execPowerGoodFault (k : Fin 4) (dropped : Bool) (s : State) : Outcome State Fault Refusal :=
  let g := s.gate
  let real := g.en.getLsbD k &&
    (if dropped then g.pg.getLsbD k else !g.pg.getLsbD k && decide (g.since + msCt 10 ≤ s.cyc))
  if !real then .next s
  else
    let s := mainDieDown s false
    let g := if dropped then g.setPg k false else g
    let g := { g with fault := true, dropped := dropped, stage := k, step := 0, alertN := true }
    .next { s with gate := lowerNext g s.cyc [3, 2, 1, 0], out := Out.alertN true :: s.out }

/-- What the Gatehouse holds for the Fusebox and the Bellboard returns to its reset values too. DEDUCED, log entry 141. -/
def gatehouseReset (s : State) : State := { s with pwr := {}, bell := {}, regs := [] }

/-- PORST_N falls: the main die is powered down; GTH_ALARM and GTH_SEQ stay (R540). DEDUCED, log entry 141. -/
def execPorstNFall (s : State) : Outcome State Fault Refusal :=
  if !s.gate.porst then .next s
  else
    let s := gatehouseReset (mainDieDown s false)
    let s := if s.gate.alertN then { s with out := Out.alertN false :: s.out } else s
    let g := { s.gate with porst := false, step := 1, doubleFault := false, alertN := false, wakeCause := 0, wakeSrc := 0,
                           timer := 0, timerSub := 0, timerOn := false }
    .next { s with gate := lowerNext g s.cyc [3, 2, 1, 0] }

/-- Loss of VDD_GH clears everything (R540). -/
def execVddGhLoss (s : State) : Outcome State Fault Refusal :=
  let s := gatehouseReset (mainDieDown s false)
  let s := if s.gate.alertN then { s with out := Out.alertN false :: s.out } else s
  .next { s with gate := { vdd := false } }

/-- VDD_GH returns: crystals start, every GH_EN is held low, 2 ms are counted (R537). -/
def execVddGhReturn (s : State) : Outcome State Fault Refusal :=
  if s.gate.vdd then .next s
  else .next { s with gate := { vdd := true, vddSince := s.cyc } }

/-- A power-good falls after its enable was lowered, and the next enable follows (R539). -/
def execPowerGoodFall (k : Fin 4) (s : State) : Outcome State Fault Refusal :=
  if s.gate.en.getLsbD k then .next s
  else
    let g := s.gate.setPg k false
    match g.lowering with
    | j :: r => if j = k.val then .next (gateAdvance { s with gate := lowerNext g s.cyc r }) else .next { s with gate := g }
    | [] => .next { s with gate := g }

/-- 5 ms after an enable fell the next one is lowered all the same (R539). -/
def execPowerDownStepTimeout (k : Fin 4) (s : State) : Outcome State Fault Refusal :=
  match s.gate.lowering with
  | j :: r =>
    if j = k.val && decide (s.gate.since + msCt 5 ≤ s.cyc) then
      .next (gateAdvance { s with gate := lowerNext s.gate s.cyc r })
    else .next s
  | [] => .next s

/-- The Bellboard is back: what the Gatehouse watched is pending before any other pulse (R501). -/
def setWatched (s : State) : State :=
  s.bell.watched.foldl (fun s n => pulse s n) { s with bell := { s.bell with watched := [] } }

/-- 1 ms after GH_PG3 the main die is released and the boot ROM begins stage 1 (R537, R558). -/
def execMainDieRelease (s : State) : Outcome State Fault Refusal :=
  if s.gate.step = 6 && decide (s.gate.since + msCt 1 ≤ s.cyc) then
    let s' := mainDieDown s false
    .next (setWatched { s' with gate := { s.gate with step := 7 }, boot := { s'.boot with stage := 1 },
                                pwr := { s'.pwr with wake := s.pwr.wake } })
  else .next s

/-! ## Power commands, one at a time (R512) -/

def stPmbusFail : Status := 0x1101

/-- Voltage of a run point in mV (R513). -/
def pointMv (p : Nat) : Nat := match p with | 0 => 850 | 1 => 760 | 2 => 680 | _ => 600

def State.rail (s : State) (r : Nat) : Rail := tget {} s.pwr.rails r
def State.setRail (s : State) (r : Nat) (x : Rail) : State := { s with pwr := { s.pwr with rails := tset {} s.pwr.rails r x } }

/-- Order the Gatehouse to set a rail's voltage (R515). -/
def setVolt (s : State) (r p : Nat) : State :=
  { s.setRail r { s.rail r with want := some (p, s.cyc) } with out := Out.vout r p :: s.out }

/-- The Gatehouse takes a rail to a run point at once (R517, R522, R525). -/
def railTo (s : State) (r p : Nat) : State :=
  { s.setRail r { s.rail r with freq := p, volt := p, mv := pointMv p } with out := Out.vout r p :: s.out }

/-- Switch a domain (R511); `true` when the command goes on past this step. -/
def domainStep (s : State) (c : Cmd) : Bool × State :=
  let d := c.num
  let on := bit (c.word 4) 0
  if on then
    if s.dom d then (false, finish s 0x0110 c stOk)
    else (true, { s with pwr := { s.pwr with rising := tput s.pwr.rising d s.cyc } })
  else if !s.dom d && (tfind s.pwr.rising d).isNone then (false, finish s 0x0110 c stOk)
  else if s.domainLive d then (false, finish s 0x0110 c stNotStopped)
  else if s.domainHeld d then (false, finish s 0x0110 c stBusy)
  else
    let t := clearDomain s d false
    let t := { t with pwr := { t.pwr with dom := t.pwr.dom &&& ~~~ BitVec.ofNat 80 (2 ^ d), rising := tdel t.pwr.rising d } }
    (false, finish (resignal s t) 0x0110 c stOk)

/-- Move a rail to a run point: frequency first when lowering, voltage first when raising (R514, R516, R525). -/
def runpointStep (s : State) (c : Cmd) : Bool × State :=
  let r := c.num
  let p := bits (c.word 4) 1 0
  if s.pwr.clamp && p < 3 then (false, finish s 0x0111 c stBusy)
  else if s.railOver r p then (false, finish s 0x0111 c stBusy)
  else
    let x := s.rail r
    let s := if x.freq < p then s.setRail r { x with freq := p } else s
    (true, setVolt s r p)

/-- One step alone, refused where it breaks the order (R514), and above P3 while the clamp holds. DESIGN CHOICE, log entry 182. -/
def railStep (s : State) (c : Cmd) : Bool × State :=
  let r := c.num
  let p := bits (c.word 4) 3 2
  let x := s.rail r
  if s.pwr.clamp && p < 3 then (false, finish s 0x0112 c stBusy)
  else if bit (c.word 4) 0 then
    if x.freq < p then (false, pulse (finish s 0x0112 c stPowerState) 41) else (true, setVolt s r p)
  else if p < x.volt then (false, pulse (finish s 0x0112 c stPowerState) 41)
  else if s.railOver r p then (false, finish s 0x0112 c stBusy)
  else (false, pulse (complete (s.setRail r { x with freq := p }) 0x0112 c stOk (low x.mv) 0 0 0) 40)

/-- Opcode range of the first object that is not STOPPED (R517). -/
def State.liveRange (s : State) : Option Nat := (List.range 16).find? fun r => s.anyLive r

/-- Every switched domain off, with what they hold (R511, R517). -/
def allDomainsOff (s : State) : State :=
  let s := (List.range 80).foldl (fun s d => clearDomain s d true) s
  { s with pwr := { s.pwr with dom := 0, rising := [] } }

/-- POWER_STATE (R517, R518, R519). DEDUCED, log entry 142. -/
def stateStep (s : State) (c : Cmd) : Bool × State :=
  let st := bits (c.word 4) 2 0
  if st = 0 then (false, finish s 0x0113 c stOk)
  else match s.liveRange with
    | some r => (false, complete s 0x0113 c stWrongState (low r) 0 0 0)
    | none =>
      if 5 ≤ st then (false, finish s 0x0113 c stBadField)
      else
        let w := c.word 5
        let s := { s with
          pwr := { s.pwr with wakeEn := w.extractLsb' 0 7 ||| 0x40, notify := bit w 7,
                              savedDom := s.pwr.dom, savedRails := s.pwr.rails }
          gate := { s.gate with timer := if bit w 4 then (c.word 6).toNat else s.gate.timer, timerSub := 0,
                                timerOn := bit w 4 } }
        let s := finish s 0x0113 c stOk
        if st = 1 then (false, resignal s { s with pwr := { s.pwr with state := 1 } })
        else if st = 2 then
          let t := railTo (loseQuarters (clearCommon (allDomainsOff s))) 2 3
          (false, resignal s { t with pwr := { t.pwr with state := 2 } })
        else (false, { s with pwr := { s.pwr with entering := some (st, 2) } })

/-- Causes of R149 that are still present: of the five, only the junction temperature is a condition the model
holds. DEDUCED, log entry 74. -/
def State.alarmPresent (s : State) : BitVec 5 :=
  if s.pwr.temps.any fun t => decide (1250 < t) || decide (t < -400) then 4 else 0

/-- Alarm bits that a write of 1 clears: causes no longer present, never bit 3 (R524). DEDUCED, log entry 74. -/
def clearAlarm (s : State) (b : BitVec 5) : State :=
  { s with gate := { s.gate with alarm := s.gate.alarm &&& ~~~ (b &&& ~~~ s.alarmPresent &&& 0x17) } }

def alarmClearStep (s : State) (c : Cmd) : Bool × State :=
  let s := clearAlarm s ((c.word 4).extractLsb' 0 5)
  (false, complete s 0x0114 c stOk (s.gate.alarm.setWidth 32) 0 0 0)

/-- Carry out a power command; `true` when it waits for a voltage or a domain. -/
def powerStart (s : State) (j : PowerJob) : Bool × State :=
  if j.op = 0x0110 then domainStep s j.c
  else if j.op = 0x0111 then runpointStep s j.c
  else if j.op = 0x0112 then railStep s j.c
  else if j.op = 0x0113 then stateStep s j.c
  else alarmClearStep s j.c

/-- Carry out waiting power commands in order until one waits (R512); a state change answers the rest BUSY. -/
def powerDrain : List PowerJob → State → State
  | [], s => { s with pwr := { s.pwr with job := none, waiting := [] } }
  | j :: r, s =>
    if s.pwr.entering.isSome || s.pwr.state ≠ 0 || s.pwr.wake.isSome then powerDrain r (finish s j.op j.c stBusy)
    else
      let p := powerStart s j
      if p.1 then { p.2 with pwr := { p.2.pwr with job := some j, waiting := r } } else powerDrain r p.2

/-- A power command arrives (R512). -/
def powerArrive (s : State) (op : BitVec 16) (c : Cmd) : State :=
  if s.pwr.entering.isSome || s.pwr.wake.isSome then finish s op c stBusy
  else if s.pwr.job.isSome then { s with pwr := { s.pwr with waiting := s.pwr.waiting ++ [{ op := op, c := c }] } }
  else powerDrain [{ op := op, c := c }] s

/-- The power command under way has completed. -/
def powerNext (s : State) : State := powerDrain s.pwr.waiting { s with pwr := { s.pwr with job := none, waiting := [] } }

def execPowerDomain (c : Cmd) (s : State) : Outcome State Fault Refusal :=
  .next (runCmd s 0x0110 c 1 1 (decide (c.num < 80)) true fun s => powerArrive s 0x0110 c)

def execPowerRunpoint (c : Cmd) (s : State) : Outcome State Fault Refusal :=
  .next (runCmd s 0x0111 c 1 1 (decide (c.num < 3)) true fun s => powerArrive s 0x0111 c)

def execPowerRailStep (c : Cmd) (s : State) : Outcome State Fault Refusal :=
  .next (runCmd s 0x0112 c 1 1 (decide (c.num < 3)) true fun s => powerArrive s 0x0112 c)

def execPowerState (c : Cmd) (s : State) : Outcome State Fault Refusal :=
  .next (runCmd s 0x0113 c 1 1 (c.num == 0) true fun s => powerArrive s 0x0113 c)

def execGthAlarmClear (c : Cmd) (s : State) : Outcome State Fault Refusal :=
  .next (runCmd s 0x0114 c 1 1 (c.num == 0) true fun s => powerArrive s 0x0114 c)

/-- A write of GTH_ALARM (R524). -/
def execAlarmLatchWrite (r : Requester) (v : Word) (s : State) : Outcome State Fault Refusal :=
  let s := hostArrives s r
  .next (if s.coreOn then clearAlarm s (v.extractLsb' 0 5) else s)

/-- A domain has come on at its reset values (R511). -/
def execDomainOnComplete (d : Fin 80) (s : State) : Outcome State Fault Refusal :=
  if (tfind s.pwr.rising d).isNone then .next s
  else
    let t := { s with pwr := { s.pwr with dom := s.pwr.dom ||| BitVec.ofNat 80 (2 ^ d.val), rising := tdel s.pwr.rising d } }
    let t := if d = 72 then { t with ice := { t.ice with entropy := true } } else t
    let s := resignal s t
    match s.pwr.job with
    | some j => if j.op = 0x0110 && j.c.num = d.val then .next (powerNext (finish s j.op j.c stOk)) else .next s
    | none => .next s

/-- The job under way is on this rail. -/
def State.railJob (s : State) (r : Nat) : Option PowerJob :=
  match s.pwr.job with
  | some j => if (j.op = 0x0111 || j.op = 0x0112) && j.c.num = r then some j else none
  | none => none

/-- READ_VOUT lies within 10 mV of the target (R515, R537). -/
def execVoltageConfirmed (r : Fin 3) (mv : Nat) (s : State) : Outcome State Fault Refusal :=
  let near := fun (t : Nat) => decide (t ≤ mv + 10) && decide (mv ≤ t + 10)
  let s := if s.gate.step = 3 && near 850 then
      seqAdvance { s with gate := { s.gate with railsOk := linsert s.gate.railsOk r } } else s
  let x := s.rail r
  match x.want with
  | none => .next s
  | some (p, _) =>
    if !near (pointMv p) then .next s
    else
      let x := { x with volt := p, mv := mv, want := none }
      match s.railJob r with
      | some j =>
        let x := if j.op = 0x0111 && !(s.pwr.clamp && p < 3) then { x with freq := p } else x
        .next (powerNext (pulse (complete (s.setRail r x) j.op j.c stOk (low mv) 0 0 0) 40))
      | none => .next (s.setRail r x)

/-- No reading confirmed within 705,600 ct (R515). -/
def execPmbusConfirmTimeout (r : Fin 3) (status : Word) (s : State) : Outcome State Fault Refusal :=
  let x := s.rail r
  match x.want with
  | none => .next s
  | some (p, t) =>
    if s.cyc < t + 705600 then .next s
    else
      let s := s.setRail r { x with want := none }
      let s := pulse (event s 0x0112 (low r) status (low (pointMv p)) 0 0) 51
      match s.railJob r with
      | some j => .next (powerNext (finish s j.op j.c stPmbusFail))
      | none => .next s

/-! ## Entering Sleep and Off (R518) -/

/-- Step 4 of R518: every domain that the state does not keep goes off, the Porch last; the enables follow R539. -/
def switchOff (s : State) (st : Nat) : State :=
  let s' := mainDieDown s (st == 3)
  let p := s.pwr
  let s' := { s' with
    pwr := { state := st, wakeEn := p.wakeEn, notify := p.notify, savedDom := p.savedDom, savedRails := p.savedRails,
             wake := p.wake.map fun w => { w with left := st } }
    gate := lowerNext s.gate s.cyc (if st = 3 then [3, 1] else [3, 2, 1, 0]) }
  gateAdvance s'

/-- The Cellar has drained: the keepers take refresh, and the switched-off state follows (R448, R518). -/
def execCellarDrained (s : State) : Outcome State Fault Refusal :=
  match s.pwr.entering with
  | some (3, 3) =>
    let s := { s with pwr := { s.pwr with entering := some (3, 4) } }
    .next (if s.keepersDone then switchOff s 3 else s)
  | _ => .next s

/-! ## Waking (R519-R523) -/

/-- The wake source can act in the device's state (R519). -/
def State.wakeAllowed (s : State) (b : Nat) : Bool :=
  let st := match s.pwr.entering with
    | some (e, _) => e
    | none => s.pwr.state
  st ≠ 0 && s.wakeEnabled b && (if b ≤ 1 then st ≤ 2 else if b = 2 then 3 ≤ st else true)

/-- An enabled wake source acts (R519). -/
def execWakeSource (b : Fin 7) (src : Fin 1024) (s : State) : Outcome State Fault Refusal :=
  let watched := b.val != 2 || (s.watches src && 48 ≤ src.val && src.val ≤ 53)
  if s.wakeAllowed b && watched then
    let s := if b.val = 2 then { s with bell := { s.bell with watched := linsert s.bell.watched src } } else s
    .next (gateAdvance (beginWake s b src))
  else .next s

/-- WOKE, WAKE_N under NOTIFY, and Run again (R521, R528). -/
def woke (s : State) (w : Wake) : State :=
  let s := resignal s { s with pwr := { s.pwr with wake := none, state := 0 } }
  let s := event s 0x0110 0 (low w.cause) (if w.cause = 2 then low w.src else 0) (low w.left) 0
  if s.pwr.notify && w.cause ≠ 3 && 3 ≤ w.left then
    { s with pwr := { s.pwr with wakeN := true }, out := Out.wakeN true :: s.out }
  else s

/-- The next step of R522: Idle and Drowse skip steps 2 and 3. -/
def nextWakeStep (w : Wake) : Nat := if w.step = 1 && w.left ≤ 2 then 4 else w.step + 1

/-- A step of the wake sequence ends (R522). A wake from Off goes through power-up and boot instead. -/
def execWakeStepComplete (s : State) : Outcome State Fault Refusal :=
  match s.pwr.wake with
  | none => .next s
  | some w =>
    if s.pwr.entering.isSome || w.left = 4 then .next s
    else if w.step = 1 && w.left = 3 && !(s.gate.en == 15 && s.gate.pg == 15) then .next s
    else if w.step = 4 && w.left = 3 && !(s.cel.initDone && s.cel.chans.all fun e => !e.2.keeper) then .next s
    else
      let s1 := { s with pwr := { s.pwr with wake := some { w with step := nextWakeStep w } } }
      if w.step = 1 then
        .next (setWatched (if w.left = 1 || s.pwr.clamp then s1 else railTo s1 2 0))
      else if w.step = 5 then
        .next (if w.left = 3 then { s1 with porch := { perst := s1.porch.perst } } else s1)
      else if w.step = 6 then
        let dom := if w.left = 1 then s1.pwr.dom else s1.pwr.savedDom
        let rails := if w.left = 1 || s1.pwr.clamp then s1.pwr.rails else s1.pwr.savedRails
        let s1 := if w.left = 3 then layMemory s1 else s1
        let moved := (List.range 3).filter fun r => tget ({} : Rail) rails r != s1.rail r
        .next { s1 with out := (moved.map fun r => Out.vout r (tget ({} : Rail) rails r).volt).reverse ++ s1.out,
                        pwr := { s1.pwr with dom := dom, rails := rails },
                        ice := { s1.ice with entropy := s1.ice.entropy || (w.left != 1 && dom.getLsbD 72) } }
      else if w.step = 7 then .next (woke s w)
      else .next s1

/-- The Gatehouse timer runs out (R519). -/
def execGatehouseTimerExpiry (s : State) : Outcome State Fault Refusal :=
  if s.gate.timerOn && s.gate.timer = 0 then
    let s := { s with gate := { s.gate with timerOn := false } }
    let s := if s.wakeAllowed 4 then gateAdvance (beginWake s 4 49) else s
    .next (pulse s 49)
  else .next s

/-- I²C/SMBus target address (R520). -/
def State.i2cAddr (s : State) : Nat := 0x48 + (s.gate.straps.toNat / 2 ^ 14) % 8

/-- An address match serves the transfer, and wakes the main die only when bit 5 is enabled (R520). -/
def execI2cAddressMatch (addr : BitVec 7) (s : State) : Outcome State Fault Refusal :=
  if addr.toNat = s.i2cAddr then
    let s := if s.wakeAllowed 5 then gateAdvance (beginWake s 5 50) else s
    .next (pulse s 50)
  else .next s

/-! ## The Attic (R525) -/

/-- The thermal clamp: all three rails at P3 (R525). -/
def clampRails (s : State) : State :=
  let s := railTo (railTo (railTo s 0 3) 1 3) 2 3
  { s with pwr := { s.pwr with clamp := true } }

def State.atcWarn (s : State) : Int := sbits (s.reg 0x0160_0040) 15 0
def State.atcCrit (s : State) : Int := sbits (s.reg 0x0160_0044) 15 0

/-- One sensor's reading (R525). -/
def sensorRead (s : State) (k : Nat) (t : Int) : State :=
  if s.atcCrit ≤ t then
    let s := if s.pwr.clamp then s else clampRails s
    pulse (pulse (event s 0x0111 (low k) (wordOfInt t) 2 0 0) 1008) 52
  else if s.atcWarn ≤ t then pulse (event s 0x0111 (low k) (wordOfInt t) 1 0 0) 1008
  else s

/-- The Attic reads its nine sensors (R525). DESIGN CHOICE, log entry 144. -/
def execTemperatureSample (t : List Int) (s : State) : Outcome State Fault Refusal :=
  if t.length ≠ 9 || !s.coreOn then .next s
  else
    let cool := t.all fun x => decide (x < s.atcWarn)
    let since := if cool then some (s.pwr.coolSince.getD s.cyc) else none
    let s := { s with pwr := { s.pwr with temps := t, coolSince := since } }
    .next ((t.zipIdx).foldl (fun s p => sensorRead s p.2 p.1) s)

/-- Every sensor has stayed below ATC_WARN for 70,560,000 ct (R525): the event's sensor and temperature are open.
DEDUCED, log entry 143. -/
def execClampLift (s : State) : Outcome State Fault Refusal :=
  match s.pwr.coolSince with
  | some t =>
    if s.pwr.clamp && decide (t + ctPerSec ≤ s.cyc) then
      let (a, s) := s.fresh
      let (b, s) := s.fresh
      .next (event { s with pwr := { s.pwr with clamp := false } } 0x0111 (low (Config.freeNat a % 9)) (Config.freeWord b) 0 0 0)
    else .next s
  | none => .next s

/-- A rail's voltage and current over PMBus (R525). DESIGN CHOICE, log entry 144. -/
def execRailTelemetryRead (r : Fin 3) (mv ma : Nat) (s : State) : Outcome State Fault Refusal :=
  if s.coreOn then
    .next { s with pwr := { s.pwr with railMv := tset 0 s.pwr.railMv r (mv % 2 ^ 16), railMa := tset 0 s.pwr.railMa r (ma % 2 ^ 24) } }
  else .next s

end Sys2Proof.Machine
end

