-- ==== Sys2Proof/Machine/Cellar.lean ====
section
/-!
DEFINITION. The Cellar: addresses and layout, ECC and scrub, the order of requests, refresh, calibration, the
keeper, training and MEM_LAYOUT (R431-R460).
-/
namespace Sys2Proof.Machine

open Host

/-! ## Registers and counters of a channel -/

def celA (n off : Nat) : Nat := 0x0051_0000 + n * 0x1000 + off

def State.chan (s : State) (n : Nat) : Chan := tget {} s.cel.chans n
def State.setChan (s : State) (n : Nat) (c : Chan) : State := { s with cel := { s.cel with chans := tset {} s.cel.chans n c } }

/-- PA of line: bytes 0 to 63. -/
def lineOf (pa : Nat) : Nat := pa / 64 * 64

/-- PA of a row of a bank of a rank of a channel (R435). -/
def paOf (s : State) (n rank bank row : Nat) : Nat :=
  if s.channels = 8 then
    n * 2 ^ 6 + bank % 4 * 2 ^ 9 + row % 2 ^ 18 * 2 ^ 11 + bank / 4 * 2 ^ 29 + rank * 2 ^ 31
  else
    n * 2 ^ 6 + bank % 4 * 2 ^ 8 + row % 2 ^ 18 * 2 ^ 10 + bank / 4 * 2 ^ 28 + rank * 2 ^ 30

/-- Bank key of a PA: rank * 16 + bank. -/
def State.paBankKey (s : State) (pa : Nat) : Nat := s.paRank pa * 16 + s.paBank pa

/-! ## ECC (R437-R440) -/

/-- Worst beat of a line: 0 clean, 1 correctable, 2 uncorrectable. -/
def lineErr (s : State) (pa : Nat) : Nat :=
  (List.range 8).foldl (fun m j => Nat.max m (tget 0 s.cel.errs (pa / 64 * 8 + j))) 0

/-- Requester number of MEM_UNCORRECTABLE for the Cellar's own scrubber and for other units comes with the request. -/
def scrubUnit : Byte := 0x50

/-- A corrected error is counted and recorded (R438). -/
def countCe (s : State) (n pa : Nat) : State :=
  let s := s.bump (celA n 0x04) 1
  let s := s.setReg (celA n 0x0C) (low (lineOf pa))
  let c := s.chan n
  let times := (c.ceTimes.filter fun t => s.cyc < t + ctPerSec) ++ [s.cyc]
  let s := s.setChan n { c with ceTimes := times }
  if bits (s.reg 0x0050_001C) 15 0 < times.length then
    match s.limit (objKey 0x0311 n) ctPerSec 1 0 with
    | (some _, s) =>
      let s := event s 0x0311 (low n) (low times.length) (low (lineOf pa)) 0 0
      pulse (reportOpen s (80 + n) .corrected) (80 + n)
    | (none, s) => s
  else s

/-- An uncorrectable error is counted, recorded and raised (R439). -/
def countUe (s : State) (n pa : Nat) (unit : Byte) : State :=
  let s := s.bump (celA n 0x08) 1
  let s := s.setReg (celA n 0x0C) (low (lineOf pa + 1))
  let a := s.areaOf pa
  let s := event s 0x0310 (low n) (low (lineOf pa)) (low a) (unit.setWidth 32) 0
  pulse (reportOpen s (80 + n) (if a = 0 || a = 2 then .fatal else .deferred)) (80 + n)

/-- What the unit that read a poisoned line of an area does (R439). -/
def poisonRead (s : State) (a : Nat) (u : MemUse) : State :=
  match a, u with
  | 3, .decode k bs => damage s k bs
  | 3, .canvas c i bs => poisonFetch s c i bs
  | 6, .canvas c i bs => poisonFetch s c i bs
  | 4, .encRef c i => pendKeys s c (2 ^ i.val) 3
  | 5, .packet h =>
    let s := s.bump 0x0050_0030 1
    if (tfind s.pan.loose h).isSome then releaseHandle s h else s
  | _, _ => s

/-- What a read of a line finds; a correctable line goes to the scrubber next (R438, R439). -/
def readLine (s : State) (n pa : Nat) (unit : Byte) (u : MemUse) : State :=
  let s := s.bump64 (celA n 0x30) 1
  match lineErr s pa with
  | 0 => s
  | 1 =>
    let s := countCe s n pa
    s.setChan n { s.chan n with scrubNext := (s.chan n).scrubNext ++ [lineOf pa] }
  | _ => poisonRead (countUe s n pa unit) (s.areaOf pa) u

/-- Write bytes of a line: whole 8-byte words, valid check bits (R437). -/
def writeBytes (s : State) (line : Nat) (data : List (Fin 64 × Byte)) : State :=
  let mem := data.foldl (fun m d => tset 0 m (line + d.1.val) d.2) s.cel.mem
  let errs := data.foldl (fun m d => tdel m ((line + d.1.val) / 8)) s.cel.errs
  { s with cel := { s.cel with mem := mem, errs := errs } }

/-- CEL_INJECT corrupts the first beat of the next write on its channel (R460). -/
def inject (s : State) (n beat : Nat) : State :=
  let v := s.reg 0x0050_0020
  if bit v 31 && bits v 10 8 == n then
    let s := s.setReg 0x0050_0020 (v &&& 0x7FFF_FFFF)
    { s with cel := { s.cel with errs := tset 0 s.cel.errs beat (if bit v 30 then 2 else 1) } }
  else s

/-- A write issues: bytes, the counter, an armed injection. -/
def writeLine (s : State) (n : Nat) (r : MemReq) : State :=
  let line := lineOf r.pa.toNat
  let s := s.bump64 (celA n 0x38) 1
  let s := writeBytes s line r.data
  let first := match r.data with
    | d :: _ => (line + d.1.val) / 8
    | [] => line / 8
  inject s n first

/-! ## Order of requests (R442-R445) -/

/-- CK_MEM cycles in an interval of ct, at 533 MHz (R25). -/
def memCycles (ct : Nat) : Nat := ct * 53300 / 7056

def State.memAge (s : State) (q : MemQ) : Nat := memCycles (s.cyc - q.born)

/-- Class in force: a promoted request is of class 1 (R444). -/
def MemQ.cls (q : MemQ) : Nat := if q.prom then 1 else q.req.cls.val

/-- Age limit of a class, 0 where it has none (R444). -/
def State.ageLimit (s : State) (cls : Nat) : Nat :=
  if cls = 2 then bits (s.reg 0x0050_0004) 15 0 else if cls = 3 then bits (s.reg 0x0050_0008) 15 0 else 0

/-- Every request of a channel. -/
def Chan.all (c : Chan) : List MemQ := c.reads ++ c.writes

def MemQ.line (q : MemQ) : Nat := lineOf q.req.pa.toNat

/-- A request may issue: nothing earlier to its line, and in an in-order bank it is the bank's oldest (R445). -/
def State.eligible (s : State) (c : Chan) (q : MemQ) : Bool :=
  let k := s.paBankKey q.req.pa.toNat
  !(c.all.any fun p => p.line == q.line && decide (p.seq < q.seq)) &&
  ((tfind c.inorder k).isNone || !(c.all.any fun p => s.paBankKey p.req.pa.toNat == k && decide (p.seq < q.seq)))

/-- Lowest class, then oldest (R443). DEDUCED, log entry 131. -/
def bestReq : List MemQ → Option MemQ
  | [] => none
  | q :: r => match bestReq r with
    | none => some q
    | some p => if q.cls < p.cls || (q.cls == p.cls && q.seq < p.seq) then some q else some p

/-- A request arrives: a full queue does not take it; a write drops a scrub correction of its line; a read behind a write of
its row puts the bank in order and starts the write batch (R440, R443, R445). -/
def acceptReq (s : State) (n : Nat) (r : MemReq) : State :=
  let c := s.chan n
  let q : MemQ := { req := r, seq := c.nextSeq, born := s.cyc, prom := false }
  let c := match c.window with
    | some (_, false) => { c with window := none }
    | _ => c
  if r.write then
    if 32 ≤ c.writes.length then s
    else s.setChan n { c with writes := c.writes ++ [q], nextSeq := c.nextSeq + 1,
                              scrubBack := if c.scrubBack = some q.line then none else c.scrubBack }
  else if 64 ≤ c.reads.length then s
  else
    let c' := { c with reads := c.reads ++ [q], nextSeq := c.nextSeq + 1 }
    match c.writes.reverse.find? (fun w => w.line == q.line) with
    | none => s.setChan n c'
    | some w =>
      let k := s.paBankKey r.pa.toNat
      let fresh := (tfind c.inorder k).isNone
      let s := s.setChan n { c' with inorder := tput c.inorder k w.seq, batch := c'.nextSeq }
      if fresh then s.bump (celA n 0x10) 1 else s

/-- Write w belongs to the batch under way (R443). -/
def Chan.batched (c : Chan) (w : MemQ) : Bool := decide (w.seq < c.batch)

/-- A write batch starts now (R443): 16 writes wait, one is older than its class's limit, or no read is eligible. -/
def State.batchDue (s : State) (c : Chan) : Bool :=
  decide (16 ≤ c.writes.length) ||
  (c.writes.any fun w => s.ageLimit w.req.cls.val != 0 && decide (s.ageLimit w.req.cls.val < s.memAge w)) ||
  !(c.reads.any fun q => s.eligible c q)

/-- The request that issues now: of the batch under way, else of one that starts, else a read. DEDUCED, log entry 131. -/
def State.pickReq (s : State) (c : Chan) : Option MemQ :=
  let ws := c.writes.filter fun w => s.eligible c w
  let rs := c.reads.filter fun r => s.eligible c r
  let due := if c.writes.any c.batched then ws.filter c.batched else if s.batchDue c then ws else []
  (bestReq due).or (bestReq rs)

/-- Postponed refreshes of a bank. -/
def Chan.owed (c : Chan) (k : Nat) : Nat := tget 0 c.postponed k

/-- A request leaves its queue; the in-order mode of its bank ends with the write it waited for. -/
def Chan.drop (c : Chan) (k : Nat) (q : MemQ) : Chan :=
  let io := match tfind c.inorder k with
    | some w => if w = q.seq then tdel c.inorder k else c.inorder
    | none => c.inorder
  { c with reads := c.reads.filter (fun p => p.seq != q.seq), writes := c.writes.filter (fun p => p.seq != q.seq),
           inorder := io }

/-- Lines of the scrubber's walk: rows in order, every bank and rank in each (R440). -/
def State.scrubLine (s : State) (n pos : Nat) : Nat :=
  let per := 16 * s.ranks
  paOf s n (pos / 16 % s.ranks) (pos % 16) (pos / per)

/-- One scrub read, or the write-back that an earlier one left, promoted as its read was (R440, R452). -/
def scrubStep (s : State) (n : Nat) : State :=
  let c := s.chan n
  match c.scrubBack with
  | some line =>
    let s := s.setChan n { c with scrubBack := none, scrubProm := false }
    let s := countCe (s.bump64 (celA n 0x38) 1) n line
    let errs := (List.range 8).foldl (fun m j => if tget 0 m (line / 8 + j) = 1 then tdel m (line / 8 + j) else m) s.cel.errs
    { s with cel := { s.cel with errs := errs } }
  | none =>
    let (line, c) := match c.scrubNext with
      | l :: r => (l, { c with scrubNext := r })
      | [] =>
        let total := 2 ^ 18 * 16 * s.ranks
        let p := c.scrubPos + 1
        (s.scrubLine n c.scrubPos, if p < total then { c with scrubPos := p } else { c with scrubPos := 0, passes := c.passes + 1 })
    let s := (s.setChan n { c with scrubProm := false, scrubLast := s.cyc }).bump64 (celA n 0x30) 1
    match lineErr s line with
    | 0 => s
    | 1 => s.setChan n { s.chan n with scrubBack := some line, scrubProm := c.scrubProm }
    | _ => countUe s n line scrubUnit

/-- Issue a picked request, a repaid refresh before a request of class 2 or 3 (R447). -/
def issueReq (s : State) (n : Nat) (c : Chan) (q : MemQ) : State :=
  let k := s.paBankKey q.req.pa.toNat
  if 2 ≤ q.cls && 0 < c.owed k then s.setChan n { c with postponed := tset 0 c.postponed k (c.owed k - 1) }
  else
    let c := if q.req.write && !c.writes.any c.batched then { c with batch := c.nextSeq } else c
    let s := s.setChan n (c.drop k q)
    if q.req.write then writeLine s n q.req else readLine s n q.req.pa.toNat q.req.unit q.req.use

/-- Requests arrive at a channel, and the channel issues one, or scrubs (R443). DEDUCED, log entry 132. -/
def execMemoryRequestIssue (ch : Fin 8) (arrivals : List MemReq) (s : State) : Outcome State Fault Refusal :=
  if !s.present ch || !s.cel.initDone || (s.chan ch).keeper then .next s
  else
    let mine := arrivals.filter fun r => s.paChan r.pa.toNat == ch.val
    let s := mine.foldl (fun s r => acceptReq s ch r) s
    let c := s.chan ch
    if c.window.isSome then .next s
    else if c.scrubProm then .next (scrubStep s ch)
    else match s.pickReq c with
      | some q => .next (issueReq s ch c q)
      | none => .next (scrubStep s ch)

/-- Requests of class 2 or 3 that have reached their age limit go to class 1 (R444). -/
def execAgePromotion (ch : Fin 8) (s : State) : Outcome State Fault Refusal :=
  let c := s.chan ch
  let due := fun (q : MemQ) => !q.prom && decide (2 ≤ q.req.cls.val) && s.ageLimit q.req.cls.val != 0 &&
    decide (s.ageLimit q.req.cls.val ≤ s.memAge q)
  let n := (c.all.filter due).length
  let up := fun (q : MemQ) => if due q then { q with prom := true } else q
  if n = 0 || !s.present ch then .next s
  else .next ((s.setChan ch { c with reads := c.reads.map up, writes := c.writes.map up }).bump (celA ch 0x28) n)

/-! ## Refresh and calibration (R446-R451) -/

/-- The bank has an eligible class-1 request. -/
def State.class1At (s : State) (c : Chan) (k : Nat) : Bool :=
  c.all.any fun q => q.cls == 1 && s.paBankKey q.req.pa.toNat == k && s.eligible c q

/-- The keeper of channel n keeps bank b of rank r (R448, R449). -/
def State.keeps (s : State) (n r b : Nat) : Bool :=
  let v := s.keepMask n
  bit v b && bit v (16 + r)

/-- A bank's refresh falls due; a keeper refreshes the banks it keeps (R446-R448). -/
def execRefreshTick (ch : Fin 8) (rank : Fin 2) (bank : Fin 16) (s : State) : Outcome State Fault Refusal :=
  let c := s.chan ch
  let k := rank.val * 16 + bank.val
  if !s.present ch || s.ranks ≤ rank.val then .next s
  else if c.keeper then
    .next (if s.keeps ch rank bank then s.setChan ch { c with postponed := tset 0 c.postponed k 0 } else s)
  else if c.window.isSome || s.class1At c k then
    if 8 ≤ c.owed k then .next (s.bump (celA ch 0x14) 1)
    else .next (s.setChan ch { c with postponed := tset 0 c.postponed k (c.owed k + 1) })
  else .next (s.setChan ch { c with postponed := tset 0 c.postponed k 0 })

/-- No request of a channel is eligible. -/
def State.chanIdle (s : State) (c : Chan) : Bool := !c.all.any fun q => s.eligible c q

/-- A channel's calibration falls due; it runs in a gap, or is deferred (R451). -/
def execCalibrationDue (ch : Fin 8) (s : State) : Outcome State Fault Refusal :=
  let c := s.chan ch
  if !s.present ch || c.keeper || s.cyc < c.calLast + (s.reg 0x0050_0010).toNat then .next s
  else
    let due := c.calDue.getD s.cyc
    if s.chanIdle c && c.window.isNone then .next (s.setChan ch { c with calDue := some due, window := some (s.cyc, false) })
    else .next (s.setChan ch { c with calDue := some due })

/-- A channel's deferral has passed. -/
def State.calOver (s : State) (n : Nat) : Bool :=
  match (s.chan n).calDue with
  | some t => s.present n && (s.chan n).window.isNone && decide (t + (s.reg 0x0050_0014).toNat ≤ s.cyc)
  | none => false

/-- A channel is in a forced window. -/
def State.forcedNow (s : State) (n : Nat) : Bool :=
  match (s.chan n).window with
  | some (_, f) => f
  | none => false

/-- The calibration window is forced: one channel at a time, in channel order (R451). -/
def execCalibrationForced (ch : Fin 8) (s : State) : Outcome State Fault Refusal :=
  if s.calOver ch && !((List.range 8).any fun n => s.forcedNow n) && !((List.range ch.val).any fun n => s.calOver n) then
    let c := s.chan ch
    let p := c.postponed.map fun e => (e.1, Nat.min e.2 4)
    .next ((s.setChan ch { c with postponed := p, window := some (s.cyc, true) }).bump (celA ch 0x18) 1)
  else .next s

/-- A window ends after 141 ct: postponed refreshes go first, and requests resume (R451). -/
def execCalibrationWindowEnd (ch : Fin 8) (s : State) : Outcome State Fault Refusal :=
  let c := s.chan ch
  match c.window with
  | none => .next s
  | some (t, forced) =>
    if s.cyc < t + 141 then .next s
    else
      let wait := c.all.foldl (fun m q => Nat.max m (Nat.min (s.cyc - q.born) (s.cyc - t))) 0
      let old := bits (s.reg (celA ch 0x1C)) 15 0
      let s := if forced then s.setReg (celA ch 0x1C) (low (Nat.min (Nat.max old wait) 65535)) else s
      .next (s.setChan ch { c with window := none, calDue := none, calLast := c.calDue.getD s.cyc, postponed := [] })

/-- 7,056 ct have passed since the last scrub line: the scrub read goes as class 1 (R452). -/
def execScrubFloorExpiry (ch : Fin 8) (s : State) : Outcome State Fault Refusal :=
  let c := s.chan ch
  if s.present ch && s.cel.initDone && !c.keeper && !c.scrubProm &&
      decide (c.scrubLast + (s.reg 0x0050_0018).toNat ≤ s.cyc) then
    .next ((s.setChan ch { c with scrubProm := true }).bump (celA ch 0x28) 1)
  else .next s

/-! ## Initialisation and the keeper (R441, R448) -/

/-- Memory is being initialised: boot stage 3, or step 4 of a wake from Sleep. -/
def State.initRuns (s : State) : Bool :=
  !s.cel.initDone && !s.cel.strapErr && (s.boot.stage == 3 ||
    (match s.pwr.wake with | some w => w.step == 4 && w.left == 3 | none => false))

/-- Initialisation ends: CEL_STAT.INIT_DONE rises, source 88 pulses. -/
def execMemoryInitDone (s : State) : Outcome State Fault Refusal :=
  if s.initRuns then .next (pulse { s with cel := { s.cel with initDone := true } } 88) else .next s

/-- A channel's keeper takes refresh on the way into Sleep, or gives it back on wake, where one calibration window
runs before the first request (R448, R456). -/
def execKeeperHandover (ch : Fin 8) (s : State) : Outcome State Fault Refusal :=
  let c := s.chan ch
  if !s.present ch then .next s
  else match s.pwr.entering with
    | some (3, 4) =>
      let s := pulse (s.setChan ch { c with keeper := true }) 89
      .next (if s.keepersDone then switchOff s 3 else s)
    | _ =>
      match s.pwr.wake with
      | some w =>
        if c.keeper && w.left = 3 && 4 ≤ w.step then
          .next (pulse (s.setChan ch { c with keeper := false, window := some (s.cyc, true) }) 89)
        else .next s
      | none => .next s

/-! ## Training (R454, R460) -/

/-- The training registers take writes (R460). -/
def State.trainable (s : State) (n : Nat) : Bool :=
  s.coreOn && s.present n && (!s.cel.trained || ((s.chan n).all.isEmpty && (s.chan n).window.isNone))

/-- Bytes of one line of a pattern: fixed 0x55 and 0xAA per beat; PRBS-7's sequence is not given. DEDUCED, log entry 130. -/
def patternLine (prbs : Bool) (k : Nat) : List (Fin 64 × Byte) :=
  (List.finRange 64).map fun i =>
    (i, if prbs then (Config.freeWord (k + i.val)).setWidth 8 else if i.val / 8 % 2 = 0 then 0x55 else 0xAA)

/-- Lines that a training operation covers. -/
def patternLines (s : State) (n : Nat) (v : Word) : List Nat :=
  (List.range (bits v 15 0)).map fun i =>
    paOf s n (bits v 28 28) (bits v 27 24) (bits (s.reg (celA n 0x108)) 17 0 + i)

/-- Start a training operation: GO reads 1 until it ends; 0 lines do nothing. DEDUCED, log entry 130. -/
def startTraining (s : State) (n : Nat) (v : Word) : State :=
  let s := s.setReg (celA n 0x104) (v &&& 0x7F00_FFFF)
  if bit v 31 && bits v 15 0 ≠ 0 then s.setChan n { s.chan n with training := true } else s

/-- OP 0 writes pattern lines of a bank. -/
def writePattern (s : State) (n : Nat) (v : Word) : State :=
  if !s.trainable n || bits v 30 29 ≠ 0 then s
  else
    let s := startTraining s n v
    if !bit v 31 then s
    else
      let prbs := bit (s.reg (celA n 0x10C)) 31
      let k := s.free
      let s := { s with free := s.free + 64 }
      (patternLines s n v).foldl (fun s l => writeBytes s l (patternLine prbs k)) s

def execTrainingWritePattern (r : Requester) (ch : Fin 8) (v : Word) (s : State) : Outcome State Fault Refusal :=
  .next (writePattern (hostArrives s r) ch v)

/-- Sticky fail bits of the 72 lanes. -/
def setFails (s : State) (n : Nat) (f : BitVec 72) : State :=
  let s := s.setReg (celA n 0x110) (s.reg (celA n 0x110) ||| f.extractLsb' 0 32)
  let s := s.setReg (celA n 0x114) (s.reg (celA n 0x114) ||| f.extractLsb' 32 32)
  s.setReg (celA n 0x118) (s.reg (celA n 0x118) ||| (f.extractLsb' 64 8).setWidth 32)

/-- A compare operation, OP 1 or 2: which lanes fail is the memory's answer. -/
def compareOp (s : State) (n op : Nat) (v : Word) (f : BitVec 72) : State :=
  if !s.trainable n || bits v 30 29 ≠ op then s
  else
    let s := startTraining s n v
    if bit v 31 && bits v 15 0 ≠ 0 then setFails s n f else s

def execTrainingReadCompare (r : Requester) (ch : Fin 8) (v : Word) (f : BitVec 72) (s : State) : Outcome State Fault Refusal :=
  .next (compareOp (hostArrives s r) ch 1 v f)

def execTrainingRegisterCompare (r : Requester) (ch : Fin 8) (v : Word) (f : BitVec 72) (s : State) : Outcome State Fault Refusal :=
  .next (compareOp (hostArrives s r) ch 2 v f)

/-- The operation ends and GO reads 0. -/
def execTrainingOpComplete (ch : Fin 8) (s : State) : Outcome State Fault Refusal :=
  .next (s.setChan ch { s.chan ch with training := false })

/-- A mode register set to a rank (R459). -/
def execMrsWrite (r : Requester) (ch : Fin 8) (v : Word) (s : State) : Outcome State Fault Refusal :=
  let s := hostArrives s r
  if s.trainable ch then
    let c := s.chan ch
    .next (s.setChan ch { c with mrs := tset 0 c.mrs (bits v 31 31 * 4 + bits v 23 22) (low (bits v 19 0)) })
  else .next s

/-- Arm CEL_INJECT (R460). -/
def execErrorInjectArm (r : Requester) (v : Word) (s : State) : Outcome State Fault Refusal :=
  let s := hostArrives s r
  .next (if s.coreOn then s.setReg 0x0050_0020 (v &&& 0xC000_077F) else s)

/-! ## MEM_LAYOUT (R436, R457) -/

/-- Pages or cells of an area, 0 where it has none. -/
def State.areaUnits (s : State) (a : Nat) : Nat :=
  match a, s.gib4 with
  | 3, true => 53248
  | 3, false => 20480
  | 4, true => 24960
  | 4, false => 9600
  | 5, true => 2097152
  | 5, false => 1048576
  | 6, _ => 4096
  | _, _ => 0

def execMemLayout (c : Cmd) (s : State) : Outcome State Fault Refusal :=
  .next (runCmd s 0x0310 c 1 1 (decide (c.num < 8)) true fun s =>
    checked s 0x0310 c [(!s.cel.laid, stWrongState)] fun s =>
      complete s 0x0310 c stOk (low (s.areaBase c.num)) 0 (low (s.areaSize c.num / 1024)) (low (s.areaUnits c.num)))

end Sys2Proof.Machine
end

