-- ==== Sys2Proof/Machine/Boot.lean ====
section
/-!
DEFINITION. Boot ROM, firmware image, SPI flash and SMBus recovery (R558-R564).
-/
namespace Sys2Proof.Machine

open Host

/-- BOOT_SRC strap (R543). -/
def State.bootSrc (s : State) : Nat := s.gate.straps.toNat % 4

/-- A boot fails where it stands (R560). -/
def bootFail (s : State) (err : Nat) : State := { s with boot := { s.boot with error := err, failed := true } }

/-- Stage 4 or 5 fails: a host load waits for a new GO with FAILED clear; a first SPI copy gives way to the second
(R559, R560). DEDUCED, log entry 146. -/
def imageFail (s : State) (err : Nat) : State :=
  if s.bootSrc = 1 then { s with boot := { s.boot with stage := 4, error := err, failed := false, loading := false } }
  else if s.bootSrc = 0 && !s.boot.copy then { s with boot := { s.boot with stage := 4, copy := true } }
  else bootFail s err

/-- Bytes that an erased flash reads: the family's 0xFF. PRESUMED, log entry 145. -/
def flashErased : Byte := 0xFF

/-! ## The image (R559, R562) -/

/-- Four and two bytes of an image, little-endian. -/
def imageWord (im : List Byte) (o : Nat) : Nat := (bytesWord ((im.drop o).take 4)).toNat
def imageHalf (im : List Byte) (o : Nat) : Nat := (bytesWord ((im.drop o).take 2)).toNat

/-- OFFSET, LENGTH and CRC of each section. -/
def imageSections (im : List Byte) : List (Nat × Nat × Nat) :=
  (List.range (imageHalf im 6)).map fun i =>
    (imageWord im (36 + 16 * i), imageWord im (40 + 16 * i), imageWord im (44 + 16 * i))

/-- CRC-32 of IEEE 802.3, one byte. PRESUMED, log entry 180. -/
def crcByte (c : Word) (b : Byte) : Word :=
  (List.range 8).foldl (fun c _ => if c.getLsbD 0 then (c >>> 1) ^^^ 0xEDB8_8320 else c >>> 1) (c ^^^ b.setWidth 32)

def crc32 (bs : List Byte) : Nat := (bs.foldl crcByte 0xFFFF_FFFF ^^^ 0xFFFF_FFFF).toNat

/-- Error 2: magic, format, number of sections, reserved bytes, kinds. -/
def headerBad (im : List Byte) : Bool :=
  let n := imageHalf im 6
  imageWord im 0 != 0x4D49_4648 || imageHalf im 4 != 1 || n == 0 || decide (64 < n) || ((im.drop 18).take 14).any (· != 0) ||
    (List.range n).any fun i =>
      let k := (im.getD (32 + 16 * i) 0).toNat
      k == 0 || decide (6 < k) || ((im.drop (33 + 16 * i)).take 3).any (· != 0)

/-- Error 8: the length, and sections that leave the image or overlap; `want` is STY_LOAD_LEN of a host load. -/
def sizesBad (im : List Byte) (want : Option Nat) : Bool :=
  let len := imageWord im 8
  let secs := imageSections im
  decide (16777216 < len) || want.any (· != len) || secs.any (fun x => decide (len < x.1 + x.2.1 + 96)) ||
    secs.zipIdx.any fun x => secs.zipIdx.any fun y =>
      decide (x.2 < y.2) && decide (x.1.1 < y.1.1 + y.1.2.1) && decide (y.1.1 < x.1.1 + x.1.2.1)

/-- Error 9: the silicon revision A0 is not admitted. -/
def revisionBad (im : List Byte) : Bool := im.getD 16 0 != 0

/-- Error 4: the CRC of a section. -/
def crcBad (im : List Byte) : Bool := (imageSections im).any fun x => crc32 ((im.drop x.1).take x.2.1) != x.2.2

/-- Error 3: the signature over all but the last 96 bytes. -/
def signatureBad (im : List Byte) : Bool :=
  let n := imageWord im 8 - 96
  !Config.imageSigned (im.take n) ((im.drop n).take 96)

/-- Checks of R562 that an image fails, by error code. DEDUCED, log entry 146. -/
def imageFaults (im : List Byte) (want : Option Nat) : List Nat :=
  ([(headerBad im, 2), (sizesBad im want, 8), (revisionBad im, 9), (crcBad im, 4), (signatureBad im, 3)].filter Prod.fst).map Prod.snd

/-- STY_LOAD_LEN. -/
def State.loadLen (s : State) : Nat := bits (s.reg 0x28) 24 0

/-- Bytes of the copy of the image that the boot reads from flash. -/
def State.flashBytes (s : State) (n : Nat) : List Byte :=
  let off := if s.boot.copy then 0x0100_0000 else 0
  (List.range n).map fun i => tget flashErased s.boot.flash (off + i)

/-- Stage 4 reads the image that the flash header measures, or of a header that fits no image the header alone.
DEDUCED, log entry 146. -/
def State.flashImage (s : State) : List Byte :=
  let len := imageWord (s.flashBytes 12) 8
  s.flashBytes (if len ≤ 16777216 then Nat.max 32 len else 32)

/-- The image lies in area 0 (R558); stage 5 begins. -/
def fetched (s : State) (bs : List Byte) : State := { s.writeMem 0 bs with boot := { s.boot with stage := 5 } }

/-- A stage has ended or stopped: the ROM's line (R558). DESIGN CHOICE, log entry 174. -/
def tell (n : Nat) (s : State) : State := { s with out := Out.uart n s.boot.error :: s.out }

/-- The image that stands in area 0, as long as its header says. -/
def State.areaImage (s : State) : List Byte :=
  s.memBytes 0 (Nat.max 32 (Nat.min 16777216 (imageWord (s.memBytes 0 12) 8)))

/-- LENGTH that a host load asks of its image: STY_LOAD_LEN. -/
def State.wantLen (s : State) : Option Nat := if s.bootSrc = 1 then some s.loadLen else none

/-- Stage 5: the image in area 0 is accepted if every check holds; otherwise one check that fails is named.
DEDUCED, log entry 146. -/
def verifyImage (s : State) : State :=
  let im := s.areaImage
  let bad := imageFaults im s.wantLen
  if bad.isEmpty then { s with boot := { s.boot with stage := 6, fw := low (imageWord im 12) } }
  else
    let (k, s) := s.fresh
    imageFail s (bad.getD (Config.freeNat k % bad.length) 2)

/-- Stage 6 ends: READY, every switched domain on, memory and far pool laid out; a wake from Off ends here. -/
def bootReady (s : State) : State :=
  let s := setKeepers (layMemory { s with boot := { s.boot with stage := 7, ready := true },
                                          pwr := { s.pwr with dom := BitVec.allOnes 80 },
                                          cel := { s.cel with laid := true },
                                          ice := { s.ice with entropy := true } })
  match s.pwr.wake with
  | some w => woke s w
  | none => s

/-- A boot ROM stage ends, with what it found (R558-R560). DEDUCED, log entry 146. -/
def execBootStageComplete (r : BootResult) (s : State) : Outcome State Fault Refusal :=
  let b := s.boot
  let go := fun (n : Nat) => { s with boot := { b with stage := n } }
  if b.failed || b.ready then .next s
  else match b.stage, r with
    | 1, .done =>
      if !strapsOk s.gate.straps then
        .next (tell 1 { bootFail s 1 with cel := { s.cel with strapErr := true } })
      else if s.bootSrc = 2 then .next (tell 1 (go 8))
      else if s.bootSrc = 3 then .next (tell 1 (bootFail s 7))
      else .next (tell 1 (go 2))
    | 2, .done => .next (tell 2 { go 3 with cel := { s.cel with trained := true } })
    | 2, .trainFail ch =>
      if s.present ch then
        .next (tell 2 { bootFail s 5 with cel := { s.cel with trainFail := s.cel.trainFail ||| BitVec.ofNat 8 (2 ^ ch.val) } })
      else .next s
    | 3, .done => .next (if s.cel.initDone then tell 3 (go 4) else s)
    | 4, .done =>
      if s.bootSrc ≠ 1 then .next (tell 4 (fetched s s.flashImage))
      else if b.loading then
        let bs := (List.range s.loadLen).map fun i => (Config.freeWord (s.free + i)).setWidth 8
        .next (tell 4 (fetched { s with free := s.free + s.loadLen } bs))
      else .next s
    | 4, .image bs => .next (if s.bootSrc = 1 && b.loading then tell 4 (fetched s (bs.take s.loadLen)) else s)
    | 4, .imageError e => .next (if s.bootSrc = 1 && !b.loading then s else tell 4 (imageFail s e))
    | 4, .dmaError => .next (if s.bootSrc = 1 && b.loading then tell 4 (imageFail s 6) else s)
    | 5, .done | 5, .imageError _ => .next (tell 5 (verifyImage s))
    | 6, .done => .next (bootReady (tell 6 s))
    | _, _ => .next s

/-- A write of STY_LOAD_GO: ignored outside the stage-4 wait (R559, R561). -/
def loadGo (s : State) (v : Word) : State :=
  if bit v 0 && s.boot.stage = 4 && s.bootSrc = 1 && !s.boot.loading && !s.boot.failed then
    { s with boot := { s.boot with loading := true, error := 0 } }
  else s

def execLoadGo (r : Requester) (v : Word) (s : State) : Outcome State Fault Refusal :=
  let s := hostArrives s r
  .next (if s.coreOn then loadGo s v else s)

/-! ## Flash (R563, R574) -/

def stFlashVerify : Status := 0x1F01

/-- Program bytes at a flash offset. PRESUMED, log entry 145. -/
def programFlash (s : State) (off : Nat) (bs : List Byte) : State :=
  { s with boot := { s.boot with flash := bs.zipIdx.foldl (fun m b => tset flashErased m (off + b.2) b.1) s.boot.flash } }

/-- A flash range becomes undefined. -/
def scrambleFlash (s : State) (off n : Nat) : State :=
  let k := s.free
  programFlash { s with free := s.free + n } off ((List.range n).map fun i => (Config.freeWord (k + i)).setWidth 8)

/-- Checks of 0x0F20 in their order (R60). -/
def State.flashWriteChecks (s : State) (c : Cmd) : List (Bool × Status) :=
  let off := (c.word 6).toNat
  let len := (c.word 7).toNat
  let busy := match s.pwr.flashing with
    | some d => d != c
    | none => false
  [(s.bootSrc != 0, stWrongState), (busy, stBusy),
   (bits (c.word 4) 11 0 != 0 || off % 65536 != 0 || len % 65536 != 0 || decide (33554432 < off + len), stBadField)]

/-- FLASH_WRITE, whose host transfer waits while host memory cannot be reached (R77, R568). -/
def flashWrite (c : Cmd) (s : State) (go : State → State) : State :=
  runCmd s 0x0F20 c 1 1 (c.num == 0) true fun s =>
    checked s 0x0F20 c (s.flashWriteChecks c) fun s =>
      if !s.hostReach then { s with pwr := { s.pwr with flashing := some c } }
      else viaHost { s with pwr := { s.pwr with flashing := none } } go

def execFlashWrite (c : Cmd) (bytes : List Byte) (verifyOk : Bool) (s : State) : Outcome State Fault Refusal :=
  .next (flashWrite c s fun s =>
    let off := (c.word 6).toNat
    let len := (c.word 7).toNat
    if verifyOk then complete (programFlash s off (bytes.take len)) 0x0F20 c stOk (low len) 0 0 0
    else finish (scrambleFlash s off len) 0x0F20 c stFlashVerify)

/-! ## SMBus recovery (R564) -/

/-- The ROM serves the recovery protocol. -/
def State.recovering (s : State) : Bool := s.boot.stage == 8

/-- 0x10: the flash offset, a multiple of 65,536; empties the page buffer and clears the error. -/
def execRecoverySetOffset (off : Word) (s : State) : Outcome State Fault Refusal :=
  if !s.recovering then .next s
  else if off.toNat % 65536 ≠ 0 then .next { s with boot := { s.boot with recBuf := [], recErr := true } }
  else .next { s with boot := { s.boot with recOffset := off.toNat, recBuf := [], recErr := false } }

/-- 0x11: appends 32 bytes to the 64 KiB page buffer. -/
def execRecoveryAppend (bytes : List Byte) (s : State) : Outcome State Fault Refusal :=
  if !s.recovering then .next s
  else if bytes.length ≠ 32 || 65536 < s.boot.recBuf.length + 32 then
    .next { s with boot := { s.boot with recErr := true } }
  else .next { s with boot := { s.boot with recBuf := s.boot.recBuf ++ bytes } }

/-- 0x12: programs the page, short pages filled with 0xFF, and advances the offset. -/
def execRecoveryProgram (s : State) : Outcome State Fault Refusal :=
  if !s.recovering then .next s
  else if 33554432 < s.boot.recOffset + 65536 then .next { s with boot := { s.boot with recErr := true } }
  else
    let page := s.boot.recBuf ++ List.replicate (65536 - s.boot.recBuf.length) 0xFF
    let s := programFlash s s.boot.recOffset page
    .next { s with boot := { s.boot with recOffset := s.boot.recOffset + 65536, recBuf := [], recPages := s.boot.recPages + 1 } }

/-- 0x13: busy, error since the last 0x10, pages programmed modulo 256. -/
def execRecoveryStatus (s : State) : Outcome State Fault Refusal :=
  if !s.recovering then .next s
  else
    let v := (if s.boot.recErr then 2 else 0) + s.boot.recPages % 256 * 256
    .next { s with out := Out.smbus (low v) :: s.out }

end Sys2Proof.Machine
end

