-- ==== Sys2Proof/Machine/Dumbwaiter.lean ====
section
/-!
DEFINITION. The Dumbwaiter: sources and subscriptions, operating points and targets, switching, clones and their headers,
retransmission and commands (R341-R366, R380).
-/
namespace Sys2Proof.Machine

open Host

def dmbA (off : Nat) : Nat := 0x00A8_0000 + off
def subKey (n : Nat) : Nat := objKey 0x0D n

def stStreamInUse : Status := 0x1D01
def stNotSource : Status := 0x1D02
def stNotDest : Status := 0x1D03

def State.subCfg (s : State) (n : Nat) : SubCfg := tget {} s.dmb.cfgs n
def State.setSubCfg (s : State) (n : Nat) (x : SubCfg) : State := { s with dmb := { s.dmb with cfgs := tset {} s.dmb.cfgs n x } }
/-- DEDUCED, log entry 117. -/
def State.sub (s : State) (n : Nat) : SubRun := tget {} s.dmb.runs n
def State.setSub (s : State) (n : Nat) (x : SubRun) : State := { s with dmb := { s.dmb with runs := tset {} s.dmb.runs n x } }
def State.src (s : State) (k : Nat) : SrcRun := tget {} s.dmb.srcs k
def State.setSrc (s : State) (k : Nat) (x : SrcRun) : State := { s with dmb := { s.dmb with srcs := tset {} s.dmb.srcs k x } }

/-- Numbering of a leg's send stream. -/
def State.send (s : State) (l i : Nat) : SendRun := tget {} s.dmb.sends (8 * l + i)
def State.setSend (s : State) (l i : Nat) (x : SendRun) : State := { s with dmb := { s.dmb with sends := tset {} s.dmb.sends (8 * l + i) x } }

/-! ## Sources (R341-R343) -/

/-- One number for a source: a canvas, a leg, or a leg behind a peer. -/
def sourceKey (kind src leg : Nat) : Nat := kind * 2 ^ 32 + (if kind = 2 then src * 65536 + leg else src)

end Sys2Proof.Machine

namespace Sys2Proof
open Sys2Proof.Machine

/-- The source of a packet. -/
def FwdPkt.key' (k : FwdPkt) : Nat := sourceKey k.kind k.src k.index.toNat

/-- Stream of the packet within its source. -/
def FwdPkt.stream (k : FwdPkt) : Nat := if k.kind.val = 2 then 0 else k.index.toNat

/-- Spatial and temporal index of a packet, for a peer's those of the layer byte; 16 stands for no descriptor (R342, R346). -/
def FwdPkt.layer (k : FwdPkt) : Nat × Nat :=
  if k.kind.val = 2 then (k.layerByte.toNat / 16, k.layerByte.toNat % 16)
  else match k.dd with
  | some (some (a, b)) => (a, b)
  | some none => (0, 0)
  | none => (16, 0)

end Sys2Proof

namespace Sys2Proof.Machine

open Host

def SubCfg.src (g : SubCfg) : Nat :=
  match g.kind with
  | 0 => bits g.source 6 0
  | 1 => bits g.source 12 0
  | _ => bits g.source 3 0

def SubCfg.srcLeg (g : SubCfg) : Nat := bits g.source 31 16
def SubCfg.sourceKey (g : SubCfg) : Nat := Machine.sourceKey g.kind g.src g.srcLeg

/-- Streams of a leg source, spatial 0 first. -/
def SubCfg.streams (g : SubCfg) : List Nat :=
  [bits g.source 18 16, bits g.source 22 20, bits g.source 26 24].take (bits g.source 29 28)

/-- Each spatial layer of the source stands alone. -/
def State.independent (s : State) (g : SubCfg) : Bool := if g.kind = 0 then !(s.encSet g.src).cfg.stacked else g.indep

/-- The subscription takes packets of this stream of its source. -/
def SubCfg.takes (g : SubCfg) (key stream : Nat) : Bool :=
  g.sourceKey == key && (g.kind != 1 || g.streams.contains stream)

/-- Spatial index as the subscription sees it: without a descriptor, its stream's place in the source list. -/
def SubCfg.spatial (g : SubCfg) (layer stream : Nat) : Nat :=
  if layer = 16 then (g.streams.idxOf stream) % 3 else layer

/-- Operating point (a, b) contains a packet of layer (c, d). -/
def pointHas (indep : Bool) (p q : Nat × Nat) : Bool :=
  decide (q.2 ≤ p.2) && (if indep then p.1 == q.1 else decide (q.1 ≤ p.1))

def pointOf (q : Nat) : Nat × Nat := (q / 3, q % 3)
def pointNum (p : Nat × Nat) : Nat := 3 * p.1 + p.2

/-! ## Measured rates (R348) -/

/-- kbit/s of bytes counted over 70,560,000 ct, which is one second. -/
def kbits (bytes : Nat) : Nat := bytes * 8 / 1000

/-- Bytes of a history within the last 70,560,000 ct. -/
def recent (now : Nat) (l : List (Nat × Nat)) : Nat :=
  sumNat ((l.filter fun (h : Nat × Nat) => decide (now < h.1 + ctPerSec)).map Prod.snd)

/-- The canvas's encoding has run less than 70,560,000 ct. -/
def State.youngCanvas (s : State) (g : SubCfg) : Bool :=
  g.kind == 0 && s.isRunning (encKey g.src) && decide (s.cyc < (s.obj (encKey g.src)).since + ctPerSec)

/-- R(q) of a subscription's source, in kbit/s. -/
def State.rateOf (s : State) (g : SubCfg) (q : Nat) : Nat :=
  let p := pointOf q
  let e := s.encSet g.src
  let base := if s.youngCanvas g then
      (if e.cfg.points.contains p then e.rate p.1 p.2 / 1000 else 0)
    else
      let indep := s.independent g
      kbits (recent s.now (((s.src g.sourceKey).hist.filter fun h =>
        g.takes g.sourceKey h.2.2.2.1 && pointHas indep p (g.spatial h.2.1 h.2.2.2.1, h.2.2.1)).map fun h => (h.1, h.2.2.2.2)))
  base * (100 + g.headroom) / 100

/-! ## Ceilings (R354, R356) -/

/-- Highest temporal index that the ladder lets a source keep, if it lowers it. -/
def State.ladderT (s : State) (g : SubCfg) : Option Nat :=
  let top := (s.src g.sourceKey).topT
  if 1 ≤ s.hall.step && 1 ≤ top then some (top - 1) else none

def State.ceilT (s : State) (g : SubCfg) : Nat := match s.ladderT g with | some t => Nat.min g.maxT t | none => g.maxT

/-- Points present and within the effective ceiling, with their rates. -/
def State.allowed (s : State) (g : SubCfg) : List (Nat × Nat) :=
  if g.pause then []
  else (((List.range 9).filter fun q => decide ((pointOf q).1 ≤ g.maxS) && decide ((pointOf q).2 ≤ s.ceilT g)).map
    fun q => (q, s.rateOf g q)).filter fun (x : Nat × Nat) => x.2 != 0

/-- The lowest rate of a list of points; the lower number on equal rate. -/
def leastPoint : List (Nat × Nat) → Option (Nat × Nat)
  | [] => none
  | a :: r => match leastPoint r with
    | none => some a
    | some b => if b.2 < a.2 then some b else some a

/-- The highest rate; the higher number on equal rate. -/
def mostPoint : List (Nat × Nat) → Option (Nat × Nat)
  | [] => none
  | a :: r => match mostPoint r with
    | none => some a
    | some b => if b.2 < a.2 then some a else some b

/-! ## Targets (R349, R350) -/

def State.estimate (s : State) (l : Nat) : Nat := (s.legRun l).est.est

/-- What the leg's video may use. -/
def State.budgetOf (s : State) (l : Nat) : Nat := s.estimate l - kbits (recent s.now (s.legPrg l).sent)

/-- RUNNING subscriptions to a leg, by PRIORITY, then by number. -/
def State.subsOf (s : State) (l : Nat) : List Nat :=
  let all := (s.objs.filter fun e => e.1 / 2 ^ 32 == 0x0D && e.2.st == .running).map fun e => e.1 % 2 ^ 32
  let mine := all.filter fun n => !(s.subCfg n).toPeer && (s.subCfg n).dest == l
  ((List.range 16).map fun p => mine.filter fun n => (s.subCfg n).prio == p).flatten

/-- A new target: what rises against the old one is free of the hold-off unless the estimate raised it. -/
def setTarget (s : State) (n cause : Nat) (q : Option Nat) : State :=
  let x := s.sub n
  if x.target = q then s
  else
    let old := pointOf (x.target.getD 0)
    let new := pointOf (q.getD 0)
    let free := cause != 1
    let f := fun (a b : Nat) (was : Bool) => if a < b then free else if b < a then false else was
    s.setSub n { x with target := q, cause := cause, freeS := f old.1 new.1 x.freeS, freeT := f old.2 new.2 x.freeT }

/-- FWD_SUSPENDED. DEDUCED, log entry 119. -/
def suspendEvent (s : State) (n est low' : Nat) (on : Bool) : State :=
  event s 0x0D11 (low n) (if on then 1 else 0) (low est) (low low') 0

/-- Pass 1: the lowest points. Answers the budget left and each subscription's point. DEDUCED, log entry 120. -/
def passOne (s : State) : List Nat → Nat → Nat × List (Nat × Option (Nat × Nat))
  | [], b => (b, [])
  | n :: r, b =>
    let g := s.subCfg n
    match leastPoint (s.allowed g) with
    | none => let (b', l) := passOne s r b; (b', (n, none) :: l)
    | some p =>
      if b < p.2 && g.suspend then let (b', l) := passOne s r b; (b', (n, none) :: l)
      else let (b', l) := passOne s r (b - p.2); (b', (n, some p) :: l)

/-- Pass 2: raise. -/
def passTwo (s : State) : List (Nat × Option (Nat × Nat)) → Nat → List (Nat × Option (Nat × Nat))
  | [], _ => []
  | (n, none) :: r, b => (n, none) :: passTwo s r b
  | (n, some p) :: r, b =>
    let up := (mostPoint ((s.allowed (s.subCfg n)).filter fun (x : Nat × Nat) => decide (x.2 ≤ b + p.2))).getD p
    (n, some up) :: passTwo s r (b + p.2 - up.2)

/-- Put one recomputed point into force. -/
def putPoint (est cause : Nat) (s : State) (e : Nat × Option (Nat × Nat)) : State :=
  let x := s.sub e.1
  let g := s.subCfg e.1
  let least := leastPoint (s.allowed g)
  match e.2, least with
  | some p, some lo =>
    let s := setTarget s e.1 cause (some p.1)
    if x.suspended then suspendEvent (s.setSub e.1 { s.sub e.1 with suspended := false }) e.1 est lo.2 false else s
  | none, some lo =>
    let s := setTarget s e.1 cause none
    if x.suspended then s else suspendEvent (s.setSub e.1 { s.sub e.1 with suspended := true }) e.1 est lo.2 true
  | _, none => setTarget s e.1 cause none

/-- Recompute a leg's targets; the cause is what asked for it. DEDUCED, log entry 120. -/
def recompute (s : State) (l cause : Nat) : State :=
  let (b, one) := passOne s (s.subsOf l) (s.budgetOf l)
  let s' := (passTwo s one b).foldl (putPoint (s.estimate l) cause) s
  { s' with dmb := { s'.dmb with redone := tset 0 s'.dmb.redone l (s.now + 1) } }

/-- Legs to which some subscription is RUNNING. -/
def State.fedLegs (s : State) : List Nat :=
  (((s.objs.filter fun e => e.1 / 2 ^ 32 == 0x0D && e.2.st == .running).map fun e => s.subCfg (e.1 % 2 ^ 32)).filter
    fun g => !g.toPeer).map (fun g => g.dest) |>.eraseDups

/-- The load ladder has moved: every leg's targets are recomputed. -/
def ladderMoved (s : State) : State := s.fedLegs.foldl (fun s l => recompute s l 3) s

/-- 7,056,000 ct have passed since a leg's targets were last recomputed. -/
def execTargetRecompute (l : Fin 8192) (s : State) : Outcome State Fault Refusal :=
  let t := tget 0 s.dmb.redone l
  .next (if s.commonOn && (t == 0 || decide (t - 1 + 7056000 ≤ s.now)) then recompute s l 1 else s)

/-- Target of a subscription to a peer: the highest allowed point. -/
def peerTarget (s : State) (n : Nat) : State :=
  let g := s.subCfg n
  if g.toPeer then setTarget s n (if (s.ladderT g).isSome then 3 else 2) ((s.allowed g).getLast?.map Prod.fst) else s

/-! ## Key requests (R353) -/

/-- Ask the source of subscription n for a key of the layers of a mask. DEDUCED, log entry 122. -/
def askSource (s : State) (n mask cause : Nat) : State :=
  let g := s.subCfg n
  let made := s.bump (dmbA 0x2C) 1
  match g.kind with
  | 0 => if s.isRunning (encKey g.src) then pendKeys made g.src mask cause else s
  | 1 =>
    let s := made
    let want := (g.streams.zipIdx.filter fun (x : Nat × Nat) => mask.testBit x.2 || g.streams.length == 1).map Prod.fst
    want.foldl (fun s i => askLeg s g.src i false) s
  | _ =>
    let x := s.sub n
    let soon := match x.remoteAt with | some t => decide (s.now < t + g.keyWait) | none => false
    if soon then s
    else event (made.setSub n { x with remoteAt := some s.now }) 0x0D12 (low n) (low g.src) (low g.srcLeg) (low mask) 0

/-- The estimate's hold-off of subscription n runs. -/
def State.held (s : State) (n : Nat) : Bool :=
  match (s.sub n).hold with | some t => decide (s.now < t + (s.subCfg n).upHold) | none => false

/-- A switch that subscription n waits for. -/
inductive Awaits where
  | nothing | up | indepDown
  deriving DecidableEq, Repr

def State.awaits (s : State) (n : Nat) : Awaits :=
  let x := s.sub n
  match x.target with
  | none => .nothing
  | some q =>
    match x.cur with
    | none => .up
    | some c =>
      let t := pointOf q
      let p := pointOf c
      if s.independent (s.subCfg n) && decide (t.1 < p.1) then .indepDown
      else if p.1 < t.1 || p.2 < t.2 then .up
      else .nothing

/-- The hold-off keeps every rising component of subscription n down. DEDUCED, log entry 118. -/
def State.heldUp (s : State) (n : Nat) : Bool :=
  let x := s.sub n
  let t := pointOf (x.target.getD 0)
  let p := pointOf (x.cur.getD 0)
  s.held n && x.cur.isSome && (decide (t.1 ≤ p.1) || !x.freeS) && (decide (t.2 ≤ p.2) || !x.freeT)

/-- Note from when a switch point is awaited; an independent spatial downswitch asks at once. -/
def noteWait (s : State) (n : Nat) : State :=
  let x := s.sub n
  match s.awaits n with
  | .nothing => s.setSub n { x with waitAt := none }
  | .up =>
    if s.heldUp n then s.setSub n { x with waitAt := none }
    else if x.waitAt.isSome then s else s.setSub n { x with waitAt := some s.now }
  | .indepDown =>
    if x.waitAt.isSome then s
    else askSource (s.setSub n { x with waitAt := some s.now }) n (2 ^ (pointOf (x.target.getD 0)).1) 3

/-- KEY_WAIT_CT has passed while subscription n waits: its source is asked, again and again. -/
def execKeyWaitExpiry (n : Fin 16384) (s : State) : Outcome State Fault Refusal :=
  if !s.commonOn || !s.isRunning (subKey n) then .next s
  else
    let s := noteWait s n
    let x := s.sub n
    match x.waitAt with
    | some t =>
      if t + (s.subCfg n).keyWait ≤ s.now then
        .next (askSource (s.setSub n { x with waitAt := some s.now }) n (2 ^ (pointOf (x.target.getD 0)).1) 3)
      else .next s
    | none => .next s

/-- The RUNNING subscription that feeds a leg's send stream. -/
def State.feeder (s : State) (l i : Nat) : Option Nat :=
  ((s.objs.filter fun e => e.1 / 2 ^ 32 == 0x0D && e.2.st == .running).map fun e => e.1 % 2 ^ 32).find? fun n =>
    let g := s.subCfg n
    !g.toPeer && g.dest == l && g.destIdx == i

/-- A PLI or FIR that a receiving leg sends for stream i is passed to the source, once per source in 7,056,000 ct.
DEDUCED, log entry 122. -/
def passKey (s : State) (l i : Nat) : State :=
  match s.feeder l i with
  | none => s
  | some n =>
    let k := (s.subCfg n).sourceKey
    let x := s.src k
    let soon := match x.passed with | some t => decide (s.now < t + 7056000) | none => false
    if soon then s
    else askSource (s.setSrc k { x with passed := some s.now }) n (2 ^ (pointOf ((s.sub n).cur.getD 0)).1) 4

/-! ## Switching (R350-R355) -/

/-- CUR_Q changes at a packet with timestamp ts. DEDUCED, log entry 117. -/
def switchTo (s : State) (n q cause : Nat) (ts : Word) : State :=
  let x := s.sub n
  if x.cur = some q then s
  else
    let g := s.subCfg n
    let s := (s.setSub n { x with cur := some q, fresh := true, changes := x.changes + 1, waitAt := none }).bump (dmbA 0x30) 1
    if g.evt then
      event s 0x0D10 (low n) (low (x.cur.getD 0 + q * 16)) (low cause) ts (low (if g.toPeer then 0 else s.estimate g.dest))
    else s

/-- A downswitch takes effect: one that the estimate or the ladder drives starts the hold-off. -/
def fall (s : State) (n q : Nat) (ts : Word) : State :=
  let x := s.sub n
  let s := if x.cause = 1 || x.cause = 3 then s.setSub n { x with hold := some s.now } else s
  switchTo s n q x.cause ts

/-- What may rise: spatial, temporal. DEDUCED, log entry 118. -/
def State.mayRise (s : State) (n : Nat) : Bool × Bool :=
  let x := s.sub n
  (!s.held n || x.freeS, !s.held n || x.freeT)

/-- Downswitches that fall due at a frame boundary of the current stream. -/
def lowerPoint (s : State) (n : Nat) (indep : Bool) (ts : Word) : State :=
  let x := s.sub n
  match x.cur, x.target with
  | some c, some q =>
    let p := pointOf c
    let t := pointOf q
    if indep then
      if t.1 < p.1 then (if 0 < p.2 then fall s n (pointNum (p.1, 0)) ts else s)
      else if t.2 < p.2 then fall s n (pointNum (p.1, t.2)) ts
      else s
    else if t.1 < p.1 || t.2 < p.2 then fall s n (pointNum (Nat.min p.1 t.1, Nat.min p.2 t.2)) ts
    else s
  | _, _ => s

/-- Upswitches, and moves between independent layers, that begin at this packet of layer p. -/
def raisePoint (s : State) (n : Nat) (indep boundary : Bool) (k : FwdPkt) (p : Nat × Nat) : State :=
  let x := s.sub n
  match x.target with
  | none => s
  | some q =>
    let t := pointOf q
    let (upS, upT) := s.mayRise n
    match x.cur with
    | none =>
      if k.key && boundary && (!indep || p.1 == t.1) then switchTo s n q 4 k.ts else s
    | some c =>
      let a := pointOf c
      if indep && t.1 != a.1 then
        if k.key && boundary && p.1 == t.1 then
          if t.1 < a.1 then fall s n q k.ts
          else if upS then switchTo s n (pointNum (t.1, if upT then t.2 else Nat.min t.2 a.2)) 4 k.ts
          else s
        else s
      else if k.key && boundary && (!indep || p.1 == a.1) then
        let b := (if a.1 < t.1 && upS then t.1 else a.1, if a.2 < t.2 && upT then t.2 else a.2)
        switchTo s n (pointNum b) 4 k.ts
      else if k.dd.isNone then s
      else if k.sSwitch && k.first && !indep && p.1 == a.1 + 1 && decide (p.1 ≤ t.1) && upS then
        switchTo s n (pointNum (p.1, a.2)) x.cause k.ts
      else if k.tSwitch && boundary && p.2 == a.2 + 1 && decide (p.2 ≤ t.2) && upT && (!indep || p.1 == a.1) then
        switchTo s n (pointNum (a.1, p.2)) x.cause k.ts
      else s

/-! ## Clones (R344-R347, R357-R359, R380) -/

/-- Length of a header extension block that carries a descriptor of d bytes at an ID (R571). -/
def extBytes (id d : Nat) : Nat :=
  let e := if id ≤ 14 && 1 ≤ d && d ≤ 16 then 1 + d else 2 + d
  4 + (e + 3) / 4 * 4

/-- Decode targets that a point contains, by operating point: the mask of R346. DEDUCED, log entry 121. -/
def targetMask (indep : Bool) (c : Nat) : Nat :=
  sumNat (((List.range 9).filter fun q => pointHas indep (pointOf c) (pointOf q)).map fun q => 2 ^ q)

/-- What the descriptor of a first clone carries anew: the mask of its decode targets, and the source's latest template
structure (R346). -/
def State.anew (s : State) (n : Nat) (k : FwdPkt) : List Nat :=
  targetMask (s.independent (s.subCfg n)) ((s.sub n).cur.getD 0) ::
    (((s.src k.key').structs.find? fun (e : Nat × List Byte) => e.1 == k.stream).map fun e => e.2.map BitVec.toNat).getD []

/-- Length of a packet's descriptor; one that carries the source's structure anew has a length the manual leaves open.
DEDUCED, log entry 121. -/
def ddBytes (s : State) (k : FwdPkt) (fresh : Bool) : Nat × State :=
  if fresh then let (n, s) := s.fresh; (Config.freeNat n % 256, s) else (k.ddLen, s)

/-- Timestamp and frame-number offsets of a send stream, set again when its source stream changes (R345).
DEDUCED, log entry 121. -/
def reOffset (s : State) (x : SendRun) (from' : Nat × Nat) (restart : Bool) (k : FwdPkt) : SendRun × State :=
  if x.begun && x.from' = some from' && !restart then (x, s)
  else if x.begun then
    let step := Nat.max 1 ((k.stamp.toNat - x.stamp) / 784)
    ({ x with off := x.lastTs + low step - k.ts, frameOff := (x.frame + 1 + 65536 - k.frameNo.toNat) % 65536, from' := some from' }, s)
  else
    let (a, s) := s.fresh
    let (b, s) := s.fresh
    ({ x with off := Config.freeWord a, frameOff := Config.freeNat b % 65536, from' := some from', begun := true }, s)

/-- Missing source numbers between two packets of one frame, which the leg's numbering keeps (R347). -/
def gapBefore (x : SendRun) (from' : Nat × Nat) (k : FwdPkt) : Nat :=
  let d := (k.seq.toNat + 65536 - x.srcSeq) % 65536
  if x.begun && x.from' = some from' && x.srcFrame == k.frameNo.toNat && x.lastTs - x.off == k.ts && decide (1 ≤ d) && decide (d < 32768)
  then d - 1 else 0

/-- Launch time of a paced canvas packet (R380). DEDUCED, log entry 123. -/
def paceLaunch (s : State) (l : Nat) (x : SendRun) (k : FwdPkt) : Option Nat × SendRun :=
  let pace := (s.legPrg l).pace
  let e := s.estimate l
  if k.kind.val ≠ 0 || pace = 0 || e = 0 then (none, { x with launch := none })
  else match x.launch with
    | some (t, c) => if k.bandStart then (none, { x with launch := some (s.now, 0) })
                     else let at' := t + ceilDiv (c * 564480 * 16) (pace * e); (some at', { x with launch := some (at', 0) })
    | none => (none, { x with launch := some (s.now, 0) })

/-- The counted length of a leg's packet on its port. DEDUCED, log entry 123. -/
def State.countedLeg (s : State) (l payload : Nat) : Nat := s.countedOn ((s.legPort l).getD 0) (s.udpBytes l payload)

/-- Remember a sequence number of a send stream: the last 1,024 are kept. -/
def SendRun.remember (x : SendRun) (p : SentPkt) : SendRun :=
  let l := x.sent ++ [p]
  { x with sent := l.drop (l.length - 1024) }

/-- One clone to a leg's send stream. -/
def cloneLeg (s : State) (n l i : Nat) (k : FwdPkt) (p : Nat × Nat) : State :=
  match tfind (s.legSet l).streams i with
  | none => s
  | some st =>
    if s.conn l != .active then s.bump (dmbA 0x14) 1
    else
      let from' := (k.key', k.stream)
      let fresh := (s.sub n).fresh
      let gap := gapBefore (s.send l i) from' k
      let (x, s) := reOffset s (s.send l i) from' ((s.sub n).clones == 0) k
      -- numbers of packets that have not arrived are left out of the leg's count
      let first := (s.stream l i).sendSeq
      let x := (List.range gap).foldl (fun (x : SendRun) j => x.remember
        { seq := (first.toNat + j) % 65536, src := k.key', str := k.stream, srcSeq := (k.seq.toNat + 65536 - gap + j) % 65536,
          svc := if p = (0, 0) then 1 else 2, bytes := 0 }) x
      let seq := first + BitVec.ofNat 16 gap
      let s := s.setStream l i { s.stream l i with sendSeq := seq + 1 }
      let id := ((s.legSet l).cfg.map fun c => c.ddId).getD 0
      let parsed := match k.dd with | some (some _) => true | _ => false
      let anew := if fresh && parsed && id != 0 then s.anew n k else []
      let (d, s) := if parsed && id != 0 then ddBytes s k fresh else (0, s)
      let payload := 12 + (if parsed && id != 0 then extBytes id d else 0) + k.bytes + 16
      let ts := k.ts + x.off
      let frame := (k.frameNo.toNat + x.frameOff) % 65536
      let (launch, x) := paceLaunch s l x k
      let x := { x with launch := x.launch.map fun (y : Nat × Nat) => (y.1, s.countedLeg l payload) }
      let svc := if p = (0, 0) then 1 else 2
      let x := x.remember { seq := seq.toNat, src := k.key', str := k.stream, srcSeq := k.seq.toNat, svc := svc, bytes := payload }
      let s := s.setSend l i { x with lastTs := ts, stamp := k.stamp.toNat, frame := frame, srcSeq := k.seq.toNat, srcFrame := k.frameNo.toNat }
      let s := s.bump64 (dmbA 0x08) 1
      let y := s.sub n
      let s := s.setSub n { y with clones := y.clones + 1, fresh := false,
                                   sent := (y.sent.filter fun (h : Nat × Nat) => decide (s.now < h.1 + ctPerSec)) ++ [(s.now, payload)] }
      sendLegAt s l svc payload launch ([15, l, st.ssrc.toNat, seq.toNat, st.pt, if k.marker then 1 else 0, ts.toNat, frame] |>.append anew)

/-- The conference link of a subscription carries layer packets to its peer, and the peer is in exchange. -/
def State.linkCarries (s : State) (g : SubCfg) : Bool :=
  s.isRunning (linkKey g.link) && (match tfind s.ftb.links g.link with | some k => k.layers && k.mask.testBit g.dest | none => false) &&
    s.peerReady g.dest

def ftbOversizeA : Nat := 0x0170_0008

/-- One clone to a peer, in a LAYER frame. -/
def clonePeer (s : State) (n : Nat) (g : SubCfg) (k : FwdPkt) (p : Nat × Nat) : State :=
  if !s.linkCarries g then s.bump (dmbA 0x18) 1
  else
    let rtp := 12 + (match k.dd with | some (some _) => extBytes 1 k.ddLen | _ => 0) + k.bytes
    if 1400 < rtp then s.bump ftbOversizeA 1
    else match s.ftb.cfg with
      | none => s
      | some f =>
        let s := s.bump64 (dmbA 0x08) 1
        let y := s.sub n
        let s := s.setSub n { y with clones := y.clones + 1, fresh := false,
                                     sent := (y.sent.filter fun (h : Nat × Nat) => decide (s.now < h.1 + ctPerSec)) ++ [(s.now, rtp)] }
        sendFtb s f g.dest 3 (if p = (0, 0) then 2 else 3) (8 + rtp)
          [g.src, p.1 * 16 + p.2, k.stamp.toNat % 2 ^ 32, k.seq.toNat, k.ts.toNat, rtp]

/-- The subscription sends packets: it is not paused or suspended, or the frame has begun. -/
def State.sends (s : State) (n : Nat) (k : FwdPkt) : Bool :=
  let x := s.sub n
  x.inFrame == some k.ts.toNat || (s.isRunning (subKey n) && !(s.subCfg n).pause && x.target.isSome)

/-- A packet that only the ladder withholds. -/
def State.ladderHolds (s : State) (g : SubCfg) (x : SubRun) (indep : Bool) (p : Nat × Nat) : Bool :=
  match s.ladderT g, x.cur with
  | some t, some c => decide (t < p.2) && decide (p.2 ≤ g.maxT) && decide (p.1 ≤ g.maxS) && pointHas indep ((pointOf c).1, p.2) p
  | _, _ => false

/-- One subscription meets a packet of its source; `true` when it was cloned. DEDUCED, log entry 119. -/
def serveSub (boundary : Bool) (k : FwdPkt) (acc : Bool × State) (n : Nat) : Bool × State :=
  let s := acc.2
  let g := s.subCfg n
  let (l, t) := k.layer
  let p := (g.spatial l k.stream, t)
  let indep := s.independent g
  let mine := !indep || (match (s.sub n).cur with | some c => (pointOf c).1 == p.1 | none => true)
  -- the frame that was being sent has ended
  let s := if boundary && mine then s.setSub n { s.sub n with inFrame := none } else s
  let s := if s.isRunning (subKey n) then
      let s := peerTarget s n
      let s := if boundary && mine then lowerPoint s n indep k.ts else s
      noteWait (raisePoint s n indep boundary k p) n
    else s
  if s.draining (subKey n) && (s.sub n).inFrame.isNone then (acc.1, reachStopped s 0x0D n)
  else
    let x := s.sub n
    match x.cur with
    | none => (acc.1, s)
    | some c =>
      if s.sends n k && pointHas indep (pointOf c) p then
        let before := (s.sub n).clones
        let s := if g.toPeer then clonePeer s n g k p else cloneLeg s n g.dest g.destIdx k p
        let made := (s.sub n).clones != before
        let ends := k.marker && p.1 == (pointOf c).1
        let s := s.setSub n { s.sub n with inFrame := if ends then none else some k.ts.toNat }
        (acc.1 || made, if s.draining (subKey n) && ends then reachStopped s 0x0D n else s)
      else if s.ladderHolds g x indep p then (acc.1, s.bump (dmbA 0x10) 1)
      else (acc.1, s)

/-- Subscriptions that take a packet, in ascending number. -/
def State.takers (s : State) (k : FwdPkt) : List Nat :=
  ((s.objs.filter fun e => e.1 / 2 ^ 32 == 0x0D && (e.2.st == .running || e.2.st == .draining)).map fun e => e.1 % 2 ^ 32).filter
    fun n => (s.subCfg n).takes k.key' k.stream

/-- Egress port of a subscription's clones: that of its leg, or the Footbridge's. -/
def State.subPort (s : State) (n : Nat) : Nat :=
  let g := s.subCfg n
  if g.toPeer then (s.ftb.cfg.map fun f => f.port).getD 0 else (s.legPort g.dest).getD 0

/-- Subscriptions in the order in which their clones are issued: one of each egress port in turn, the lower port first, and
within a port in ascending number (R23). DESIGN CHOICE, log entry 163. -/
def State.interleaved (s : State) (l : List Nat) : List Nat :=
  let ports := (List.range 8).map fun p => l.filter fun n => s.subPort n == p
  ((List.range l.length).map fun i => ports.filterMap fun q => q[i]?).flatten

/-- Record a source's packet for R(q) and its highest temporal index. -/
def recordPacket (s : State) (k : FwdPkt) : State :=
  let x := s.src k.key'
  let (l, t) := k.layer
  let size := 12 + (match k.dd with | some (some _) => extBytes 1 k.ddLen | _ => 0) + k.bytes
  s.setSrc k.key' { x with
    hist := (x.hist.filter fun h => decide (s.now < h.1 + ctPerSec)) ++ [(s.now, l, t, k.stream, size)]
    topT := Nat.max x.topT t
    structs := match k.struct with | some d => tput x.structs k.stream d | none => x.structs
    frame := tset 0 x.frame k.stream (k.ts.toNat + 1) }

/-! ## Retransmission (R360) -/

/-- RTX send stream of a leg that repairs stream i. -/
def State.rtxOf (s : State) (l i : Nat) : Option Nat :=
  ((s.legSet l).streams.find? fun (e : Nat × StreamCfg) => e.2.send && e.2.kind == 2 && e.2.rtxOf == i).map Prod.fst

/-- Send a remembered packet again on a leg's RTX stream. -/
def resend (s : State) (l i : Nat) (p : SentPkt) (payload : Nat) : State :=
  if s.conn l != .active then s
  else match s.rtxOf l i with
  | none => s.bump (dmbA 0x24) 1
  | some r =>
    let (q, s) := nextSeq s l r
    let ssrc := ((tfind (s.legSet l).streams r).map fun (c : StreamCfg) => c.ssrc.toNat).getD 0
    sendLeg (s.bump (dmbA 0x20) 1) l p.svc (payload + 2) [16, l, ssrc, q.toNat, p.seq, payload]

/-- A packet that a leg's source still owes has arrived: it is held, and sent to each leg that asked. -/
def serveRepair (s : State) (k : FwdPkt) : State :=
  let mine := s.dmb.wanted.filter fun w => w.1 == k.key' && w.2.1 == k.stream && w.2.2.1 == k.seq.toNat
  let s := { s with dmb := { s.dmb with wanted := s.dmb.wanted.filter fun w => !(w.1 == k.key' && w.2.1 == k.stream && w.2.2.1 == k.seq.toNat) } }
  mine.foldl (fun s w =>
    let l := w.2.2.2.1 / 8
    let i := w.2.2.2.1 % 8
    match (s.send l i).sent.find? fun p => p.seq == w.2.2.2.2 with
    | none => s
    | some p =>
      let x := s.send l i
      let size := 12 + (match k.dd with | some (some _) => extBytes 1 k.ddLen | _ => 0) + k.bytes + 16
      let s := s.setSend l i { x with sent := x.sent.map fun (q : SentPkt) => if q = p then { q with bytes := size } else q }
      resend s l i p size) s

/-- Keep a packet in the far pool for 14,112,000 ct. -/
def holdPacket (s : State) (k : FwdPkt) : State :=
  let (h, s) := writeLoose s 1 2 (12 + k.bytes)
  { s with dmb := { s.dmb with held := s.dmb.held ++ [{ src := k.key', str := k.stream, seq := k.seq.toNat, at' := s.now, handle := h }] } }

/-- The Dumbwaiter takes a video packet of a source. DEDUCED, log entry 70. -/
def clonePacket (s : State) (k : FwdPkt) : State :=
  -- the descriptor of a leg's packet is read at the leg's DD_ID alone (R100)
  let read := k.kind.val != 1 || (((s.legSet k.src).cfg.map fun c => c.ddId).getD 0) != 0
  let k := if read then k else { k with dd := none }
  if k.padding then s
  else
    let bad := match k.dd with | some none => true | _ => false
    let s := if bad then s.bump (dmbA 0x1C) 1 else s
    if s.dmb.wanted.any fun w => w.1 == k.key' && w.2.1 == k.stream && w.2.2.1 == k.seq.toNat then serveRepair (holdPacket s k) k
    else
      let boundary := tget 0 (s.src k.key').frame k.stream ≠ k.ts.toNat + 1
      let s := recordPacket s k
      let (done, s) := (s.interleaved (s.takers k)).foldl (serveSub boundary k) (false, s)
      if done then holdPacket s k else s

/-- A packet of a source reaches the Dumbwaiter; its clones are issued as a whole. DESIGN CHOICE, log entry 173. DESIGN CHOICE,
log entry 178. -/
def execPacketClone (k : FwdPkt) (s : State) : Outcome State Fault Refusal :=
  .next (if s.commonOn && s.running then clonePacket s k else s)

/-- A held packet that has not been released. -/
def State.heldPkt (s : State) (p : SentPkt) : Bool :=
  s.dmb.held.any fun h => h.src == p.src && h.str == p.str && h.seq == p.srcSeq && h.handle.isSome

/-- Ask a leg source for a packet that never arrived, once. -/
def wantPacket (s : State) (l i : Nat) (p : SentPkt) : State :=
  let s := s.bump (dmbA 0x28) 1
  let asked := s.dmb.wanted.any fun w => w.1 == p.src && w.2.1 == p.str && w.2.2.1 == p.srcSeq
  let s := { s with dmb := { s.dmb with wanted := s.dmb.wanted ++ [(p.src, p.str, p.srcSeq, 8 * l + i, p.seq)] } }
  if asked then s else sendRtcp s (p.src % 2 ^ 32) 16 [5, p.str, p.srcSeq]

/-- One number of a leg's generic NACK. -/
def serveNack (l i : Nat) (s : State) (q : BitVec 16) : State :=
  match (s.send l i).sent.find? fun p => p.seq == q.toNat with
  | none => s
  | some p =>
    if (s.rtxOf l i).isNone then s.bump (dmbA 0x24) 1
    else if p.bytes = 0 then (if p.src / 2 ^ 32 = 1 then wantPacket s l i p else s)
    else if s.heldPkt p then resend s l i p p.bytes
    else s

def execNackReceived (l : Fin 8192) (i : Fin 8) (seqs : List (BitVec 16)) (s : State) : Outcome State Fault Refusal :=
  .next (if s.commonOn && s.running then seqs.foldl (serveNack l i) s else s)

/-- Held packets whose 14,112,000 ct have passed are released. -/
def execRetransmitHoldExpiry (s : State) : Outcome State Fault Refusal :=
  let old := s.dmb.held.filter fun h => decide (h.at' + 14112000 ≤ s.now)
  let s := { s with dmb := { s.dmb with held := s.dmb.held.filter fun h => !decide (h.at' + 14112000 ≤ s.now) } }
  .next (old.foldl (fun s h => match h.handle with | some n => releaseHandle s n | none => s) s)

/-! ## Starting and stopping a subscription (R341, R363, R364) -/

def subOk (n : Nat) : Bool := decide (n < 16384)

def State.streamHeld (s : State) (n : Nat) (g : SubCfg) : Bool :=
  !g.toPeer && s.objs.any fun e => e.1 / 2 ^ 32 == 0x0D && e.1 % 2 ^ 32 != n && (e.2.st == .starting || e.2.st == .running) &&
    (let h := s.subCfg (e.1 % 2 ^ 32); !h.toPeer && h.dest == g.dest && h.destIdx == g.destIdx)

def State.sourceOk (s : State) (g : SubCfg) : Bool :=
  match g.kind with
  | 0 => !(s.encSet g.src).streams.isEmpty
  | 1 => g.streams.all fun i => match tfind (s.legSet g.src).streams i with | some c => !c.send && c.kind == 1 | none => false
  | _ => true

def State.destOk (s : State) (g : SubCfg) : Bool :=
  if g.toPeer then (match tfind s.ftb.links g.link with | some k => k.mask.testBit g.dest | none => false)
  else match tfind (s.legSet g.dest).streams g.destIdx with | some c => c.send && c.kind == 1 | none => false

def State.subChecks (s : State) (n : Nat) : List (Bool × Status) :=
  let g := s.subCfg n
  [(s.streamHeld n g, stStreamInUse), (!s.sourceOk g, stNotSource), (!s.destOk g, stNotDest)]

/-- An accepted START begins its counts anew. -/
def subReserve (s : State) (n : Nat) : State := if s.starting (subKey n) then s.setSub n {} else s

/-- RUNNING: the targets of its leg are recomputed. -/
def subBegins (s : State) (n : Nat) : State :=
  let g := s.subCfg n
  if g.toPeer then peerTarget s n else recompute s g.dest 1

def subDrain (s : State) (n : Nat) (ab : Bool) : State :=
  let x := s.sub n
  if ab || x.inFrame.isNone then reachStopped (s.setSub n { x with inFrame := none }) 0x0D n else s

/-- 7,056,000 ct after STOP the rest of the frame is discarded. -/
def execSubscriptionDrainTimeout (n : Fin 16384) (s : State) : Outcome State Fault Refusal :=
  .next (if s.commonOn && s.draining (subKey n) && decide ((s.obj (subKey n)).since + 7056000 ≤ s.cyc) then subDrain s n true else s)

/-! ## Commands (R361, R362) -/

/-- Checks of 0x0D10 in their order (R60). -/
def State.fwdConfigChecks (s : State) (c : Cmd) : List (Bool × Status) :=
  let w := c.word 4
  let kind := bits w 1 0
  let toPeer := bit w 5
  let src := c.word 6
  let dest := bits (c.word 5) 12 0
  let cnt := bits src 29 28
  let wait := (c.word 9).toNat
  let head := bits (c.word 10) 6 0
  let srcBad := match kind with
    | 0 => bits src 31 7 != 0 || decide (95 < bits src 6 0)
    | 1 => bits src 15 13 != 0 || bit src 19 || bit src 23 || bit src 27 || bits src 31 30 != 0 || cnt == 0
    | 2 => bits src 15 4 != 0
    | _ => true
  let bad := srcBad || bits w 7 6 != 0 || bits w 31 15 != 0 || bits (c.word 5) 15 13 != 0 || bits (c.word 5) 31 26 != 0 ||
    (toPeer && decide (15 < dest)) || bits (c.word 7) 31 5 != 0 || bits (c.word 7) 1 0 == 3 || bits (c.word 7) 3 2 == 3 ||
    (wait != 0 && decide (wait < 7056000)) || bits (c.word 10) 31 7 != 0 || decide (100 < head)
  [(!s.stopped (subKey c.num), stNotStopped), (bad, stBadField)]

def execFwdConfig (c : Cmd) (s : State) : Outcome State Fault Refusal :=
  .next (runCmd s 0x0D10 c 1 1 (subOk c.num) true fun s =>
    let w := c.word 4
    let kind := bits w 1 0
    let toPeer := bit w 5
    let src := c.word 6
    let dest := bits (c.word 5) 12 0
    let hold := (c.word 8).toNat
    let wait := (c.word 9).toNat
    let head := bits (c.word 10) 6 0
    checked s 0x0D10 c (s.fwdConfigChecks c) fun s =>
      let g : SubCfg :=
        { kind := kind, indep := bit w 2, suspend := bit w 3, evt := bit w 4, toPeer := toPeer, prio := bits w 11 8, destIdx := bits w 14 12,
          dest := dest, link := bits (c.word 5) 25 16, source := src, maxS := bits (c.word 7) 1 0, maxT := bits (c.word 7) 3 2,
          pause := bit (c.word 7) 4, upHold := if hold = 0 then 141120000 else hold, keyWait := if wait = 0 then 70560000 else wait,
          headroom := head }
      finish (bumpGen (s.setSubCfg c.num g) (subKey c.num)) 0x0D10 c stOk)

/-- CUR_Q and the target of a subscription. -/
def State.subPoints (s : State) (n : Nat) : Nat :=
  let x := s.sub n
  x.cur.getD 0 + x.target.getD 0 * 16

/-- Checks of 0x0D11 in their order (R60). -/
def State.fwdCeilingChecks (s : State) (c : Cmd) : List (Bool × Status) :=
  let n := c.num
  let w := c.word 4
  let bad := bits w 31 5 != 0 || bits w 1 0 == 3 || bits w 3 2 == 3
  [(!(s.stopped (subKey n) || s.isRunning (subKey n)), stWrongState), (bad, stBadField)]

def execFwdCeiling (c : Cmd) (s : State) : Outcome State Fault Refusal :=
  .next (runCmd s 0x0D11 c 1 1 (subOk c.num) true fun s =>
    let n := c.num
    let w := c.word 4
    checked s 0x0D11 c (s.fwdCeilingChecks c) fun s =>
      let g := { s.subCfg n with maxS := bits w 1 0, maxT := bits w 3 2, pause := bit w 4 }
      let s := s.setSubCfg n g
      let s := if s.isRunning (subKey n) then (if g.toPeer then peerTarget s n else recompute s g.dest 2) else s
      complete s 0x0D11 c stOk (low (s.subPoints n)) 0 0 0)

/-- Checks of 0x0D12 in their order (R60). -/
def State.fwdKeyreqChecks (s : State) (c : Cmd) : List (Bool × Status) :=
  [(!s.isRunning (subKey c.num), stWrongState), (bits (c.word 4) 31 3 != 0, stBadField)]

def execFwdKeyreq (c : Cmd) (s : State) : Outcome State Fault Refusal :=
  .next (runCmd s 0x0D12 c 1 1 (subOk c.num) true fun s =>
    let m := bits (c.word 4) 2 0
    checked s 0x0D12 c (s.fwdKeyreqChecks c) fun s =>
      finish (if m = 0 then s else askSource s c.num m 3) 0x0D12 c stOk)

def execFwdStats (c : Cmd) (s : State) : Outcome State Fault Refusal :=
  .next (runCmd s 0x0D13 c 1 1 (subOk c.num) true fun s =>
    let x := s.sub c.num
    complete s 0x0D13 c stOk (low (s.subPoints c.num + if x.suspended then 256 else 0)) (low x.clones) (low (kbits (recent s.now x.sent)))
      (low x.changes))

/-! ## Registers (R366) -/

def State.dmbStat (s : State) : Word :=
  low ((s.objs.filter fun e => e.1 / 2 ^ 32 == 0x0D && e.2.st == .running).length + s.hall.step * 2 ^ 16)

def State.subStat (s : State) (n : Nat) : Word :=
  let x := s.sub n
  let g := s.subCfg n
  let st := (s.obj (subKey n)).st
  if st = .stopped then 0
  else
    let f := fun (b : Bool) (i : Nat) => if b then 2 ^ i else 0
    let lowered := match s.ladderT g with | some t => decide (t < g.maxT) | none => false
    low (objStateNum st * 2 ^ 30 + x.cur.getD 0 * 2 ^ 26 + x.target.getD 0 * 2 ^ 22 + g.maxS * 2 ^ 20 + s.ceilT g * 2 ^ 18 +
      f g.pause 17 + f x.suspended 16 + f (s.awaits n != .nothing) 15 + f (s.held n) 14 + f lowered 13 + g.dest)

def State.subRate (s : State) (n : Nat) : Word := low (kbits (recent s.now (s.sub n).sent))

end Sys2Proof.Machine
end

