-- ==== Sys2Proof/Machine/Flags.lean ====
section
/-!
DEFINITION. Accumulator results with Z, N and OV, the scaler of the moves, loop ends, cycles and stalls, engine
faults (R195-R199, R202-R205, R208, R218).
-/
namespace Sys2Proof.Machine

/-! ## Accumulators (R195, R196, R208) -/

/-- An exact result put into an accumulator: modulo 2^56, with OV set when it wraps. -/
def EngRun.putAcc (x : EngRun) (a : Nat) (v : Int) : EngRun :=
  { x with acc := tset 0 x.acc (a % 4) (BitVec.ofInt 56 v), ov := x.ov || decide (v < -2 ^ 55) || decide (2 ^ 55 ≤ v) }

/-- Z and N from an accumulator. -/
def EngRun.zn (x : EngRun) (a : Nat) : EngRun := { x with z := x.getAcc a == 0, n := (x.getAcc a).msb }

/-- The result of an accumulator ALU instruction: Z and N follow the 56-bit result. -/
def EngRun.alu (x : EngRun) (a : Nat) (v : Int) : EngRun := (x.putAcc a v).zn a

/-- The exact product of two words in Q9.47. -/
def product (a b : BitVec 24) : Int := 2 * (a.toInt * b.toInt)

/-! ## The scaler (R197-R199) -/

/-- v >> k, truncating toward minus infinity. -/
def asr (v : Int) (k : Nat) : Int := v.fdiv (2 ^ k)

def fits24 (v : Int) : Bool := decide (-8388608 ≤ v) && decide (v ≤ 8388607)

/-- The smallest shift from 0 to 8 at which an accumulator fits in 24 bits. -/
def expOf (a : BitVec 56) : Nat := ((List.range 8).find? fun e => fits24 (asr a.toInt (24 + e))).getD 8

/-- Right shift that a move applies: 24 + s. -/
def EngRun.moveShift (x : EngRun) : Nat :=
  match x.scale with
  | 0 => 24 | 1 => 25 | 2 => 23 | _ => 24 + x.exp

/-- A word moved out of an accumulator: saturated, with OV and, in block-floating mode, NEXP. -/
def EngRun.moveOut (x : EngRun) (a : Nat) : BitVec 24 × EngRun :=
  let v := asr (x.getAcc a).toInt x.moveShift
  let x := if x.scale = 3 then { x with nexp := Nat.max x.nexp (expOf (x.getAcc a)) } else x
  if fits24 v then (BitVec.ofInt 24 v, x)
  else (if v < 0 then 0x800000 else 0x7FFFFF, { x with ov := true })

/-- A saturated word (R207: ADDW, SUBW). -/
def satWord (v : Int) : BitVec 24 :=
  if v < -8388608 then 0x800000 else if 8388607 < v then 0x7FFFFF else BitVec.ofInt 24 v

/-! ## Loop ends (R203, R204) -/

/-- The instruction after the one at pc, with the loop stack that it leaves. DEDUCED, log entry 87. -/
def loopNext (pc : Nat) : List LoopEnt → Nat × List LoopEnt
  | [] => ((pc + 1) % 8192, [])
  | l :: r =>
    if l.stop = pc then
      if 1 < l.count then (l.start, { l with count := l.count - 1 } :: r) else loopNext pc r
    else ((pc + 1) % 8192, l :: r)

/-- Entries that a taken branch to t leaves on the loop stack (R203). -/
def loopLeave (t : Nat) : List LoopEnt → List LoopEnt
  | [] => []
  | l :: r => if t < l.start || l.stop < t then loopLeave t r else l :: r

/-- The instruction at pc is fetched as the end of the innermost loop. -/
def EngRun.atLoopEnd (x : EngRun) : Bool :=
  match x.loops with
  | l :: _ => l.stop == x.pc
  | [] => false

/-! ## Cycles and stalls (R200, R202, R205) -/

/-- What an instruction costs and touches. -/
structure Cost where
  slots  : Nat := 0
  /-- accumulator that a MOV or MOVW reads -/
  moved  : Option Nat := none
  /-- pointer registers used for addresses -/
  used   : List (Nat × Nat) := []
  wrote  : Wrote := {}
  /-- BR taken, CALL, RET or BRKLP -/
  branch : Bool := false
  deriving DecidableEq, Repr

/-- The mover waits for slots of the engine's data memory: for its first move, or for an ENG_WRITE or ENG_READ of it
that is in flight and may start (R202, R214). DEDUCED, log entry 88. -/
def State.movingData (s : State) (e : Nat) : Bool :=
  (match (s.eng e).moves with
    | m :: _ => m.src == 0 || m.dst == 0
    | [] => false) ||
  s.porch.flights.any fun f => (f.op == 0x0913 || f.op == 0x0914) && !f.started && f.c.num == e && !bit (f.c.word 6) 0 &&
    mayStart s f.op f.c

/-- CK_DSP cycles of a run of ct at the present point of VDD_WEST; the crossing of the clocks leaves one cycle
open (R11, R513). -/
def dspCycles (s : State) (ct : Nat) : Nat × State :=
  if ct = 0 then (0, s)
  else
  let (k, s) := s.fresh
  let mhz := match (tget ({} : Rail) s.pwr.rails 0).freq with | 0 => 1000 | 1 => 800 | 2 => 600 | _ => 400
  (ct * mhz * 100 / 7056 + Config.freeNat k % 2, s)

/-- Count what has passed of a WAIT, in PAR_ENGj_WAITS, or of a stall without a fixed length (R205, R219). -/
def settle (s : State) (e : Nat) : State :=
  match (s.engRun e).since with
  | none => s
  | some t =>
    let (n, s) := dspCycles s (s.cyc - t)
    let r := { s.engRun e with since := some s.cyc }
    if r.mode = .waiting then
      let s := s.setRun e { r with waits := r.waits + n }
      if n = 0 then s else s.bump (engA e 0x14) n
    else
      let s := s.setRun e { r with stalls := r.stalls + n, cycles := r.cycles + n }
      if n = 0 then s else s.bump (engA e 0x10) n

/-- Stalls of fixed length of an instruction, whether the mover takes a slot by force, and the cycles in a row in which it
has then found none: a stall cycle leaves it one, and the instruction's own cycles do when a slot of them is free.
DEDUCED, log entry 88. -/
def EngRun.stallsOf (r : EngRun) (moving : Bool) (c : Cost) : Nat × Bool × Nat :=
  let a := match c.moved with
    | some k => if r.wrote.acc.contains k then 1 else 0
    | none => 0
  let b := match r.wrote.ptr with
    | some p => if c.used.contains p then 1 else 0
    | none => 0
  let d := if 3 ≤ c.slots then 1 else 0
  let f := if c.branch then 2 else 0
  let full := moving && c.slots ≠ 0 && c.slots % 2 = 0
  let free := a + b ≠ 0 || r.since.isSome
  let steal := full && !free && 16 ≤ r.busy
  (a + b + d + f, steal, if !full then 0 else if steal || free then c.slots / 2 else r.busy + c.slots / 2)

/-- Count an instruction: cycles, stalls, a slot taken by the mover, and what it wrote. DEDUCED, log entry 88. -/
def account (s : State) (e : Nat) (c : Cost) : State :=
  let s := settle s e
  let r := s.engRun e
  let (fixed, steal, busy) := r.stallsOf (s.movingData e) c
  let n := fixed + (if steal then 1 else 0)
  let s := s.setRun e { r with since := none, busy := busy, wrote := c.wrote, cycles := r.cycles + 1 + n,
                               stalls := r.stalls + n, steals := r.steals + (if steal then 1 else 0) }
  let s := if n = 0 then s else s.bump (engA e 0x10) n
  if steal then s.bump (parA (e / 8) 4) 1 else s

/-! ## Faults and the end of an instruction -/

/-- The engine faults with a cause (R216, R218). -/
def engFault (s : State) (e cause : Nat) : State :=
  let s := settle s e
  let x := s.eng e
  let s := s.setEng e { x with run := { x.run with mode := .faulted, since := none },
                               fault := low (cause * 2 ^ 24 + x.run.pc) }
  let s := pulse (event s 0x0911 (low e) (low cause) (low x.run.pc) (low x.run.loops.length) 0) (256 + e)
  if cause = 4 then pulse s (480 + e / 8) else s

/-- Store the registers an instruction leaves, count it, and go on to the next instruction. -/
def goOn (s : State) (e : Nat) (x : EngRun) (c : Cost) : State :=
  let (pc, loops) := loopNext x.pc x.loops
  account (s.setRun e { x with pc := pc, loops := loops }) e c

/-- Store the registers, count, and go to a named instruction with a named loop stack. -/
def goTo (s : State) (e : Nat) (x : EngRun) (c : Cost) (pc : Nat) (loops : List LoopEnt) : State :=
  account (s.setRun e { x with pc := pc, loops := loops }) e c

/-- The head of the move queue is writing the program word at pc (R205). -/
def Engine.fetchHeld (x : Engine) : Bool :=
  match x.moves with
  | m :: _ => m.dst == 3 && decide (m.dstA ≤ x.run.pc) && decide (x.run.pc < m.dstA + m.len)
  | [] => false

/-- The engine executes: reserved, RUNNING or DRAINING, powered and clocked, neither waiting, halted nor faulted. -/
def State.engExecutes (s : State) (e : Nat) : Bool :=
  s.running && s.dom (e / 8) && (s.eng e).reserved && s.working (engKey e) && (s.eng e).run.mode == .executing

/-- A stall without a fixed length begins. -/
def stallNow (s : State) (e : Nat) : State :=
  let r := s.engRun e
  if r.since.isSome then s else s.setRun e { r with since := some s.cyc }

/-- Run the instruction at the engine's PC if it has the opcode; a program word that a move is writing stalls the
fetch. -/
def engOp (s : State) (e op : Nat) (go : EngRun → Word → State) : State :=
  if s.engExecutes e then
    let r := s.engRun e
    let w := s.progWord e r.pc
    if (s.eng e).fetchHeld then stallNow s e
    else if fOp w = op then go r w
    else s
  else s

/-- An instruction that R204 bars from the end of a loop. -/
def engCtl (s : State) (e op : Nat) (go : EngRun → Word → State) : State :=
  engOp s e op fun r w => if r.atLoopEnd then engFault s e 6 else go r w

end Sys2Proof.Machine
end

