-- ==== Sys2Proof/Machine/Engine.lean ====
section
/-!
DEFINITION. Parlour engines: the DSP instruction set, event flags, mailboxes, the block mover, and the engine
commands (R188-R219).
-/
namespace Sys2Proof.Machine

open Host

/-! ## Events of an engine (R211, R216, R218) -/

/-- ENG_HALTED: 0 HALT, 1 STOP time-out, 2 ABORT. DEDUCED, log entry 90. -/
def engHalted (s : State) (e cause : Nat) : State :=
  let s := settle s e
  let x := s.eng e
  let s := s.setRun e { x.run with mode := .halted, since := none }
  pulse (event s 0x0910 (low e) (low x.run.pc) (low cause) 0 0) (256 + e)

/-- Set event flags. -/
def setFlags (s : State) (e : Nat) (m : BitVec 24) : State :=
  let x := s.eng e
  s.setEng e { x with flags := x.flags ||| m }

/-- DEDUCED, log entry 92. -/
def flagMask (k : Nat) : BitVec 24 := BitVec.ofNat 24 (2 ^ k)

/-- Hardware sets EF0 of every reserved engine at a block start (R210). -/
def blockFlags (s : State) : State :=
  { s with par := { s.par with engines := s.par.engines.map fun (x : Nat × Engine) =>
      if x.2.reserved then (x.1, { x.2 with flags := x.2.flags ||| 1 }) else x } }

/-! ## The block mover (R212, R213) -/

/-- Words that a space of a descriptor holds. -/
def State.spaceWords (s : State) (e sp : Nat) : Nat :=
  match sp with
  | 0 => 16384 | 1 => 16384
  | _ => (s.engCfg e).winPages * 1024

/-- PA of a word of the main-memory window. -/
def State.windowPa (s : State) (e a : Nat) : Nat := (s.engCfg e).winBase * 4096 + 4 * a

/-- The move stays in its spaces; program memory takes only the overlay range. -/
def State.moveOk (s : State) (e : Nat) (m : Move) : Bool :=
  let g := s.engCfg e
  decide (1 ≤ m.len) && decide (m.len ≤ 16384) && m.src != 3 && decide (m.srcA + m.len ≤ s.spaceWords e m.src) &&
  (if m.dst = 3 then decide (g.ovlStart ≤ m.dstA) && decide (m.dstA + m.len ≤ g.ovlEnd + 1)
   else decide (m.dstA + m.len ≤ s.spaceWords e m.dst)) &&
  !(m.src == 2 && s.poisoned (s.windowPa e m.srcA) (4 * m.len))

def State.readSpace (s : State) (e sp a : Nat) : Word :=
  match sp with
  | 0 => s.dataWord e a
  | 1 => s.sharedWord e a
  | _ => bytesWord (s.memBytes (s.windowPa e a) 4)

def writeSpace (s : State) (e sp a : Nat) (v : Word) : State :=
  match sp with
  | 0 => s.setData e a v
  | 1 => s.setShared e a v
  | 2 => s.writeMem (s.windowPa e a) (wordBytes v)
  | _ => s.setProg e a v

/-- One burst of 64 bytes, from offset k. DEDUCED, log entry 89. -/
def moveBurst (s : State) (e : Nat) (m : Move) (k : Nat) : State :=
  let n := Nat.min 16 (m.len - k)
  let ws := (List.range n).map fun i => s.readSpace e m.src (m.srcA + k + i)
  ws.zipIdx.foldl (fun s w => writeSpace s e m.dst (m.dstA + k + w.2) w.1) s

/-- A flag that a move or an ENG_WRITE may set. DEDUCED, log entry 92. -/
def moveFlag (k : Nat) : Bool := k == 2 || (decide (8 ≤ k) && decide (k ≤ 23))

/-- The mover serves the next burst of an engine's first move: a move that reaches outside its space faults the engine
instead, and its later ones are discarded; the last burst ends the move and sets its flag (R212, R213). -/
def serveBurst (s : State) (e : Nat) : State :=
  let x := s.eng e
  match x.moves with
  | [] => s
  | m :: r =>
    if x.served = 0 && !s.moveOk e m then engFault (s.setEng e { x with moves := [] }) e 4
    else
      let s := (moveBurst s e m (16 * x.served)).bump64 (parA (e / 8) 8) (4 * Nat.min 16 (m.len - 16 * x.served))
      if 16 * (x.served + 1) < m.len then s.setEng e { s.eng e with served := x.served + 1 }
      else
        let s := s.setEng e { s.eng e with moves := r, served := 0 }
        if m.flagEn && moveFlag m.flag then setFlags s e (flagMask m.flag) else s

def State.setTurn (s : State) (p k : Nat) : State := { s with par := { s.par with turns := tset 0 s.par.turns p k } }

/-- The requester of parlour p whose burst comes next, from the turn on: an engine with a move, or the host (8) when it
copies. -/
def State.nextBurst (s : State) (p : Nat) (host : Bool) : Option Nat :=
  ((List.range 9).map fun i => (tget 0 s.par.turns p + i) % 9).find? fun k =>
    if k = 8 then host else !(s.eng (8 * p + k)).moves.isEmpty

/-- Bursts of the parlour's engines in turn until `done` holds, at most n of them (R212). -/
def serveTurns (p : Nat) (done : State → Bool) : Nat → State → State
  | 0, s => s
  | n + 1, s =>
    if done s then s
    else match s.nextBurst p false with
      | none => s
      | some k => serveTurns p done n (serveBurst (s.setTurn p ((k + 1) % 9)) (8 * p + k))

/-- Bursts that the moves of a parlour still need. -/
def State.burstsLeft (s : State) (p : Nat) : Nat :=
  (List.range 8).foldl (fun n k =>
    let x := s.eng (8 * p + k)
    (x.moves.foldl (fun n m => n + (m.len + 15) / 16 + 1) n) - x.served) 0

/-- The mover goes on until the engine has at most n moves queued. -/
def serveUntil (s : State) (e n : Nat) : State :=
  serveTurns (e / 8) (fun s => decide ((s.eng e).moves.length ≤ n)) (s.burstsLeft (e / 8)) s

/-- The move at the head of the engine's queue ends; the other engines of its parlour have had their bursts in turn. -/
def moveEnds (s : State) (e : Nat) : State := serveUntil s e ((s.eng e).moves.length - 1)

/-- Every queued move ends. -/
def movesEnd (s : State) (e : Nat) : State := serveUntil s e 0

/-- The host's copy takes n bursts in turn with the moves of the parlour's engines (R212, R214). -/
def hostTurns (p : Nat) : Nat → State → State
  | 0, s => s
  | n + 1, s =>
    let s := serveTurns p (fun s => s.nextBurst p true == some 8) 8 s
    hostTurns p n (s.setTurn p 0)

/-- MOVE_COMPLETE: the mover has served the descriptor at the head of the engine's queue. -/
def execMoveComplete (e : Fin 224) (s : State) : Outcome State Fault Refusal :=
  .next (if s.running && s.dom (e / 8) then moveEnds s e else s)

/-! ## The end of an engine's drain (R215, R216) -/

/-- The engine reaches STOPPED; its queued moves finish before. -/
def engStopped (s : State) (e cause : Nat) : State :=
  let s := movesEnd s e
  let s := if (s.eng e).run.mode = .halted then s else engHalted s e cause
  reachStopped s 9 e

/-- The move under way finishes its current burst, which the mover's progress leaves free; the queue is discarded (R215).
DEDUCED, log entry 89. -/
def movesAbort (s : State) (e : Nat) : State :=
  let x := s.eng e
  match x.moves with
  | [] => s
  | m :: _ =>
    let (k, s) := s.fresh
    let n := 1 + Config.freeNat k % ((m.len + 15) / 16 - x.served)
    let s := (List.range n).foldl (fun s _ => if (s.eng e).moves = x.moves then serveBurst s e else s) s
    s.setEng e { s.eng e with moves := [], served := 0 }

/-- What STOP does: EF1 and a drain; at once for a halted or faulted engine; an ABORT halts it, discards its queued
moves and lets the one under way finish its burst. -/
def engDrain (s : State) (e : Nat) (ab : Bool) : State :=
  let x := s.eng e
  let s := setFlags s e 2
  if ab then
    let s := movesAbort s e
    let s := if x.run.mode = .halted || x.run.mode = .faulted then s else engHalted s e 2
    reachStopped s 9 e
  else
    if x.run.mode = .halted || x.run.mode = .faulted then reachStopped (movesEnd s e) 9 e else s

/-- 70,560 ct after its STOP the engine reaches STOPPED without a HALT (R215). -/
def execEngineStopTimeout (e : Fin 224) (s : State) : Outcome State Fault Refusal :=
  .next (if s.draining (engKey e) && decide ((s.obj (engKey e)).since + 70560 ≤ s.cyc) then engStopped s e 1 else s)

/-! ## System instructions: opcodes 0x00 and 0x01 -/

def execEngineNop (e : Fin 224) (s : State) : Outcome State Fault Refusal :=
  .next (engOp s e 0x00 fun r _ => goOn s e r {})

/-- HALT: the engine stays RUNNING and halted; a DRAINING one reaches STOPPED. DEDUCED, log entry 90. -/
def execHalt (e : Fin 224) (s : State) : Outcome State Fault Refusal :=
  .next (engCtl s e 0x01 fun r _ =>
    let s := engHalted (account (s.setRun e r) e {}) e 0
    if s.draining (engKey e) then reachStopped (movesEnd s e) 9 e else s)

/-! ## Multiply-accumulate: opcodes 0x02 to 0x07 (R195, R200) -/

/-- The two operand pairs of format M: words, the registers after the modes, and the cost. DEDUCED, log entry 85. -/
def pairOperands (s : State) (e : Nat) (r : EngRun) (w : Word) :
    (BitVec 24 × BitVec 24) × (BitVec 24 × BitVec 24) × EngRun × Cost :=
  let a0 := r.access (fPx w) (fMx w)
  let a1 := r.after (fPx w) a0
  let r' := r.modify (fPx w) (fMx w)
  let b0 := r'.access (fPy w) (fMy w)
  let b1 := r'.after (fPy w) b0
  ((s.read24 e a0, s.read24 e a1), (s.read24 e b0, s.read24 e b1), r'.modify (fPy w) (fMy w),
    { slots := pairSlots a0 a1 + pairSlots b0 b1, used := ptrUse (fPx w) (fMx w) ++ ptrUse (fPy w) (fMy w),
      wrote := { acc := [fPair w, fPair w + 1] } })

/-- ACCa and ACCb take a function of what they hold and of the products of the pairs. -/
def dualMac (s : State) (e : Nat) (r : EngRun) (w : Word) (f : Int → Int → Int) : State :=
  let (x, y, r, c) := pairOperands s e r w
  let a := fPair w
  let r := r.putAcc a (f (r.getAcc a).toInt (product x.1 y.1))
  let r := r.putAcc (a + 1) (f (r.getAcc (a + 1)).toInt (product x.2 y.2))
  goOn s e r c

def execDmac (e : Fin 224) (s : State) : Outcome State Fault Refusal :=
  .next (engOp s e 0x02 fun r w => dualMac s e r w fun a p => a + p)

def execDmpy (e : Fin 224) (s : State) : Outcome State Fault Refusal :=
  .next (engOp s e 0x03 fun r w => dualMac s e r w fun _ p => p)

def execDmsu (e : Fin 224) (s : State) : Outcome State Fault Refusal :=
  .next (engOp s e 0x04 fun r w => dualMac s e r w fun a p => a - p)

def execMac (e : Fin 224) (s : State) : Outcome State Fault Refusal :=
  .next (engOp s e 0x05 fun r w =>
    goOn s e (r.putAcc (fAccA w) ((r.getAcc (fAccA w)).toInt + product (r.getW (fWi w)) (r.getW (fWj w))))
      { wrote := { acc := [fAccA w] } })

def execMacm (e : Fin 224) (s : State) : Outcome State Fault Refusal :=
  .next (engOp s e 0x06 fun r w =>
    let m := s.read24 e (r.access (fPt w) (fMode w))
    goOn s e ((r.modify (fPt w) (fMode w)).putAcc (fAccA w) ((r.getAcc (fAccA w)).toInt + product (r.getW (fWi w)) m))
      { slots := 1, used := ptrUse (fPt w) (fMode w), wrote := { acc := [fAccA w] } })

def execMpy (e : Fin 224) (s : State) : Outcome State Fault Refusal :=
  .next (engOp s e 0x07 fun r w =>
    goOn s e (r.putAcc (fAccA w) (product (r.getW (fWi w)) (r.getW (fWj w)))) { wrote := { acc := [fAccA w] } })

/-! ## Accumulator ALU: opcodes 0x08 to 0x12 (R196, R199, R208) -/

/-- ACCa takes a function of ACCa and ACCb; Z and N follow it. -/
def accAlu (s : State) (e : Nat) (r : EngRun) (w : Word) (f : Int → Int → Int) : State :=
  goOn s e (r.alu (fAccA w) (f (r.getAcc (fAccA w)).toInt (r.getAcc (fAccB w)).toInt)) { wrote := { acc := [fAccA w] } }

def execAdd (e : Fin 224) (s : State) : Outcome State Fault Refusal :=
  .next (engOp s e 0x08 fun r w => accAlu s e r w fun a b => a + b)

def execSub (e : Fin 224) (s : State) : Outcome State Fault Refusal :=
  .next (engOp s e 0x09 fun r w => accAlu s e r w fun a b => a - b)

def execNeg (e : Fin 224) (s : State) : Outcome State Fault Refusal :=
  .next (engOp s e 0x0A fun r w => accAlu s e r w fun a _ => -a)

def execAbs (e : Fin 224) (s : State) : Outcome State Fault Refusal :=
  .next (engOp s e 0x0B fun r w => accAlu s e r w fun a _ => if a < 0 then -a else a)

def execShl (e : Fin 224) (s : State) : Outcome State Fault Refusal :=
  .next (engOp s e 0x0C fun r w => accAlu s e r w fun a _ => a * 2 ^ (fImm w % 32))

def execShr (e : Fin 224) (s : State) : Outcome State Fault Refusal :=
  .next (engOp s e 0x0D fun r w => accAlu s e r w fun a _ => asr a (fImm w % 32))

def execMax (e : Fin 224) (s : State) : Outcome State Fault Refusal :=
  .next (engOp s e 0x0E fun r w => accAlu s e r w fun a b => if a < b then b else a)

def execMin (e : Fin 224) (s : State) : Outcome State Fault Refusal :=
  .next (engOp s e 0x0F fun r w => accAlu s e r w fun a b => if b < a then b else a)

/-- CLR zeroes each accumulator named; Z and N stay (R208). -/
def execClr (e : Fin 224) (s : State) : Outcome State Fault Refusal :=
  .next (engOp s e 0x10 fun r w =>
    let l := (List.range 4).filter fun a => (fImm w).testBit a
    goOn s e (l.foldl (fun r a => r.putAcc a 0) r) { wrote := { acc := l } })

/-- LDK; a shift above 39 has no stated result. DEDUCED, log entry 86. -/
def execLdk (e : Fin 224) (s : State) : Outcome State Fault Refusal :=
  .next (engOp s e 0x11 fun r w =>
    if fShift w ≤ 39 then
      goOn s e (r.alu (fAccA w) (fImm16 w * 2 ^ fShift w)) { wrote := { acc := [fAccA w] } }
    else
      let (k, s) := s.fresh
      goOn s e (r.alu (fAccA w) (BitVec.ofNat 56 (Config.freeNat k)).toInt) { wrote := { acc := [fAccA w] } })

def execExpd (e : Fin 224) (s : State) : Outcome State Fault Refusal :=
  .next (engOp s e 0x12 fun r w =>
    goOn s e (r.setW (fWi w) (BitVec.ofNat 24 (expOf (r.getAcc (fAccA w))))) {})

/-! ## Word ALU: opcodes 0x13 to 0x19 -/

/-- Wi takes a function of Wi and Wj. -/
def wordAlu (s : State) (e : Nat) (r : EngRun) (w : Word) (f : BitVec 24 → BitVec 24 → BitVec 24) : State :=
  goOn s e (r.setW (fWi w) (f (r.getW (fWi w)) (r.getW (fWj w)))) {}

def execAddw (e : Fin 224) (s : State) : Outcome State Fault Refusal :=
  .next (engOp s e 0x13 fun r w => wordAlu s e r w fun a b => satWord (a.toInt + b.toInt))

def execSubw (e : Fin 224) (s : State) : Outcome State Fault Refusal :=
  .next (engOp s e 0x14 fun r w => wordAlu s e r w fun a b => satWord (a.toInt - b.toInt))

def execAnd (e : Fin 224) (s : State) : Outcome State Fault Refusal :=
  .next (engOp s e 0x15 fun r w => wordAlu s e r w fun a b => a &&& b)

def execOr (e : Fin 224) (s : State) : Outcome State Fault Refusal :=
  .next (engOp s e 0x16 fun r w => wordAlu s e r w fun a b => a ||| b)

def execXor (e : Fin 224) (s : State) : Outcome State Fault Refusal :=
  .next (engOp s e 0x17 fun r w => wordAlu s e r w fun a b => a ^^^ b)

/-- A word shifted left by a positive count, or right with truncation by a negative one. -/
def shiftWord (a : BitVec 24) (n : Int) : BitVec 24 :=
  if 0 ≤ n then a <<< n.toNat else BitVec.ofInt 24 (asr a.toInt (-n).toNat)

def execShw (e : Fin 224) (s : State) : Outcome State Fault Refusal :=
  .next (engOp s e 0x18 fun r w => wordAlu s e r w fun a _ => shiftWord a (sbits w 5 0))

def execLdw (e : Fin 224) (s : State) : Outcome State Fault Refusal :=
  .next (engOp s e 0x19 fun r w => goOn s e (r.setW (fIdx w) (BitVec.ofInt 24 (fImm23 w))) {})

/-! ## Loads, stores and moves: opcodes 0x1A to 0x20 (R197-R201) -/

def execLd (e : Fin 224) (s : State) : Outcome State Fault Refusal :=
  .next (engOp s e 0x1A fun r w =>
    let v := s.read24 e (r.access (fPt w) (fMode w))
    goOn s e ((r.modify (fPt w) (fMode w)).setW (fWi w) v) { slots := 1, used := ptrUse (fPt w) (fMode w) })

/-- LDP into an even register; an odd one has no stated result, and both words are open. -/
def execLdp (e : Fin 224) (s : State) : Outcome State Fault Refusal :=
  .next (engOp s e 0x1B fun r w =>
    let a := r.access (fPt w) (fMode w)
    let b := r.after (fPt w) a
    let c : Cost := { slots := pairSlots a b, used := ptrUse (fPt w) (fMode w) }
    let r := r.modify (fPt w) (fMode w)
    if fWi w % 2 = 0 then goOn s e ((r.setW (fWi w) (s.read24 e a)).setW (fWi w + 1) (s.read24 e b)) c
    else
      let (k, s) := s.fresh
      let (l, s) := s.fresh
      goOn s e ((r.setW (fWi w) (BitVec.ofNat 24 (Config.freeNat k))).setW (fWi w + 1) (BitVec.ofNat 24 (Config.freeNat l))) c)

def execSt (e : Fin 224) (s : State) : Outcome State Fault Refusal :=
  .next (engOp s e 0x1C fun r w =>
    let a := r.access (fPt w) (fMode w)
    goOn (s.write24 e a (r.getW (fWi w))) e (r.modify (fPt w) (fMode w)) { slots := 1, used := ptrUse (fPt w) (fMode w) })

/-- STP from an even register; from an odd one the stored words are open. -/
def execStp (e : Fin 224) (s : State) : Outcome State Fault Refusal :=
  .next (engOp s e 0x1D fun r w =>
    let a := r.access (fPt w) (fMode w)
    let b := r.after (fPt w) a
    let c : Cost := { slots := pairSlots a b, used := ptrUse (fPt w) (fMode w) }
    if fWi w % 2 = 0 then
      goOn ((s.write24 e a (r.getW (fWi w))).write24 e b (r.getW (fWi w + 1))) e (r.modify (fPt w) (fMode w)) c
    else
      let (k, s) := s.fresh
      let (l, s) := s.fresh
      goOn ((s.write24 e a (BitVec.ofNat 24 (Config.freeNat k))).write24 e b (BitVec.ofNat 24 (Config.freeNat l))) e
        (r.modify (fPt w) (fMode w)) c)

def execMov (e : Fin 224) (s : State) : Outcome State Fault Refusal :=
  .next (engOp s e 0x1E fun r w =>
    let a := r.access (fPt w) (fMode w)
    let (v, r) := r.moveOut (fAccA w)
    goOn (s.write24 e a v) e (r.modify (fPt w) (fMode w))
      { slots := 1, moved := some (fAccA w), used := ptrUse (fPt w) (fMode w) })

def execMovw (e : Fin 224) (s : State) : Outcome State Fault Refusal :=
  .next (engOp s e 0x1F fun r w =>
    let (v, r) := r.moveOut (fAccA w)
    goOn s e (r.setW (fWi w) v) { moved := some (fAccA w) })

def execMova (e : Fin 224) (s : State) : Outcome State Fault Refusal :=
  .next (engOp s e 0x20 fun r w =>
    goOn s e (r.putAcc (fAccA w) ((r.getW (fWi w)).toInt * 2 ^ 24)) { wrote := { acc := [fAccA w] } })

/-! ## Pointer registers: opcodes 0x21 and 0x22 -/

/-- Write a pointer register by kind. Kind 3 names none. -/
def EngRun.setPtr (x : EngRun) (kind n : Nat) (v : Word) : EngRun :=
  match kind with
  | 0 => x.setPt n (v.setWidth 14)
  | 1 => x.setMd n (v.setWidth 14)
  | 2 => x.setCl n (v.setWidth 15)
  | _ => x

def execSeta (e : Fin 224) (s : State) : Outcome State Fault Refusal :=
  .next (engOp s e 0x21 fun r w =>
    goOn s e (r.setPtr (bits w 22 21) (fIdx w) (low (bits w 14 0))) { wrote := { ptr := some (bits w 22 21, fIdx w) } })

/-- MOVR; reading kind 3 has no stated result. -/
def execMovr (e : Fin 224) (s : State) : Outcome State Fault Refusal :=
  .next (engOp s e 0x22 fun r w =>
    let kind := bits w 2 1
    let n := fWj w
    if bit w 0 then
      match kind with
      | 0 => goOn s e (r.setW (fWi w) ((r.getPt n).setWidth 24)) {}
      | 1 => goOn s e (r.setW (fWi w) ((r.getMd n).signExtend 24)) {}
      | 2 => goOn s e (r.setW (fWi w) ((r.getCl n).setWidth 24)) {}
      | _ =>
        let (k, s) := s.fresh
        goOn s e (r.setW (fWi w) (BitVec.ofNat 24 (Config.freeNat k))) {}
    else
      goOn s e (r.setPtr kind n ((r.getW (fWi w)).setWidth 32)) { wrote := { ptr := some (kind, n) } })

/-! ## Control flow: opcodes 0x23 to 0x28 (R203, R204) -/

/-- A branch is taken to t. -/
def branch (s : State) (e : Nat) (r : EngRun) (t : Nat) : State :=
  goTo s e r { branch := true } t (loopLeave t r.loops)

/-- BR; conditions above 5 have no stated outcome. DEDUCED, log entry 86. -/
def execBr (e : Fin 224) (s : State) : Outcome State Fault Refusal :=
  .next (engCtl s e 0x23 fun r w =>
    let (taken, s) : Bool × State := match fCond w with
      | 0 => (true, s)
      | 1 => (r.z, s)
      | 2 => (!r.z, s)
      | 3 => (r.n, s)
      | 4 => (!r.n, s)
      | 5 => (r.ov, s)
      | _ =>
        let (k, s) := s.fresh
        (Config.freeNat k % 2 == 1, s)
    if taken then branch s e r (fTarget w) else goOn s e r {})

def execCall (e : Fin 224) (s : State) : Outcome State Fault Refusal :=
  .next (engCtl s e 0x24 fun r w =>
    if 8 ≤ r.calls.length then engFault s e 3
    else branch s e { r with calls := (r.pc + 1) % 8192 :: r.calls } (fTarget w))

def execRet (e : Fin 224) (s : State) : Outcome State Fault Refusal :=
  .next (engCtl s e 0x25 fun r _ =>
    match r.calls with
    | [] => engFault s e 3
    | t :: l => goTo s e { r with calls := l } { branch := true } t r.loops)

def execRep (e : Fin 224) (s : State) : Outcome State Fault Refusal :=
  .next (engCtl s e 0x26 fun r w =>
    if 4 ≤ r.loops.length then engFault s e 2
    else
      let t := (r.pc + 1) % 8192
      goTo s e r {} t ({ start := t, stop := fTarget w, count := fCond w + 1 } :: r.loops))

/-- REPW; a count of 0 skips the body and leaves through its END. -/
def execRepw (e : Fin 224) (s : State) : Outcome State Fault Refusal :=
  .next (engCtl s e 0x27 fun r w =>
    if 4 ≤ r.loops.length then engFault s e 2
    else
      let t := (r.pc + 1) % 8192
      let n := (r.getW (fIdx w)).toNat % 65536
      if n = 0 then
        let (pc, l) := loopNext (fTarget w) r.loops
        goTo s e r {} pc l
      else goTo s e r {} t ({ start := t, stop := fTarget w, count := n } :: r.loops))

/-- BRKLP leaves the innermost loop behind its END; with no loop it faults on the loop stack. -/
def execBrklp (e : Fin 224) (s : State) : Outcome State Fault Refusal :=
  .next (engCtl s e 0x28 fun r _ =>
    match r.loops with
    | [] => engFault s e 2
    | l :: rest =>
      let (pc, ls) := loopNext l.stop rest
      goTo s e r { branch := true } pc ls)

/-! ## Scaling modes: opcodes 0x29 to 0x2B (R197, R199) -/

def execScale (e : Fin 224) (s : State) : Outcome State Fault Refusal :=
  .next (engOp s e 0x29 fun r w => goOn s e { r with scale := bits w 1 0 } {})

/-- SETEXP; a value above 8 has no stated result. -/
def execSetexp (e : Fin 224) (s : State) : Outcome State Fault Refusal :=
  .next (engOp s e 0x2A fun r w =>
    if bits w 3 0 ≤ 8 then goOn s e { r with exp := bits w 3 0 } {}
    else
      let (k, s) := s.fresh
      goOn s e { r with exp := Config.freeNat k % 9 } {})

def execBfnext (e : Fin 224) (s : State) : Outcome State Fault Refusal :=
  .next (engOp s e 0x2B fun r _ => goOn s e { r with exp := r.nexp, nexp := 0 } {})

/-! ## Event flags, moves and special registers: opcodes 0x2C to 0x31 (R209-R212) -/

/-- WAIT goes on at once if a named flag is set; else the engine waits. -/
def execWait (e : Fin 224) (s : State) : Outcome State Fault Refusal :=
  .next (engCtl s e 0x2C fun r w =>
    if (s.eng e).flags &&& fFlags w != 0 then goOn s e r {}
    else
      let s := settle s e
      s.setRun e { s.engRun e with mode := .waiting, mask := fFlags w, since := some s.cyc })

/-- One of the flags that a WAIT waits for is set: the engine goes on, its wait counted. -/
def execWaitRelease (e : Fin 224) (s : State) : Outcome State Fault Refusal :=
  let x := s.eng e
  if s.running && s.dom (e / 8) && x.reserved && s.working (engKey e) && x.run.mode == .waiting &&
      x.flags &&& x.run.mask != 0 then
    let s := settle s e
    .next (goOn s e { s.engRun e with mode := .executing, since := none } {})
  else .next s

/-- SIG to a reserved engine of the same parlour; EF4 to EF7 are never set. -/
def execSig (e : Fin 224) (s : State) : Outcome State Fault Refusal :=
  .next (engOp s e 0x2D fun r w =>
    let t := e / 8 * 8 + fIdx w
    let k := bits w 4 0
    let s := goOn s e r {}
    if (s.eng t).reserved && decide (k < 24) && !(decide (4 ≤ k) && decide (k ≤ 7)) then setFlags s t (flagMask k) else s)

def execClrf (e : Fin 224) (s : State) : Outcome State Fault Refusal :=
  .next (engOp s e 0x2E fun r w =>
    let s := goOn s e r {}
    s.setEng e { s.eng e with flags := (s.eng e).flags &&& ~~~ fFlags w })

/-- A descriptor from its four words (R212). -/
def moveOf (a b c d : BitVec 24) : Move :=
  let w : Word := a.setWidth 32
  { src := bits w 23 22, dst := bits w 21 20, flagEn := bit w 19, flag := bits w 17 13,
    srcA := b.toNat, dstA := c.toNat, len := d.toNat % 32768 }

/-- MOVB queues a descriptor, or stalls while four are queued. -/
def execMovb (e : Fin 224) (s : State) : Outcome State Fault Refusal :=
  .next (engOp s e 0x2F fun r w =>
    let a := r.access (fPt w) (fMode w)
    let b := r.after (fPt w) a
    let c := r.after (fPt w) b
    let d := r.after (fPt w) c
    if 4 ≤ (s.eng e).moves.length then stallNow s e
    else
      let m := moveOf (s.read24 e a) (s.read24 e b) (s.read24 e c) (s.read24 e d)
      let s := goOn s e (r.modify (fPt w) (fMode w))
        { slots := pairSlots a b + pairSlots c d, used := ptrUse (fPt w) (fMode w) }
      s.setEng e { s.eng e with moves := (s.eng e).moves ++ [m] })

/-- LDX; indices 11 to 15 name no register and have no stated value. -/
def execLdx (e : Fin 224) (s : State) : Outcome State Fault Refusal :=
  .next (engOp s e 0x30 fun r w =>
    let k := bits w 3 0
    let (v, s) : BitVec 24 × State :=
      if k < 4 then (tget 0 (s.eng e).mboxIn k, s)
      else if k < 8 then (0, s)
      else if k = 8 then (BitVec.ofNat 24 (s.now / 70560), s)
      else if k = 9 then (BitVec.ofNat 24 e, s)
      else if k = 10 then (BitVec.ofNat 24 r.cycles, s)
      else
        let (n, s) := s.fresh
        (BitVec.ofNat 24 (Config.freeNat n), s)
    goOn s e (r.setW (fIdx w) v) {})

/-- STX; a write of MBOX_OUT3 raises ENG_MAILBOX, at most once in 70,560 ct (R211). -/
def execStx (e : Fin 224) (s : State) : Outcome State Fault Refusal :=
  .next (engOp s e 0x31 fun r w =>
    let k := bits w 3 0
    let v := r.getW (fIdx w)
    let s := goOn s e r {}
    if 4 ≤ k && k < 8 then
      let s := s.setEng e { s.eng e with mboxOut := tset 0 (s.eng e).mboxOut (k - 4) v }
      if k = 7 then
        match s.limit (objKey 0x0912 e) 70560 1 0 with
        | (some (n, _), s) => pulse (event s 0x0912 (low e) (v.setWidth 32) (low n) 0 0) (256 + e)
        | (none, s) => pulse s (256 + e)
      else s
    else s)

/-- An opcode absent from the table faults with cause 1 (R206). -/
def execIllegalOpcode (e : Fin 224) (s : State) : Outcome State Fault Refusal :=
  .next (if s.engExecutes e then
    if (s.eng e).fetchHeld then stallNow s e
    else if 0x31 < fOp (s.progWord e (s.engRun e).pc) then engFault s e 1
    else s
  else s)

/-! ## Host registers of an engine (R210, R219) -/

/-- A write of PAR_ENGj_MBOX_INk; IN3 sets EF3. A pool engine takes none. -/
def writeMboxIn (s : State) (e k : Nat) (v : Word) : State :=
  let x := s.eng e
  if x.reserved && s.dom (e / 8) then
    let s := s.setEng e { x with mboxIn := tset 0 x.mboxIn k (v.setWidth 24) }
    if k = 3 then setFlags s e 8 else s
  else s

/-- A write of PAR_ENGj_EFLAGS sets flags 8 to 23 (W1S). -/
def writeEflags (s : State) (e : Nat) (v : Word) : State :=
  if (s.eng e).reserved && s.dom (e / 8) then setFlags s e (v.setWidth 24 &&& 0xFFFF00) else s

def execMailboxIn3Write (r : Requester) (e : Fin 224) (v : Word) (s : State) : Outcome State Fault Refusal :=
  .next (writeMboxIn (hostArrives s r) e 3 v)

def execEflagsWrite (r : Requester) (e : Fin 224) (v : Word) (s : State) : Outcome State Fault Refusal :=
  .next (writeEflags (hostArrives s r) e v)

/-- PAR_STAT of parlour p. -/
def State.parStat (s : State) (p : Nat) : Word :=
  let l := List.range 8
  let sum := fun (f : Nat → Bool) => (l.filter f).foldl (fun a j => a + 2 ^ j) 0
  low (sum (fun j => (s.eng (8 * p + j)).reserved) + 256 * sum (fun j => s.isRunning (engKey (8 * p + j))) +
    65536 * (if l.any fun j => !(s.eng (8 * p + j)).moves.isEmpty then 1 else 0))

def runCode : EngMode → Nat
  | .executing => 0 | .waiting => 1 | .halted => 2 | .faulted => 3

/-- PAR_ENGj_STAT of engine e; a pool engine reads 0. -/
def State.engStat (s : State) (e : Nat) : Word :=
  let x := s.eng e
  if !x.reserved then 0
  else
    let r := x.run
    let o := (s.obj (engKey e)).st
    let run := if s.working (engKey e) then runCode r.mode else 0
    low (objStateNum o * 2 ^ 30 + 2 ^ 29 + run * 2 ^ 27 + (if r.ov then 2 ^ 26 else 0) + r.scale * 2 ^ 24 +
      r.exp * 2 ^ 20 + r.loops.length * 2 ^ 17 + r.calls.length * 2 ^ 13 + x.moves.length * 2 ^ 10)

/-! ## Commands (R190-R193, R214-R217) -/

def stNotReserved : Status := 0x1901

def engOk (n : Nat) : Bool := decide (n < 224)
def State.engPowered (s : State) (e : Nat) : Bool := s.dom (e / 8)
def State.reservedCount (s : State) : Nat := (s.par.engines.filter fun (x : Nat × Engine) => x.2.reserved).length

/-- Zero the engine's program, data and shared memories (R192), and its counts. DEDUCED, log entry 91. -/
def zeroEngine (s : State) (e : Nat) : State :=
  let s := (s.setReg (engA e 0x10) 0).setReg (engA e 0x14) 0
  { s with hi := tset 0 s.hi (engA e 8) 0, par := { s.par with prog := tdel s.par.prog e, data := tdel s.par.data e, shared := tdel s.par.shared e } }

/-- Checks of 0x0910 in their order (R60). -/
def State.engReserveChecks (s : State) (c : Cmd) : List (Bool × Status) :=
  let e := c.num
  let on := bit (c.word 4) 0
  let was := (s.eng e).reserved
  [(!s.stopped (engKey e), stNotStopped), (on && !was && decide (32 ≤ s.reservedCount), stNoResource)]

/-- ENG_RESERVE: an engine already in the state asked for stays as it is. DEDUCED, log entry 91. -/
def execEngReserve (c : Cmd) (s : State) : Outcome State Fault Refusal :=
  .next (runCmd s 0x0910 c 1 1 (engOk c.num) (s.engPowered c.num) fun s =>
    let e := c.num
    let on := bit (c.word 4) 0
    let was := (s.eng e).reserved
    checked s 0x0910 c (s.engReserveChecks c) fun s =>
        let s := if on = was then s
          else if on then (zeroEngine s e).setEng e { reserved := true }
          else (zeroEngine s e).setEng e {}
        complete (bumpGen s (engKey e)) 0x0910 c stOk (low s.reservedCount) 0 0 0)

/-- The window lies outside the overlay area (R214, R436). -/
def State.windowBad (s : State) (base pages : Nat) : Bool :=
  pages != 0 && !(decide (s.areaBase 1 ≤ base * 4096) && decide (base * 4096 + pages * 4096 ≤ s.areaBase 1 + s.areaSize 1))

/-- Checks of 0x0911 in their order (R60). -/
def State.engConfigChecks (s : State) (c : Cmd) : List (Bool × Status) :=
  let e := c.num
  let g : EngCfg := { entry := bits (c.word 4) 12 0, winBase := bits (c.word 5) 19 0, winPages := bits (c.word 6) 14 0,
                      ovlStart := bits (c.word 7) 12 0, ovlEnd := bits (c.word 7) 28 16,
                      scale := bits (c.word 8) 1 0, exp := bits (c.word 8) 11 8 }
  [(!(s.eng e).reserved, stNotReserved), (!s.stopped (engKey e), stNotStopped), (decide (16384 < g.winPages), stBadField),
   (decide (8 < g.exp), stBadField), (s.windowBad g.winBase g.winPages, stBadField)]

def execEngConfig (c : Cmd) (s : State) : Outcome State Fault Refusal :=
  .next (runCmd s 0x0911 c 1 1 (engOk c.num) (s.engPowered c.num) fun s =>
    let e := c.num
    let g : EngCfg := { entry := bits (c.word 4) 12 0, winBase := bits (c.word 5) 19 0, winPages := bits (c.word 6) 14 0,
                        ovlStart := bits (c.word 7) 12 0, ovlEnd := bits (c.word 7) 28 16,
                        scale := bits (c.word 8) 1 0, exp := bits (c.word 8) 11 8 }
    checked s 0x0911 c (s.engConfigChecks c) fun s =>
        let s := { s with par := { s.par with cfgs := tset {} s.par.cfgs e g } }
        finish (bumpGen s (engKey e)) 0x0911 c stOk)

def State.engLoadChecks (s : State) (c : Cmd) : List (Bool × Status) :=
  let off := bits (c.word 6) 12 0
  let n := bits (c.word 7) 13 0
  [(!(s.eng c.num).reserved, stNotReserved), (!s.stopped (engKey c.num), stNotStopped),
   (decide (n < 1) || decide (8192 < n) || decide (8192 < off + n), stBadField)]

/-- ENG_LOAD up to its transfer. -/
def engLoad (c : Cmd) (s : State) (go : State → State) : State :=
  runCmd s 0x0912 c 1 1 (engOk c.num) (s.engPowered c.num) fun s =>
    checked s 0x0912 c (s.engLoadChecks c) fun s => viaHost s go

/-- Program words from the offset of an ENG_LOAD. -/
def loadWords (c : Cmd) (data : List Word) (s : State) : State :=
  (data.take (bits (c.word 7) 13 0)).zipIdx.foldl (fun s w => s.setProg c.num (bits (c.word 6) 12 0 + w.2) w.1) s

def execEngLoad (c : Cmd) (data : List Word) (s : State) : Outcome State Fault Refusal :=
  .next (engLoad c s fun s => finish (bumpGen (loadWords c data s) (engKey c.num)) 0x0912 c stOk)

def State.engCopyChecks (s : State) (c : Cmd) (write : Bool) : List (Bool × Status) :=
  let off := bits (c.word 7) 13 0
  let n := bits (c.word 8) 14 0
  [(!(s.eng c.num).reserved, stNotReserved),
   (decide (n < 1) || decide (16384 < n) || decide (16384 < off + n) ||
    (write && bit (c.word 9) 0 && !moveFlag (bits (c.word 9) 12 8)), stBadField)]

/-- ENG_WRITE and ENG_READ up to their transfer. -/
def engCopy (op : BitVec 16) (write : Bool) (c : Cmd) (s : State) (go : State → State) : State :=
  runCmd s op c 1 1 (engOk c.num) (s.engPowered c.num) fun s =>
    checked s op c (s.engCopyChecks c write) fun s => viaHost s go

/-- Data words from the offset of an ENG_WRITE. -/
def copyWords (c : Cmd) (data : List Word) (s : State) : State :=
  (data.take (bits (c.word 8) 14 0)).zipIdx.foldl
    (fun s w => writeSpace s c.num (bits (c.word 6) 0 0) (bits (c.word 7) 13 0 + w.2) w.1) s

def execEngWrite (c : Cmd) (data : List Word) (s : State) : Outcome State Fault Refusal :=
  .next (engCopy 0x0913 true c s fun s =>
    let s := hostTurns (c.num / 8) ((bits (c.word 8) 14 0 + 15) / 16) s
    let s := (copyWords c data s).bump64 (parA (c.num / 8) 8) (4 * bits (c.word 8) 14 0)
    let s := if bit (c.word 9) 0 then setFlags s c.num (flagMask (bits (c.word 9) 12 8)) else s
    finish s 0x0913 c stOk)

/-- Bytes that an ENG_READ copies to the host. -/
def readWords (c : Cmd) (s : State) : List Byte :=
  ((List.range (bits (c.word 8) 14 0)).map fun i =>
    wordBytes (s.readSpace c.num (bits (c.word 6) 0 0) (bits (c.word 7) 13 0 + i))).flatten

def execEngRead (c : Cmd) (s : State) : Outcome State Fault Refusal :=
  .next (engCopy 0x0914 false c s fun s =>
    let s := hostTurns (c.num / 8) ((bits (c.word 8) 14 0 + 15) / 16) s
    let s := s.bump64 (parA (c.num / 8) 8) (4 * bits (c.word 8) 14 0)
    finish { s with out := Out.hostBytes (dword (c.word 4) (c.word 5)) (readWords c s) :: s.out } 0x0914 c stOk)

/-- Checks of 0x0915 in their order (R60). -/
def State.engStatsChecks (s : State) (c : Cmd) : List (Bool × Status) :=
  [(!(s.eng c.num).reserved, stNotReserved)]

def execEngStats (c : Cmd) (s : State) : Outcome State Fault Refusal :=
  .next (runCmd s 0x0915 c 1 1 (engOk c.num) true fun s =>
    checked s 0x0915 c (s.engStatsChecks c) fun s =>
      let s := settle s c.num
      let r := s.engRun c.num
      complete s 0x0915 c stOk (low r.cycles) (low r.stalls) (low r.waits) (low r.steals))

/-- The registers as START sets them (R194). -/
def EngCfg.start (g : EngCfg) : EngRun := { pc := g.entry, scale := g.scale, exp := g.exp, mode := .executing }

/-- An engine starts: flags EF1 to EF23 clear, its memories stay (R215). -/
def engStart (s : State) (e : Nat) : State :=
  let x := s.eng e
  s.setEng e { x with run := (s.engCfg e).start, flags := x.flags &&& 1 }

end Sys2Proof.Machine
end

