-- ==== Sys2Proof/Machine/Icehouse.lean ====
section
/-!
DEFINITION. The Icehouse: cipher jobs, key slots, replay windows, the register window, direct jobs and alarms
(R127-R155).
-/
namespace Sys2Proof.Machine

open Host

def iceA (off : Nat) : Nat := 0x0070_0000 + off

def stSameKey : Status := 0x1501
def stTagMismatch : Status := 0x1502
def stNoKey : Status := 0x1503

/-- Object keys that the Icehouse asks about: a leg and the Footbridge (R65). -/
def legKey (l : Nat) : Nat := objKey 4 l
/-- DEDUCED, log entry 68. -/
def ftbKey : Nat := objKey 0x0E 0x10000

/-! ## Slots (R133, R134) -/

def State.slot (s : State) (n : Nat) : KeySlot := tget {} s.ice.slots n
def State.setSlot (s : State) (n : Nat) (k : KeySlot) : State := { s with ice := { s.ice with slots := tset {} s.ice.slots n k } }

/-- Slot n lies in the block that KEY_CASCADE lends and is lent to the Footbridge. -/
def State.cascadeSlot (s : State) (n : Nat) : Bool := s.ice.lent && decide (16350 ≤ n) && decide (n ≤ 16382)

/-- A receive slot: a leg's even slot, or a peer's receive slot of the lent block (R119, R133). -/
def State.recvSlot (s : State) (n : Nat) : Bool :=
  if s.ice.lent && decide (16350 ≤ n) then decide (n < 16382) && n % 2 == 1 else n % 2 == 0

/-- The next generation: from 0xFFFF to 0x0001. -/
def nextGen (g : Nat) : Nat := if g = 0xFFFF then 1 else g + 1

/-- Both key slots of a Footbridge peer written since the last epoch change: KEYED (R115). -/
def ftbKeyWritten (s : State) (n : Nat) : State :=
  if s.cascadeSlot n && decide (n < 16382) then
    let p := (n - 16350) / 2
    let q := tget {} s.ftb.peers p
    let q := if n % 2 = 0 then { q with keyTx := true } else { q with keyRx := true }
    let q := if q.keyTx && q.keyRx then { q with awaiting := false } else q
    { s with ftb := { s.ftb with peers := tset {} s.ftb.peers p q } }
  else s

/-- A job names a slot. -/
def jobNames (n : Nat) (r : JobReq) : Bool := r.slot.val == n

/-- ICE_DJ_CTRL.GO falls and ICE_DJ_STAT holds the end status (R147, R155). -/
def endDirect (s : State) (st : Status) : State :=
  let s := s.setReg (iceA 0x1_0054) (st.setWidth 32)
  let s := s.setReg (iceA 0x1_0050) (s.reg (iceA 0x1_0050) &&& 0x7FFF_FFFF)
  { s with ice := { s.ice with direct := false } }

/-- Jobs that a core holds or that are queued on slots the test accepts. -/
def State.jobsOn (s : State) (f : Nat → Bool) : List JobReq :=
  ((s.ice.cores.filter fun e => f e.2.req.slot).map fun e => e.2.req) ++ s.ice.queue.filter fun r => f r.slot

/-- Take those jobs away; the output of one that a core held is marked bad and vanishes from the Pantry (R138). -/
def dropJobs (s : State) (f : Nat → Bool) : State :=
  let open' := s.ice.cores.any fun e => f e.2.req.slot && e.2.req.writes
  let s := { s with ice := { s.ice with cores := s.ice.cores.filter fun e => !f e.2.req.slot
                                        queue := s.ice.queue.filter fun r => !f r.slot } }
  if open' then closeBad s .icehouse else s

/-- A packet job ends without a result: its user gets the status. -/
def endPacket (s : State) (r : JobReq) (st : Status) : State := { s with out := Out.jobEnd r st :: s.out }

/-- Every job on the slots that the test accepts ends with a status; the packets among them are dropped and counted (R138,
R149). -/
def endJobs (s : State) (f : Nat → Bool) (st : Status) : State :=
  let rs := s.jobsOn f
  let packets := rs.filter fun r => r.kind != JobKind.direct
  let s := packets.foldl (fun s r => endPacket s r st) ((dropJobs s f).bump (iceA 0x1C) packets.length)
  if rs.any fun r => r.kind == JobKind.direct then endDirect s st else s

/-- The slot's contents after an erase: the index state of its associations stands (R138, R140). DEDUCED, log entry 75. -/
def KeySlot.erased (k : KeySlot) : KeySlot := { k with mat := none, old := none, gen := nextGen k.gen }

/-- Erase a slot: jobs that hold or name it end with KEY_ERASED (R138). -/
def eraseSlot (s : State) (n : Nat) : Nat × State :=
  let rs := s.jobsOn fun m => m == n
  let s := endJobs s (fun m => m == n) stKeyErased
  let s := s.setSlot n (s.slot n).erased
  if rs.isEmpty then (0, s)
  else (rs.length, pulse (event s 0x0512 (low n) (low rs.length) 0 0 0) 113)

/-- An SA when its slot is written: a different key clears its warnings and ends EXHAUSTED, after which an SRTP SA goes on with
ROC 0 and another one modulo its width; ROC_SET starts an SRTP send SA at the ROC given (R140, R152). -/
def Sa.rekey (a : Sa) (differs rocSet : Bool) (roc : Nat) : Sa :=
  let b := if differs then { a with warned := false, exhausted := false, said := false } else a
  if !a.send || a.kind != SaKind.srtp then b
  else if rocSet then { b with last := none, roc := roc }
  else if differs && a.exhausted then { b with last := none, roc := 0 }
  else b

/-- Write a key slot (R134, R136, R137, R140, R152). -/
def commitKey (s : State) (n : Nat) (m : KeyMat) (rocSet : Bool) (roc : Nat) : State :=
  let k := s.slot n
  let old := if s.recvSlot n then (match k.mat with
      | some p => some (p, s.cyc)
      | none => none) else none
  let differs := match k.mat with
    | some p => p.key != m.key
    | none => true
  let k := { k with mat := some m, gen := nextGen k.gen, old := old, roc0 := if rocSet then roc else 0,
                    sas := k.sas.map fun a => a.rekey differs rocSet roc }
  ftbKeyWritten (s.setSlot n k) n

/-- The suite may stand in the slot, and the words it does not use are 0 (R152). -/
def State.suiteOk (s : State) (n suite : Nat) : Bool :=
  if s.cascadeSlot n then suite == 2 else suite == 0 || suite == 1

/-- The key material of key and salt bytes under a suite. -/
def keyMat (suite : Nat) (key salt : List Byte) : KeyMat :=
  { suite := suite, key := key.take (if suite = 0 then 16 else 32), salt := if suite = 2 then [] else salt }

/-- Key and salt equal the slot's present ones (R141). -/
def State.sameKey (s : State) (n : Nat) (m : KeyMat) : Bool :=
  match (s.slot n).mat with
  | some p => p.key == m.key && p.salt == m.salt
  | none => false

/-! ## The window and the Study's commands (R143-R146, R151, R152) -/

def unusedKey (suite : Nat) (key salt : List Byte) : Bool :=
  (suite == 0 && (key.drop 16).any (· != 0)) || (suite == 2 && salt.any (· != 0))

/-- Checks of 0x0510 that the parameters decide, in their order (R60); made when the command is taken and again when it acts. -/
def State.keyWriteChecks (s : State) (c : Cmd) : List (Bool × Status) :=
  let w := c.word 4
  let suite := bits w 1 0
  [(bits w 7 2 != 0 || bits w 15 9 != 0 || !s.suiteOk c.num suite, stBadField),
   (unusedKey suite (c.bytes 6 32) (c.bytes 14 12), stBadField)]

/-- DEDUCED, log entry 73. -/
def keyWriteBody (s : State) (c : Cmd) : State :=
  let w := c.word 4
  let m := keyMat (bits w 1 0) (c.bytes 6 32) (c.bytes 14 12)
  let gen := bits w 31 16
  checked s 0x0510 c (s.keyWriteChecks c ++
    [(s.sameKey c.num m, stSameKey), (s.ice.alarmed, stAlarm), (gen != 0 && gen != (s.slot c.num).gen, stKeyStale)]) fun s =>
    let s := commitKey s c.num m (bit w 8) (c.word 5).toNat
    complete s 0x0510 c stOk (low (s.slot c.num).gen) 0 0 0

def keyEraseBody (s : State) (c : Cmd) : State :=
  let gen := bits (c.word 4) 31 16
  checked s 0x0511 c [(gen != 0 && gen != (s.slot c.num).gen, stKeyStale)] fun s =>
    let p := eraseSlot s c.num
    complete p.2 0x0511 c stOk (low (p.2.slot c.num).gen) (low p.1) 0 0

def keyQueryBody (s : State) (c : Cmd) : State :=
  let k := s.slot c.num
  let r := k.gen + (match k.mat with | some m => m.suite * 2 ^ 16 + 2 ^ 18 | none => 0) + (if k.old.isSome then 2 ^ 19 else 0)
  complete s 0x0512 c stOk (low r) (low (k.sas.filter (·.exhausted)).length) (low (k.sas.filter (·.warned)).length) 0

/-- Erase every slot of the lent block. -/
def eraseBlock (s : State) : State := (List.range 34).foldl (fun s i => (eraseSlot s (16350 + i)).2) s

/-- Checks of 0x0513 in their order (R60): a change of the loan needs legs 8175 to 8191, a hatch-leg among them with its bank's
state (R228), and the Footbridge to be STOPPED. -/
def State.keyCascadeChecks (s : State) (c : Cmd) : List (Bool × Status) :=
  let free := (List.range 17).all (fun i => s.legState (8175 + i) == .stopped) && s.stopped ftbKey
  [(bit (c.word 4) 0 != s.ice.lent && !free, stWrongState), (bits (c.word 4) 31 1 != 0, stBadField)]

def keyCascadeBody (s : State) (c : Cmd) : State :=
  let lend := bit (c.word 4) 0
  checked s 0x0513 c (s.keyCascadeChecks c) fun s =>
    if lend == s.ice.lent then finish s 0x0513 c stOk
    else
      let s := if lend then s else eraseBlock s
      finish { s with ice := { s.ice with lent := lend } } 0x0513 c stOk

def keyAlarmClearBody (s : State) (c : Cmd) : State :=
  if !s.ice.alarmed then finish s 0x0514 c stOk
  else if s.gate.alarm ≠ 0 then finish s 0x0514 c stAlarm
  else finish { s with ice := { s.ice with alarmed := false, entropy := true } } 0x0514 c stOk

/-- A range 0x05 command runs once the Study holds the window. -/
def keyBody (s : State) (op : BitVec 16) (c : Cmd) : State :=
  if op = 0x0510 then keyWriteBody s c
  else if op = 0x0511 then keyEraseBody s c
  else if op = 0x0512 then keyQueryBody s c
  else if op = 0x0513 then keyCascadeBody s c
  else keyAlarmClearBody s c

def iceDenied (s : State) : State := s.bump (iceA 0x08) 1

/-- The Study claims the window when it is free; a command otherwise waits. A claim that another requester has won in the same
CK_CT cycle is counted once (R146). DEDUCED, log entry 73. -/
def iceArrive (s : State) (op : BitVec 16) (c : Cmd) : State :=
  match s.ice.lock with
  | none => keyBody s op c
  | some _ =>
    let s := if s.ice.claimed = some s.cyc then iceDenied s else s
    { s with ice := { s.ice with waiting := s.ice.waiting ++ [(op, c, s.cyc)] } }

/-- The window is free: the waiting commands run in their order. -/
def windowFree (s : State) : State :=
  let ws := s.ice.waiting
  ws.foldl (fun s w => keyBody s w.1 w.2.1) { s with ice := { s.ice with lock := none, waiting := [] } }

def execKeyWrite (c : Cmd) (s : State) : Outcome State Fault Refusal :=
  .next (runCmd s 0x0510 c 2 2 (decide (c.num < 16384)) (s.dom 72) fun s =>
    checked s 0x0510 c (s.keyWriteChecks c) fun s => iceArrive s 0x0510 c)

def execKeyErase (c : Cmd) (s : State) : Outcome State Fault Refusal :=
  .next (runCmd s 0x0511 c 1 1 (decide (c.num < 16384)) (s.dom 72) fun s =>
    checked s 0x0511 c [(bits (c.word 4) 15 0 != 0, stBadField)] fun s => iceArrive s 0x0511 c)

def execKeyQuery (c : Cmd) (s : State) : Outcome State Fault Refusal :=
  .next (runCmd s 0x0512 c 1 1 (decide (c.num < 16384)) true fun s => iceArrive s 0x0512 c)

def execKeyCascade (c : Cmd) (s : State) : Outcome State Fault Refusal :=
  .next (runCmd s 0x0513 c 1 1 (c.num == 0) (s.dom 72) fun s =>
    checked s 0x0513 c (s.keyCascadeChecks c) fun s => iceArrive s 0x0513 c)

def execKeyAlarmClear (c : Cmd) (s : State) : Outcome State Fault Refusal :=
  .next (runCmd s 0x0514 c 1 1 (c.num == 0) (s.dom 72) fun s => iceArrive s 0x0514 c)

/-- A command that has waited 1,411,200 ct for the window completes with LOCKED (R146). -/
def execKeyWindowTimeout (op : BitVec 16) (c : Cmd) (s : State) : Outcome State Fault Refusal :=
  match s.ice.waiting.find? fun w => w.1 == op && w.2.1 == c && decide (w.2.2 + 1411200 ≤ s.cyc) with
  | some w => .next (finish { s with ice := { s.ice with waiting := s.ice.waiting.erase w } } op c stLocked)
  | none => .next s

/-- The Icehouse is on and its registers answer (R30). -/
def State.iceOn (s : State) : Bool := s.coreOn && s.dom 72

def State.ownsWindow (s : State) (r : Requester) : Bool :=
  match s.ice.lock with
  | some (o, _) => o == reqId r
  | none => false

/-- An access by the owner restarts the watch (R145). -/
def touchWindow (s : State) (r : Requester) : State :=
  if s.ownsWindow r then { s with ice := { s.ice with lock := some (reqId r, s.cyc) } } else s

/-- A write of ICE_LOCK (R143). -/
def writeIceLock (s : State) (r : Requester) (v : Word) : State :=
  let s := touchWindow s r
  if bit v 1 && s.ownsWindow r then windowFree s
  else if bit v 0 then
    match s.ice.lock with
    | none => { s with ice := { s.ice with lock := some (reqId r, s.cyc), claimed := some s.cyc } }
    | some _ => iceDenied s
  else s

def execIceLockClaim (r : Requester) (s : State) : Outcome State Fault Refusal :=
  let s := hostArrives s r
  .next (if s.iceOn then writeIceLock s r 1 else s)

def execIceLockRelease (r : Requester) (s : State) : Outcome State Fault Refusal :=
  let s := hostArrives s r
  .next (if s.iceOn then writeIceLock s r 2 else s)

/-- The owner made no access for 705,600 ct (R145). -/
def execIceLockExpired (s : State) : Outcome State Fault Refusal :=
  match s.ice.lock with
  | some (o, t) =>
    if t + 705600 ≤ s.cyc then .next (windowFree (pulse (event s 0x0514 0 (low o) 0 0 0) 112)) else .next s
  | none => .next s

/-- Bytes of consecutive registers, byte 0 of the first first (R155). -/
def State.regBytes (s : State) (a n : Nat) : List Byte :=
  ((List.range n).map fun i => wordBytes (s.reg (a + 4 * i))).flatten

def winStat (s : State) (st : Status) : State := s.setReg (iceA 0x1_0034) (st.setWidth 32)

/-- A key operation of the owner through ICE_WIN_CMD (R155). -/
def windowOp (s : State) (v : Word) : State :=
  let n := bits v 27 14
  let suite := bits v 29 28
  let key := s.regBytes (iceA 0x1_0000) 8
  let salt := s.regBytes (iceA 0x1_0020) 3
  let m := keyMat suite key salt
  let done := fun (s : State) => (winStat s stOk).setReg (iceA 0x1_0038) (low (s.slot n).gen)
  match bits v 31 30 with
  | 1 =>
    if !s.suiteOk n suite || unusedKey suite key salt then winStat s stBadField
    else if s.sameKey n m then winStat s stSameKey
    else if s.ice.alarmed then winStat s stAlarm
    else done (commitKey s n m (bit v 13) (s.reg (iceA 0x1_002C)).toNat)
  | 2 => done (eraseSlot s n).2
  | _ => s

/-- The command of a write of ICE_DJ_CTRL with GO: a class-3 job joins the scheduler (R147). -/
def startDirect (s : State) (v : Word) : State :=
  if s.ice.direct then s
  else
    let s := (s.setReg (iceA 0x1_0050) v).setReg (iceA 0x1_0054) (s.reg (iceA 0x1_0054) ||| 0x8000_0000)
    let slot : Fin 16384 := Fin.ofNat 16384 (bits v 29 16)
    let job : JobReq := { kind := .direct, slot := slot, sa := 0, seq := 0, eflag := false, bytes := 0 }
    { s with ice := { s.ice with direct := true, queue := s.ice.queue ++ [job] } }

/-- A write of a window register by its owner, or a refused one (R144). -/
def writeWindow (s : State) (r : Requester) (a : Nat) (v : Word) : State :=
  if !s.ownsWindow r then iceDenied s
  else
    let s := touchWindow s r
    if a = iceA 0x1_0030 then windowOp s v
    else if a = iceA 0x1_0050 then
      (if bit v 31 then startDirect s v else if s.ice.direct then s else s.setReg a (v &&& 0x7FFF_FFFF))
    else if a = iceA 0x1_004C then s.setReg a (v &&& 0x0FFF_07FF)
    else if a = iceA 0x1_0034 || a = iceA 0x1_0038 || a = iceA 0x1_0054 then s
    else s.setReg a v

def execWindowKeyWrite (r : Requester) (v : Word) (s : State) : Outcome State Fault Refusal :=
  let s := hostArrives s r
  .next (if s.iceOn then writeWindow s r (iceA 0x1_0030) (setField v 31 30 1) else s)

def execWindowKeyErase (r : Requester) (v : Word) (s : State) : Outcome State Fault Refusal :=
  let s := hostArrives s r
  .next (if s.iceOn then writeWindow s r (iceA 0x1_0030) (setField v 31 30 2) else s)

def execDirectJobGo (r : Requester) (v : Word) (s : State) : Outcome State Fault Refusal :=
  let s := hostArrives s r
  .next (if s.iceOn then writeWindow s r (iceA 0x1_0050) (v ||| 0x8000_0000) else s)

/-- Registers of the window that read as written; key words are write-only (R135, R155). -/
def windowReadable (a : Nat) : Bool :=
  let o := a - iceA 0
  o == 0x1_0034 || o == 0x1_0038 || o == 0x1_004C || o == 0x1_0050 || o == 0x1_0054 ||
  (decide (0x1_0060 ≤ o) && decide (o ≤ 0x1_006C)) || (decide (0x2_0000 ≤ o) && decide (o ≤ 0x2_07FC))

/-- The window registers of R155; 0x1_003C, 0x1_0058 and 0x1_005C are unassigned. -/
def isWindow (a : Nat) : Bool :=
  let o := a - iceA 0
  decide (iceA 0x1_0000 ≤ a) && (decide (o ≤ 0x1_006C) || (decide (0x2_0000 ≤ o) && decide (o ≤ 0x2_07FC))) && a % 4 == 0 &&
    o != 0x1_003C && o != 0x1_0058 && o != 0x1_005C

/-- ICE_LOCK as it reads (R155). -/
def State.iceLock (s : State) : Word :=
  match s.ice.lock with
  | some (o, _) => low (2 ^ 31 + o)
  | none => 0

/-- Read of ICE_LOCK or of a window register; every other requester than the owner reads 0 from the latter. -/
def execIceWindowRead (r : Requester) (addr : BitVec 28) (s : State) : Outcome State Fault Refusal :=
  let a := addr.toNat
  let s := hostArrives s r
  if !s.iceOn then .next (readOut s r a 0)
  else if a = iceA 0x04 then .next (readOut (touchWindow s r) r a s.iceLock)
  else if isWindow a && s.ownsWindow r then
    .next (readOut (touchWindow s r) r a (if windowReadable a then s.reg a else 0))
  else .next (readOut s r a 0)

/-! ## Jobs (R130-R132, R136-R142, R147) -/

/-- A job sends. -/
def sends (k : JobKind) : Bool := k == .srtpSend || k == .srtcpSend || k == .ftbSend || k == .beaconSend

def saKind (k : JobKind) : SaKind :=
  match k with
  | .srtpSend | .srtpRecv => .srtp
  | .srtcpSend | .srtcpRecv => .srtcp
  | .ftbSend | .ftbRecv => .ftb
  | _ => .beacon

/-- The job that is dispatched next: class 3 once in 32, else the lowest class, the oldest first (R130). -/
def pickJob (since3 : Nat) (q : List JobReq) : Option JobReq :=
  let first := fun (k : Nat) => q.find? fun r => r.cls.val == k
  if 31 ≤ since3 && (first 3).isSome then first 3
  else (first 0).orElse fun _ => (first 1).orElse fun _ => (first 2).orElse fun _ => first 3

def sameSa (k : SaKind) (send : Bool) (id : Word) (a : Sa) : Bool := a.kind == k && a.send == send && a.id == id

/-- The association of a job in its slot; a new send one starts at the slot's initial ROC (R152). -/
def KeySlot.sa (k : KeySlot) (kind : SaKind) (send : Bool) (id : Word) : Sa :=
  (k.sas.find? (sameSa kind send id)).getD { kind := kind, send := send, id := id, roc := if send then k.roc0 else 0 }

def KeySlot.setSa (k : KeySlot) (a : Sa) : KeySlot :=
  { k with sas := a :: k.sas.filter fun b => !sameSa a.kind a.send a.id b }

/-- Width of an index (R139). -/
def saWidth : SaKind → Nat
  | .srtp => 2 ^ 48 | .srtcp => 2 ^ 31 | _ => 2 ^ 64

/-- Index at which KEY_INDEX_WARN is raised (R139). -/
def saWarn : SaKind → Nat
  | .srtp => 2 ^ 48 - 2 ^ 32 | .srtcp => 2 ^ 31 - 2 ^ 20 | _ => 2 ^ 64 - 2 ^ 32

/-- Index that the next send of an association uses: an SRTP packet brings its SEQ (R139). PRESUMED, log entry 71. -/
def Sa.nextIndex (a : Sa) (seq : Nat) : Nat :=
  match a.kind with
  | .srtp => match a.last with
    | none => a.roc * 2 ^ 16 + seq % 2 ^ 16
    | some l => let i := l / 2 ^ 16 * 2 ^ 16 + seq % 2 ^ 16; if l < i then i else i + 2 ^ 16
  | _ => match a.last with
    | none => 0
    | some l => if a.exhausted then l + 1 else (l + 1) % saWidth a.kind

/-- A send job takes its index; `none` when the association is EXHAUSTED: the packet is dropped with NONCE_EXHAUSTED (R132,
R139, R140). PRESUMED, log entry 71. -/
def takeIndex (s : State) (r : JobReq) : Option Nat × State :=
  let kind := saKind r.kind
  let k := s.slot r.slot
  let a := k.sa kind true r.sa
  let i := a.nextIndex r.seq.toNat
  if a.exhausted || saWidth kind ≤ i then
    let s := endPacket ((s.setSlot r.slot (k.setSa { a with exhausted := true, said := true })).bump (iceA 0x20) 1) r stNonceExhausted
    (none, if a.said then s else pulse (event s 0x0511 (low r.slot) r.sa (high i) (low i) 0) 114)
  else
    let warn := saWarn kind ≤ i && !a.warned
    let a := { a with last := some i, warned := a.warned || warn, exhausted := i + 1 == saWidth kind }
    let s := s.setSlot r.slot (k.setSa a)
    (some i, if warn then event s 0x0510 (low r.slot) r.sa (high i) (low i) 0 else s)

/-- The leg of a send slot is RUNNING, or the Footbridge while the slot is one of its transmit slots (R147). -/
def State.liveSend (s : State) (n : Nat) : Bool :=
  if s.cascadeSlot n then n % 2 == 0 && s.isRunning ftbKey
  else n % 2 == 1 && s.isRunning (legKey (n / 2))

/-- What ends a direct job at its dispatch (R147). -/
def State.directCheck (s : State) : Option Status :=
  let v := s.reg (iceA 0x1_0050)
  let n := bits v 29 16
  let len := s.reg (iceA 0x1_004C)
  let gen := bits v 15 0
  if 2048 < bits len 10 0 + bits len 27 16 then some stBadField
  else if !bit v 30 && s.liveSend n then some stBusy
  else if gen != 0 && gen != (s.slot n).gen then some stKeyStale
  else if (s.slot n).mat.isNone then some stNoKey
  else none

/-- Received SRTP index as RFC 3711 Appendix A estimates it from the highest one; other packets carry theirs. -/
def recvIndex (a : Sa) (r : JobReq) : Nat :=
  match a.kind with
  | .srtp =>
    let q := r.seq.toNat % 2 ^ 16
    match a.high with
    | none => a.roc * 2 ^ 16 + q
    | some h =>
      let roc := h / 2 ^ 16
      let sl := h % 2 ^ 16
      let v := if sl < 32768 then (if sl + 32768 < q then (roc + 2 ^ 32 - 1) % 2 ^ 32 else roc)
        else (if q < sl - 32768 then (roc + 1) % 2 ^ 32 else roc)
      v * 2 ^ 16 + q
  | .srtcp => r.seq.toNat % 2 ^ 31
  | .ftb => r.seq.toNat
  | .beacon => r.seq.toNat % 2 ^ 32

/-- The beacon association of an EPOCH starts afresh (R142). -/
def beaconSa (a : Sa) (r : JobReq) : Sa :=
  let e := r.seq.toNat / 2 ^ 32
  if a.kind == .beacon && a.epoch != e then { a with epoch := e, high := none, seen := [] } else a

/-- The association of a receive job. -/
def State.recvSa (s : State) (r : JobReq) : Sa := beaconSa ((s.slot r.slot).sa (saKind r.kind) false r.sa) r

/-- Additional authenticated data of a job under an index (R109, R128): an SRTCP packet is always sent with E = 1. -/
def jobAad (r : JobReq) (i : Nat) : List Byte :=
  match r.kind with
  | .srtcpSend | .srtcpRecv => r.hdr ++ beField 4 (i % 2 ^ 31 + if r.kind = .srtcpSend || r.eflag then 2 ^ 31 else 0)
  | .ftbSend => r.hdr ++ beField 8 i
  | _ => r.hdr

/-- IV of a job under a key and an index: RFC 7714's for SRTP and SRTCP (R128); BRIDGE_ID, SRC, DST and COUNTER for the
Footbridge (R109). -/
def jobIv (r : JobReq) (m : KeyMat) (i : Nat) : List Byte :=
  match saKind r.kind with
  | .srtp => List.zipWith (· ^^^ ·) m.salt ([0, 0] ++ beField 4 r.sa.toNat ++ beField 6 i)
  | .srtcp => List.zipWith (· ^^^ ·) m.salt ([0, 0] ++ beField 4 r.sa.toNat ++ [0, 0] ++ beField 4 (i % 2 ^ 31))
  | _ => ((jobAad r i).drop 2).take 4 ++ ((jobAad r i).drop 8).take 8

/-- A job goes into a core, or ends at its dispatch; the core latches the key, the old copy and the generation (R136). -/
def dispatchJob (s : State) (core : Nat) (r : JobReq) : State :=
  let put := fun (s : State) (m : KeyMat) (i : Nat) =>
    let k := s.slot r.slot
    let old := if sends r.kind || r.kind == .direct then none else k.old.map Prod.fst
    let job : IceJob := { req := r, mat := m, old := old, gen := k.gen, index := i, iv := jobIv r m i, aad := jobAad r i }
    { s with ice := { s.ice with cores := tput s.ice.cores core job } }
  if r.kind = .direct then
    match s.directCheck, (s.slot r.slot).mat with
    | none, some m => put s m 0
    | some st, _ => endDirect (if st = stNoKey then s.bump (iceA 0x18) 1 else s) st
    | none, none => s
  else
    match (s.slot r.slot).mat with
    | none => s.bump (iceA 0x18) 1
    | some m =>
      if sends r.kind && r.kind != .beaconSend then
        let p := takeIndex s r
        match p.1 with
        | some i => put p.2 m i
        | none => p.2
      else put s m (if sends r.kind then r.seq.toNat else recvIndex (s.recvSa r) r)

/-- Submitted jobs join the scheduler; an idle core takes the next (R130, R136). -/
def execIceJobDispatch (core : Fin 16) (jobs : List JobReq) (s : State) : Outcome State Fault Refusal :=
  if !(s.running && s.dom 72) then .next s
  else
    -- direct jobs come through the window, and the Footbridge's own frames from where they are built
    let jobs := jobs.filter fun r => r.kind != .direct && r.kind != .ftbSend
    let s := { s with ice := { s.ice with queue := s.ice.queue ++ jobs } }
    if (tfind s.ice.cores core).isSome then .next s
    else match pickJob s.ice.since3 s.ice.queue with
      | none => .next s
      | some r =>
        let n := if r.cls.val = 3 then 0 else s.ice.since3 + 1
        .next (dispatchJob { s with ice := { s.ice with queue := s.ice.queue.erase r, since3 := n } } core r)

/-- A replayed or too old index (R142). -/
def Sa.replay (a : Sa) (i : Nat) : Bool :=
  match a.high with
  | none => false
  | some h => decide (i + 128 ≤ h) || a.seen.contains i

/-- The window after an authenticated index. -/
def Sa.accept (a : Sa) (i : Nat) : Sa :=
  let h := Nat.max i (a.high.getD 0)
  { a with high := some h, seen := i :: a.seen.filter fun j => decide (h < j + 128) }

/-- A receive job ends (R137, R142); a packet that uses a transform of R129 authenticates under no key. -/
def endReceive (s : State) (j : IceJob) (x : AuthResult) : State :=
  let n := j.req.slot.val
  let k := s.slot n
  let a := s.recvSa j.req
  let i := j.index
  let x : AuthResult := if j.req.foreign then { underNew := false, underOld := false } else x
  if a.replay i then s.bump (iceA 0x14) 1
  else if x.underNew then
    let k := k.setSa (a.accept i)
    s.setSlot n (if k.gen = j.gen then { k with old := none } else k)
  else if j.old.isSome && x.underOld then (s.setSlot n (k.setSa (a.accept i))).bump (iceA 0x24) 1
  else s.bump (iceA 0x10) 1

/-- Store bytes in consecutive registers. -/
def setRegBytes (s : State) (a : Nat) (bs : List Nat) : State :=
  (pieces 4 bs.length bs).zipIdx.foldl
    (fun s p =>
      let old := (wordBytes (s.reg (a + 4 * p.2))).map (·.toNat)
      s.setReg (a + 4 * p.2) (bytesWord ((p.1 ++ old.drop p.1.length).map (BitVec.ofNat 8)))) s

/-- A direct job ends: AES-GCM over the window buffer (R147). -/
def endDirectJob (s : State) (j : IceJob) : State :=
  let v := s.reg (iceA 0x1_0050)
  let len := s.reg (iceA 0x1_004C)
  let aadLen := bits len 10 0
  let dataLen := bits len 27 16
  let nums := fun (l : List Byte) => l.map (·.toNat)
  let buf := nums (s.regBytes (iceA 0x2_0000) 512)
  let iv := nums (s.regBytes (iceA 0x1_0040) 3)
  let dec := bit v 30
  let o := gcm (nums j.mat.key) iv (buf.take aadLen) ((buf.drop aadLen).take dataLen) dec
  if dec && o.2 != nums (s.regBytes (iceA 0x1_0060) 4) then endDirect s stTagMismatch
  else
    let s := setRegBytes s (iceA 0x2_0000) (buf.take aadLen ++ o.1)
    endDirect (if dec then s else setRegBytes s (iceA 0x1_0060) o.2) stOk

/-- Flow that a packet job's completion joins: that of the leg or the peer whose slot it names (R389). -/
def jobFlow (r : JobReq) : Nat :=
  match r.kind with
  | .ftbSend | .ftbRecv | .beaconSend | .beaconRecv => 0x6000 + r.sa.toNat % 16
  | _ => legFlow (r.slot.val / 2)

/-- A cipher core finishes its job; the completion of a packet job is an item of its flow (R389, R392). -/
def execIceJobComplete (core : Fin 16) (x : AuthResult) (s : State) : Outcome State Fault Refusal :=
  match tfind s.ice.cores core with
  | none => .next s
  | some j =>
    let s := ({ s with ice := { s.ice with cores := tdel s.ice.cores core } }).bump64 (iceA 0x28) 1
    if j.req.kind = .direct then .next (endDirectJob s j)
    else
      let s := (hallWork s (jobFlow j.req) 6).2
      if sends j.req.kind then .next (match j.req.frame with
      | some f => sendPacket s f.queue f.bytes
          { counted := f.bytes, body := f.kind :: (j.aad.map BitVec.toNat ++ f.body), net := f.net }
      | none => s)
      else .next (endReceive s j x)

/-- 70,560,000 ct after a rewrite the old copy goes (R137). -/
def execOldKeyExpiry (n : Fin 16384) (s : State) : Outcome State Fault Refusal :=
  let k := s.slot n
  match k.old with
  | some (_, t) => .next (if t + ctPerSec ≤ s.cyc then s.setSlot n { k with old := none } else s)
  | none => .next s

/-- An alarm: every slot is erased, every job ends with ALARM, the Gatehouse latches the cause (R149, R150). -/
def execIceAlarm (cause : Fin 5) (s : State) : Outcome State Fault Refusal :=
  let s := { s with gate := { s.gate with alarm := s.gate.alarm ||| BitVec.ofNat 5 (2 ^ cause.val) } }
  let s := if s.iceOn then
      let s := endJobs s (fun _ => true) stAlarm
      let s := { s with ice := { s.ice with
        slots := (List.range 16384).map (fun n => (n, (s.slot n).erased)), alarmed := true,
        entropy := s.ice.entropy && cause.val != 4 } }
      if cause.val = 4 then pulse s 115 else s
    else s
  let s := if s.coreOn then event s 0x0513 0 (low (2 ^ cause.val)) 0 0 0 else s
  let s := if s.wakeAllowed 6 then gateAdvance (beginWake s 6 48) else s
  .next (pulse s 48)

end Sys2Proof.Machine
end

