-- ==== Sys2Proof/Machine/Net.lean ====
section
/-!
DEFINITION. Network ports, the parser, the steering of frames to legs, and the punt ring (R84-R90, R118, R119).
-/
namespace Sys2Proof.Machine

open Host

def netA (off : Nat) : Nat := 0x0090_0000 + off
def pktA (off : Nat) : Nat := 0x00A0_0000 + off
def hostPathKey : Nat := objKey 4 0x10100

def stAddrInUse : Status := 0x1401
def stNoAddress : Status := 0x1402

/-- Settings a port holds before its first PORT_CONFIG (R119). -/
def State.portCfg (s : State) (p : Nat) : PortCfg :=
  (s.netPort p).cfg.getD { fec := if s.portSpeed p = 100000 then 3 else 0, maxFrame := 1522, mac := 0, untagged := false, vids := [] }

/-- FEC choices of a speed (R84). DEDUCED, log entry 38. -/
def fecOk (speed fec : Nat) : Bool :=
  match speed with
  | 10000 => decide (fec ≤ 1)
  | 25000 => decide (fec ≤ 2)
  | _ => fec == 3

/-- Constant latencies of a speed and FEC in ct: receive, transmit (R473). -/
def portLatency (speed fec : Nat) : Nat × Nat :=
  match speed, fec with
  | 10000, 0 => (6, 5)
  | 10000, _ => (18, 12)
  | 25000, 0 => (5, 4)
  | 25000, 1 => (9, 8)
  | 25000, _ => (18, 13)
  | _, _ => (14, 11)

/-! ## Commands (R118, R119) -/

def State.portObjOk (s : State) (n : Nat) : Bool := decide (0x10000 ≤ n) && s.portPresent (n - 0x10000)

/-- Halves of parameter words 8 to 15, low half first. -/
def vidHalves (c : Cmd) : List Word :=
  (((List.range 8).map fun i => [BitVec.ofNat 32 (bits (c.word (8 + i)) 15 0), BitVec.ofNat 32 (bits (c.word (8 + i)) 31 16)]).flatten)

/-- A MAC address of two words. -/
def macOf (hi lo : Word) : Nat := bits hi 15 0 * 2 ^ 32 + lo.toNat

/-- Checks of 0x0410 in their order (R60). -/
def State.portConfigChecks (s : State) (c : Cmd) : List (Bool × Status) :=
  let p := c.num - 0x10000
  let w := c.word 4
  let fec := bits w 3 0
  let mx := bits w 31 16
  let vids := vidHalves c
  let bad := bits w 15 4 != 0 || bits (c.word 5) 31 16 != 0 || bits (c.word 7) 31 1 != 0 || (vids.any fun v => bits v 15 12 != 0) ||
    !fecOk (s.portSpeed p) fec || (mx != 0 && (decide (mx < 1518) || decide (9018 < mx)))
  [(!s.stopped (portKey p), stNotStopped), (bad, stBadField)]

def execPortConfig (c : Cmd) (s : State) : Outcome State Fault Refusal :=
  .next (runCmd s 0x0410 c 1 1 (s.portObjOk c.num) (s.portPowered (c.num - 0x10000)) fun s =>
    let p := c.num - 0x10000
    let w := c.word 4
    let fec := bits w 3 0
    let mx := bits w 31 16
    let vids := vidHalves c
    checked s 0x0410 c (s.portConfigChecks c) fun s =>
      let g : PortCfg :=
        { fec := fec, maxFrame := if mx = 0 then 1522 else mx, mac := macOf (c.word 5) (c.word 6), untagged := bit (c.word 7) 0,
          vids := (vids.map fun v => v.toNat).filter fun v => v != 0 }
      let lat := portLatency (s.portSpeed p) fec
      let s := loadComp (s.setNetPort p { s.netPort p with cfg := some g }) p lat.1 lat.2
      finish (bumpGen s (portKey p)) 0x0410 c stOk)

/-- An address of four words: IPv6 from the first onward, IPv4 in the last. -/
def ipOf (v6 : Bool) (a b c d : Word) : IpAddr :=
  { v6 := v6, bits := BitVec.ofNat 128 (if v6 then ((a.toNat * 2 ^ 32 + b.toNat) * 2 ^ 32 + c.toNat) * 2 ^ 32 + d.toNat else d.toNat) }

/-- Another valid entry of the port has the address and VID (R89). -/
def State.addrTaken (s : State) (p i : Nat) (ip : IpAddr) (vid : Nat) : Bool :=
  (s.netPort p).addrs.any fun e => e.1 != i && e.2.ip == ip && e.2.vid == vid

/-- Checks of 0x0411 in their order (R60). Packet words for which R119 names no field are not looked at. DESIGN CHOICE, log
entry 157. -/
def State.portAddrChecks (s : State) (c : Cmd) : List (Bool × Status) :=
  let p := c.num - 0x10000
  let w := c.word 4
  let i := bits w 3 0
  let v6 := bit w 8
  let valid := bit w 31
  let ip := ipOf v6 (c.word 5) (c.word 6) (c.word 7) (c.word 8)
  let vid := bits (c.word 9) 11 0
  let bad := bits w 7 4 != 0 || bits w 30 9 != 0 || bits (c.word 9) 31 12 != 0 || bits (c.word 10) 31 16 != 0 ||
    (!v6 && (c.word 5 != 0 || c.word 6 != 0 || c.word 7 != 0))
  [(!s.stopped (portKey p), stNotStopped), (bad, stBadField), (valid && s.addrTaken p i ip vid, stAddrInUse)]

def execPortAddr (c : Cmd) (s : State) : Outcome State Fault Refusal :=
  .next (runCmd s 0x0411 c 1 1 (s.portObjOk c.num) (s.portPowered (c.num - 0x10000)) fun s =>
    let p := c.num - 0x10000
    let w := c.word 4
    let i := bits w 3 0
    let v6 := bit w 8
    let valid := bit w 31
    let ip := ipOf v6 (c.word 5) (c.word 6) (c.word 7) (c.word 8)
    let vid := bits (c.word 9) 11 0
    checked s 0x0411 c (s.portAddrChecks c) fun s =>
      let x := s.netPort p
      let addrs := if valid then tput x.addrs i { ip := ip, vid := vid, hop := macOf (c.word 10) (c.word 11) } else tdel x.addrs i
      finish (bumpGen (s.setNetPort p { x with addrs := addrs }) (portKey p)) 0x0411 c stOk)

/-- Checks of 0x0412 in their order (R60). -/
def State.puntCfgChecks (s : State) (c : Cmd) : List (Bool × Status) :=
  let base := dword (c.word 4) (c.word 5)
  let size := bits (c.word 6) 3 0
  [(!s.stopped hostPathKey, stNotStopped),
   (base % 4096 != 0 || bits (c.word 6) 31 4 != 0 || decide (size < 4) || decide (12 < size), stBadField)]

/-- PUNT_CFG: the ring starts empty (R90). -/
def execPuntCfg (c : Cmd) (s : State) : Outcome State Fault Refusal :=
  .next (runCmd s 0x0412 c 1 1 (c.num == 0x10100) true fun s =>
    let base := dword (c.word 4) (c.word 5)
    let size := bits (c.word 6) 3 0
    checked s 0x0412 c (s.puntCfgChecks c) fun s =>
      let s := { s with net := { s.net with punt := { on := true, base := base, size := size } } }
      finish (bumpGen s hostPathKey) 0x0412 c stOk)

/-- A big-endian 16-bit field of a frame. -/
def frameHalf (f : List Byte) (i : Nat) : Nat := (f.getD i 0).toNat * 256 + (f.getD (i + 1) 0).toNat

/-- A frame the host sends is a PTP message: Ethertype 0x88F7, or UDP port 319 or 320 (R368, R475). DEDUCED, log entry 35. -/
def ptpFrame (f : List Byte) : Bool :=
  let o := if frameHalf f 12 = 0x8100 then 16 else 12
  let t := frameHalf f o
  let udp4 := t == 0x0800 && (f.getD (o + 11) 0).toNat == 17
  let udp6 := t == 0x86DD && (f.getD (o + 8) 0).toNat == 17
  let port := if udp4 then frameHalf f (o + 2 + (f.getD (o + 2) 0).toNat % 16 * 4 + 2) else frameHalf f (o + 2 + 40 + 2)
  t == 0x88F7 || ((udp4 || udp6) && (port == 319 || port == 320))

/-- Checks of 0x0413 in their order (R60). -/
def State.frameSendChecks (s : State) (c : Cmd) : List (Bool × Status) :=
  let p := c.num - 0x10000
  let w := c.word 6
  let n := bits w 13 0
  [(!s.isRunning (portKey p), stWrongState),
   (bits w 15 14 != 0 || bits w 31 17 != 0 || decide (n < 14) || decide ((s.portCfg p).maxFrame < n + 4), stBadField)]

/-- FRAME_SEND up to its transfer. DEDUCED, log entry 35. -/
def frameSend (c : Cmd) (s : State) (go : State → State) : State :=
  runCmd s 0x0413 c 1 1 (s.portObjOk c.num) (s.portPowered (c.num - 0x10000)) fun s =>
    checked s 0x0413 c (s.frameSendChecks c) fun s => viaHost s go

/-- FRAME_SEND: the frame is read from the host and queued on its port. -/
def execFrameSend (c : Cmd) (bytes : List Byte) (s : State) : Outcome State Fault Refusal :=
  .next (frameSend c s fun s =>
    let w := c.word 6
    let n := bits w 13 0
    let f := bytes.take n
    let p := c.num - 0x10000
    -- the frame is an item of its port's flow (R389, R392)
    let (ok, s) := hallWork s (portFlow p) 8
    let s := if !ok then s else sendPort s p (if ptpFrame f then 0 else 4) (Nat.max 60 n)
      { tstamp := if bit w 16 then some c.tag else none, body := 1 :: f.map fun b => b.toNat }
    finish s 0x0413 c stOk)

/-! ## The punt ring (R90) -/

def netPunt (s : State) (x : Punt) : State := { s with net := { s.net with punt := x } }

/-- A frame is copied into its buffer of the punt ring and NET_PUNT is raised, or it is dropped: the host path does not run,
the ring is full, no host memory is in reach, the Hall drops its item (R389, R392), or the transfer fails, which leaves the ring in use (R77, R90). Answers the
buffer it took. -/
def punt (s : State) (p len reason leg : Nat) (stamp : Word) (ptp : Option Rxts) (bs : List Byte) (fail : Bool) : Option Nat × State :=
  let (ok, s) := hallWork (s.bump (netPortA p 0x44) 1) (portFlow p) 8
  let x := s.net.punt
  let size := 2 ^ x.size
  if !ok || !x.on || !s.isRunning hostPathKey || (x.tail + 1) % size = x.head || !s.hostReach then (none, s.bump (netA 0x18) 1)
  else
    let s := leaveL1 s
    if fail then (none, (pchErr s 2).bump (netA 0x18) 1)
    else
    let s := { s with out := Out.punt (x.base + 2048 * x.tail) x.tail (Nat.min len 2048) (bs.take 2048) :: s.out }
    let s := { s with blv := { s.blv with rxts := tset {} s.blv.rxts x.tail (ptp.getD {}) } }
    let s := netPunt s { x with tail := (x.tail + 1) % size }
    (some x.tail, event s 0x0415 (low leg) (low x.tail) (low (len % 65536 + p * 2 ^ 16 + reason * 2 ^ 20)) stamp 0)

/-- Object of a punted frame that belongs to no leg. -/
def noLeg : Nat := 0xFFFF_FFFF

/-- A received frame is punted. -/
def puntFrame (s : State) (p : Nat) (f : Frame) (reason leg : Nat) (ptp : Option Rxts) : State :=
  (punt s p f.len reason leg (s.blv.tb0.setWidth 32) ptp f.data f.puntFail).2

/-- A write of NET_PUNT_HEAD returns every buffer before the index written; their stamps are no longer valid.
DEDUCED, log entry 40. -/
def writePuntHead (s : State) (v : Word) : State :=
  let x := s.net.punt
  let size := 2 ^ x.size
  let h := bits v 11 0 % size
  let n := (h + size - x.head) % size
  let rx := (List.range n).foldl (fun t i => tset ({} : Rxts) t ((x.head + i) % size) {}) s.blv.rxts
  netPunt { s with blv := { s.blv with rxts := rx } } { x with head := h }

def execPuntHeadWrite (v : Word) (s : State) : Outcome State Fault Refusal :=
  let s := hostArrives s .host
  .next (if s.commonOn then writePuntHead s v else s)

/-! ## Links (R85, R374) -/

/-- PORT_LINK. -/
def portLink (s : State) (p : Nat) (up : Bool) : State :=
  pulse (event s 0x0416 (low (0x10000 + p)) (if up then 1 else 0) 0 0 0) (128 + p)

/-- The queues of a port whose link is down are emptied; every packet is counted. -/
def dropPortQueues (s : State) (p : Nat) : State :=
  (s.portQueues p).foldl (fun s q =>
    let n := ((s.queue q).entries.filter fun e => !e.gap).length
    (List.range n).foldl (fun s _ => countQueueDrop s q 3) (emptyQueue s q)) s

def execPortLinkUp (p : Fin 8) (s : State) : Outcome State Fault Refusal :=
  let x := s.netPort p
  .next (if s.isRunning (portKey p) && !x.linkUp && s.running then
      portLink (s.setNetPort p { x with linkUp := true, fecLock := true, blockLock := true }) p true
    else s)

/-- The link of a port goes down: its packets are dropped, PORT_LINK 0 is raised. DEDUCED, log entry 39. -/
def linkFalls (s : State) (p : Nat) : State :=
  let x := s.netPort p
  if x.linkUp then
    portLink (dropPortQueues (s.setNetPort p { x with linkUp := false, fecLock := false, blockLock := false }) p) p false
  else s

def execPortLinkDown (p : Fin 8) (s : State) : Outcome State Fault Refusal := .next (linkFalls s p)

/-! ## Starting and stopping ports and the host path (R122) -/

/-- DEDUCED, log entry 39. -/
def portDrained (s : State) (p : Nat) : State := reachStopped (linkFalls s p) 4 (0x10000 + p)

def portDrain (s : State) (p : Nat) (ab : Bool) : State :=
  if ab || (s.portQueues p).isEmpty then portDrained s p else s

/-- 70,560 ct after a port's STOP its remaining queues are abandoned. -/
def execPortDrainTimeout (p : Fin 8) (s : State) : Outcome State Fault Refusal :=
  let k := portKey p
  .next (if s.draining k && decide ((s.obj k).since + 70560 ≤ s.cyc) then portDrained s p else s)

/-! ## Steering (R88) -/

/-- Legs whose LEG_CONFIG names a local address and UDP port. -/
def State.legsAt (s : State) (p i udp : Nat) : List Nat :=
  (s.net.sets.filter fun e => match e.2.cfg with
    | some g => g.port == p && g.addr == i && g.udp == udp && !s.hatchLeg e.1
    | none => false).map Prod.fst

/-- The latched remote address of an ACTIVE leg is this one. -/
def State.latched (s : State) (l : Nat) (ip : IpAddr) (udp : Nat) : Bool :=
  let r := s.legRun l
  s.conn l == .active && r.remote == ip && r.remoteUdp == udp

/-- An item for a leg's flow: the frame is kept as a loose packet. -/
def legItem (s : State) (l prio bytes : Nat) : State :=
  match writeLoose s 0 0 bytes with
  | (some h, s) => hallAdmit s (legFlow l) { kind := .work, prio := prio, handle := some h, due := 0 }
  | (none, s) => s

/-- The leg's audio is heard in its conference (R392). -/
def State.isHeard (s : State) (l : Nat) : Bool :=
  match s.legConf l with
  | some c => (s.heard c (s.now / 70560)).contains l
  | none => false

/-- Priority of a media frame. -/
def State.mediaPrio (s : State) (l : Nat) (f : Frame) : Nat :=
  if f.rtcp then 3 else if f.video then 4 else if s.isHeard l then 1 else 2

/-- Count a frame that no leg takes, in exactly one counter. -/
def countStray (s : State) (ls : List Nat) : State :=
  if ls.any fun l => s.conn l == .active then s.bump (pktA 0x10) 1 else s.bump (pktA 0x14) 1

/-- Steer a frame by the first byte of its UDP payload. DEDUCED, log entry 37. -/
def steer (s : State) (p i : Nat) (f : Frame) : State :=
  let ls := s.legsAt p i f.dstPort.toNat
  let v := f.first.toNat
  let bytes := f.len - 4
  let owner := ls.find? fun l => s.latched l f.src f.srcPort.toNat
  if v ≤ 3 then
    match ls.find? fun l => s.live (legKey l) with
    | some l => let (ok, s) := police s l p bytes s.now; if ok then legItem s l 3 bytes else s
    | none => s
  else if 20 ≤ v && v ≤ 63 then
    match owner with
    | some l => let (ok, s) := police s l p bytes s.now; if ok then puntFrame s p f 2 l none else s
    | none => countStray s ls
  else if 128 ≤ v && v ≤ 191 then
    match owner with
    | some l => let (ok, s) := police s l p bytes s.now; if ok then legItem s l (s.mediaPrio l f) bytes else s
    | none => countStray s ls
  else s.bump (pktA 0x18) 1

/-! ## The parser (R87) -/

/-- PRIORITY of a Footbridge frame's item; other types are dropped (R108, R392). -/
def ftbPrio (t : Nat) : Option Nat := match t with | 1 => some 3 | 2 => some 1 | 3 => some 6 | _ => none

/-- The Study servo that owns the port's PTP on a transport, and for UDP on the local address. -/
def State.servoOf (s : State) (p : Nat) (eth : Bool) (addr : Nat) : Option Bool :=
  let owns := fun (x : Servo) => x.on && x.port == p && x.transport == eth && (eth || x.addr == addr)
  if owns s.blv.servo1 then some false else if owns s.blv.servo2 then some true else none

/-- A frame that the parser drops. -/
def parseDrop (s : State) (p : Nat) : State := s.bump (netPortA p 0x3C) 1

/-- The servo of a base sends a delay request, once per interval of at most twice 2^LOG_DELAY_REQ s (R482).
DEDUCED, log entry 42. -/
def servoAsks (s : State) (two : Bool) : State :=
  let sv := s.blv.servo two
  if !sv.on || (sv.state ≠ 1 && sv.state ≠ 2) || s.now < sv.nextAsk then s
  else
    let (n, s) := s.fresh
    let mean := 2 ^ (sv.logDelay + 7).toNat * ctPerSec / 2 ^ 7
    let a := tget { ip := { v6 := false, bits := 0 }, vid := 0, hop := 0 } (s.netPort sv.port).addrs sv.addr
    let udp := if a.ip.v6 then 48 else 28
    let bytes := 14 + (if sv.transport then 0 else udp + if a.vid = 0 then 0 else 4) + 44
    let s := { s with blv := s.blv.setServo two { sv with asked := sv.asked + 1, nextAsk := s.now + Config.freeNat n % (2 * mean + 1) } }
    sendPort s sv.port 0 (Nat.max 60 bytes) { body := [17, if sv.transport then 1 else 0, sv.domain, sv.asked % 2 ^ 16],
                                              net := [s.portMac sv.port, if sv.transport then 0 else a.vid] }

/-- A PTP frame: the servo takes it, or it is punted with its stamp. DEDUCED, log entry 42. -/
def ptpArrives (s : State) (p : Nat) (f : Frame) (eth isEvent : Bool) (addr : Nat) : State :=
  match s.servoOf p eth addr with
  | some two => servoAsks (servoFrame s two) two
  | none => puntFrame s p f 5 noLeg (if isEvent then some (rxStamp s p f.fine) else none)

/-- The parser's rows from the destination address onward. -/
def parseUdp (s : State) (p : Nat) (f : Frame) : State :=
  match (s.netPort p).addrs.find? fun e => e.2.ip == f.dst && e.2.vid == (f.vid.map fun v => v.val).getD 0 with
  | none => s.bump (netPortA p 0x40) 1
  | some (i, _) =>
    if !f.udpSumOk then parseDrop s p
    else if f.dstPort = 319 || f.dstPort = 320 then ptpArrives s p f false (f.dstPort == 319 && decide (f.ptpType.val ≤ 3)) i
    else if !(s.legsAt p i f.dstPort.toNat).any fun l => s.live (legKey l) then puntFrame s p f 1 noLeg none
    else steer s p i f

/-- The Footbridge's frames on its port: its VLAN and Ethertype 0x88B5. DEDUCED, log entry 41. -/
def State.ftbFrame (s : State) (p : Nat) (f : Frame) : Bool :=
  match s.ftb.cfg with
  | some g => g.port == p && f.vid.map (fun v => v.val) == some g.vid && f.ethertype == 0x88B5
  | none => false

/-- A Footbridge frame goes to its sender's flow while the Footbridge runs. -/
def ftbArrives (s : State) (p : Nat) (f : Frame) : State :=
  if !s.isRunning ftbKey then parseDrop s p
  else match ftbPrio f.ftbType.toNat with
    | none => s
    | some pr => match writeLoose s 0 0 (f.len - 4) with
      | (some h, s) => hallAdmit s (0x6000 + f.ftbSrc.val) { kind := .work, prio := pr, handle := some h, due := 0 }
      | (none, s) => s

/-- The rows of R87 in their order. DEDUCED, log entry 41. -/
def parse (s : State) (p : Nat) (f : Frame) : State :=
  let g := s.portCfg p
  let accepted := match f.vid with | some v => g.vids.contains v.val | none => g.untagged
  if !f.fcsOk then s.bump (netPortA p 0x30) 1
  else if g.maxFrame < f.len then parseDrop s p
  else if f.ethertype = 0x8808 then s.bump (netPortA p 0x48) 1
  else if f.outerTag then puntFrame s p f 6 noLeg none
  else if s.ftbFrame p f then ftbArrives s p f
  else if !accepted then parseDrop s p
  else if f.ethertype = 0x88F7 then ptpArrives s p f true (decide (f.ptpType.val ≤ 3)) 0
  else if f.ethertype ≠ 0x0800 && f.ethertype ≠ 0x86DD then puntFrame s p f 3 noLeg none
  else if f.ethertype = 0x0800 && !f.ipHdrOk then parseDrop s p
  else if f.fragment then puntFrame s p f 4 noLeg none
  else if !f.udp then puntFrame s p f 3 noLeg none
  else parseUdp s p f

/-- FEC codewords that the port's FEC has corrected, and could not correct, are counted. DEDUCED, log entry 38. -/
def countFec (s : State) (p : Nat) (f : Frame) : State :=
  if (s.portCfg p).fec = 0 then s
  else
    let s := (s.bump (netPortA p 0x34) f.fecCorr).bump (netPortA p 0x38) f.fecUncorr
    if f.fecUncorr = 0 then s else pulse s (128 + p)

/-- A port whose link is up receives a frame. DEDUCED, log entry 36. -/
def execFrameReceived (p : Fin 8) (f : Frame) (s : State) : Outcome State Fault Refusal :=
  let st := (s.obj (portKey p)).st
  .next (if (st == .running || st == .draining) && (s.netPort p).linkUp && s.running then
      parse (((countFec s p f).bump64 (netPortA p 0x10) 1).bump64 (netPortA p 0x18) f.len) p f
    else s)

/-! ## Registers (R124) -/

def State.netModeWord (s : State) : Word :=
  low (s.netMode + ((List.range 8).foldl (fun n p => n + if s.portPresent p then 2 ^ p else 0) 0) * 256)

/-- DEDUCED, log entry 38. -/
def State.portStat (s : State) (p : Nat) : Word :=
  if !s.portPresent p then 0
  else
    let x := s.netPort p
    let f := fun (b : Bool) (i : Nat) => if b then 2 ^ i else 0
    let sp := match s.portSpeed p with | 10000 => 0 | 25000 => 1 | _ => 2
    let run := s.isRunning (portKey p)
    low (0x80 + sp * 16 + f (x.fecLock || ((run || x.cfg.isSome) && (s.portCfg p).fec == 0)) 3 + f x.blockLock 2 + f x.linkUp 1 + f run 0)

end Sys2Proof.Machine
end

