-- ==== Sys2Proof/Machine/Legs.lean ====
section
/-!
DEFINITION. Legs: their commands, ICE-lite, consent and silence, jitter buffers, RTCP and the bandwidth estimator
(R91-R107, R118-R123).
-/
namespace Sys2Proof.Machine

open Host

def legOk (n : Nat) : Bool := decide (n < 8192)

/-! ## Commands (R118-R121) -/

/-- Another static leg has this remote address and port (R121). DEDUCED, log entry 43. -/
def State.remoteTaken (s : State) (l : Nat) (g : LegCfg) : Bool :=
  g.static && s.net.sets.any fun e => e.1 != l && (match e.2.cfg with
    | some h => h.static && h.remote == g.remote && h.remoteUdp == g.remoteUdp
    | none => false)

def orDefault (v d : Nat) : Nat := if v = 0 then d else v

/-- Checks of 0x0420 in their order (R60). DEDUCED, log entry 43. -/
def State.legConfigChecks (s : State) (c : Cmd) : List (Bool × Status) :=
  let w5 := c.word 5
  let w6 := c.word 6
  let port := bits w5 2 0
  let r := ((c.word 9).toNat * 2 ^ 32 + (c.word 10).toNat) * 2 ^ 32 + (c.word 11).toNat
  let g : LegCfg :=
    { conf := bits (c.word 4) 9 0, port := port, addr := bits w5 7 4, udp := bits w5 31 16, static := bit w6 0, rejoin := bit w6 1,
      ccfb := bit w6 2, nack := bit w6 3, consent := orDefault (c.word 7).toNat 2116800000, silence := orDefault (c.word 8).toNat 705600000,
      remote := BitVec.ofNat 128 (r * 2 ^ 32 + (c.word 12).toNat), remoteUdp := bits (c.word 13) 15 0,
      levelId := bits (c.word 14) 7 0, ddId := bits (c.word 14) 15 8, rtcp := orDefault (c.word 15).toNat 70560000 }
  let bad := bits (c.word 4) 31 10 != 0 || bit w5 3 || bits w5 15 8 != 0 || bits w6 31 4 != 0 || bits (c.word 13) 31 16 != 0 ||
    bits (c.word 14) 31 16 != 0 || !s.portPresent port
  [(s.hatchLeg c.num, stBusy), (!s.stopped (legKey c.num), stNotStopped), (bad, stBadField), (s.remoteTaken c.num g, stAddrInUse)]

def execLegConfig (c : Cmd) (s : State) : Outcome State Fault Refusal :=
  .next (runCmd s 0x0420 c 1 1 (legOk c.num) (s.legPowered c.num) fun s =>
    let w5 := c.word 5
    let w6 := c.word 6
    let port := bits w5 2 0
    let r := ((c.word 9).toNat * 2 ^ 32 + (c.word 10).toNat) * 2 ^ 32 + (c.word 11).toNat
    let g : LegCfg :=
      { conf := bits (c.word 4) 9 0, port := port, addr := bits w5 7 4, udp := bits w5 31 16, static := bit w6 0, rejoin := bit w6 1,
        ccfb := bit w6 2, nack := bit w6 3, consent := orDefault (c.word 7).toNat 2116800000, silence := orDefault (c.word 8).toNat 705600000,
        remote := BitVec.ofNat 128 (r * 2 ^ 32 + (c.word 12).toNat), remoteUdp := bits (c.word 13) 15 0,
        levelId := bits (c.word 14) 7 0, ddId := bits (c.word 14) 15 8, rtcp := orDefault (c.word 15).toNat 70560000 }
    checked s 0x0420 c (s.legConfigChecks c) fun s => finish (bumpGen (s.setLegSet c.num { s.legSet c.num with cfg := some g }) (legKey c.num)) 0x0420 c stOk)

/-- Another leg on the same local address and port has this local ufrag. -/
def State.fragTaken (s : State) (l : Nat) (frag : List Byte) : Bool :=
  match (s.legSet l).cfg with
  | none => false
  | some g => s.net.sets.any fun e => e.1 != l && (match e.2.cfg, e.2.cred with
    | some h, some k => h.port == g.port && h.addr == g.addr && h.udp == g.udp && k.lfrag == frag
    | _, _ => false)

/-- Checks of 0x0421 in their order (R60). -/
def State.legIceCredChecks (s : State) (c : Cmd) : List (Bool × Status) :=
  let w := c.word 4
  let nl := bits w 5 0
  let nr := bits w 13 8
  let np := bits w 22 16
  let cred : LegCred := { lfrag := c.bytes 5 nl, rfrag := c.bytes 13 nr, pwd := c.bytes 21 np }
  let bad := bits w 7 6 != 0 || bits w 15 14 != 0 || bits w 31 23 != 0 || decide (nl < 4) || decide (32 < nl) || decide (32 < nr) ||
    decide (np < 22) || decide (64 < np)
  [(s.hatchLeg c.num, stBusy), (!s.stopped (legKey c.num), stNotStopped), (bad, stBadField),
   (s.fragTaken c.num cred.lfrag, stAddrInUse)]

def execLegIceCred (c : Cmd) (s : State) : Outcome State Fault Refusal :=
  .next (runCmd s 0x0421 c 3 3 (legOk c.num) (s.legPowered c.num) fun s =>
    let w := c.word 4
    let nl := bits w 5 0
    let nr := bits w 13 8
    let np := bits w 22 16
    let cred : LegCred := { lfrag := c.bytes 5 nl, rfrag := c.bytes 13 nr, pwd := c.bytes 21 np }
    checked s 0x0421 c (s.legIceCredChecks c) fun s => finish (bumpGen (s.setLegSet c.num { s.legSet c.num with cred := some cred }) (legKey c.num)) 0x0421 c stOk)

/-- The settings of a LEG_STREAM, fields left 0 at their defaults (R105); an RTX stream takes the video defaults. DESIGN CHOICE,
log entry 158. -/
def streamOf (c : Cmd) : StreamCfg :=
  let w := c.word 4
  let audio := bits w 6 5 == 0
  let mx := orDefault (c.word 9).toNat (if audio then 14112000 else 35280000)
  { send := bit w 4, kind := bits w 6 5, ssrc := c.word 5, pt := bits (c.word 6) 6 0, rtxOf := bits (c.word 6) 10 8,
    clock := (c.word 7).toNat, jbMin := orDefault (c.word 8).toNat (if audio then 141120 else 0), jbMax := mx,
    jbInit := orDefault (c.word 10).toNat (if audio then 2822400 else 7056000), jbK := orDefault (bits (c.word 11) 7 0) 0x40,
    jbShrink := orDefault (c.word 12).toNat 141120000, jbSilence := orDefault (bits (c.word 13) 6 0) 70 }

/-- Ranges of R105 and of CLOCK. -/
def StreamCfg.inRange (x : StreamCfg) : Bool :=
  decide (8000 ≤ x.clock) && decide (x.clock ≤ 96000) && decide (x.jbMax ≤ 70560000) && decide (x.jbMin ≤ x.jbMax) &&
  decide (x.jbMin ≤ x.jbInit) && decide (x.jbInit ≤ x.jbMax) && decide (0x10 ≤ x.jbK)

/-- Checks of 0x0422 in their order (R60); with VALID 0 the ranges of the other fields are not checked. DESIGN CHOICE, log
entry 157. -/
def State.legStreamChecks (s : State) (c : Cmd) : List (Bool × Status) :=
  let w := c.word 4
  let x := streamOf c
  let reserved := bit w 3 || bits w 30 7 != 0 || bit (c.word 6) 7 || bits (c.word 6) 31 11 != 0 || bits (c.word 11) 31 8 != 0 ||
    bits (c.word 13) 31 7 != 0
  let bad := reserved || x.kind == 3 || (bit w 31 && !x.inRange)
  [(s.hatchLeg c.num, stBusy), (!s.stopped (legKey c.num), stNotStopped), (bad, stBadField)]

def execLegStream (c : Cmd) (s : State) : Outcome State Fault Refusal :=
  .next (runCmd s 0x0422 c 1 1 (legOk c.num) (s.legPowered c.num) fun s =>
    let w := c.word 4
    let i := bits w 2 0
    let x := streamOf c
    checked s 0x0422 c (s.legStreamChecks c) fun s =>
      let g := s.legSet c.num
      let g := { g with streams := if bit w 31 then tput g.streams i x else tdel g.streams i }
      finish (bumpGen (s.setLegSet c.num g) (legKey c.num)) 0x0422 c stOk)

/-- Checks of 0x0423 in their order (R60). -/
def State.legBweChecks (s : State) (c : Cmd) : List (Bool × Status) :=
  let win := bits (c.word 5) 7 0
  let bad := bits (c.word 5) 15 8 != 0 || bits (c.word 11) 31 16 != 0 || (win != 0 && (decide (win < 2) || decide (64 < win)))
  [(s.hatchLeg c.num, stBusy), (!s.stopped (legKey c.num), stNotStopped), (bad, stBadField)]

def execLegBwe (c : Cmd) (s : State) : Outcome State Fault Refusal :=
  .next (runCmd s 0x0423 c 1 1 (legOk c.num) (s.legPowered c.num) fun s =>
    checked s 0x0423 c (s.legBweChecks c) fun s =>
      let g := { s.legSet c.num with bwe := (List.range 12).map fun i => c.word (4 + i) }
      finish (bumpGen (s.setLegSet c.num g) (legKey c.num)) 0x0423 c stOk)

/-- Parameters of a leg's estimator, fields left 0 at their defaults (R107). -/
structure Bwe where
  group : Nat
  win   : Nat
  smooth : Nat
  gain  : Nat
  kUp   : Nat
  kDown : Nat
  beta  : Nat
  thrMin : Nat
  overuse : Nat
  inc   : Nat
  lossHigh : Nat
  lossLow : Nat
  rateWin : Nat
  rateMin : Nat
  rateMax : Nat
  rateStart : Nat
  deriving DecidableEq, Repr

def LegSet.params (g : LegSet) : Bwe :=
  let w := fun (k : Nat) => g.bwe.getD (k - 4) 0
  { group := orDefault (w 4).toNat 352800, win := orDefault (bits (w 5) 7 0) 20, smooth := orDefault (bits (w 5) 31 16) 58982,
    gain := orDefault (bits (w 6) 15 0) 1024, kUp := orDefault (bits (w 6) 31 16) 655, kDown := orDefault (bits (w 7) 15 0) 12,
    beta := orDefault (bits (w 7) 31 16) 55706, thrMin := orDefault (w 8).toNat 423360, overuse := orDefault (w 9).toNat 705600,
    inc := orDefault (bits (w 10) 15 0) 5243, lossHigh := orDefault (bits (w 10) 31 16) 6554, lossLow := orDefault (bits (w 11) 15 0) 1311,
    rateWin := orDefault (w 12).toNat 35280000, rateMin := orDefault (w 13).toNat 30, rateMax := orDefault (w 14).toNat 20000,
    rateStart := orDefault (w 15).toNat 300 }

/-- LEG_STATS: a leg that has not started holds RATE_START. DEDUCED, log entry 49. -/
def execLegStats (c : Cmd) (s : State) : Outcome State Fault Refusal :=
  .next (runCmd s 0x0424 c 1 1 (legOk c.num) true fun s =>
    let x := s.stream c.num (bits (c.word 4) 2 0)
    let e := if s.stopped (legKey c.num) then (s.legSet c.num).params.rateStart else s.estimate c.num
    checked s 0x0424 c [(bits (c.word 4) 31 3 != 0, stBadField)] fun s =>
      complete s 0x0424 c stOk (low e) (low x.received) (low x.lost) (low x.depth))

/-! ## Start and stop (R97, R121, R122, R133, R159, R407) -/

/-- An audio receive stream's clock is one that its codec takes. DEDUCED, log entry 45. -/
def State.clocksOk (s : State) (l : Nat) : Bool :=
  (s.legSet l).streams.all fun e => e.2.send || e.2.kind != 0 || e.2.clock == 8000 || e.2.clock == 48000

def State.staticBad (s : State) (l : Nat) : Bool :=
  match (s.legSet l).cfg, s.legAddr l with
  | some g, some a => g.static && !a.ip.v6 && decide (2 ^ 32 ≤ g.remote.toNat)
  | _, _ => false

/-- DEDUCED, log entry 44. -/
def State.legChecks (s : State) (l : Nat) : List (Bool × Status) :=
  [(s.staticBad l || !s.clocksOk l, stBadField),
   (decide (4 ≤ s.hall.step), stNoResource),
   (s.ice.lent && decide (8175 ≤ l), stNoResource),
   ((s.legAddr l).isNone, stNoAddress)]

/-- A refusal by load-ladder step L4 is counted. DEDUCED, log entry 44. -/
def countL4 (s : State) (l : Nat) : State :=
  if firstFail (s.legChecks l) = some stNoResource && decide (4 ≤ s.hall.step) then s.bump (halA 0x8C) 1 else s

/-- The next RTCP interval: free within a half to one and a half times RTCP_CT. DEDUCED, log entry 57. -/
def rtcpDraw (s : State) (g : LegCfg) : Nat × State :=
  let (n, s) := s.fresh
  (g.rtcp / 2 + Config.freeNat n % (g.rtcp + 1), s)

/-- LEG_ACTIVE and LEG_MOVED carry the same words. -/
def legEvent (s : State) (code : BitVec 16) (l : Nat) : State :=
  let r := s.legRun l
  event s code (low l) (r.remote.bits.setWidth 32) (low (r.remoteUdp + if r.remote.v6 then 65536 else 0)) (s.blv.tb0.setWidth 32) 0

/-- A leg latches a remote address and goes ACTIVE; both timers start at the stamp given. -/
def latch (s : State) (l : Nat) (ip : IpAddr) (udp stamp : Nat) : State :=
  match (s.legSet l).cfg with
  | none => s
  | some g =>
    let (d, s) := rtcpDraw s g
    let r := s.legRun l
    let s := s.setLegRun l { r with conn := .active, remote := ip, remoteUdp := udp, consentAt := stamp, mediaAt := stamp,
                                    rtcpDue := some (s.now + d), ccfbDue := some (s.now + 3528000) }
    legEvent s 0x0410 l

/-- Initial state of a leg's streams: receive buffers at JB_INIT_CT, send streams at a free sequence number. -/
def openStreams (s : State) (l : Nat) : State :=
  (s.legSet l).streams.foldl (fun s e =>
    if e.2.send then
      let (n, s) := s.fresh
      s.setStream l e.1 { sendSeq := BitVec.ofNat 16 (Config.freeNat n) }
    else s.setStream l e.1 { depth := e.2.jbInit, target := e.2.jbInit }) s

/-- RUNNING: LISTENING, or ACTIVE for a static leg; CAUSE and MOVES start at 0. DESIGN CHOICE, log entry 160. -/
def legOpens (s : State) (l : Nat) : State :=
  match (s.legSet l).cfg with
  | none => s
  | some g =>
    let r := (s.legSet l).params.rateStart
    let s := s.setLegRun l { conn := .listening, est := { est := r, ad := r, al := r, last := s.now } }
    let s := openStreams s l
    let s := s.setLegAudio l {}
    let s := s.setLegPrg l { s.legPrg l with log := [], sent := [], polDrops := 0, qDrops := 0 }
    if g.static then
      let v6 := ((s.legAddr l).map fun a => a.ip.v6).getD false
      latch s l { v6 := v6, bits := if v6 then g.remote else BitVec.ofNat 128 (g.remote.toNat % 2 ^ 32) } g.remoteUdp s.now
    else s

def State.legQueues (l : Nat) : List Nat := (List.range 4).map fun k => 4 * l + k

/-- The leg has no connection any more: its intervals end. -/
def legCloses (s : State) (l : Nat) : State :=
  s.setLegRun l { s.legRun l with conn := .absent, rtcpDue := none, ccfbDue := none }

/-- The leg's drain is over: what is still queued is discarded, in its flow and in its queues. DEDUCED, log entry 46. -/
def legDrained (s : State) (l : Nat) : State :=
  reachStopped (legCloses ((State.legQueues l).foldl emptyQueue (dropFlow s (legFlow l))) l) 4 l

/-- Its flow holds nothing and is not in service, and its queues are empty (R95, R122). -/
def State.legIdle (s : State) (l : Nat) : Bool :=
  (State.legQueues l).all (fun q => (s.queue q).entries.isEmpty) &&
  (s.flow (legFlow l)).items.isEmpty && (s.flow (legFlow l)).active.isNone && !s.hall.waiting.any fun w => w.1 == legFlow l

/-- DRAINING: the STOP joins the leg's flow as an item; ABORT discards what waits (R95). DEDUCED, log entry 46. -/
def legDrain (s : State) (l : Nat) (ab : Bool) : State :=
  if ab then legDrained s l else hallAdmit s (legFlow l) { kind := .stop, prio := 0, handle := none, due := 0 }

/-- The STOP item is served: the items before it have been, BYE goes out for each send stream, the connection ends (R95,
R122). DEDUCED, log entry 46. -/
def legStops (s : State) (l : Nat) : State :=
  let byes := if (s.legRun l).conn == .active then (s.legSet l).streams.filter fun e => e.2.send else []
  legCloses (byes.foldl (fun s e => sendRtcp s l 8 [4, l, e.2.ssrc.toNat]) s) l

/-- 1,411,200 ct after a leg's STOP the rest of its egress is discarded; the leg is STOPPED once its flow has served what
stood before the STOP. -/
def execLegDrainTimeout (l : Fin 8192) (s : State) : Outcome State Fault Refusal :=
  let k := legKey l
  .next (if s.draining k && decide ((s.obj k).since + 1411200 ≤ s.cyc) then
      let s := (State.legQueues l).foldl emptyQueue s
      if s.legIdle l then legDrained s l else s
    else s)

/-- An idle core takes a flow's head item; the STOP item of a leg's flow ends the leg's connection (R95, R395). -/
def execHallDispatch (k : Fin 20) (s : State) : Outcome State Fault Refusal :=
  let p := hallDispatch s k
  .next (match p.1 with
    | some (f, i) => if i.kind == .stop && flowClass f == 0 then legStops p.2 f else p.2
    | none => p.2)

/-! ## ICE-lite (R93, R94) -/

/-- The leg that a request's username names: one on its local address and port, with ICE, that is RUNNING or has not yet
served its STOP; a leg in STARTING, or one that drains after that, matches nothing. DEDUCED, log entry 47. DESIGN CHOICE, log
entry 156. -/
def State.stunLeg (s : State) (q : Stun) : Option Nat :=
  (s.legsAt q.port q.addrIndex q.localUdp.toNat).find? fun l =>
    s.live (legKey l) && (s.legRun l).conn != .absent && (match (s.legSet l).cfg, (s.legSet l).cred with
      | some g, some k => !g.static && k.lfrag == q.lfrag && (k.rfrag.isEmpty || k.rfrag == q.rfrag)
      | _, _ => false)

/-- LEG_UNKNOWN_PEER, within its two limits. -/
def unknownPeer (s : State) (q : Stun) (buf : Option Nat) : State :=
  let tuple := [q.port.val, q.addrIndex.val, q.localUdp.toNat, if q.remote.v6 then 1 else 0, q.remote.bits.toNat, q.remoteUdp.toNat]
  let recent := s.net.unknown.filter fun e => decide (s.cyc < e.2 + ctPerSec)
  let s := { s with net := { s.net with unknown := recent } }
  if (recent.any fun e => e.1 == tuple) || 1000 ≤ recent.length then s.bump (pktA 0x0C) 1
  else
    event { s with net := { s.net with unknown := recent ++ [(tuple, s.cyc)] } } 0x0411 0xFFFF_FFFF
      (low (q.port.val + q.addrIndex.val * 16 + q.localUdp.toNat * 65536)) (q.remote.bits.setWidth 32) (q.remoteUdp.setWidth 32)
      (low (buf.getD noLeg))

/-- The success response: XOR-MAPPED-ADDRESS, MESSAGE-INTEGRITY, FINGERPRINT (R571). -/
def stunAnswer (s : State) (l : Nat) (q : Stun) : State :=
  let s := s.bump (pktA 0x00) 1
  let n := s.udpBytes l (if q.remote.v6 then 76 else 64)
  -- the answer goes to the request's source, whatever address the leg has latched
  sendPacket s (4 * l + 3) n
    { counted := n, body := [9, l, q.remote.bits.toNat, q.remoteUdp.toNat],
      net := (s.legNet l).take 5 ++ [q.remote.bits.toNat, q.remoteUdp.toNat] }

/-- A valid request's effect on the leg's connection. -/
def stunMoves (s : State) (l : Nat) (q : Stun) : State :=
  let r := s.legRun l
  let t := q.stamp.toNat
  let rejoin := ((s.legSet l).cfg.map fun g => g.rejoin).getD false
  let same := r.remote == q.remote && r.remoteUdp == q.remoteUdp.toNat
  match r.conn with
  | .active =>
    if same then s.setLegRun l { r with consentAt := Nat.max r.consentAt t }
    else if q.useCandidate then
      let s := s.setLegRun l { r with remote := q.remote, remoteUdp := q.remoteUdp.toNat, moves := Nat.min 65535 (r.moves + 1),
                                      consentAt := Nat.max r.consentAt t }
      legEvent s 0x0413 l
    else s
  | .listening => if q.useCandidate then latch s l q.remote q.remoteUdp.toNat t else s
  | .departed => if q.useCandidate && rejoin then latch s l q.remote q.remoteUdp.toNat t else s
  | .absent => s

def execStunBindingRequest (q : Stun) (s : State) : Outcome State Fault Refusal :=
  if !s.running then .next s
  else match s.stunLeg q with
  | none =>
    let p := punt (s.bump (pktA 0x08) 1) q.port q.len 7 noLeg (q.stamp.setWidth 32) none q.data q.puntFail
    .next (unknownPeer p.2 q p.1)
  | some l =>
    if !q.integrity || !q.fingerprint then .next (s.bump (pktA 0x04) 1)
    else .next (stunAnswer (stunMoves s l q) l q)

/-! ## Consent and silence (R96) -/

def departLeg (s : State) (l cause : Nat) : State :=
  event (s.setLegRun l { s.legRun l with conn := .departed, cause := cause, rtcpDue := none, ccfbDue := none }) 0x0412 (low l) (low cause) 0 0 0

def execConsentExpiry (l : Fin 8192) (s : State) : Outcome State Fault Refusal :=
  .next (match (s.legSet l).cfg with
    | some g => if s.running && s.timeoutServed (legFlow l) && (s.legRun l).conn == .active && !g.static &&
          decide ((s.legRun l).consentAt + g.consent ≤ s.now)
        then departLeg s l 1 else s
    | none => s)

def execSilenceExpiry (l : Fin 8192) (s : State) : Outcome State Fault Refusal :=
  .next (match (s.legSet l).cfg with
    | some g => if s.running && s.timeoutServed (legFlow l) && (s.legRun l).conn == .active && g.silence != 0xFFFF_FFFF &&
          decide ((s.legRun l).mediaAt + g.silence ≤ s.now)
        then departLeg s l 2 else s
    | none => s)

/-- An authenticated packet restarts the silence timer by its arrival stamp. -/
def heardAt (s : State) (l t : Nat) : State := s.setLegRun l { s.legRun l with mediaAt := Nat.max (s.legRun l).mediaAt t }

/-! ## Sequence numbers and deadlines (R101) -/

/-- Extended sequence number nearest the highest one received. DEDUCED, log entry 56. -/
def extSeq (hi : Option Nat) (seq : Nat) : Nat :=
  match hi with
  | none => 65536 + seq
  | some h =>
    let d := (seq + 65536 - h % 65536) % 65536
    if d < 32768 then h + d else h + d - 65536

/-- Extended timestamp nearest the one given. DEDUCED, log entry 56. -/
def extTs (hi : Option Int) (ts : Nat) : Int :=
  match hi with
  | none => (ts : Int)
  | some h =>
    let d := ((ts : Int) - h) % 4294967296
    if d < 2147483648 then h + d else h + d - 4294967296

/-- RTP ticks in ct. -/
def tickCt (clock : Nat) (ticks : Int) : Int := (ticks * 70560000).fdiv (clock : Nat)

/-- Playout deadline of a timestamp at a depth. DEDUCED, log entry 51. -/
def StreamRun.due (x : StreamRun) (c : StreamCfg) (ts : Int) (depth : Nat) : Nat :=
  Nat.max x.lastDue ((x.ancDue : Int) + tickCt c.clock (ts - x.ancTs) + (depth : Int) - (c.jbInit : Int)).toNat

/-- Round up to a whole 70,560 ct. -/
def ceilMs (v : Nat) : Nat := (v + 70559) / 70560 * 70560

def StreamCfg.clamp (c : StreamCfg) (v : Nat) : Nat := Nat.max c.jbMin (Nat.min v c.jbMax)

/-- RFC 3550 jitter times 16 after a packet, from arrival stamps (R102). -/
def StreamRun.jitter (x : StreamRun) (c : StreamCfg) (arr : Nat) (ts : Int) : Nat :=
  match x.last with
  | none => x.jit
  | some (a, t) =>
    let d := (((arr : Int) - a) - tickCt c.clock (ts - t)).natAbs
    x.jit + d - x.jit / 16

/-- Target depth from the jitter, and the rise that a late packet has left. DEDUCED, log entry 50. -/
def StreamRun.newTarget (x : StreamRun) (c : StreamCfg) : Nat := c.clamp (Nat.max (ceilMs (c.jbK * x.jit / 256)) x.raised)

/-- A late packet raises the target at once (R102). -/
def StreamRun.raise (x : StreamRun) (c : StreamCfg) (late : Nat) : StreamRun :=
  let t := c.clamp (x.target + ceilMs late)
  { x with target := t, raised := t }

/-- Remember numbers that were lost or discarded, as far back as an extended sequence number can reach (`extSeq`). -/
def StreamRun.miss (x : StreamRun) (l : List Nat) : StreamRun :=
  { x with missed := (x.missed ++ l).filter fun e => decide (x.hi.getD 0 ≤ e + 32768) }

def StreamRun.holds (x : StreamRun) (e : Nat) : Bool := x.pkts.any fun (p : JbPkt) => p.ext == e

/-- Lowest number that a buffer holds. -/
def StreamRun.lowest (x : StreamRun) : Option JbPkt :=
  x.pkts.foldl (fun m p => match m with | none => some p | some q => if p.ext < q.ext then some p else some q) none

/-! ## Audio playout (R102, R103) -/

/-- The frame that plays next: its number is there, or it is taken as lost once a later packet is there. Answers its
deadline and its packet. -/
def StreamRun.nextFrame (x : StreamRun) : Option (Nat × Option JbPkt) :=
  match x.pkts.find? fun (p : JbPkt) => p.ext == x.next with
  | some p => some (p.due, some p)
  | none =>
    match x.lowest with
    | none => none
    | some p =>
      let back := (((p.ext - x.next) * x.dur * 1470 : Nat) : Int)
      some (Nat.max x.lastDue ((p.due : Int) - back).toNat, none)

/-- A frame is lost. -/
def loseFrame (s : State) (l i : Nat) (due : Nat) : State :=
  let x := s.stream l i
  releaseAudio (s.setStream l i { x.miss [x.next] with next := x.next + 1, lost := x.lost + 1, lastDue := Nat.max x.lastDue due }) l x.dur true

/-- Frames whose deadlines have come are released, or reported lost. -/
def playAudio (l i : Nat) (c : StreamCfg) : Nat → State → State
  | 0, s => s
  | n + 1, s =>
    let x := s.stream l i
    match x.nextFrame with
    | none => s
    | some (due, p) =>
      match p with
      | some p =>
        if p.skip then playAudio l i c n (s.setStream l i { x with pkts := x.pkts.filter (fun (q : JbPkt) => q != p), next := x.next + 1 })
        else if due ≤ s.now then
          let s := s.setStream l i { x with pkts := x.pkts.filter (fun (q : JbPkt) => q != p), next := x.next + 1,
                                            lastDue := Nat.max x.lastDue due, dur := p.dur }
          playAudio l i c n (releaseAudio s l p.dur false)
        else s
      | none => if due ≤ s.now then playAudio l i c n (loseFrame s l i due) else s

/-- Steps that playing out a buffer can take. -/
def StreamRun.fuel (x : StreamRun) : Nat :=
  x.pkts.length + 1 + (match x.hi with | some h => h + 1 - x.next | none => 0)

/-- DEDUCED, log entry 53. -/
def playOut (s : State) (l i : Nat) (c : StreamCfg) : State := playAudio l i c (s.stream l i).fuel s

/-- Frames from the next one to number e are lost. DEDUCED, log entry 53. -/
def loseTo (s : State) (l i e due : Nat) : State :=
  (List.range (e + 1 - (s.stream l i).next)).foldl (fun s _ => loseFrame s l i due) s

/-- Elements of a header extension in the one-byte form: ID and data; an ID of 0 is padding, 15 ends it. PRESUMED, log entry
164. -/
def oneByteExts : Nat → List Byte → List (Nat × List Byte)
  | 0, _ => []
  | _, [] => []
  | n + 1, b :: r =>
    let id := b.toNat / 16
    let len := b.toNat % 16 + 1
    if b = 0 then oneByteExts n r else if id = 15 then [] else (id, r.take len) :: oneByteExts n (r.drop len)

/-- Elements in the two-byte form. PRESUMED, log entry 164. -/
def twoByteExts : Nat → List Byte → List (Nat × List Byte)
  | 0, _ => []
  | _, [] => []
  | n + 1, b :: r =>
    if b = 0 then twoByteExts n r
    else match r with
      | [] => []
      | c :: r => (b.toNat, r.take c.toNat) :: twoByteExts n (r.drop c.toNat)

end Sys2Proof.Machine

namespace Sys2Proof
open Sys2Proof.Machine

/-- Header-extension elements of a packet (R100). -/
def Rtp.exts (k : Rtp) : List (Nat × List Byte) :=
  if k.profile = 0xBEDE then oneByteExts k.ext.length k.ext
  else if k.profile.toNat / 16 = 0x100 then twoByteExts k.ext.length k.ext
  else []

/-- The audio level of RFC 6464 at the ID that LEG_CONFIG gives; with an ID of 0 none is read. PRESUMED, log entry 164. -/
def Rtp.level (k : Rtp) (id : Nat) : Option Nat :=
  if id = 0 then none
  else match k.exts.find? fun e => e.1 == id with
    | some (_, b :: _) => some (b.toNat % 128)
    | _ => none

end Sys2Proof

namespace Sys2Proof.Machine

open Host

/-- A packet of an audio stream with its extended number and timestamp. DEDUCED, log entry 50. DEDUCED, log entry 52. -/
def commitAudio (s : State) (l i : Nat) (c : StreamCfg) (k : Rtp) (e : Nat) (ts : Int) : State :=
  let s := playOut s l i c
  let x := s.stream l i
  let late := s.now - x.due c ts x.depth
  if e < x.next then
    -- its frame has been reported lost
    let s := s.bump (pktA 0x20) 1
    s.setStream l i (({ x with missed := x.missed.filter fun (m : Nat) => m != e } : StreamRun).raise c (Nat.max 1 late))
  else if 0 < late then
    let s := loseTo (s.bump (pktA 0x20) 1) l i e (x.due c ts x.depth)
    let x := s.stream l i
    s.setStream l i (({ x with missed := x.missed.filter fun (m : Nat) => m != e } : StreamRun).raise c late)
  else if c.jbMax < x.due c ts x.depth - s.now then s.bump (pktA 0x24) 1
  else
    let level := k.level (((s.legSet l).cfg.map fun g => g.levelId).getD 0)
    let s := commitLevel s l (level.getD 127)
    let quiet := k.marker || (match level with | some v => decide (c.jbSilence ≤ v) | none => false)
    let frameCt := k.dur * 1470
    let grow := quiet && decide (x.depth < x.target)
    let shrink := quiet && decide (x.target + frameCt ≤ x.depth) &&
      (match x.lastShrink with | some t => decide (t + c.jbShrink ≤ s.now) | none => true)
    let depth := if grow then x.target else if shrink then x.depth - frameCt else x.depth
    let p : JbPkt := { ext := e, ts := ts, marker := k.marker, due := x.due c ts depth, stamp := k.stamp.toNat, bytes := k.bytes, key := false,
                       unneeded := 0, dur := k.dur, skip := shrink }
    s.setStream l i { x with pkts := x.pkts ++ [p], depth := depth, raised := if quiet && decide (x.raised ≤ depth) then 0 else x.raised,
                             lastShrink := if shrink then some s.now else x.lastShrink }

/-! ## Video release (R104) -/

/-- First number of the picture that the buffer releases next. DEDUCED, log entry 51. -/
def StreamRun.start (x : StreamRun) : Nat := if x.resync then (x.lowest.map fun p => p.ext).getD x.next else x.next

/-- Packets up to the first marker, none when one is missing before it. -/
def untilMarker : List (Option JbPkt) → List JbPkt → Option (List JbPkt)
  | [], _ => none
  | none :: _, _ => none
  | some p :: r, acc => if p.marker then some (acc ++ [p]) else untilMarker r (acc ++ [p])

/-- Numbers of a whole picture: from its first to its marker, all present. -/
def StreamRun.whole (x : StreamRun) : Option (List JbPkt) :=
  let run := (List.range (x.pkts.length)).map fun j => x.pkts.find? fun (p : JbPkt) => p.ext == x.start + j
  untilMarker run []

/-- Take every number below n out of the buffer; those that never came are remembered. -/
def StreamRun.upTo (x : StreamRun) (n : Nat) (resync : Bool) : StreamRun :=
  let gone := ((List.range (n - x.next)).map fun j => x.next + j).filter fun e => !x.holds e
  { x.miss gone with pkts := x.pkts.filter (fun (p : JbPkt) => decide (n ≤ p.ext)), next := n, resync := resync }

/-- Whole pictures go to the decode slot. -/
def releaseWhole (l i : Nat) : Nat → State → State
  | 0, s => s
  | n + 1, s =>
    let x := s.stream l i
    match x.whole with
    | none => s
    | some ps =>
      let last := ps.foldl (fun m p => Nat.max m p.ext) x.next
      let due := ps.foldl (fun m p => Nat.max m p.due) x.lastDue
      let s := s.setStream l i { x.upTo (last + 1) false with lastDue := Nat.min due s.now }
      let s := match s.slotOf l i with
        | some k => releasePicture s k (ps.any fun p => p.key) (ps.all fun p => p.unneeded.getLsbD (s.slotPoint k))
        | none => s
      releaseWhole l i n s

/-- A picture still incomplete at its deadline is discarded and the slot told that it is missing; that nothing needs it is
known for H.264 only when its first packet came (R266). DEDUCED, log entry 54. -/
def discardLate (l i : Nat) : Nat → State → State
  | 0, s => s
  | n + 1, s =>
    let x := s.stream l i
    match x.lowest with
    | none => s
    | some p =>
      if s.now < p.due then s
      else
        let same := x.pkts.filter fun (q : JbPkt) => q.ts == p.ts
        let last := same.foldl (fun m (q : JbPkt) => Nat.max m q.ext) p.ext
        let ended := same.any fun (q : JbPkt) => q.ext == last && q.marker
        let first := !x.resync && p.ext == x.start
        let y := x.upTo (last + 1) (!ended)
        let s := s.setStream l i { y with lost := y.lost + (last + 1 - x.start - same.length) }
        let s := match s.slotOf l i with
          | some k => pictureMissing s k
            (((s.slotCfg k).av1 || first) && same.all fun q => q.unneeded.getLsbD (s.slotPoint k))
          | none => s
        discardLate l i n (releaseWhole l i (y.pkts.length + 1) s)

/-- A picture is complete, or its deadline has come. DEDUCED, log entry 54. -/
def playVideo (s : State) (l i : Nat) : State :=
  let n := (s.stream l i).pkts.length + 1
  discardLate l i n (releaseWhole l i n s)

/-- A generic NACK for the numbers between the highest received before and number e (R99). DEDUCED, log entry 55. -/
def nackGap (s : State) (l : Nat) (c : StreamCfg) (hi : Option Nat) (e : Nat) : State :=
  match hi, (s.legSet l).cfg with
  | some h, some g =>
    if g.nack && decide (h + 1 < e) then sendRtcp s l (12 + 4 * ((e - h - 1 + 16) / 17)) [5, l, c.ssrc.toNat, (h + 1) % 65536, e - h - 1] else s
  | _, _ => s

/-- A packet of a video stream, or a repair of one. DEDUCED, log entry 55. -/
def commitVideo (s : State) (l i : Nat) (c : StreamCfg) (k : Rtp) (e : Nat) (ts : Int) : State :=
  let s := playVideo s l i
  let x := s.stream l i
  let due := x.due c ts x.depth
  if e < x.next then s.setStream l i { x with missed := x.missed.filter fun (m : Nat) => m != e }
  else if c.jbMax < due - s.now then s.bump (pktA 0x24) 1
  else
    let p : JbPkt := { ext := e, ts := ts, marker := k.marker, due := due, stamp := k.stamp.toNat, bytes := k.bytes, key := k.key, unneeded := k.unneeded,
                       dur := 0, skip := false }
    playVideo (s.setStream l i { x with pkts := x.pkts ++ [p] }) l i

/-! ## Packets of a leg (R98, R101) -/

/-- Receive stream of a leg with an SSRC. DEDUCED, log entry 58. -/
def State.recvStream (s : State) (l : Nat) (ssrc : Word) : Option (Nat × StreamCfg) :=
  (s.legSet l).streams.find? fun (e : Nat × StreamCfg) => !e.2.send && e.2.ssrc == ssrc

/-- Send stream of a leg with an SSRC. DEDUCED, log entry 58. -/
def State.sendStream (s : State) (l : Nat) (ssrc : Word) : Option (Nat × StreamCfg) :=
  (s.legSet l).streams.find? fun (e : Nat × StreamCfg) => e.2.send && e.2.ssrc == ssrc

/-- The feedback span of a stream takes in a number. -/
def widen (f : Option (Nat × Nat)) (e : Nat) : Option (Nat × Nat) :=
  match f with
  | none => some (e, e)
  | some (a, b) => some (Nat.min a e, Nat.max b e)

/-- A packet with this number has been received before. -/
def StreamRun.had (x : StreamRun) (e : Nat) : Bool :=
  x.holds e || (x.hi.isSome && decide (x.low ≤ e) && decide (e < x.next) && !x.missed.contains e)

/-- A packet numbered below every one received so far: playout begins with it while the first frame has not been played, and
the numbers between are open. -/
def StreamRun.before (x : StreamRun) (e : Nat) : StreamRun :=
  if x.next = x.low then { x with low := e, next := e }
  else ({ x with low := e } : StreamRun).miss ((List.range (x.low - e)).map fun j => e + j)

/-- A packet enters stream i's buffer, unless it is a duplicate (R101). -/
def commitTo (s : State) (l i : Nat) (c : StreamCfg) (k : Rtp) (seq : Nat) : State :=
  let x := s.stream l i
  let e := extSeq x.hi seq
  let ts := extTs (x.hi.map fun _ => x.hiTs) k.ts.toNat
  if x.had e then s.bump (pktA 0x28) 1
  else
    let first := x.hi.isNone
    let x := { x with fb := widen x.fb e, arr := x.arr ++ [(e, k.stamp.toNat)], jit := x.jitter c k.stamp.toNat ts,
                      last := some (k.stamp.toNat, ts) }
    let x := if first then { x with ancTs := ts, ancDue := s.now + c.jbInit, low := e, next := e, hi := some e, hiTs := ts }
      else if x.hi.getD 0 < e then { x with hi := some e, hiTs := ts }
      else if e < x.low then x.before e
      else x
    let x := if c.kind = 0 && !first then { x with target := x.newTarget c } else x
    let old := (s.stream l i).hi
    let s := s.setStream l i x
    if c.kind = 0 then commitAudio s l i c k e ts
    else commitVideo (nackGap s l c old e) l i c k e ts

/-- LEG_UNKNOWN_SSRC, at most once per leg and second. -/
def unknownSsrc (s : State) (l : Nat) (ssrc : Word) : State :=
  let s := s.bump (pktA 0x1C) 1
  match s.limit (objKey 0x0417 l) ctPerSec 1 0 with
  | (some _, s) => event s 0x0417 (low l) ssrc 0 0 0
  | (none, s) => s

/-- A packet of a leg that authenticates reaches RTP processing. DEDUCED, log entry 48. -/
def rtpPacket (s : State) (l : Nat) (k : Rtp) : State :=
  if (s.legRun l).conn != .active then s.bump (pktA 0x14) 1
  else
    let s := heardAt s l k.stamp.toNat
    match s.recvStream l k.ssrc with
    | none => unknownSsrc s l k.ssrc
    | some (i, c) =>
      let s := s.setStream l i { s.stream l i with received := (s.stream l i).received + 1 }
      if c.kind = 2 then
        match tfind (s.legSet l).streams c.rtxOf with
        | some r => if r.send || r.kind == 2 then s else commitTo s l c.rtxOf r k k.osn.toNat
        | none => s
      else commitTo s l i c k k.seq.toNat

/-- DEDUCED, log entry 48. -/
def execJitterBufferCommit (l : Fin 8192) (k : Rtp) (s : State) : Outcome State Fault Refusal :=
  .next (if s.running && s.live (legKey l) then rtpPacket s l k else s)

/-- The firmware serves a TIMEOUT of a playout deadline: every deadline that TB0 has reached (R573). -/
def execAudioPlayoutDeadline (l : Fin 8192) (i : Fin 8) (s : State) : Outcome State Fault Refusal :=
  .next (match tfind (s.legSet l).streams i with
    | some c => if s.running && s.live (legKey l) && s.timeoutServed (legFlow l) && !c.send && c.kind == 0 then playOut s l i c else s
    | none => s)

def execVideoPlayoutDeadline (l : Fin 8192) (i : Fin 8) (s : State) : Outcome State Fault Refusal :=
  .next (match tfind (s.legSet l).streams i with
    | some c => if s.running && s.live (legKey l) && s.timeoutServed (legFlow l) && !c.send && c.kind == 1 then playVideo s l i else s
    | none => s)

/-! ## The timer of a leg's flow (R104, R573) -/

/-- Playout deadline of a receive stream that is pending, with the PRIORITY of its TIMEOUT (R392). -/
def State.playoutDue (s : State) (l : Nat) (e : Nat × StreamCfg) : Option (Nat × Nat) :=
  let x := s.stream l e.1
  if e.2.send || e.2.kind = 2 then none
  else if e.2.kind = 0 then x.nextFrame.map fun p => (p.1, 1)
  else x.lowest.map fun p => (p.due, 5)

/-- Every pending deadline of a leg: its playouts, consent, silence and the RTCP interval. -/
def State.legDeadlines (s : State) (l : Nat) : List (Nat × Nat) :=
  match (s.legSet l).cfg with
  | none => []
  | some g =>
    let r := s.legRun l
    let timers := if r.conn == .active then
        (if g.static then [] else [(r.consentAt + g.consent, 3)]) ++
        (if g.silence = 0xFFFF_FFFF then [] else [(r.mediaAt + g.silence, 3)]) ++
        (r.rtcpDue.map fun t => (t, 3)).toList
      else []
    if r.conn == .absent then [] else (s.legSet l).streams.filterMap (s.playoutDue l) ++ timers

/-- The earliest deadline; of equal ones the one of the higher priority. -/
def firstDue (l : List (Nat × Nat)) : Option (Nat × Nat) :=
  l.foldl (fun m d => match m with
    | none => some d
    | some e => if d.1 < e.1 || (d.1 == e.1 && d.2 < e.2) then some d else some e) none

/-- The flow's timer is armed for the leg's earliest pending deadline, in DEADLINE mode. DEDUCED, log entry 162. -/
def armLeg (s : State) (l : Nat) : State :=
  match firstDue (s.legDeadlines l) with
  | some d => armTimer s (legFlow l) { due := d.1, waitAny := false, prio := d.2 }
  | none => s.setFlow (legFlow l) { s.flow (legFlow l) with timer := none }

/-- A leg reaches RUNNING; a static leg is ACTIVE at once and its timers run. -/
def legBegins (s : State) (l : Nat) : State :=
  let s := legOpens s l
  if (s.legRun l).conn == .active then armLeg s l else s

/-- A core ends its service with a done write (R397, R399); the firmware arms the timer of a leg's flow as R573 says. -/
def execFlowDone (k : Fin 20) (arm : TimerArm) (s : State) : Outcome State Fault Refusal :=
  .next (match s.serving k with
    | none => s
    | some f => if flowClass f = 0 then armLeg (releaseFlow s f) f else setTimer (releaseFlow s f) f arm)

/-! ## The estimator (R106) -/

/-- Product with a Q0.16 fraction, truncated toward zero. -/
def q16 (v : Int) (f : Nat) : Int := (v * f).tdiv 65536

/-- A group is complete: the gradient, its sum, the smoothed sum, the window. DEDUCED, log entry 59. -/
def closeGroup (p : Bwe) (e : Est) (g : SendGroup) : Est :=
  match e.prev with
  | none => { e with prev := some g }
  | some h =>
    let d := ((g.arr : Int) - h.arr) - ((g.sent : Int) - h.sent)
    let acc := e.acc + d
    let sm := q16 e.sm p.smooth + q16 acc (65536 - p.smooth)
    let w := e.window ++ [(g.arr, sm)]
    { e with prev := some g, acc := acc, sm := sm, window := w.drop (w.length - p.win) }

/-- One packet that a report says arrived: send instant, arrival. A packet sent before the present group's first enters no
group. DEDUCED, log entry 59. -/
def addArrival (p : Bwe) (e : Est) (a : Nat × Nat) : Est :=
  match e.cur with
  | none => { e with cur := some { first := a.1, sent := a.1, arr := a.2 } }
  | some g =>
    if a.1 < g.first then e
    else if a.1 - g.first ≤ p.group then { e with cur := some { g with sent := Nat.max g.sent a.1, arr := Nat.max g.arr a.2 } }
    else { closeGroup p e g with cur := some { first := a.1, sent := a.1, arr := a.2 } }

/-- Least-squares slope of the window in ct per ms of arrival, Q0.16, truncated; where no slope is defined, a free value.
DEDUCED, log entry 60. -/
def slopeQ16 (w : List (Nat × Int)) : Int :=
  match w with
  | [] => Config.freeSlope w
  | (a, _) :: _ =>
    let n : Int := w.length
    let xs := w.map fun e => ((e.1 : Int) - a, e.2)
    let sx := xs.foldl (fun t e => t + e.1) 0
    let sy := xs.foldl (fun t e => t + e.2) 0
    let sxx := xs.foldl (fun t e => t + e.1 * e.1) 0
    let sxy := xs.foldl (fun t e => t + e.1 * e.2) 0
    let den := n * sxx - sx * sx
    if den = 0 then Config.freeSlope w else ((n * sxy - sx * sy) * 70560 * 65536).tdiv den

/-- The overuse slope m in ct. DEDUCED, log entry 60. -/
def Est.slope (e : Est) (p : Bwe) : Int := ((p.gain * p.win : Nat) * slopeQ16 e.window).tdiv 16777216

/-- Kbit/s reported received over RATE_WIN_CT. DEDUCED, log entry 61. -/
def Est.rate (e : Est) (p : Bwe) (t : Nat) : Nat :=
  let l := e.recv.filter fun (h : Nat × Nat) => decide (t < h.1 + p.rateWin)
  sumNat (l.map Prod.snd) * 8 * ctPerSec / (p.rateWin * 1000)

/-- A value grown by 1 + INC × dt / 1000; dt in ms, Q0.16. -/
def grow (p : Bwe) (v dt : Nat) : Nat := v * (65536 + p.inc * dt / 65536 / 1000) / 65536

/-- The gradient signal: threshold, overuse and Ad. -/
def Est.gradient (e : Est) (p : Bwe) (t : Nat) : Est :=
  let m := e.slope p
  let dt := (t - e.last) * 65536 / 70560
  let k := if e.thr < (m.natAbs : Int) then p.kUp else p.kDown
  let thr := e.thr + q16 ((m.natAbs : Int) - e.thr) (k * dt / 65536)
  let thr := max (p.thrMin : Int) (min (100 * p.thrMin : Nat) thr)
  let past := if thr < m then some (e.overuse.getD t) else none
  let r := e.rate p t
  let e := { e with thr := thr, overuse := past }
  match past with
  | some t0 =>
    if t0 + p.overuse ≤ t then { e with ad := p.beta * r / 65536 } else { e with ad := Nat.min (grow p e.ad dt) (3 * r / 2) }
  | none => if -thr ≤ m then { e with ad := Nat.min (grow p e.ad dt) (3 * r / 2) } else e

/-- The loss signal and the estimate. DEDUCED, log entry 62. -/
def Est.loss (e : Est) (p : Bwe) (t lost reported : Nat) : Est :=
  let dt := (t - e.last) * 65536 / 70560
  let l := if reported = 0 then none else some (lost * 65536 / reported)
  let al := match l with
    | none => e.al
    | some l => if p.lossHigh < l then e.al * (65536 - l / 2) / 65536 else if l < p.lossLow then grow p e.al dt else e.al
  { e with al := al, est := Nat.max p.rateMin (Nat.min (Nat.min e.ad al) p.rateMax), last := t }

/-- Match one reported packet with what the leg has sent: the rest of the log, and its stamp and bytes. -/
def takeSent (log : List (Nat × Nat × Nat × Nat)) (k : FbPkt) : List (Nat × Nat × Nat × Nat) × Option (Nat × Nat) :=
  match log.find? fun h => h.1 == k.ssrc.toNat && h.2.1 == k.seq.toNat with
  | some h => (log.erase h, some (h.2.2.1, h.2.2.2))
  | none => (log, none)

/-- A report: the log that is left, arrivals as (sent, arrived), bytes received. -/
def matchReport : List FbPkt → List (Nat × Nat × Nat × Nat) → List (Nat × Nat × Nat × Nat) × List (Nat × Nat) × Nat
  | [], log => (log, [], 0)
  | k :: r, log =>
    let (log, h) := takeSent log k
    let (log, arr, n) := matchReport r log
    match h, k.arrived with
    | some (t, b), some a => (log, (t, a) :: arr, n + b)
    | _, _ => (log, arr, n)

/-- An RFC 8888 report reaches the estimator; the leg's targets follow (R106, R349). DEDUCED, log entry 61. -/
def estimate (s : State) (l : Nat) (pkts : List FbPkt) : State :=
  let p := (s.legSet l).params
  let x := s.legPrg l
  let (log, arr, n) := matchReport pkts x.log
  let s := s.setLegPrg l { x with log := log }
  let r := s.legRun l
  let t := s.now
  let e := (arr.mergeSort (fun (a b : Nat × Nat) => decide (a.1 ≤ b.1))).foldl (addArrival p) r.est
  let e := { e with recv := (e.recv.filter fun (h : Nat × Nat) => decide (t < h.1 + p.rateWin)) ++ [(t, n)] }
  let lost := (pkts.filter fun k => k.arrived.isNone).length
  let e := (e.gradient p t).loss p t lost pkts.length
  recompute (s.setLegRun l { r with est := e }) l 1

/-! ## RTCP (R99) -/

def rtcpPacket (s : State) (l : Nat) (k : Rtcp) (stamp : Nat) : State :=
  match k with
  | .sr ssrc ntp =>
    (match s.recvStream l ssrc with
     | some (i, _) => s.setStream l i { s.stream l i with sr := some (ntp, stamp) }
     | none => s)
  | .rr => s
  | .ignored => s
  | .bye ssrc => event s 0x0414 (low l) ssrc 0 0 0
  | .nack ssrc seqs =>
    (match s.sendStream l ssrc with
     | some (i, _) => seqs.foldl (serveNack l i) s
     | none => s)
  | .pli ssrc =>
    (match s.sendStream l ssrc with
     | some (i, _) => passKey s l i
     | none => s)
  | .fir ssrc =>
    (match s.sendStream l ssrc with
     | some (i, _) => passKey s l i
     | none => s)
  | .ccfb pkts => estimate s l pkts

def execRtcpReceived (l : Fin 8192) (stamp : Dword) (k : Rtcp) (s : State) : Outcome State Fault Refusal :=
  .next (if s.running && s.live (legKey l) then
      if (s.legRun l).conn != .active then s.bump (pktA 0x14) 1
      else rtcpPacket (heardAt s l stamp.toNat) l k stamp.toNat
    else s)

/-- What an RR says of a stream: packets lost, the highest extended number, the jitter in ticks, and LSR and DLSR from the
last SR, 0 before one has come. PRESUMED, log entry 164. -/
def State.reportBlock (s : State) (l : Nat) (e : Nat × StreamCfg) : List Nat :=
  let x := s.stream l e.1
  let (lsr, dlsr) := match x.sr with
    | some (ntp, t) => (ntp.toNat / 65536 % 2 ^ 32, (s.now - t) * 65536 / ctPerSec)
    | none => (0, 0)
  [x.lost, x.hi.getD 0, x.jit * e.2.clock / 16 / ctPerSec, lsr, dlsr]

/-- An SR for each send stream, an RR for each receive stream; the next interval is drawn. DEDUCED, log entry 57. -/
def rtcpReports (s : State) (l : Nat) (g : LegCfg) : State :=
  let s := (s.legSet l).streams.foldl (fun s e =>
    if e.2.send then sendRtcp s l 28 [2, l, e.2.ssrc.toNat]
    else sendRtcp s l 32 (3 :: l :: e.2.ssrc.toNat :: s.reportBlock l e)) s
  let (d, s) := rtcpDraw s g
  s.setLegRun l { s.legRun l with rtcpDue := some (s.now + d) }

def execRtcpInterval (l : Fin 8192) (s : State) : Outcome State Fault Refusal :=
  .next (match (s.legRun l).rtcpDue, (s.legSet l).cfg with
    | some t, some g => if s.running && s.timeoutServed (legFlow l) && (s.legRun l).conn == .active && decide (t ≤ s.now)
        then rtcpReports s l g else s
    | _, _ => s)

/-- Bytes of an RFC 8888 packet on the streams that have received since the last one (R571). -/
def ccfbBytes (l : List (Nat × Nat)) : Nat := l.foldl (fun n e => n + (8 + 2 * (e.2 + 1 - e.1) + 3) / 4 * 4) 12

/-- What the feedback says of a stream: SSRC, first number, count, and for each number its arrival stamp plus 1, or 0 where it
has not arrived. -/
def State.ccfbBlock (s : State) (l : Nat) (e : Nat × StreamCfg) : List Nat :=
  let x := s.stream l e.1
  match x.fb with
  | none => []
  | some (a, b) => e.2.ssrc.toNat :: a % 65536 :: (b + 1 - a) ::
      (List.range (b + 1 - a)).map fun j => ((x.arr.find? fun (h : Nat × Nat) => h.1 == a + j).map fun h => h.2 + 1).getD 0

/-- RFC 8888 feedback on what the receive streams have received since the last one, with the instant of the report. -/
def sendCcfb (s : State) (l : Nat) (t : Nat) : State :=
  let rs := (s.legSet l).streams.filter fun (e : Nat × StreamCfg) => !e.2.send
  let spans := rs.filterMap fun e => (s.stream l e.1).fb
  let s := sendRtcp s l (ccfbBytes spans) (8 :: l :: s.now :: (rs.map (s.ccfbBlock l)).flatten)
  let s := rs.foldl (fun s e => s.setStream l e.1 { s.stream l e.1 with fb := none, arr := [] }) s
  s.setLegRun l { s.legRun l with ccfbDue := some (t + 3528000) }

def execCcfbInterval (l : Fin 8192) (s : State) : Outcome State Fault Refusal :=
  .next (match (s.legRun l).ccfbDue, (s.legSet l).cfg with
    | some t, some g => if s.running && s.conn l == .active && g.ccfb && decide (t ≤ s.now) then sendCcfb s l t else s
    | _, _ => s)

/-! ## Registers (R125) -/

def State.legWord (s : State) (l : Nat) : Word :=
  let r := s.legRun l
  let conn := match s.conn l with | .absent => 0 | .listening => 1 | .active => 2 | .departed => 3
  low (objStateNum (s.legState l) * 2 ^ 30 + conn * 2 ^ 28 + r.cause * 2 ^ 24 + (if s.hatchLeg l then 2 ^ 23 else 0) +
    (s.legPort l).getD 0 * 2 ^ 20 + r.moves)

end Sys2Proof.Machine
end

