-- ==== Sys2Proof/Machine/Footbridge.lean ====
section
/-!
DEFINITION. The Footbridge: its commands, beacons, peers, partial mixes and layer packets from peers (R108-R119,
R121-R123, R126).
-/
namespace Sys2Proof.Machine

open Host

def ftbA (off : Nat) : Nat := 0x0170_0000 + off
def ftbPeerA (p off : Nat) : Nat := 0x0170_0100 + p * 0x10 + off

def stNoPort : Status := 0x1E01
def stFtbStopped : Status := 0x1E02

/-- TB0 is taken from PTP (R111). -/
def State.fromPtp (s : State) : Bool := s.blv.lock.isSome

/-- The domains that the Footbridge lies in (R509). -/
def State.ftbPowered (s : State) : Bool :=
  s.dom 71 && s.dom 72 && (match s.ftb.cfg with
    | some g => s.portPowered g.port
    | none => true)

/-! ## Commands (R118, R119) -/

/-- Checks of 0x0E10 in their order (R60). DEDUCED, log entry 68. -/
def State.ftbConfigChecks (s : State) (c : Cmd) : List (Bool × Status) :=
  let port := bits (c.word 4) 14 12
  let base := bits (c.word 6) 13 0
  let delay := bits (c.word 8) 3 0
  let bad := bits (c.word 4) 31 15 != 0 || bits (c.word 5) 31 16 != 0 || bits (c.word 6) 31 14 != 0 || bits (c.word 8) 31 4 != 0 ||
    bits (c.word 9) 31 16 != 0 || !s.portPresent port || decide (8 < delay) || !(s.ice.lent && base == 16350)
  [(!s.stopped ftbKey, stNotStopped), (bad, stBadField)]

def execFtbConfig (c : Cmd) (s : State) : Outcome State Fault Refusal :=
  .next (runCmd s 0x0E10 c 1 1 (c.num == 0x10000) s.ftbPowered fun s =>
    let port := bits (c.word 4) 14 12
    let base := bits (c.word 6) 13 0
    let delay := bits (c.word 8) 3 0
    checked s 0x0E10 c (s.ftbConfigChecks c) fun s =>
      let da := macOf (c.word 9) (c.word 10)
      let g : FtbCfg :=
        { vid := bits (c.word 4) 11 0, port := port, bridge := bits (c.word 5) 15 0, keyBase := base, epoch := c.word 7,
          mixDelay := if delay = 0 then 2 else delay, da := if da = 0 then 0x03000000F800 else da }
      let s := { s with ftb := { s.ftb with cfg := some g, seq := 0 } }
      finish (bumpGen s ftbKey) 0x0E10 c stOk)

/-- Checks of 0x0E11 in their order (R60). -/
def State.ftbLinkChecks (s : State) (c : Cmd) : List (Bool × Status) :=
  let bad := bits (c.word 4) 31 16 != 0 || bits (c.word 5) 31 16 != 0 || bits (c.word 6) 31 2 != 0
  [(!s.stopped (linkKey c.num), stNotStopped), (bad, stBadField)]

def execFtbLink (c : Cmd) (s : State) : Outcome State Fault Refusal :=
  .next (runCmd s 0x0E11 c 1 1 (decide (c.num < 1024)) true fun s =>
    checked s 0x0E11 c (s.ftbLinkChecks c) fun s =>
      let k : ConfLink :=
        { ccid := bits (c.word 4) 15 0, mask := bits (c.word 5) 15 0, mix := bit (c.word 6) 0, layers := bit (c.word 6) 1 }
      finish (bumpGen { s with ftb := { s.ftb with links := tput s.ftb.links c.num k } } (linkKey c.num)) 0x0E11 c stOk)

/-! ## Start and stop (R117, R121, R122) -/

/-- A Footbridge without an FTB_CONFIG has no port that runs. DESIGN CHOICE, log entry 159. -/
def State.ftbChecks (s : State) : List (Bool × Status) :=
  [(match s.ftb.cfg with | some g => !s.isRunning (portKey g.port) | none => true, stNoPort)]

def State.linkChecks (s : State) : List (Bool × Status) := [(!s.isRunning ftbKey, stFtbStopped)]

/-- Every link goes to STOPPED at once; a START that waits is refused. DEDUCED, log entry 67. -/
def stopLinks (s : State) : State :=
  ((s.objs.filter fun e => e.1 / 2 ^ 32 == 0x0E && decide (e.1 % 2 ^ 32 < 1024)).map fun e => e.1 % 2 ^ 32).foldl (fun s c =>
    if s.starting (linkKey c) then settleStart s 0x0E c (some stFtbStopped)
    else if s.live (linkKey c) then reachStopped s 0x0E c
    else s) s

/-- The Footbridge stops: no peer is present, no block waits. DEDUCED, log entry 67. -/
def ftbDrain (s : State) (ab : Bool) : State :=
  let s := stopLinks s
  let s := (List.range 16).foldl (fun s p =>
    s.setPeer p { s.peer p with present := false, sync := false, desyncSaid := false, ramp := 0 }) s
  let s := { s with ftb := { s.ftb with mixes := [], next := none } }
  if ab then reachStopped s 0x0E 0x10000 else s

/-- Conference links that drain end at a block boundary (R122). -/
def linksDrained (s : State) : State :=
  ((s.objs.filter fun e => e.1 / 2 ^ 32 == 0x0E && decide (e.1 % 2 ^ 32 < 1024) && e.2.st == .draining).map fun e => e.1 % 2 ^ 32).foldl
    (fun s c => reachStopped s 0x0E c) s

/-! ## Beacons (R110-R112, R115) -/

/-- First instant k × 705,600 + CASCADE_ID × 44,100 at or after now. -/
def State.beaconAt (s : State) : Nat :=
  let o := s.cascadeId * 44100
  if s.now ≤ o then o else o + (s.now - o + 705599) / 705600 * 705600

def State.presentMap (s : State) : Nat := (List.range 16).foldl (fun n p => n + if (s.peer p).present then 2 ^ p else 0) 0

/-- The next beacon is queued with its exact launch. DEDUCED, log entry 66. -/
def sendBeacon (s : State) (g : FtbCfg) : State :=
  let t := s.beaconAt
  let fresh := match s.ftb.next with | some u => decide (u < t) | none => true
  if !fresh then s
  else
    let head := s.ftbHead g 1 16 28 ++ beField 8 (g.epoch.toNat * 2 ^ 32 + s.ftb.seq % 2 ^ 32)
    let load := [Config.deviceUid.toNat, g.epoch.toNat, t, s.hall.step, if s.fromPtp then 1 else 0, s.presentMap, s.boot.fw.toNat]
    let s := sendPort s g.port 0 (ftbBytes 28)
      { launch := some t, exact := true, body := 10 :: head.map BitVec.toNat ++ load, net := [g.da, s.portMac g.port, g.vid] }
    { s with ftb := { s.ftb with seq := s.ftb.seq + 1, next := some t } }

/-- DEDUCED, log entry 66. -/
def execBeaconSend (s : State) : Outcome State Fault Refusal :=
  .next (match s.ftb.cfg with
    | some g => if s.isRunning ftbKey && s.running && !s.bell.double then sendBeacon s g else s
    | none => s)

/-- PEER_ARRIVED, PEER_DEPARTED, PEER_DESYNC, PEER_SYNC. -/
def peerArrived (s : State) (p : Nat) (changed : Bool) (uid : Dword) : State :=
  pulse (event s 0x0E10 (low p) (if changed then 1 else 0) (low uid.toNat) (high uid.toNat) 0) (176 + p)

/-- Offset of a beacon: its TB0 less the instant it arrived at the lanes. DEDUCED, log entry 64. -/
def State.beaconOffset (s : State) (g : FtbCfg) (b : Beacon) : Int :=
  signed64 ((b.tb0.toNat + 2 ^ 64 - (b.stamp.toNat - (s.blv.port g.port).rxCt)) % 2 ^ 64)

/-- Sync of a peer after a beacon. DEDUCED, log entry 65. -/
def peerSync (s : State) (p : Nat) (off : Int) (flags : Bool) : State :=
  let x := s.peer p
  let inside := decide (-70560 ≤ off) && decide (off ≤ 70560) && flags
  if inside then
    let s' := s.setPeer p { x with sync := true, desyncSaid := false, offset := off }
    if x.sync then s' else pulse (event s' 0x0E14 (low p) (wordOfInt off) 0 0 0) (176 + p)
  else
    let s' := s.setPeer p { x with sync := false, desyncSaid := true, offset := off }
    if x.desyncSaid then s' else pulse (event s' 0x0E13 (low p) (wordOfInt off) 0 0 0) (176 + p)

/-- A valid beacon of a peer. DEDUCED, log entry 64. -/
def peerBeacon (s : State) (g : FtbCfg) (b : Beacon) : State :=
  let p := b.src.val
  let x := s.peer p
  let changed := match x.epoch with | some e => e != b.epoch | none => false
  let y := { x with present := true, epoch := some b.epoch, uid := b.uid, last := b.stamp.toNat, ladder := b.ladder.val }
  let y := if changed then { y with keyTx := false, keyRx := false, awaiting := true } else y
  let s := s.setPeer p y
  let s := if changed || !x.present then peerArrived s p changed b.uid else s
  peerSync s p (s.beaconOffset g b) (b.ptp && s.fromPtp)

/-- ID_CONFLICT, at most once per 70,560,000 ct. DEDUCED, log entry 69. -/
def idConflict (s : State) (b : Beacon) : State :=
  match s.limit (objKey 0x0E12 0) ctPerSec 1 0 with
  | (some _, s) => event s 0x0E12 (low b.src.val) (low b.uid.toNat) (high b.uid.toNat) 0 0
  | (none, s) => s

def authFail (s : State) (p : Nat) : State := s.bump (ftbPeerA p 0x0C) 1

/-- DEDUCED, log entry 69. -/
def execBeaconReceived (b : Beacon) (s : State) : Outcome State Fault Refusal :=
  .next (match s.ftb.cfg with
    | none => s
    | some g =>
      if !s.isRunning ftbKey || !s.running || b.bridge.toNat != g.bridge || b.version != 1 then s
      else if !b.auth then authFail s b.src.val
      else if b.src.val = s.cascadeId then
        let s := s.bump (ftbA 0x0C) 1
        if b.uid = Config.deviceUid then s else idConflict s b
      else peerBeacon s g b)

/-- No valid beacon for three periods. DEDUCED, log entry 65. -/
def execPeerBeaconTimeout (p : Fin 16) (s : State) : Outcome State Fault Refusal :=
  let x := s.peer p
  .next (if s.isRunning ftbKey && x.present && decide (x.last + 2116800 ≤ s.now) then
      pulse (event (s.setPeer p { x with present := false, sync := false, desyncSaid := false }) 0x0E11 (low p.val) 0 0 0 0) (176 + p)
    else s)

/-! ## MIX and LAYER frames (R113, R114, R116) -/

/-- A frame from a peer passes: its version, its bridge, its addressee and its sender. DEDUCED, log entry 41. -/
def State.fromPeer (s : State) (version : Byte) (bridge : BitVec 16) (src dst : Fin 16) : Bool :=
  version == 1 &&
  (match s.ftb.cfg with | some g => bridge.toNat == g.bridge | none => false) && s.isRunning ftbKey && s.running &&
    dst.val == s.cascadeId && src.val != s.cascadeId

/-- A block of a peer is held for its local block; one that comes too late is discarded. DEDUCED, log entry 81. -/
def holdMix (s : State) (m : MixFrame) : State :=
  let p := m.src.val
  let n := m.block.toNat
  let late := match s.bnd.block with | some b => decide (n + s.mixDelay ≤ b) | none => false
  if late then s
  else
    let old := (s.peerBlock p n).getD []
    let rest := s.ftb.mixes.filter fun e => !(e.1 == p && e.2.1 == n)
    { s with ftb := { s.ftb with mixes := rest ++ [(p, n, old ++ m.recs)] } }

/-- DEDUCED, log entry 81. -/
def execMixFrameReceived (m : MixFrame) (s : State) : Outcome State Fault Refusal :=
  .next (if !s.fromPeer m.version m.bridge m.src m.dst then s
    else if !m.auth then authFail s m.src.val
    else if s.peerReady m.src.val then holdMix s m
    else s)

/-- A layer packet of a peer enters forwarding as a packet of that peer's leg. DEDUCED, log entry 70. -/
def execLayerFrameReceived (m : LayerFrame) (s : State) : Outcome State Fault Refusal :=
  .next (if !s.fromPeer m.version m.bridge m.src m.dst then s
    else if !m.auth then authFail s m.src.val
    else if s.peerReady m.src.val && s.commonOn then
      clonePacket s { m.pkt with kind := 2, src := ⟨m.src.val, by omega⟩, index := m.srcLeg, layerByte := m.layer }
    else s)

/-! ## Registers (R126) -/

def State.ftbStat (s : State) : Word :=
  low (s.presentMap + s.cascadeId * 2 ^ 16 + if s.isRunning ftbKey then 2 ^ 20 else 0)

def State.peerStat (s : State) (p : Nat) : Word :=
  let x := s.peer p
  let f := fun (b : Bool) (i : Nat) => if b then 2 ^ i else 0
  let missed := if x.epoch.isSome then Nat.min 65535 ((s.now - x.last) / 705600) else 0
  low (f x.present 31 + f (x.keyTx && x.keyRx) 30 + f x.sync 29 + f x.awaiting 28 + x.ladder * 2 ^ 16 + missed)

def State.peerOffset (s : State) (p : Nat) : Word := wordOfInt (s.peer p).offset

end Sys2Proof.Machine
end

