-- ==== Sys2Proof/Machine/Hatches.lean ====
section
/-!
DEFINITION. Hatches: banks and their clocks, rings, hatch-legs, slot masks, partners, ramps and commands (R220-R251).
-/
namespace Sys2Proof.Machine

open Host

def hatA (off : Nat) : Nat := 0x00E0_0000 + off
def bankA (b off : Nat) : Nat := hatA (0x1000 + b * 0x40 + off)
def hatchA (h off : Nat) : Nat := hatA (0x1_0000 + h * 0x40 + off)

def stBankObject : Status := 0x1801
def stClockRange : Status := 0x1802
def stLockFail : Status := 0x1803

/-! ## Banks and hatches -/

/-- The settings of a bank; those of one that has not been configured are the words of a HAT_BANK_CONFIG of zeros.
DEDUCED, log entry 93. -/
def State.bankCfg (s : State) (b : Nat) : BankCfg :=
  (tfind s.hat.cfgs b).getD
    { master := false, rate := 0, slots := 1, width := 16, offset := 0, fsPol := false, bclkPol := false, fsWidth := 0,
      bits := 16, ramp := 4 }
def State.bankRun (s : State) (b : Nat) : BankRun := tget {} s.hat.runs b
def State.setBankRun (s : State) (b : Nat) (x : BankRun) : State := { s with hat := { s.hat with runs := tset {} s.hat.runs b x } }
def State.hatch (s : State) (h : Nat) : Hatch := tget {} s.hat.ports h
def State.setHatch (s : State) (h : Nat) (x : Hatch) : State := { s with hat := { s.hat with ports := tset {} s.hat.ports h x } }

def hatchesOf (b : Nat) : List Nat := (List.range 8).map fun j => 8 * b + j

/-- Frame period in ct and frames per second of a rate code (R222). -/
def ratePeriod (r : Nat) : Nat := [8820, 6400, 5880, 4410, 3200, 2940, 2205, 1600, 1470, 800, 735].getD r 0
def rateHz (r : Nat) : Nat := [8000, 11025, 12000, 16000, 22050, 24000, 32000, 44100, 48000, 88200, 96000].getD r 0

def BankCfg.period (g : BankCfg) : Nat := ratePeriod g.rate

/-- Mask of the slots a frame has. -/
def BankCfg.slotMask (g : BankCfg) : Word := BitVec.ofNat 32 (2 ^ g.slots - 1)

/-- First frame of block b, and its frame count (R230). -/
def firstFrame (p b : Nat) : Nat := if p = 0 then 0 else (70560 * b + p - 1) / p
def blockFrames (p b : Nat) : Nat := firstFrame p (b + 1) - firstFrame p b

def slotsOf (m : Word) : List Nat := (List.range 32).filter fun i => bit m i

/-- Slots of hatch h that hatch-legs hold in a direction. -/
def State.legSlots (s : State) (h : Nat) (tx : Bool) : List (Nat × Nat) :=
  s.hat.legs.filterMap fun (e : Nat × HatLeg) =>
    match (if tx then e.2.tx else e.2.rx) with
    | some (k, slot) => if k = h then some (slot, e.1) else none
    | none => none

def State.legMask (s : State) (h : Nat) (tx : Bool) : Word :=
  (s.legSlots h tx).foldl (fun m e => m ||| BitVec.ofNat 32 (2 ^ e.1)) 0

/-- A sample as its slot width carries it: the top bits (R223). -/
def BankCfg.carry (g : BankCfg) (v : Int) : Int :=
  if g.width < 24 then v.fdiv (2 ^ (24 - g.width)) * 2 ^ (24 - g.width) else v

/-! ## Ramps (R240) -/

def BankCfg.rampCt (g : BankCfg) : Nat := g.ramp * 70560

/-- A sample d ct of n before 0 dB on the line in dB from −96 to 0: a gain of 10^(−4.8 d / n), the last bit free. ln 10 is
taken as 2,302,585,093 / 10^9. DESIGN CHOICE, log entry 95. -/
def dbGain (d n : Nat) (v : Int) : Int :=
  clip24 ((v * (expNeg (48 * 2302585093 * d) (10 ^ 10 * n) : Nat)).fdiv (2 ^ 40) + (Config.rampRound d n v % 2 : Nat))

/-- A sample of an instant under a ramp of n ct; silent before a rise begins and after a fall has ended (R240). -/
def rampSample (ramp : Option (Bool × Nat)) (n t : Nat) (v : Int) : Int :=
  match ramp with
  | some (true, t0) => if t < t0 then 0 else if t0 + n ≤ t then v else dbGain (t0 + n - t) n v
  | some (false, t0) => if t0 + n ≤ t then 0 else if t < t0 then v else dbGain (t - t0) n v
  | none => v

/-! ## Underruns (R236) -/

/-- Underrun frames of a hatch are counted; HAT_UNDERRUN at most once per bank per second. -/
def countUnder (s : State) (h n : Nat) : State :=
  if n = 0 then s
  else
    let b := h / 8
    let x := s.hatch h
    let s := (s.setHatch h { x with underN := x.underN + n }).bump (bankA b 0x0C) n
    let r := s.bankRun b
    let first := r.underHatch.getD h
    let s := s.setBankRun b { r with underHatch := some first }
    match s.limit (objKey 0x0813 b) ctPerSec n 0 with
    | (some (k, _), s) =>
      let s := s.setBankRun b { s.bankRun b with underHatch := none }
      pulse (event s 0x0813 (low (0x10000 + b)) (low k) (low first) 0 0) (164 + b)
    | (none, s) => pulse s (164 + b)

/-- Frame k of a slave bank underran on receive. DEDUCED, log entry 94. -/
def BankRun.lostFrame (r : BankRun) (k : Nat) : Bool :=
  r.lost.contains k || (match r.flowFrom with | none => true | some f => decide (k < f)) ||
  (match r.flowTo with | none => false | some t => decide (t ≤ k))

/-- DEDUCED, log entry 94. -/
def State.lostIn (s : State) (b first n : Nat) : List Nat :=
  if (s.bankCfg b).master then []
  else ((List.range n).map fun i => first + i).filter fun k => (s.bankRun b).lostFrame k

/-- Receive slots of hatch h that are enabled and bound. -/
def State.rxBound (s : State) (h : Nat) : Word :=
  let x := s.hatch h
  if x.rx.isSome then x.rxAct else x.rxAct &&& s.legMask h false

def State.txBound (s : State) (h : Nat) : Word :=
  let x := s.hatch h
  if x.tx.isSome then x.txAct else x.txAct &&& s.legMask h true

/-! ## Receive entries (R230-R233, R239) -/

/-- Frames of a bank turn out to be lost: entries that are not yet written mark them (R236). -/
def markLost (s : State) (b : Nat) (ks : List Nat) : State :=
  (hatchesOf b).foldl (fun s h =>
    let x := s.hatch h
    s.setHatch h { x with due := x.due.map fun d =>
      { d with lost := d.lost ++ ks.filter fun k => decide (d.first ≤ k) && decide (k < d.first + d.frames) && !d.lost.contains k } }) s

/-- Close what hatch h has received up to frame `stop`: an entry falls due if some bound slot was enabled. -/
def closeRx (s : State) (h stop : Nat) (isPart : Bool) : State :=
  let b := h / 8
  let x := s.hatch h
  let p := (s.bankCfg b).period
  let m := s.rxBound h
  if stop ≤ x.cur.first || m = 0 then s
  else
    let n := stop - x.cur.first
    let lost := s.lostIn b x.cur.first n
    let unsaid := lost.filter fun k => !(s.bankRun b).lost.contains k
    let s := s.setHatch h { x with due := x.due ++
      [{ first := x.cur.first, frames := n, mask := m, isPart := x.cur.isPart || isPart, lost := lost, endAt := stop * p,
         ramp := (s.bankRun b).ramp }] }
    countUnder s h unsaid.length

/-- Size of a ring sample (R232), the stride of an entry (R231), the address of an entry. -/
def sampleBytes (pack : Nat) : Nat := if pack = 0 then 3 else 4
def BankCfg.stride (g : BankCfg) (pack : Nat) : Nat :=
  (32 + (rateHz g.rate + 999) / 1000 * g.slots * sampleBytes pack + 63) / 64 * 64
def State.entryAt (s : State) (h : Nat) (g : HatRing) (i : Nat) : Nat :=
  g.base + i * (s.bankCfg (h / 8)).stride (s.hatch h).pack

/-- A sample as a ring holds it (R232). -/
def packSample (pack : Nat) (v : Int) : List Byte :=
  match pack with
  | 0 => (wordBytes (wordOfInt v)).take 3
  | 1 => wordBytes ((wordOfInt v).shiftLeft 8)
  | _ => wordBytes (wordOfInt v)

/-- A sample read from a ring. -/
def unpackSample (pack : Nat) (b : List Byte) : Int :=
  let w := bytesWord b
  if pack = 1 then sbits w 31 8 else sbits w 23 0

/-- Replace the samples of frames that underran by each channel's last sample; answers the frames and the last
samples. -/
def repeatLost (slots : List Nat) (lost : List Nat) : Nat → List (List Int) → Tab Int → List (List Int) × Tab Int
  | _, [], last => ([], last)
  | k, f :: r, last =>
    let f := if lost.contains k then slots.map fun i => tget 0 last i
      else slots.zipIdx.map fun e => f.getD e.2 0
    let last := (slots.zip f).foldl (fun t e => tset 0 t e.1 e.2) last
    let (fs, l) := repeatLost slots lost (k + 1) r last
    (f :: fs, l)

def pickSlots (slots : List Nat) (m : Word) (f : List Int) : List Int :=
  ((slots.zip f).filter fun e => bit m e.1).map Prod.snd

/-- An entry that finds no room or no host is dropped (R77, R233). -/
def dropRx (s : State) (h : Nat) : State :=
  let x := s.hatch h
  let s := (s.setHatch h { x with drops := x.drops + 1 }).bump (hatchA h 0x2C) 1
  match s.limit (objKey 0x0814 h) ctPerSec 1 0 with
  | (some (n, _), s) => event s 0x0814 (low h) (low n) 0 0 0
  | (none, s) => s

/-- Header and samples of a receive entry. -/
def entryBytes (d : RxDue) (p pack : Nat) (m : Word) (frames : List (List Int)) : List Byte :=
  let t := d.first * p
  let flags := d.frames + (if d.isPart then 2 ^ 16 else 0) + (if d.lost.isEmpty then 0 else 2 ^ 17)
  let hdr := [low t, high t, low (t / 70560), low flags, m, if d.lost.isEmpty then 0 else m, low d.first, (0 : Word)]
  (hdr.map wordBytes).flatten ++ (frames.map fun f => (f.map (packSample pack)).flatten).flatten

/-- Write an entry to the receive ring. -/
def ringRx (s : State) (h : Nat) (d : RxDue) (m : Word) (frames : List (List Int)) (fail : Bool) : State :=
  let x := s.hatch h
  match x.rx with
  | none => s
  | some g =>
    if m = 0 then s
    else if (x.rxTail + 1) % 2 ^ g.size = x.rxHead then dropRx s h
    else
      let bs := entryBytes d ((s.bankCfg (h / 8)).period) x.pack m frames
      let a := s.entryAt h g x.rxTail
      let tail := (x.rxTail + 1) % 2 ^ g.size
      if g.host then
        if !s.hostReach then dropRx s h
        else if fail then dropRx (pchErr (leaveL1 s) 2) h
        else
          let s := leaveL1 s
          { s.setHatch h { x with rxTail := tail } with out := Out.hostBytes a bs :: s.out }
      else (s.writeMem a bs).setHatch h { x with rxTail := tail }

/-- Blocks that a hatch-leg's samples wait for the mix, and the mix for the wire (R235). -/
def State.hatDelay (s : State) (b : Nat) : Nat := if (s.bankCfg b).master then 2 else 3

/-- Samples at 48 kHz: those received, or free ones at any other rate. -/
def to48 (s : State) (hz p b first : Nat) (vs : List Int) : Nat × List Int × State :=
  let f0 := firstFrame p b
  if hz = 48000 then (first - f0, vs, s)
  else
    let n := blockFrames p b
    let lo := if n = 0 then 0 else (first - f0) * 48 / n
    let hi := if n = 0 then 0 else (first + vs.length - f0) * 48 / n
    (lo, (List.range (hi - lo)).map fun i => clip24 (Config.freeInt (s.free + i)), { s with free := s.free + (hi - lo) })

/-- RMS level of samples in −dBov, cut to a whole number: the largest L with Σv² · 10^(L/10) ≤ n · 2^46, both sides to the
tenth power (R229). -/
def rmsFloor (vs : List Int) : Nat :=
  let sq := vs.foldl (fun a v => a + v.natAbs * v.natAbs) 0
  ((List.range 128).filter fun l => decide (sq ^ 10 * 10 ^ l ≤ (vs.length * 2 ^ 46) ^ 10)).length - 1

/-- Level of a block: 127 when a frame was lost, or the slot was disabled for the whole block; else the RMS level, rounded
either way (R229). DESIGN CHOICE, log entry 95. -/
def blockLevel (lost : Bool) (vs : List Int) : Nat :=
  if lost || vs.all (· == 0) then 127 else Nat.min 127 (rmsFloor vs + Config.rmsRound vs % 2)

/-- Every hatch-leg of the hatch commits its level of block b, which has been delivered (R229). -/
def commitBlock (s : State) (h b : Nat) : State :=
  let mix := b + s.hatDelay (h / 8)
  let s := (s.legSlots h false).foldl (fun s e =>
    commitLevel s e.2 (blockLevel ((s.legAudio e.2).under.contains mix) (tget [] (s.hatch h).acc e.1))) s
  s.setHatch h { s.hatch h with acc := [] }

/-- A hatch-leg receives the samples of one entry. -/
def feedLeg (s : State) (h slot l : Nat) (d : RxDue) (vs : List Int) : State :=
  let bk := h / 8
  let g := s.bankCfg bk
  let b := d.first * g.period / 70560
  let mix := b + s.hatDelay bk
  let vs := vs.zipIdx.map fun v => rampSample d.ramp g.rampCt ((d.first + v.2) * g.period) (g.carry v.1)
  let (at', smp, s) := to48 s (rateHz g.rate) g.period b d.first vs
  let x := s.legAudio l
  let under := if d.lost.isEmpty || x.under.contains mix then x.under else x.under ++ [mix]
  let s := s.setLegAudio l { x with under := under, runs := x.runs ++ [{ start := 48 * mix + at', smp := smp.map fun v => (v, v) }] }
  let t := s.hatch h
  s.setHatch h { t with acc := tset [] t.acc slot (tget [] t.acc slot ++ vs) }

/-- A hatch writes the oldest receive entry that is due: frames in order, samples of the slots received in ascending
slot order, as the wire or the drift stage delivers them. -/
def execRxEntryWrite (h : Fin 96) (samples : List (List Int)) (fail : Bool) (s : State) : Outcome State Fault Refusal :=
  let x := s.hatch h
  match x.due with
  | [] => .next s
  | d :: r =>
    if s.now < d.endAt then .next s
    else
      let bk := h / 8
      let g := s.bankCfg bk
      let slots := slotsOf d.mask
      let (frames, last) := repeatLost slots d.lost d.first (samples.take d.frames) x.lastRx
      let s := s.setHatch h { x with due := r, lastRx := last }
      let legs := s.legSlots h false
      let s := legs.foldl (fun s e => if bit d.mask e.1 then
          feedLeg s h e.1 e.2 d (frames.map fun f => (pickSlots slots (BitVec.ofNat 32 (2 ^ e.1)) f).headD 0)
        else s) s
      let m := if x.rx.isSome then d.mask &&& ~~~ s.legMask h false else 0
      let ring := frames.zipIdx.map fun f =>
        (pickSlots slots m f.1).map fun v => rampSample d.ramp g.rampCt ((d.first + f.2) * g.period) (g.carry v)
      let b := d.first * g.period / 70560
      let s := if d.first + d.frames = firstFrame g.period (b + 1) then commitBlock s h b else s
      .next (ringRx s h d m ring fail)

/-! ## Transmit entries (R234-R236) -/

/-- Entries of the transmit ring that are filled. -/
def Hatch.filled (x : Hatch) : Nat :=
  match x.tx with
  | some g => (x.txTail + 2 ^ g.size - x.txHead) % 2 ^ g.size
  | none => 0

/-- The header and samples of an entry in main memory; none if a line of it is poisoned (R439). -/
def State.memEntry (s : State) (h : Nat) (g : HatRing) : Option TxHdr :=
  let x := s.hatch h
  let a := s.entryAt h g x.txHead
  let w := fun k => bytesWord (s.memBytes (a + 4 * k) 4)
  let frames := bits (w 3) 7 0
  let n := (slotsOf (w 4)).length
  let z := sampleBytes x.pack
  if s.poisoned a (32 + frames * n * z) then none
  else some { block := w 2, frames := frames, mask := w 4,
              smp := (List.range frames).map fun i => (List.range n).map fun j =>
                unpackSample x.pack (s.memBytes (a + 32 + (i * n + j) * z) z) }

/-- Count a transmit entry that is late (0x10) or bad (0x14). -/
def countTx (s : State) (h off : Nat) : State :=
  let x := s.hatch h
  (s.setHatch h { x with lateBad := x.lateBad + 1 }).bump (bankA (h / 8) off) 1

/-- The head entry leaves the ring. -/
def passHead (s : State) (h : Nat) (g : HatRing) : State :=
  let x := s.hatch h
  s.setHatch h { x with txHead := (x.txHead + 1) % 2 ^ g.size, visible := x.visible.drop 1 }

/-- Take entries for block b from the head of the ring; `hdrs` are those of a ring in host memory, head first. -/
def takeTx : Nat → State → Nat → HatRing → Nat → List TxHdr → Option TxHdr × State
  | 0, s, _, _, _, _ => (none, s)
  | f + 1, s, h, g, b, hdrs =>
    let x := s.hatch h
    if x.filled = 0 then (none, s)
    else
      let e := if g.host then hdrs.head? else s.memEntry h g
      match e with
      | none => if g.host then (none, s) else takeTx f (passHead (countTx s h 0x14) h g) h g b hdrs
      | some e =>
        let d := (e.block - low b).toInt
        if d < 0 then takeTx f (passHead (countTx s h 0x10) h g) h g b hdrs.tail
        else if 0 < d then (none, s)
        else if 70560 * b < x.visible.headD 0 + 35280 then takeTx f (passHead (countTx s h 0x10) h g) h g b hdrs.tail
        else if e.frames ≠ blockFrames (s.bankCfg (h / 8)).period b then
          takeTx f (passHead (countTx s h 0x14) h g) h g b hdrs.tail
        else (some e, passHead s h g)

/-- The entry of the transmit ring for block b (R77, R234). -/
def blockTx (s : State) (h b : Nat) (hdrs : List TxHdr) (fail : Bool) : Option TxHdr × State :=
  let x := s.hatch h
  match x.tx with
  | none => (none, s)
  | some g =>
    if g.host && (x.filled ≠ 0) then
      if !s.hostReach then (none, countTx s h 0x10)
      else if fail then (none, countTx (pchErr (leaveL1 s) 2) h 0x10)
      else takeTx x.filled (leaveL1 s) h g b hdrs
    else takeTx x.filled s h g b hdrs

/-- The bank drives or takes frames in block b. -/
def State.bankFrames (s : State) (bk b : Nat) : Bool :=
  let r := s.bankRun bk
  s.working (bankKey bk) && (match r.firstBlock with | some f => decide (f ≤ b) | none => !(s.bankCfg bk).master) &&
  (match r.stopAt with | some t => decide (70560 * b < t) | none => true)

/-- What a slot sends in block b, from its first frame on: its leg's mix, its samples in the entry, its last sample when no
entry is sent, else 0 (R227, R234-R236). -/
def State.slotRow (s : State) (h b : Nat) (e : Option TxHdr) (slot : Nat) : List Int :=
  let x := s.hatch h
  let g := s.bankCfg (h / 8)
  let n := blockFrames g.period b
  match tfind (s.legSlots h true) slot with
  | some l =>
    let live := match s.legConf l with
      | some c => s.isRunning (confKey c)
      | none => false
    if !live then []
    else match s.bnd.toHatch.find? fun (q : Nat × Nat × List Int) => q.1 == l && q.2.1 == b with
      | some q => if rateHz g.rate = 48000 then q.2.2
        else (List.range n).map fun i => clip24 (Config.freeInt (s.free + 32 * i + slot))
      | none => []
  | none =>
    if x.tx.isNone then []
    else match e with
      | some t => if bit t.mask slot then t.smp.map fun f => ((slotsOf t.mask).zip f).foldl (fun a q => if q.1 = slot then q.2 else a) 0
        else []
      | none => List.replicate n (tget 0 x.lastTx slot)

/-- Bits of a frame on Hh_SDO, from the frame edge on: OFFSET idle bits, then slot by slot the sample most significant bit
first and zeros behind it; disabled slots and idle bits as SDO_IDLE sets (R221, R223). -/
def sdoBits (g : BankCfg) (idle : Bool) (mask : Word) (vs : Nat → Int) : List (Option Bool) :=
  let rest : Option Bool := if idle then none else some false
  (List.range g.bits).map fun i =>
    let slot := (i - g.offset) / g.width
    let k := (i - g.offset) % g.width
    if i < g.offset || g.slots ≤ slot || !bit mask slot then rest
    else if 24 ≤ k then some false
    else some ((vs slot).fdiv (2 ^ (23 - k)) % 2 != 0)

/-- What slot j sends in frame k, before the ramp. -/
def Hatch.sends (x : Hatch) (k j : Nat) : Int :=
  if bit x.txReady j then (tget [] x.txRow j).getD (k - x.rowFirst) 0 else 0

/-- The frames of a hatch that have come before frame `stop` go out under the masks and the ramp in force. A slave bank
resamples them onto its partner's edges, and sends none without one (R226); after a double fault every slot sends 0 (R506). -/
def flushTx (s : State) (h stop : Nat) : State :=
  let bk := h / 8
  let g := s.bankCfg bk
  let r := s.bankRun bk
  let x := s.hatch h
  let n := stop - x.sent
  if n = 0 then s
  else
    let ks := (List.range n).map fun i => x.sent + i
    let live := if g.master then ks else ks.filter fun k => !r.lostFrame k
    let wire := live.map fun k => sdoBits g x.sdoIdle x.txAct fun j =>
      if s.bell.double then 0
      else g.carry (rampSample r.ramp g.rampCt (k * g.period)
        (if g.master then x.sends k j else clip24 (Config.freeInt (s.free + 32 * (k - x.sent) + j))))
    let last := (slotsOf x.txAct).foldl (fun t j => tset 0 t j (x.sends (stop - 1) j)) x.lastTx
    let s := s.setHatch h { x with sent := stop, lastTx := last }
    let s := if g.master then s else { s with free := s.free + 32 * n }
    if live.isEmpty || slotsOf x.txAct = [] then s else { s with out := Out.sdo h (live.headD 0) wire :: s.out }

/-- Level of HBb_FS in each bit clock of a frame (R221). -/
def BankCfg.fsBits (g : BankCfg) : List Bool :=
  let n := match g.fsWidth with | 0 => 1 | 1 => g.width | _ => g.bits / 2
  (List.range g.bits).map fun i => decide (i < n) != g.fsPol

/-- A master bank has driven its clocks in the frames before frame `stop` (R225). -/
def flushClocks (s : State) (bk stop : Nat) : State :=
  let g := s.bankCfg bk
  let r := s.bankRun bk
  if !g.master || stop ≤ r.clocked || r.firstBlock.isNone then s
  else
    let s := s.setBankRun bk { r with clocked := stop }
    { s with out := Out.clocks bk r.clocked (stop - r.clocked) g.fsBits g.bclkPol :: s.out }

/-- Close the receive entry of the block before b; levels of a block that leaves no entry are committed at once (R229). -/
def closeBlock (s : State) (h b : Nat) : State :=
  let bk := h / 8
  let p := (s.bankCfg bk).period
  let x := s.hatch h
  let first := Nat.max x.cur.first (firstFrame p (b - 1))
  let s := s.setHatch h { x with cur := { x.cur with first := first } }
  let s := if s.rxBound h = 0 then
      if x.due.isEmpty then commitBlock s h (b - 1)
      else if (s.legSlots h false).isEmpty || firstFrame p b ≤ first then s
      else s.setHatch h { s.hatch h with due := x.due ++
        [{ first := first, frames := firstFrame p b - first, mask := 0, isPart := true, lost := [], endAt := firstFrame p b * p }] }
    else closeRx s h (firstFrame p b) false
  s.setHatch h { s.hatch h with cur := { first := firstFrame p b, isPart := false }, txBlock := some b, txEntry := none }

/-- Slots that send their data from the present block on: those of legs, and of the ring those that an entry has named
(R239). -/
def State.readySlots (s : State) (h : Nat) : Word :=
  let x := s.hatch h
  let legs := s.legMask h true
  x.txAct &&& (legs ||| x.txReady ||| x.txEntry.getD 0)

/-- A block starts for hatch h: the frames of the last one are out, its receive entry closes, and transmit entries are
taken. -/
def execHatchBlockStart (h : Fin 96) (entries : List TxHdr) (fail : Bool) (s : State) : Outcome State Fault Refusal :=
  let bk := h / 8
  let b := s.now / 70560
  if !s.bankFrames bk b || (s.hatch h).txBlock == some b then .next s
  else
    let keep := firstFrame (s.bankCfg bk).period b
    let n := blockFrames (s.bankCfg bk).period b
    let s := flushClocks (flushTx s h keep) bk keep
    let s := closeBlock s h b
    let r := s.bankRun bk
    let s := s.setBankRun bk { r with lost := r.lost.filter fun k => decide (keep - 256 ≤ k) }
    let (e, s) := blockTx s h b entries fail
    let ring := if (s.hatch h).tx.isSome then (s.hatch h).txAct &&& ~~~ s.legMask h true else 0
    let s := if e.isNone && ring != 0 then countUnder s h n else s
    let row := (List.range 32).foldl (fun t j => tset [] t j (s.slotRow h b e j)) []
    let s := s.setHatch h { s.hatch h with txEntry := e.map fun t => t.mask, txRow := row, rowFirst := keep }
    let s := s.setHatch h { s.hatch h with txReady := s.readySlots h }
    .next { s with free := s.free + 32 * n }

/-! ## Ring indices (R233, R234, R251) -/

/-- A write of a ring index: too large a one is ignored and counted. -/
def writeRxHead (s : State) (h : Nat) (v : Word) : State :=
  let i := bits v 9 0
  match (s.hatch h).rx with
  | some g => if i < 2 ^ g.size then s.setHatch h { s.hatch h with rxHead := i } else s.bump (bankA (h / 8) 0x14) 1
  | none => s.bump (bankA (h / 8) 0x14) 1

/-- Entries up to the new tail become visible now. -/
def writeTxTail (s : State) (h : Nat) (v : Word) : State :=
  let i := bits v 9 0
  let x := s.hatch h
  match x.tx with
  | some g =>
    if i < 2 ^ g.size then
      let y := { x with txTail := i }
      let vis := (x.visible ++ List.replicate (y.filled - x.visible.length) s.now).take y.filled
      s.setHatch h { y with visible := vis }
    else s.bump (bankA (h / 8) 0x14) 1
  | none => s.bump (bankA (h / 8) 0x14) 1

def State.hatchPowered (s : State) (h : Nat) : Bool := s.dom (77 + h / 32)
def State.bankPowered (s : State) (b : Nat) : Bool := s.dom (77 + b / 4)

def execHatRxHeadWrite (r : Requester) (h : Fin 96) (v : Word) (s : State) : Outcome State Fault Refusal :=
  let s := hostArrives s r
  .next (if s.hatchPowered h then writeRxHead s h v else s)

/-- DEDUCED, log entry 97. -/
def execHatTxTailWrite (r : Requester) (h : Fin 96) (v : Word) (s : State) : Outcome State Fault Refusal :=
  let s := hostArrives s r
  .next (if s.hatchPowered h then writeTxTail s h v else s)

/-! ## Slot masks (R238, R239) -/

/-- A write of a staged mask: bits at or above SLOTS are ignored. -/
def writeMask (s : State) (h off : Nat) (v : Word) : State :=
  s.setReg (hatchA h off) (v &&& (s.bankCfg (h / 8)).slotMask)

/-- The masks that a change brings into force. A slot that was not enabled before has no last sample and sends 0 (R239). -/
def Hatch.takeMasks (x : Hatch) (m : MaskChange) : Hatch :=
  let tx := m.tx.getD x.txAct
  { x with rxAct := m.rx.getD x.rxAct, txAct := tx, pend := none, txReady := x.txReady &&& tx,
           lastTx := x.lastTx.filter fun e => bit (x.txAct &&& tx) e.1 }

/-- MASKGO: at once while the bank is STOPPED, else pending for frame k or k + 1 by the bit it lands in. DEDUCED, log entry 96. -/
def maskGo (s : State) (h : Nat) (rx tx : Bool) (land : Nat) (cmds : List Cmd) : State :=
  if !rx && !tx then s
  else
    let bk := h / 8
    let g := s.bankCfg bk
    let x := s.hatch h
    let k := s.now / g.period + 1
    let m : MaskChange :=
      { frame := if land + 8 ≤ g.bits then k else k + 1,
        rx := if rx then some (s.reg (hatchA h 0) &&& g.slotMask) else none,
        tx := if tx then some (s.reg (hatchA h 4) &&& g.slotMask) else none,
        superseded := x.pend.isSome,
        cmds := (match x.pend with | some o => o.cmds | none => []) ++ cmds }
    if s.stopped (bankKey bk) then s.setHatch h (x.takeMasks m) else s.setHatch h { x with pend := some m }

def finishMasks (r0 : Word) : List Cmd → State → State
  | [], s => s
  | c :: r, s => finishMasks r0 r (complete s 0x0814 c stOk r0 0 0 0)

/-- A write of HAT_Hh_MASKGO that lands in a bit of the present frame. -/
def execMaskgoWrite (r : Requester) (h : Fin 96) (v : Word) (land : Nat) (s : State) : Outcome State Fault Refusal :=
  let s := hostArrives s r
  .next (if s.hatchPowered h then maskGo s h (bit v 0) (bit v 1) land [] else s)

/-- A pending change whose frame has come applies: a receive change inside a block splits the entry. DEDUCED, log entry 96. -/
def execMaskApply (h : Fin 96) (s : State) : Outcome State Fault Refusal :=
  let bk := h / 8
  let p := (s.bankCfg bk).period
  match (s.hatch h).pend with
  | none => .next s
  | some m =>
    if s.stopped (bankKey bk) || s.now < m.frame * p then .next s
    else
      let b := m.frame * p / 70560
      let inside := firstFrame p b != m.frame
      let s := if s.bankFrames bk b then flushTx s h m.frame else s
      let s := if m.rx.isNone || !s.bankFrames bk b then s
        else if inside then
          let s := closeRx s h m.frame true
          s.setHatch h { s.hatch h with cur := { first := m.frame, isPart := true } }
        else if (s.hatch h).txBlock == some b then s
        else
          let s := closeRx s h m.frame false
          s.setHatch h { s.hatch h with cur := { first := m.frame, isPart := false } }
      let x := (s.hatch h).takeMasks m
      let s := s.setHatch h { x with applied := low m.frame }
      let s := if inside || x.txBlock != some b then s else s.setHatch h { s.hatch h with txReady := s.readySlots h }
      let s := event s 0x0810 (low h) (low m.frame)
        (low ((if m.rx.isSome then 1 else 0) + (if m.tx.isSome then 2 else 0) + (if m.superseded then 256 else 0))) x.rxAct x.txAct
      .next (finishMasks (low m.frame) m.cmds s)

def hatchOk (n : Nat) : Bool := decide (n < 96)

/-- Checks of 0x0814 in their order (R60). -/
def State.hatMaskChecks (s : State) (c : Cmd) : List (Bool × Status) :=
  let h := c.num
  let k := bankKey (h / 8)
  [(!s.stopped k && !s.isRunning k, stWrongState), (bits (c.word 6) 31 2 != 0, stBadField)]

/-- HAT_MASK: STOPPED and RUNNING; completes at once when nothing is applied or the bank is STOPPED. -/
def execHatMask (c : Cmd) (land : Nat) (s : State) : Outcome State Fault Refusal :=
  .next (runCmd s 0x0814 c 1 1 (hatchOk c.num) (s.hatchPowered c.num) fun s =>
    let h := c.num
    let k := bankKey (h / 8)
    let rx := bit (c.word 6) 0
    let tx := bit (c.word 6) 1
    checked s 0x0814 c (s.hatMaskChecks c) fun s =>
      let s := if rx then writeMask s h 0 (c.word 4) else s
      let s := if tx then writeMask s h 4 (c.word 5) else s
      if s.stopped k || (!rx && !tx) then complete (maskGo s h rx tx land []) 0x0814 c stOk 0 0 0 0
      else maskGo s h rx tx land [c])

/-! ## Configure commands and statistics (R221, R228, R246, R247) -/

def widthOf (k : Nat) : Nat := match k with | 0 => 16 | 1 => 20 | 2 => 24 | _ => 32

/-- HAT_BANK_CONFIG as its words give it. -/
def bankCfgOf (c : Cmd) : BankCfg :=
  let w := c.word 4
  let slots := bits w 9 5 + 1
  let width := widthOf (bits w 11 10)
  let off := bits w 16 12
  let fb := bits (c.word 5) 10 0
  let rm := bits (c.word 6) 6 0
  { master := bit w 0, rate := bits w 4 1, slots := slots, width := width, offset := off, fsPol := bit w 17,
    bclkPol := bit w 18, fsWidth := bits w 20 19, bits := if fb = 0 then off + slots * width else fb,
    ramp := if rm = 0 then 4 else rm }

/-- HATCH_VIO strap of the bank's group selects 1.8 V (R543). DEDUCED, log entry 99. -/
def State.hatch18 (s : State) : Bool := s.gate.straps.getLsbD 18

/-- Bit clocks per second that the bank's I/O voltage allows (R221). DEDUCED, log entry 99. -/
def State.bclkMax (s : State) : Nat := if s.hatch18 then 49152000 else 24576000

def State.bankOk (_s : State) (n : Nat) : Bool := decide (0x10000 ≤ n) && decide (n < 0x1000C)

/-- Checks of 0x0810 in their order (R60). -/
def State.hatBankConfigChecks (s : State) (c : Cmd) : List (Bool × Status) :=
  let g := bankCfgOf c
  let fb := bits (c.word 5) 10 0
  [(!s.stopped (bankKey (c.num - 0x10000)), stNotStopped),
   (bits (c.word 4) 31 21 != 0 || bits (c.word 5) 31 11 != 0 || bits (c.word 6) 31 7 != 0 || decide (10 < g.rate) ||
    g.fsWidth == 3 || (fb != 0 && (decide (fb < 16) || decide (1024 < fb))) || decide (64 < g.ramp), stBadField),
   (decide (g.bits < g.offset + g.slots * g.width) || decide (1024 < g.bits) || decide (s.bclkMax < g.bits * rateHz g.rate),
    stClockRange)]

/-- Mask bits at or above SLOTS read as 0 (R238). -/
def cutMasks (s : State) (h : Nat) (m : Word) : State :=
  let s := (s.setReg (hatchA h 0) (s.reg (hatchA h 0) &&& m)).setReg (hatchA h 4) (s.reg (hatchA h 4) &&& m)
  s.setHatch h { s.hatch h with rxAct := (s.hatch h).rxAct &&& m, txAct := (s.hatch h).txAct &&& m }

def execHatBankConfig (c : Cmd) (s : State) : Outcome State Fault Refusal :=
  let b := c.num - 0x10000
  .next (runCmd s 0x0810 c 1 1 (s.bankOk c.num) (s.bankPowered b) fun s =>
    checked s 0x0810 c (s.hatBankConfigChecks c) fun s =>
      let g := bankCfgOf c
      let s := { s with hat := { s.hat with cfgs := tput s.hat.cfgs b g } }
      let s := (hatchesOf b).foldl (fun s h => cutMasks s h g.slotMask) s
      let s := if g.master then { s with out := Out.clocksLow b :: s.out } else s
      finish (bumpGen s (bankKey b)) 0x0810 c stOk)

def hatchKey (h : Nat) : Nat := objKey 8 h

/-- Checks of 0x0811 in their order (R60). -/
def State.hatPortConfigChecks (s : State) (c : Cmd) : List (Bool × Status) :=
  let w := c.word 4
  [(!s.stopped (bankKey (c.num / 8)), stNotStopped),
    (bits w 1 0 == 3 || bits w 3 2 != 0 || bits w 31 5 != 0, stBadField)]

def execHatPortConfig (c : Cmd) (s : State) : Outcome State Fault Refusal :=
  .next (runCmd s 0x0811 c 1 1 (hatchOk c.num) (s.hatchPowered c.num) fun s =>
    let w := c.word 4
    checked s 0x0811 c (s.hatPortConfigChecks c) fun s =>
      let s := s.setHatch c.num { s.hatch c.num with pack := bits w 1 0, sdoIdle := bit w 4 }
      let s := { s with out := Out.sdoRest c.num (bit w 4) :: s.out }
      finish (bumpGen s (hatchKey c.num)) 0x0811 c stOk)

/-- Checks of 0x0812 in their order (R60). -/
def State.hatLegChecks (s : State) (c : Cmd) : List (Bool × Status) :=
  let h := c.num
  let w := c.word 4
  let slot := bits w 4 0
  let tx := bit w 8
  let valid := bit w 31
  let l := bits (c.word 5) 12 0
  let old := tfind s.hat.legs l
  let mine : HatLeg := old.getD {}
  let busy := valid && ((tfind (s.legSlots h tx) slot).isSome || (if tx then mine.tx.isSome else mine.rx.isSome))
  let away := match mine.bank with
    | some b => b != h / 8
    | none => false
  [(!s.stopped (bankKey (h / 8)), stNotStopped), (old.isNone && !s.stopped (objKey 4 l), stWrongState), (busy, stBusy),
   (bits w 7 5 != 0 || bits w 30 9 != 0 || bits (c.word 5) 31 13 != 0 || bits (c.word 6) 31 10 != 0 || away, stBadField)]

/-- HAT_LEG: the leg, its slot and direction, bound or unbound. -/
def execHatLeg (c : Cmd) (s : State) : Outcome State Fault Refusal :=
  .next (runCmd s 0x0812 c 1 1 (hatchOk c.num) (s.hatchPowered c.num) fun s =>
    let h := c.num
    let w := c.word 4
    let slot := bits w 4 0
    let tx := bit w 8
    let valid := bit w 31
    let l := bits (c.word 5) 12 0
    let old := tfind s.hat.legs l
    let mine : HatLeg := old.getD {}
    checked s 0x0812 c (s.hatLegChecks c) fun s =>
        let s :=
          if valid then
            let x : HatLeg := { mine with conf := bits (c.word 6) 9 0 }
            let x := if tx then { x with tx := some (h, slot) } else { x with rx := some (h, slot) }
            { s with hat := { s.hat with legs := tput s.hat.legs l x } }
          else { s with hat := { s.hat with legs := tdel s.hat.legs l } }
        finish (bumpGen s (hatchKey h)) 0x0812 c stOk)

/-- A ring in main memory lies outside the overlay area (R247). -/
def State.ringBad (s : State) (host : Bool) (size base stride : Nat) : Bool :=
  base % 4096 != 0 || (!host && !(decide (s.areaBase 1 ≤ base) && decide (base + 2 ^ size * stride ≤ s.areaBase 1 + s.areaSize 1)))

/-- Checks of 0x0813 in their order (R60). -/
def State.hatRingChecks (s : State) (c : Cmd) : List (Bool × Status) :=
  let h := c.num
  let w := c.word 4
  let host := bit w 1
  let size := bits w 7 4
  let valid := bit w 31
  let base := dword (c.word 5) (c.word 6)
  let stride := (s.bankCfg (h / 8)).stride (s.hatch h).pack
  [(!s.stopped (bankKey (h / 8)), stNotStopped),
   (bits w 3 2 != 0 || bits w 30 8 != 0 || (valid && (decide (size < 2) || decide (10 < size) || s.ringBad host size base stride)),
    stBadField)]

/-- HAT_RING: a ring begins empty. DEDUCED, log entry 97. -/
def execHatRing (c : Cmd) (s : State) : Outcome State Fault Refusal :=
  .next (runCmd s 0x0813 c 1 1 (hatchOk c.num) (s.hatchPowered c.num) fun s =>
    let h := c.num
    let w := c.word 4
    let tx := bit w 0
    let host := bit w 1
    let size := bits w 7 4
    let valid := bit w 31
    let base := dword (c.word 5) (c.word 6)
    let stride := (s.bankCfg (h / 8)).stride (s.hatch h).pack
    checked s 0x0813 c (s.hatRingChecks c) fun s =>
        let g : Option HatRing := if valid then some { host := host, size := size, base := base } else none
        let x := s.hatch h
        let x := if tx then { x with tx := g, txHead := 0, txTail := 0, visible := [] } else { x with rx := g, rxHead := 0, rxTail := 0 }
        complete (bumpGen (s.setHatch h x) (hatchKey h)) 0x0813 c stOk (low stride) 0 0 0)

def execHatStats (c : Cmd) (s : State) : Outcome State Fault Refusal :=
  .next (runCmd s 0x0815 c 1 1 (hatchOk c.num) true fun s =>
    let x := s.hatch c.num
    complete s 0x0815 c stOk (low x.underN) (low x.lateBad) (low x.drops) (low (s.bankRun (c.num / 8)).departures))

/-! ## Starting and stopping a bank (R240, R241) -/

/-- A hatch begins a run of its bank: nothing received yet, counts at 0. -/
def Hatch.fresh (x : Hatch) (first : Nat) (part : Bool) : Hatch :=
  { x with cur := { first := first, isPart := part }, due := [], txBlock := none, txEntry := none, lastRx := [], lastTx := [],
           txRow := [], rowFirst := first, txReady := 0, sent := first, acc := [], underN := 0, lateBad := 0, drops := 0 }

def freshHatches (s : State) (b first : Nat) (part : Bool) : State :=
  (hatchesOf b).foldl (fun s h => s.setHatch h ((s.hatch h).fresh first part)) s

/-- The bank has been accepted by START: a slave is RUNNING at once, its ramp rising. -/
def bankStart (s : State) (b : Nat) : State :=
  let p := (s.bankCfg b).period
  let s := s.setBankRun b { startAt := s.cyc }
  if (s.bankCfg b).master then freshHatches s b 0 false
  else
    let k := s.now / p + 1
    let s := s.setBankRun b { startAt := s.cyc, ramp := some (true, s.now) }
    settleStart (freshHatches s b k (firstFrame p (k * p / 70560) != k)) 8 (0x10000 + b) none

/-- A master bank's synthesiser locks: RUNNING, with the first frame and the ramp at the next block start. -/
def execSynthLock (b : Fin 12) (s : State) : Outcome State Fault Refusal :=
  let r := s.bankRun b
  if s.starting (bankKey b) && (s.bankCfg b).master && decide (s.cyc ≤ r.startAt + 1411200) then
    let n := s.now / 70560 + 1
    let s := s.setBankRun b { r with locked := true, firstBlock := some n, ramp := some (true, 70560 * n),
                                     clocked := firstFrame (s.bankCfg b).period n }
    .next (pulse (settleStart (freshHatches s b (firstFrame (s.bankCfg b).period n) false) 8 (0x10000 + b) none) (164 + b))
  else .next s

/-- No lock within 1,411,200 ct: START completes with LOCK_FAIL. -/
def execLockTimeout (b : Fin 12) (s : State) : Outcome State Fault Refusal :=
  .next (if s.starting (bankKey b) && (s.bankCfg b).master && decide ((s.bankRun b).startAt + 1411200 < s.cyc)
         then settleStart s 8 (0x10000 + b) (some stLockFail) else s)

/-- STOP of a bank: a falling ramp, or with ABORT the next frame edge; what has come so far is out. -/
def bankDrain (s : State) (b : Nat) (ab : Bool) : State :=
  let p := (s.bankCfg b).period
  let s := if s.bankFrames b (s.now / 70560) then (hatchesOf b).foldl (fun s h => flushTx s h (s.now / p + 1)) s else s
  let r := s.bankRun b
  if ab then s.setBankRun b { r with ramp := none, stopAt := some ((s.now / p + 1) * p) }
  else s.setBankRun b { r with ramp := some (false, s.now) }

/-- A ramp ends: a rising one stays at full gain; a falling one leaves the rest of the block until the frames stop. -/
def execHatchRampEnd (b : Fin 12) (s : State) : Outcome State Fault Refusal :=
  let r := s.bankRun b
  match r.ramp with
  | some (up, t) =>
    let e := t + (s.bankCfg b).rampCt
    if s.now < e then .next s
    else if up || r.stopAt.isSome then .next s
    else .next (s.setBankRun b { r with stopAt := some ((e + 70559) / 70560 * 70560) })
  | none => .next s

/-- The frames have stopped: the last receive entry closes, pending masks apply as in STOPPED, the bank is STOPPED. -/
def bankStopped (s : State) (b : Nat) : State :=
  let r := s.bankRun b
  match r.stopAt with
  | none => s
  | some t =>
    if s.now < t then s
    else
      let p := (s.bankCfg b).period
      let s := if r.firstBlock.isSome || !(s.bankCfg b).master then
          (hatchesOf b).foldl (fun s h =>
            let n := (t + p - 1) / p
            closeRx (flushTx s h n) h n (firstFrame p (n * p / 70560) != n)) s
        else s
      let s := flushClocks s b ((t + p - 1) / p)
      let s := { s with out := (hatchesOf b).reverse.map (fun h => Out.sdoRest h (s.hatch h).sdoIdle) ++ s.out }
      let s := if (s.bankCfg b).master then { s with out := Out.clocksLow b :: s.out } else s
      let s := (hatchesOf b).foldl (fun s h =>
        let x := s.hatch h
        match x.pend with
        | some m => finishMasks 0 m.cmds (s.setHatch h (x.takeMasks m))
        | none => s) s
      let s := s.setBankRun b { departures := r.departures, ppm := r.ppm }
      reachStopped s 8 (0x10000 + b)

/-! ## Partners of a slave bank (R242, R243) -/

/-- m frames of t ct agree with a period p within 500 ppm, as far as edges stamped in whole ct show. DEDUCED, log entry 98. -/
def nearPeriod (p m t : Nat) : Bool := decide ((Nat.max (m * p) t - Nat.min (m * p) t - 1) * 2000 ≤ m * p)

/-- Rate code of m frames of t ct, 0xF if none is near. -/
def nearRate (m t : Nat) : Nat := ((List.range 11).find? fun r => nearPeriod (ratePeriod r) m t).getD 15

/-- Offset of the partner's rate in 0.01 ppm over m frames of t ct, open within the ct that the edges are stamped to (R226).
DESIGN CHOICE, log entry 168. -/
def ppmOf (p m t : Nat) : Int :=
  let at' := fun (d : Int) => (((m * p : Nat) : Int) - t + d) * 100000000
  let lo := (at' (-1)).fdiv t
  lo + (Config.measuredPpm t m p % ((at' 1).fdiv t - lo + 1).toNat : Nat)

/-- The partner has gone: HAT_PARTNER_DEPARTED names the first missing frame. -/
def partnerLeaves (s : State) (b first : Nat) : State :=
  let r := s.bankRun b
  let s := s.setBankRun b { r with partner := false, isMatch := false, regular := 0, offPeriod := 0,
                                   flowTo := (if r.isMatch then some first else r.flowTo), departures := r.departures + 1 }
  let s := if r.isMatch then markLost s b ((List.range 8).map fun i => first + i) else s
  pulse (event s 0x0812 (low (0x10000 + b)) (low first) 0 0 0) (164 + b)

/-- After 8 regular frames, of t ct together, the partner is reported; if it matches, its data flow from the next frame. -/
def partnerArrives (s : State) (b t n : Nat) (good : Bool) : State :=
  let r := s.bankRun b
  let p := (s.bankCfg b).period
  let k := (s.now + p / 2) / p
  let ppm := ppmOf p 8 t
  let gap := match r.flowTo with
    | some t => ((List.range (Nat.min 256 (k + 1 - t))).map fun i => k - i)
    | none => []
  let s := s.setBankRun b { r with partner := true, isMatch := good, ppm := ppm, offPeriod := 0, missed := 0, period := t / 8,
                                   winStart := s.now, winCount := 0,
                                   flowFrom := (if good then some ((r.flowFrom.getD (k + 1)).min (k + 1)) else r.flowFrom),
                                   flowTo := (if good then none else r.flowTo), lost := (if good then r.lost ++ gap else r.lost) }
  let s := if good then (hatchesOf b).foldl (fun s h =>
      if s.rxBound h = 0 then s
      else countUnder s h (gap.filter fun i => !r.lost.contains i && decide ((s.hatch h).cur.first ≤ i)).length) s
    else s
  pulse (event s 0x0811 (low (0x10000 + b)) (low ((if good then 1 else 0) + 16 * nearRate 8 t)) (low n) (wordOfInt ppm) (low k)) (164 + b)

/-- A frame edge of a partner that is present: its period is held against its own frame and against the frames measured so
far, at most 64; 4 frames off are a departure (R243). DEDUCED, log entry 98. -/
def partnerGoesOn (s : State) (b q : Nat) : State :=
  let g := s.bankCfg b
  let r := s.bankRun b
  let ref := if r.isMatch then g.period else r.period
  let m := r.winCount + 1
  let t := s.now - r.winStart
  let jump := !nearPeriod ref 1 q
  let drift := r.isMatch && !nearPeriod ref m t
  let off := if jump then r.offPeriod + 1 else if drift then Nat.max m (r.offPeriod + 1) else 0
  let first := if r.offPeriod = 0 && off ≠ 0 then (s.now + g.period / 2) / g.period + 1 - off else r.firstMissing
  let renew := jump || (!drift && 64 ≤ m)
  let s := s.setBankRun b { r with offPeriod := off, firstMissing := first,
                                   winStart := (if renew then s.now else r.winStart), winCount := (if renew then 0 else m),
                                   ppm := if off = 0 then ppmOf g.period m t else r.ppm }
  if 4 ≤ off then partnerLeaves s b first else s

/-- A slave bank sees a frame edge, with the bit clocks counted since the last one. DEDUCED, log entry 98. -/
def execPartnerFrameEdge (b : Fin 12) (n : Nat) (s : State) : Outcome State Fault Refusal :=
  let g := s.bankCfg b
  let r := s.bankRun b
  if g.master || !s.working (bankKey b) || !s.bankPowered b then .next s
  else match r.lastEdge with
    | none => .next (s.setBankRun b { r with lastEdge := some s.now, missed := 0 })
    | some t =>
      let q := s.now - t
      let s := s.setBankRun b { r with lastEdge := some s.now, missed := 0 }
      if r.partner then .next (partnerGoesOn s b q)
      else
        let same := nearPeriod r.period 1 q && r.bitCount == n && r.regular != 0
        let k := if same then r.regular + 1 else 1
        let from' := if same then r.winStart else t
        let s := s.setBankRun b { s.bankRun b with regular := k, period := (if same then r.period else q), bitCount := n, winStart := from' }
        let all := s.now - from'
        .next (if 8 ≤ k then partnerArrives s b all n (nearPeriod g.period 8 all && n == g.bits) else s)

/-- No edge within P ÷ 8 of the instant it was due: receive channels underrun; the fourth in a row is a departure. -/
def execMissingFrame (b : Fin 12) (s : State) : Outcome State Fault Refusal :=
  let g := s.bankCfg b
  let r := s.bankRun b
  if g.master || !s.working (bankKey b) then .next s
  else match r.lastEdge with
    | none => .next s
    | some t =>
      let p := if r.partner && !r.isMatch then r.period else g.period
      let due := t + p * (r.missed + 1)
      if s.now ≤ due + p / 8 || 7 ≤ r.missed then .next s
      else
        let k := (due + g.period / 2) / g.period
        let first := if r.missed = 0 then k else r.firstMissing
        let flows := r.partner && r.isMatch
        let s := s.setBankRun b { r with missed := r.missed + 1, firstMissing := first, regular := 0,
                                         lost := (if flows then r.lost ++ [k] else r.lost) }
        let s := if flows then (hatchesOf b).foldl (fun s h => if s.rxBound h = 0 then s else countUnder s h 1) (markLost s b [k]) else s
        .next (if r.missed + 1 = 4 && r.partner then partnerLeaves s b first else s)

/-! ## Registers (R250, R251) -/

def State.hatStat (s : State) : Word :=
  (List.range 12).foldl (fun a b =>
    a + low ((if s.isRunning (bankKey b) then 2 ^ b else 0) + (if (s.bankRun b).partner then 2 ^ (16 + b) else 0))) 0

def State.bankStat (s : State) (b : Nat) : Word :=
  let g := s.bankCfg b
  let r := s.bankRun b
  let f := fun (x : Bool) (k : Nat) => if x then 2 ^ k else 0
  low (objStateNum (s.obj (bankKey b)).st * 2 ^ 30 + f g.master 29 + f r.locked 28 + f r.partner 27 + f r.isMatch 26 +
    f (match r.ramp with
      | some (_, t) => decide (t ≤ s.now) && decide (s.now < t + g.rampCt)
      | none => false) 25 + g.rate * 2 ^ 16 + r.missed)

def State.maskStat (s : State) (h : Nat) : Word :=
  match (s.hatch h).pend with
  | some m => low ((if m.rx.isSome then 1 else 0) + (if m.tx.isSome then 2 else 0) + (if m.superseded then 4 else 0))
  | none => 0

end Sys2Proof.Machine
end

