-- ==== Sys2Proof/Machine/Objects.lean ====
section
/-!
DEFINITION. START, STOP and GET_STATE of every opcode range, the grant of resources and the end of a drain
(R65, R66, R97, R121, R122, R156, R185, R215, R246, R256, R280, R299, R314, R340, R361).
-/
namespace Sys2Proof.Machine

open Host

/-! ## Conferences (R156, R185) -/

/-- START of a conference is refused where a total would pass the limit of R156 and R516. -/
def State.confChecks (s : State) (c : Nat) : List (Bool × Status) :=
  let g := (s.confSet c).cfg
  let own := !s.stopped (confKey c)
  let lim := s.audioLimit s.westPoint none
  [(decide (lim < s.decReserved + if own then 0 else g.decUnits) || decide (lim < s.encReserved + if own then 0 else g.encUnits), stNoResource)]

/-- A conference begins to mix, its counts at 0. -/
def confBegins (s : State) (c : Nat) : State := s.setConfRun c { swapBlk := (s.confRun c).swapBlk }

/-- The conference is STOPPED: its outputs end; a swap that still waits takes effect as on a STOPPED conference.
DESIGN CHOICE, log entry 31. -/
def confStopped (s : State) (c : Nat) : State :=
  let r := s.confRun c
  let s := match r.swap with
    | some n => swapNow s c n false
    | none => s
  let r := s.confRun c
  reachStopped (s.setConfRun c { concealed := r.concealed, decLate := r.decLate, clipped := r.clipped, swapBlk := r.swapBlk }) 7 c

/-- STOP: every output ramps to silence over 96 samples; with ABORT it ends at once. DEDUCED, log entry 84. -/
def confDrain (s : State) (c : Nat) (ab : Bool) : State :=
  if ab then confStopped s c else s.setConfRun c { s.confRun c with drain := some ((s.confRun c).drain.getD 0) }

/-- Samples of the longest format in use. -/
def ConfSet.longest (x : ConfSet) : Nat := (List.range x.cfg.formats).foldl (fun m i => Nat.max m (tget {} x.formats i).len) 0

/-- The ramp has ended and no output holds a sample of it, or the longest drain has passed. -/
def State.confIdle (s : State) (c : Nat) : Bool :=
  (match (s.confRun c).drain with
    | some n => decide (96 ≤ n) && (s.confRun c).outs.all fun (e : Nat × MixOut) => e.2.job.isNone && decide (e.2.buf.length ≤ n - 96)
    | none => false) ||
  decide ((s.obj (confKey c)).since + (s.confSet c).longest * 1470 + 141120 ≤ s.cyc)

/-! ## Range 0x04: legs, ports, the host path -/

def State.rangeFourOk (s : State) (n : Nat) : Bool := legOk n || s.portObjOk n || n == 0x10100

def State.rangeFourPowered (s : State) (n : Nat) : Bool :=
  if n < 8192 then s.legPowered n else if n = 0x10100 then true else s.portPowered (n - 0x10000)

/-- A hatch-leg has no state of its own: it starts and stops with its bank. DEDUCED, log entry 30. -/
def State.hatchLegStart (s : State) (n : Nat) : List (Bool × Status) :=
  [(s.hatchLeg n, if s.legState n == .stopped then stBusy else stWrongState)]

/-- DEDUCED, log entry 30. -/
def execStartLegPort (c : Cmd) (s : State) : Outcome State Fault Refusal :=
  let n := c.num
  .next (startCmd s 4 c (s.rangeFourOk n) (s.rangeFourPowered n) (fun s => s.hatchLegStart n)
    (fun s => if n < 8192 then s.legChecks n else []) (fun s => if n < 8192 then countL4 s n else s) id)

def execStopLegPort (c : Cmd) (s : State) : Outcome State Fault Refusal :=
  let n := c.num
  if s.hatchLeg n then
    .next (runCmd s 0x0402 c 1 1 true (s.legPowered n) fun s =>
      checked s 0x0402 c [(s.legState n != .stopped, stBusy), (bits (c.word 4) 31 1 != 0, stBadField)] fun s => finish s 0x0402 c stOk)
  else
    .next (stopCmd s 4 c (s.rangeFourOk n) (s.rangeFourPowered n) (fun _ => []) id fun s ab =>
      if n < 8192 then legDrain s n ab else if n = 0x10100 then reachStopped s 4 n else portDrain s (n - 0x10000) ab)

def execGetStateLegPort (c : Cmd) (s : State) : Outcome State Fault Refusal :=
  let n := c.num
  if s.hatchLeg n then
    .next (runCmd s 0x0403 c 1 1 true true fun s =>
      checked s 0x0403 c [(c.word 4 != 0, stBadField)] fun s =>
        complete s 0x0403 c stOk (low (if s.legPowered n then objStateNum (s.legState n) else 0)) (s.obj (legKey n)).gen 0 0)
  else .next (getStateCmd s 4 c (s.rangeFourOk n) (s.rangeFourPowered n) fun _ => 0)

/-! ## Range 0x07: conferences -/

def execStartConference (c : Cmd) (s : State) : Outcome State Fault Refusal :=
  .next (startCmd s 7 c (confOk c.num) (s.confPowered c.num) (fun _ => []) (fun s => s.confChecks c.num) id id)

def execStopConference (c : Cmd) (s : State) : Outcome State Fault Refusal :=
  .next (stopCmd s 7 c (confOk c.num) (s.confPowered c.num) (fun _ => []) id fun s ab => confDrain s c.num ab)

def execGetStateConference (c : Cmd) (s : State) : Outcome State Fault Refusal :=
  .next (getStateCmd s 7 c (confOk c.num) (s.confPowered c.num) fun _ => 0)

/-! ## Range 0x08: banks; a hatch's state is its bank's (R246) -/

/-- START or STOP addressed to a hatch: the state it has from its bank, the parameter word, then BANK_OBJECT (R60, R246). -/
def onHatch (s : State) (op : BitVec 16) (c : Cmd) (wrong : Bool) (reserved : Nat) : State :=
  runCmd s op c 1 1 true (s.hatchPowered c.num) fun s =>
    checked s op c [(wrong, stWrongState), (reserved != 0, stBadField), (true, stBankObject)] id

def execStartBank (c : Cmd) (s : State) : Outcome State Fault Refusal :=
  .next (if hatchOk c.num then onHatch s 0x0801 c (!s.stopped (bankKey (c.num / 8))) (c.word 4).toNat
    else startCmd s 8 c (s.bankOk c.num) (s.bankPowered (c.num - 0x10000)) (fun _ => []) (fun _ => []) id
      fun s => bankStart s (c.num - 0x10000))

def execStopBank (c : Cmd) (s : State) : Outcome State Fault Refusal :=
  .next (if hatchOk c.num then onHatch s 0x0802 c (s.starting (bankKey (c.num / 8)) && !bit (c.word 4) 0) (bits (c.word 4) 31 1)
    else stopCmd s 8 c (s.bankOk c.num) (s.bankPowered (c.num - 0x10000)) (fun _ => [])
      (fun s => s.setBankRun (c.num - 0x10000) {}) fun s ab => bankDrain s (c.num - 0x10000) ab)

def execGetStateHatch (c : Cmd) (s : State) : Outcome State Fault Refusal :=
  if c.num < 96 then
    .next (runCmd s 0x0803 c 1 1 true true fun s =>
      checked s 0x0803 c [(c.word 4 != 0, stBadField)] fun s =>
        complete s 0x0803 c stOk (low (if s.hatchPowered c.num then objStateNum (s.obj (bankKey (c.num / 8))).st else 0))
          (s.obj (hatchKey c.num)).gen 0 0)
  else .next (getStateCmd s 8 c (s.bankOk c.num) (s.bankPowered (c.num - 0x10000)) fun _ => 0)

/-! ## Range 0x09: engines (R213, R215) -/

def State.notReserved (s : State) (e : Nat) : List (Bool × Status) := [(!(s.eng e).reserved, stNotReserved)]

def execStartEngine (c : Cmd) (s : State) : Outcome State Fault Refusal :=
  .next (startCmd s 9 c (engOk c.num) (s.engPowered c.num) (fun s => s.notReserved c.num) (fun _ => []) id id)

def execStopEngine (c : Cmd) (s : State) : Outcome State Fault Refusal :=
  .next (stopCmd s 9 c (engOk c.num) (s.engPowered c.num) (fun s => s.notReserved c.num) id fun s ab => engDrain s c.num ab)

def execGetStateEngine (c : Cmd) (s : State) : Outcome State Fault Refusal :=
  .next (getStateCmd s 9 c (engOk c.num) (s.engPowered c.num) fun s => if (s.eng c.num).reserved then 1 else 0)

/-! ## Range 0x0A: decode slots -/

def State.slotGrant (s : State) (k : Nat) : List (Bool × Status) :=
  let own := if s.stopped (slotKey k) then 0 else (s.slotCfg k).units
  s.slotChecks k (s.pipeUnits (k / 16) - own) (s.freeStore + (s.slotRun k).pages)

/-- A slot that did not start gives back what it reserved. -/
def slotUndo (s : State) (k : Nat) : State := s.setSlotRun k { s.slotRun k with units := 0, pages := 0 }

def execStartSlot (c : Cmd) (s : State) : Outcome State Fault Refusal :=
  .next (startCmd s 0x0A c (slotOk c.num) (s.slotPowered c.num) (fun _ => [])
    (fun s => s.slotChecks c.num (s.pipeUnits (c.num / 16)) s.freeStore) id fun s => slotReserve s c.num)

def execStopSlot (c : Cmd) (s : State) : Outcome State Fault Refusal :=
  .next (stopCmd s 0x0A c (slotOk c.num) (s.slotPowered c.num) (fun _ => []) (fun s => slotUndo s c.num) fun s ab => slotDrain s c.num ab)

def execGetStateSlot (c : Cmd) (s : State) : Outcome State Fault Refusal :=
  .next (getStateCmd s 0x0A c (slotOk c.num) (s.slotPowered c.num) fun _ => 0)

/-! ## Range 0x0B: canvases -/

def execStartCanvas (c : Cmd) (s : State) : Outcome State Fault Refusal :=
  .next (startCmd s 0x0B c (canvasOk c.num) (s.canvasPowered c.num) (fun _ => []) (fun s => s.canvasChecks c.num) id
    fun s => canvasReserve s c.num)

def execStopCanvas (c : Cmd) (s : State) : Outcome State Fault Refusal :=
  .next (stopCmd s 0x0B c (canvasOk c.num) (s.canvasPowered c.num) (fun _ => []) id fun s ab => canvasDrain s c.num ab)

def execGetStateCanvas (c : Cmd) (s : State) : Outcome State Fault Refusal :=
  .next (getStateCmd s 0x0B c (canvasOk c.num) (s.canvasPowered c.num) fun _ => 0)

/-! ## Range 0x0C: encodings -/

def encUndo (s : State) (c : Nat) : State := s.setEncRun c { s.encRun c with px := 0, pages := 0 }

def execStartEncoding (c : Cmd) (s : State) : Outcome State Fault Refusal :=
  .next (startCmd s 0x0C c (encOk c.num) (s.encPowered c.num) (fun _ => []) (fun s => s.encChecks c.num) id fun s => encReserve s c.num)

def execStopEncoding (c : Cmd) (s : State) : Outcome State Fault Refusal :=
  .next (stopCmd s 0x0C c (encOk c.num) (s.encPowered c.num) (fun _ => []) (fun s => encUndo s c.num) fun s ab => encDrain s c.num ab)

def execGetStateEncoding (c : Cmd) (s : State) : Outcome State Fault Refusal :=
  .next (getStateCmd s 0x0C c (encOk c.num) (s.encPowered c.num) fun _ => 0)

/-! ## Range 0x0D: subscriptions, which lie in no switched domain -/

def execStartSubscription (c : Cmd) (s : State) : Outcome State Fault Refusal :=
  .next (startCmd s 0x0D c (subOk c.num) true (fun _ => []) (fun s => s.subChecks c.num) id fun s => subReserve s c.num)

def execStopSubscription (c : Cmd) (s : State) : Outcome State Fault Refusal :=
  .next (stopCmd s 0x0D c (subOk c.num) true (fun _ => []) id fun s ab => subDrain s c.num ab)

def execGetStateSubscription (c : Cmd) (s : State) : Outcome State Fault Refusal :=
  .next (getStateCmd s 0x0D c (subOk c.num) true fun _ => 0)

/-! ## Range 0x0E: the Footbridge and its conference links (R117, R121) -/

def ftbObjOk (n : Nat) : Bool := n == 0x10000 || decide (n < 1024)
def State.ftbObjPowered (s : State) (n : Nat) : Bool := n != 0x10000 || s.ftbPowered

def execStartFootbridgeObject (c : Cmd) (s : State) : Outcome State Fault Refusal :=
  .next (startCmd s 0x0E c (ftbObjOk c.num) (s.ftbObjPowered c.num) (fun _ => [])
    (fun s => if c.num = 0x10000 then s.ftbChecks else s.linkChecks) id id)

def execStopFootbridgeObject (c : Cmd) (s : State) : Outcome State Fault Refusal :=
  .next (stopCmd s 0x0E c (ftbObjOk c.num) (s.ftbObjPowered c.num) (fun _ => []) id fun s ab =>
    if c.num = 0x10000 then ftbDrain s ab else if ab then reachStopped s 0x0E c.num else s)

def execGetStateFootbridge (c : Cmd) (s : State) : Outcome State Fault Refusal :=
  .next (getStateCmd s 0x0E c (ftbObjOk c.num) (s.ftbObjPowered c.num) fun _ => 0)

/-! ## The grant of resources, and the end of a drain (R65) -/

/-- A START that waits pauses while the holding buffer is full (R74). Grant object `num` of a range, or refuse it with the first failing check. -/
def grant (s : State) (range num : Nat) (checks : List (Bool × Status)) (begins undo : State → State) : State :=
  if s.starting (objKey range num) && !s.paused then
    match firstFail checks with
    | none => begins (settleStart s range num none)
    | some st => undo (settleStart s range num (some st))
  else s

def execResourcesGranted (o : Obj) (s : State) : Outcome State Fault Refusal :=
  .next (match o with
    | .leg n => grant s 4 n (s.legChecks n) (fun s => legBegins s n) id
    | .port n => grant s 4 (0x10000 + n) [] id id
    | .hostPath => grant s 4 0x10100 [] id id
    | .conf n => grant s 7 n (s.confChecks n) (fun s => confBegins s n) id
    -- a slave bank settles at its START, a master bank with its synthesiser's lock
    | .bank _ => s
    | .engine n => grant s 9 n [] (fun s => engStart s n) id
    | .slot n => grant s 0x0A n (s.slotGrant n) id fun s => slotUndo s n
    | .canvas n => grant s 0x0B n (s.canvasChecks n) (fun s => canvasBegins s n) id
    | .encoding n => grant s 0x0C n (s.encChecks n) (fun s => encBegins s n) fun s => encUndo s n
    | .sub n => grant s 0x0D n (s.subChecks n) (fun s => subBegins s n) id
    | .link n => grant s 0x0E n s.linkChecks id id
    | .footbridge => grant s 0x0E 0x10000 s.ftbChecks id id)

/-- End a drain whose work has left. A STOP that waits pauses while the holding buffer is full (R74). -/
def drainEnd (s : State) (range num : Nat) (done : Bool) (stop : State → State) : State :=
  if s.draining (objKey range num) && done && !s.paused then stop s else s

/-- A DRAINING engine that has not executed HALT reaches STOPPED 70,560 ct after its STOP, a faulted one too (R215). -/
def State.engIdle (s : State) (e : Nat) : Bool := decide ((s.obj (engKey e)).since + 70560 ≤ s.cyc)

def execDrainingEnds (o : Obj) (s : State) : Outcome State Fault Refusal :=
  .next (match o with
    | .leg n => drainEnd s 4 n (s.legIdle n) fun s => legDrained s n
    | .port n => drainEnd s 4 (0x10000 + n) (s.portQueues n).isEmpty fun s => portDrained s n
    | .hostPath => drainEnd s 4 0x10100 true fun s => reachStopped s 4 0x10100
    | .conf n => drainEnd s 7 n (s.confIdle n) fun s => confStopped s n
    | .bank n => drainEnd s 8 (0x10000 + n) true fun s => bankStopped s n
    | .engine n => drainEnd s 9 n (s.engIdle n) fun s => engStopped s n 1
    | .slot n => drainEnd s 0x0A n (s.slotRun n).cur.isNone fun s => slotStopped s n
    | .canvas n =>
      drainEnd s 0x0B n ((s.canvas n).frame.isNone && !s.org.busy.any fun (e : Nat × Placed) => e.2.canvas == n.val) fun s => canvasStopped s n
    | .encoding n => drainEnd s 0x0C n (s.encIdle n && (s.encRun n).frame.isNone) fun s => encStopped s n
    | .sub n => drainEnd s 0x0D n (s.sub n).inFrame.isNone fun s => reachStopped s 0x0D n
    | .link n => drainEnd s 0x0E n (s.now % 70560 == 0) fun s => reachStopped s 0x0E n
    | .footbridge => drainEnd s 0x0E 0x10000 true fun s => reachStopped s 0x0E 0x10000)

end Sys2Proof.Machine
end

