-- ==== Sys2Proof/Machine/Porch.lean ====
section
/-!
DEFINITION. The Porch: system commands, the fetch of commands, the writing of entries, queues and doorbells,
moderation, host sleep, link changes and Porch resets (R36-R83, R568-R570).
-/
namespace Sys2Proof.Machine

open Host

/-! ## System commands (R64) -/

/-- NOP completes at once with RESULT0 = 0. -/
def execNop (c : Cmd) (s : State) : Outcome State Fault Refusal :=
  .next (runCmd s 0x0000 c 1 1 (c.num == 0) true fun s => finish s 0x0000 c stOk)

/-- STY_STRAPS (R545): revision A0 and the sampled straps. -/
def State.styStraps (s : State) : Word := s.gate.straps.setWidth 32

/-- GET_INFO: firmware version, STY_STRAPS, free holding-buffer entries, commands in flight. DEDUCED, log entry 33. -/
def execGetInfo (c : Cmd) (s : State) : Outcome State Fault Refusal :=
  .next (runCmd s 0x0004 c 1 1 (c.num == 0) true fun s =>
    complete s 0x0004 c stOk s.boot.fw s.styStraps (low (256 - s.porch.held.length)) (low s.porch.flights.length))

/-! ## Fetching (R44-R47, R58) -/

/-- Low bytes of the opcodes each range defines (R63 and the command tables). -/
def opcodeLows : Nat → List Nat
  | 0 => [0x00, 0x04]
  | 1 => [0x10, 0x11, 0x12, 0x13, 0x14]
  | 2 => [0x10, 0x11, 0x12, 0x13, 0x14, 0x15, 0x16, 0x17]
  | 3 => [0x10]
  | 4 => [0x01, 0x02, 0x03, 0x10, 0x11, 0x12, 0x13, 0x20, 0x21, 0x22, 0x23, 0x24]
  | 5 => [0x10, 0x11, 0x12, 0x13, 0x14]
  | 6 => [0x10, 0x11, 0x12, 0x13, 0x14, 0x15, 0x16]
  | 7 => [0x01, 0x02, 0x03, 0x10, 0x11, 0x20, 0x21, 0x22, 0x30]
  | 8 => [0x01, 0x02, 0x03, 0x10, 0x11, 0x12, 0x13, 0x14, 0x15]
  | 9 => [0x01, 0x02, 0x03, 0x10, 0x11, 0x12, 0x13, 0x14, 0x15]
  | 10 => [0x01, 0x02, 0x03, 0x10, 0x11, 0x12, 0x13]
  | 11 => [0x01, 0x02, 0x03, 0x10, 0x11, 0x12, 0x13, 0x14, 0x15, 0x16]
  | 12 => [0x01, 0x02, 0x03, 0x10, 0x11, 0x12, 0x13, 0x14, 0x15]
  | 13 => [0x01, 0x02, 0x03, 0x10, 0x11, 0x12, 0x13]
  | 14 => [0x01, 0x02, 0x03, 0x10, 0x11]
  | 15 => [0x10, 0x20]
  | _ => []

/-- The opcode is defined (R60, R63). DEDUCED, log entry 19. -/
def opcodeKnown (op : BitVec 16) : Bool := (opcodeLows (op.toNat / 256)).contains (op.toNat % 256)

/-- Slots of submission queue n between the fetch position and the tail. -/
def State.slots (s : State) (n : Nat) : Nat :=
  ((s.sq n).tail + s.sqSize n - (s.sq n).head) % s.sqSize n

/-- Queue n may be fetched: enabled, not in error, its completion queue enabled, with room and not in error
(R57, R58, R82). DEDUCED, log entry 20. -/
def State.fetchable (s : State) (n : Nat) : Bool :=
  let q := s.boundCq n
  s.sqEn n && !(s.sq n).error && s.cqEn q && !(s.cq q).error && !s.cqFull q && decide (0 < s.slots n)

/-- Queue n holds a whole command that may be fetched: its slots are 8 or more, the most a command takes (R47), or its tail does
not split its next command, as host memory has it (R45). -/
def State.ripe (s : State) (split : List (Fin 64)) (n : Nat) : Bool :=
  s.fetchable n && (decide (8 ≤ s.slots n) || !split.any fun q => q.val == n)

/-- Commands of one round-robin turn (R46, R82). -/
def State.weight (s : State) (n : Nat) : Nat := Nat.max 1 (bits (s.reg (sqCfgA n)) 19 16)

/-- Queues strictly between the present turn and n in round-robin order over SQ1 to SQ63. -/
def turnsBetween (turn n : Nat) : List Nat :=
  (List.range ((n + 63 - turn) % 63 - 1)).map fun i => (turn + i) % 63 + 1

/-- The fetch order of R46 admits queue n next. -/
def State.turnOk (s : State) (split : List (Fin 64)) (n : Nat) : Bool :=
  if n = 0 then true
  else if s.ripe split 0 then false
  else if n = s.porch.turn && 0 < s.porch.credit then true
  else
    !(0 < s.porch.credit && s.ripe split s.porch.turn) &&
    (if n = s.porch.turn then (List.range 63).all fun i => i + 1 == n || !s.ripe split (i + 1)
     else (turnsBetween s.porch.turn n).all fun k => !s.ripe split k)

/-- Fetching goes on at all: READY, FETCH_EN, host reached, cores running, fewer than 512 in flight (R46, R79,
R518, R561, R568, R72). -/
def State.fetching (s : State) : Bool :=
  s.boot.ready && bit (s.reg 0x0010_0000) 0 && s.hostReach && s.running && s.pwr.entering.isNone &&
  decide (s.porch.flights.length < 512)

/-- Take queue n's turn (R46). -/
def takeTurn (s : State) (n : Nat) : State :=
  if n = 0 then s
  else if n = s.porch.turn && 0 < s.porch.credit then
    { s with porch := { s.porch with credit := s.porch.credit - 1 } }
  else { s with porch := { s.porch with turn := n, credit := s.weight n - 1 } }

/-- A DMA error on a queue (R58): the queue is in error and QUEUE_ERROR is raised. -/
def queueError (s : State) (isCq : Bool) (n : Nat) (e : PcieErr) : State :=
  let s := if isCq then s.setCq n { s.cq n with error := true } else s.setSq n { s.sq n with error := true }
  let s := pchErrQ s 2 isCq n
  event s 0x0002 (low n) (if isCq then 1 else 0) (low (pcieCode e)) 0 0

/-- The status of a command that no opcode's own meaning runs: BAD_OPCODE, or BAD_LENGTH for LEN 0 or above 8 (R45, R60). -/
def badStatus (op : BitVec 16) (c : Cmd) : Option Status :=
  if !opcodeKnown op then some stBadOpcode
  else if c.slots ≠ c.len then some stBadLength
  else none

/-- Start and complete the commands in flight of an undefined opcode or a LEN out of range whose turn to start has come
(R49, R50). DEDUCED, log entry 19. -/
def settleBad (s : State) : State :=
  s.porch.flights.foldl (fun s f =>
    match badStatus f.op f.c with
    | some st => if !f.started && mayStart s f.op f.c && !s.paused then finish (beginCmd s f.op f.c) f.op f.c st else s
    | none => s) s

/-- The Study fetches the command at the fetch position of its queue (R45, R46), whose words `mem` holds. DEDUCED, log entry 19.
DESIGN CHOICE, log entry 153. -/
def execCommandFetch (sq : Fin 64) (mem : FetchMem) (err : Option PcieErr) (s : State) : Outcome State Fault Refusal :=
  let n := sq.val
  let c := packetCmd sq mem.words
  if s.fetching && s.fetchable n && s.turnOk mem.split n && decide (c.slots ≤ s.slots n) then
    let s := belSignal (leaveL1 s)
    match err with
    | some e => .next (queueError s false n e)
    | none =>
      let s := takeTurn s n
      let s := s.setSq n { s.sq n with head := ((s.sq n).head + c.slots) % s.sqSize n }
      let f : Flight := { op := packetOp mem.words, c := c, started := false, discard := false, cq := s.boundCq n }
      .next (settleBad { s with porch := { s.porch with flights := s.porch.flights ++ [f] } })
  else .next s

/-! ## Entries (R53-R58, R71-R74, R568) -/

/-- Entries of events in the holding buffer. -/
def State.heldEvents (s : State) : Nat := (s.porch.held.filter fun h => h.entry.evt).length

/-- A completion that must wait: its queue is full, or the holding buffer is (R57, R74). DEDUCED, log entry 20. -/
def State.entryBlocked (s : State) (e : Entry) : Bool :=
  if e.evt then false
  else
    let n := e.cq
    !(s.cq n).error && (!s.cqEn n || s.cqFull n || (s.holding && decide (256 ≤ s.porch.held.length)))

/-- The oldest entry that need not wait, and the entries without it. -/
def State.pickEntry (s : State) : List Entry → Option (Entry × List Entry)
  | [] => none
  | e :: r =>
    if s.entryBlocked e then (s.pickEntry r).map fun p => (p.1, e :: p.2) else some (e, r)

/-- The flight a completion belongs to. -/
def retires (e : Entry) (f : Flight) : Bool :=
  f.started && f.c.sq == e.sq && f.op == e.code && f.c.tag == e.tag && f.c.obj == e.obj

/-- A completion is written or held: its command has completed (R48). -/
def retire (s : State) (e : Entry) : State :=
  match s.porch.flights.find? (retires e) with
  | some f => { s with porch := { s.porch with flights := s.porch.flights.erase f } }
  | none => s

/-- After the completion of POWER_STATE is written, its steps go on (R518). -/
def powerStateWritten (s : State) (e : Entry) : State :=
  match s.pwr.entering with
  | some (st, 2) => if e.code = 0x0113 then { s with pwr := { s.pwr with entering := some (st, 3) } } else s
  | _ => s

/-- Count an event that is lost for its queue (R56, R58). -/
def loseEvent (s : State) (n : Nat) : State :=
  let q := s.cq n
  (s.bump (cqLostA n) 1).setCq n { q with seq := q.seq + 1, lostSince := Nat.min (q.lostSince + 1) (2 ^ 32 - 1) }

/-- Room for one event of queue n: in its ring and, while entries are held, in the holding buffer (R56, R72). -/
def State.eventRoom (s : State) (n : Nat) : Bool :=
  !s.cqFull n && (!s.holding ||
    (decide (s.porch.held.length < 256) && (!s.porch.d3hot || decide (s.heldEvents < 64))))

/-- EVENTS_LOST of a queue (R56). -/
def eventsLostEntry (s : State) (n : Nat) : Entry :=
  { evt := true, sq := 0, code := 0x0001, tag := 0, status := stOk, obj := low n, r0 := low (s.cq n).lostSince, r1 := 0, r2 := 0,
    r3 := 0, time := s.entryTime, wake := false }

/-- EVENTS_LOST goes to its ring; when the write meets an error the queue is in error and its count stays (R56, R58).
DESIGN CHOICE, log entry 150. -/
def sendEventsLost (s : State) (n : Nat) : State :=
  let q := s.cq n
  let t := writeWaited (s.setCq n { q with seq := q.seq + 1 }) n (eventsLostEntry s n) q.seq
  if (t.cq n).error then t else t.setCq n { t.cq n with lostSince := 0 }

/-- Write EVENTS_LOST to a queue, or hold it (R56). -/
def writeEventsLost (s : State) (n : Nat) : State :=
  let q := s.cq n
  if s.holding then placeEntry (s.setCq n { q with lostSince := 0, seq := q.seq + 1 }) n (eventsLostEntry s n) q.seq
  else
    let t := sendEventsLost s n
    if (t.cq n).error then belSignal t else moderate t n

/-- Route of an opcode range's events (R55, R83). -/
def State.evRoute (s : State) (range : Nat) : Option Nat :=
  let b := bits (s.reg (0x0010_0020 + 4 * (range / 4))) (8 * (range % 4) + 7) (8 * (range % 4))
  if b / 128 = 1 && range < 16 && s.cqEn (b % 64) && s.evq (b % 64) then some (b % 64) else none

/-- Place, lose or discard an event (R55, R56, R58). -/
def deliverEvent (s : State) (err : Option PcieErr) (e : Entry) : State :=
  match s.evRoute (e.code.toNat / 256) with
  | none => s.bump unroutedA 1
  | some n =>
    if (s.cq n).error then loseEvent s n
    else
      let s := if 0 < (s.cq n).lostSince && s.eventRoom n then writeEventsLost s n else s
      if !s.eventRoom n || 0 < (s.cq n).lostSince || (s.cq n).error then loseEvent s n
      else
        match err with
        | some x => if s.holding then
            let q := s.cq n
            placeEntry (s.setCq n { q with seq := q.seq + 1 }) n e q.seq
          else queueError (loseEvent s n) true n x
        | none =>
          let q := s.cq n
          placeEntry (s.setCq n { q with seq := q.seq + 1 }) n e q.seq

/-- Write, hold or discard a completion (R57, R58); it goes to the completion queue that its submission queue was bound to when
the command was fetched. DESIGN CHOICE, log entry 153. -/
def deliverCompletion (s : State) (err : Option PcieErr) (e : Entry) : State :=
  let n := e.cq
  let s := retire s e
  let s := powerStateWritten s e
  if (s.cq n).error then s.bump (cqLostA n) 1
  else
    match err with
    | some x => if s.holding then placeEntry s n e 0 else queueError (s.bump (cqLostA n) 1) true n x
    | none => placeEntry s n e 0

/-- The Porch takes the oldest produced entry that need not wait. -/
def execEntryWrite (err : Option PcieErr) (s : State) : Outcome State Fault Refusal :=
  match s.pickEntry s.porch.produced with
  | none => .next s
  | some (e, rest) =>
    let s := { s with porch := { s.porch with produced := rest } }
    .next (if e.evt then deliverEvent s err e else settleBad (deliverCompletion s err e))

/-- A moderation timer has reached TIME_CT, and the interrupt is sent or kept (R69). -/
def execModerationTimerExpiry (q : Fin 64) (s : State) : Outcome State Fault Refusal :=
  let c := s.cq q
  match c.timer with
  | some t => .next (if c.modTime ≠ 0 && c.modTime ≤ t then interrupt s q else s)
  | none => .next s

/-- An event queue that lost events has room again (R56). -/
def execEventsLost (q : Fin 64) (s : State) : Outcome State Fault Refusal :=
  let c := s.cq q
  .next (if s.cqEn q && s.evq q && !c.error && 0 < c.lostSince && s.eventRoom q && !s.porch.d3hot
         then writeEventsLost s q else s)

/-! ## Doorbells and queue set-up (R39-R43, R569, R570, R82) -/

/-- A doorbell of any submission queue wakes the device from Idle and Drowse (R519). -/
def doorbellWake (s : State) : State :=
  if s.pwr.state ≠ 0 && s.pwr.state ≤ 2 && s.wakeEnabled 0 then beginWake s 0 0 else s

/-- A write of PCH_SQn_TAIL (R43): ignored while the queue is disabled, an index out of range is an error. -/
def writeSqTail (s : State) (n : Nat) (v : Word) : State :=
  let i := bits v 13 0
  let s := doorbellWake s
  if !s.sqEn n then s
  else if s.sqSize n ≤ i then pchErrQ s 0 false n
  else doorbellItem (s.setSq n { s.sq n with tail := i }) n

/-- A write of PCH_CQn_HEAD (R43). -/
def writeCqHead (s : State) (n : Nat) (v : Word) : State :=
  let i := bits v 15 0
  if !s.cqEn n then s
  else if s.cqSize n ≤ i then pchErrQ s 0 true n
  else s.setCq n { s.cq n with head := i }

/-- A write of PCH_SQn_CFG: locked fields, the bound queue, SIZE, and a fresh start (R40, R42, R82, R569). STAT.IDLE falls at the
write that enables the queue. DESIGN CHOICE, log entry 155. -/
def writeSqCfg (s : State) (n : Nat) (v : Word) : State :=
  let v := v &&& 0x800F_3F0F
  let a := sqCfgA n
  let old := s.reg a
  let sz := bits v 3 0
  if bit old 31 then
    if bits v 3 0 ≠ bits old 3 0 || bits v 13 8 ≠ bits old 13 8 then pchErrQ s 1 false n
    else s.setReg a v
  else if sz < 4 || 14 < sz then pchErrQ s 1 false n
  else if bit v 31 then
    if s.evq (bits v 13 8) then pchErrQ s 1 false n
    else (s.setReg a v).setSq n { head := 0, tail := 0, error := false, idle := false }
  else s.setReg a v

/-- An enabled submission queue is bound to completion queue n. -/
def State.boundEnabled (s : State) (n : Nat) : Bool :=
  (List.range 64).any fun k => s.sqEn k && s.boundCq k == n

/-- A bound submission queue, enabled or not, is not yet idle (R570), or a command in flight completes into the queue.
DESIGN CHOICE, log entry 153. -/
def State.boundBusy (s : State) (n : Nat) : Bool :=
  ((List.range 64).any fun k => s.boundCq k == n && (s.sqEn k || !(s.sq k).idle)) ||
  s.porch.flights.any (fun f => f.cq == n && !f.discard) || s.porch.produced.any fun e => !e.evt && e.cq == n

/-- A write of PCH_CQn_CFG (R40, R42, R82, R569, R570). -/
def writeCqCfg (s : State) (n : Nat) (v : Word) : State :=
  let v := v &&& 0x87FF_031F
  let a := cqCfgA n
  let old := s.reg a
  let sz := bits v 4 0
  if bit old 31 then
    if bits v 4 0 ≠ bits old 4 0 || bit v 8 ≠ bit old 8 then pchErrQ s 1 true n
    else if !bit v 31 && (s.boundBusy n || 0 < s.heldOf n) then pchErrQ s 1 true n
    else s.setReg a v
  else if sz < 4 || 16 < sz then pchErrQ s 1 true n
  else if bit v 8 && s.boundEnabled n then pchErrQ s 1 true n
  else if bit v 31 then
    (s.setReg a v).setCq n { lostSince := (s.cq n).lostSince }
  else s.setReg a v

/-- A host write to a Porch register: discarded while the Porch is off (R30, R71). -/
def porchWrite (s : State) (go : State → State) : Outcome State Fault Refusal :=
  .next (if s.coreOn then go (hostArrives s .host) else s)

def execSqTailDoorbell (q : Fin 64) (v : Word) (s : State) : Outcome State Fault Refusal :=
  porchWrite s fun s => writeSqTail s q v

def execCqHeadDoorbell (q : Fin 64) (v : Word) (s : State) : Outcome State Fault Refusal :=
  porchWrite s fun s => writeCqHead s q v

/-- SQ_ENABLE is the write of PCH_SQn_CFG with EN set. -/
def execSqEnable (q : Fin 64) (v : Word) (s : State) : Outcome State Fault Refusal :=
  porchWrite s fun s => writeSqCfg s q (v ||| 0x8000_0000)

/-- SQ_DISABLE is the write of PCH_SQn_CFG with EN clear. -/
def execSqDisable (q : Fin 64) (v : Word) (s : State) : Outcome State Fault Refusal :=
  porchWrite s fun s => writeSqCfg s q (v &&& 0x7FFF_FFFF)

/-- STAT.IDLE of a disabled queue rises once its commands have completed (R82). -/
def execSqIdle (q : Fin 64) (s : State) : Outcome State Fault Refusal :=
  .next (if !s.sqEn q && !(s.porch.flights.any fun f => f.c.sq == q)
         then s.setSq q { s.sq q with idle := true } else s)

def execCqEnable (q : Fin 64) (v : Word) (s : State) : Outcome State Fault Refusal :=
  porchWrite s fun s => writeCqCfg s q (v ||| 0x8000_0000)

def execCqDisable (q : Fin 64) (v : Word) (s : State) : Outcome State Fault Refusal :=
  porchWrite s fun s => writeCqCfg s q (v &&& 0x7FFF_FFFF)

/-! ## Register accesses that the Porch decides -/

/-- A refused TLP (R13): a byte enable clear, or longer than two DW. DEDUCED, log entry 15. -/
def execHostTlpRefused (write : Bool) (_addr : BitVec 28) (dws : Nat) (beFull : Bool) (s : State) :
    Outcome State Fault Refusal :=
  if beFull && (dws = 1 || dws = 2) then .next s
  else
    let s := pchErr (hostArrives s .host) 4
    .next (if write then s else { s with out := Out.ur :: s.out })

/-- STY_WBARRIER answers once the requester's writes have landed: a write lands in the step that makes it (R29). -/
def execWriteBarrierRead (r : Requester) (s : State) : Outcome State Fault Refusal :=
  .next (readOut (hostArrives s r) r 0x40 (low (reqId r)))

/-! ## Resets of the Porch (R38, R498, R561) -/

/-- A host image load in progress is abandoned (R561). -/
def abandonLoad (s : State) : State :=
  if s.boot.stage = 4 && s.boot.loading then
    { s with boot := { s.boot with loading := false, error := 6, failed := false } }
  else s

/-- Reset the Porch only: queues and doorbells, holding buffer, MSI-X table; fetched commands run on, and their
completions are discarded. The end of a wake is the host's write of PME_Status alone (R73), so it stays. DEDUCED, log entry 18. -/
def porchReset (s0 : State) (link : Link) : State :=
  let s := s0
  let lost := s.porch.produced.any (fun e => !e.evt) || s.porch.held.any fun h => !h.entry.evt
  let fl := s.porch.flights.filter fun f => !(s.porch.produced.any fun e => retires e f)
  let p : Porch :=
    { link := link, width := if link = .down then 0 else s.porch.width, gen := if link = .down then 0 else s.porch.gen, d3hot := false, pmeEn := s.porch.pmeEn, pmeStatus := s.porch.pmeStatus,
      wakeActive := s.porch.wakeActive, wakeN := s.porch.wakeN, perst := s.porch.perst,
      produced := s.porch.produced.filter fun e => e.evt,
      flights := fl.map fun f => { f with discard := true } }
  let s := { s with porch := p, regs := tdelRange s.regs 0x0010_0000 0x0020_0000,
                    bell := { s.bell with levelStacks := tdel s.bell.levelStacks 20, hostSent := none } }
  let s := abandonLoad s
  let s := resignal s0 s
  let s := if lost then pchErr s 3 else s
  pulse s 34

/-- DEDUCED, log entry 17. -/
def execFlr (s : State) : Outcome State Fault Refusal := .next (porchReset s s.porch.link)

/-- A hot reset takes the link down, from where it trains again. DEDUCED, log entry 17. -/
def execHotReset (s : State) : Outcome State Fault Refusal := .next (pulse (porchReset s .down) 33)

/-- PERST_N falls: as an FLR, with the link down; a WAKE_N of the Gatehouse ends (R521). -/
def execPerstNAssert (s : State) : Outcome State Fault Refusal :=
  let s := porchReset s .down
  let s := { s with porch := { s.porch with perst := true }, pwr := { s.pwr with wakeN := false } }
  .next (pulse s 33)

/-- PERST_N rises: the link trains (R546), source 53 pulses (R491) and wake source 3 acts (R519). -/
def execPerstNRelease (s : State) : Outcome State Fault Refusal :=
  if !s.porch.perst then .next s
  else
    let s := { s with porch := { s.porch with perst := false } }
    let s := if s.wakeEnabled 3 then beginWake s 3 53 else s
    .next (pulse s 53)

/-! ## Link and D-state (R71-R75, R568) -/

/-- Lanes that the PCIE_LANES strap allows (R37, R543). -/
def State.maxLanes (s : State) : Nat := 8 / 2 ^ (s.gate.straps.toNat / 2 ^ 2 % 4)

/-- The link trains, at a generation and a width that the two partners settle: Gen1 to Gen5, and never wider than the strap
(R36, R37). DESIGN CHOICE, log entry 148. -/
def trainLink (s : State) : State :=
  let (k, s) := s.fresh
  { s with porch := { s.porch with width := Nat.min s.maxLanes (2 ^ (Config.freeNat k % 4)), gen := 1 + Config.freeNat k / 4 % 5 } }

/-- Change the link; source 33 pulses. A link that leaves link-down has trained. -/
def setLink (s : State) (l : Link) : State :=
  if s.porch.link = l then s
  else
    let t := if l = .down then { s with porch := { s.porch with width := 0, gen := 0 } }
      else if s.porch.link = .down then trainLink s else s
    pulse (resignal s { t with porch := { t.porch with link := l } }) 33

/-- Send every interrupt that is kept, each queue's at once. -/
def sendKept (s : State) : State :=
  (List.range 64).foldl (fun s n => if (s.cq n).due then interrupt s n else s) s

def lowLink : LowLink → Link
  | .l1 => .l1 | .l11 => .l11 | .l12 => .l12

/-- The link enters L1 from L0 or from another L1 state. -/
def execLinkEntersL1 (l : LowLink) (s : State) : Outcome State Fault Refusal :=
  if s.porch.link = .down then .next s
  else
    let s := setLink s (lowLink l)
    .next (if 192 ≤ s.porch.held.length && !s.porch.d3hot then belSignal (leaveL1 s) else s)

def execLinkDown (s : State) : Outcome State Fault Refusal := .next (setLink s .down)

/-- The link returns to L0; it cannot while PERST_N is asserted. In D0 the held entries are written, and after a
link-down every kept interrupt is sent. -/
def execLinkReturnsL0 (s : State) : Outcome State Fault Refusal :=
  if s.porch.perst then .next s
  else if s.porch.d3hot then .next (setLink s .l0)
  else
    let wasDown := s.porch.link == Link.down
    let t := if wasDown then trainLink s else s
    let t := writeHeld { t with porch := { t.porch with link := .l0 } }
    let t := if wasDown then sendKept t else t
    .next (pulse (resignal s (sendUnmasked t)) 33)

/-- The function enters D3hot; its PMCSR write carries PME_En. -/
def execD3hotEntry (pmeEn : Bool) (s : State) : Outcome State Fault Refusal :=
  if s.porch.d3hot || s.porch.link = .down then .next s
  else
    .next (checkWake (pulse (resignal s { s with porch := { s.porch with d3hot := true, pmeEn := pmeEn } }) 33))

/-- R75, steps 1 to 4: held entries, EVENTS_LOST, one interrupt per affected queue, fetching. -/
def execReturnToD0 (s : State) : Outcome State Fault Refusal :=
  if !s.porch.d3hot || s.porch.link = .down then .next s
  else
    let tails := (List.range 64).map fun n => (s.cq n).tail
    let t := writeHeld { s with porch := { s.porch with d3hot := false, link := .l0 } }
    let lost := (List.range 64).filter fun n =>
      t.cqEn n && t.evq n && !(t.cq n).error && 0 < (t.cq n).lostSince && !t.cqFull n
    let t := lost.foldl sendEventsLost t
    -- a queue that received an entry has another tail: the entries held never fill a ring
    let t := (List.range 64).foldl (fun t n =>
      if tails.getD n 0 != (t.cq n).tail || (t.cq n).due then interrupt t n else t) t
    .next (pulse (resignal s (sendUnmasked t)) 33)

/-- A write of 1 to PME_Status ends the wake (R73); a wake-capable entry still held asks again.
DEDUCED, log entry 24. DESIGN CHOICE, log entry 148. -/
def execPmeStatusClear (pmeEn : Bool) (s : State) : Outcome State Fault Refusal :=
  let was := s.porch.wakeN
  let s := { s with porch := { s.porch with pmeEn := pmeEn, pmeStatus := false, wakeActive := false, wakeN := false } }
  let s := if was then { s with out := Out.wakeN false :: s.out } else s
  .next (checkWake s)

end Sys2Proof.Machine
end

