-- ==== Sys2Proof/Machine/Regs.lean ====
section
/-!
DEFINITION. The register file as its requesters see it: which registers exist and answer (R14, R30, R32), what each reads
as (R12, R15, R17, R31), and what a write does (R15, R42).
-/
namespace Sys2Proof.Machine

open Host

/-! ## Register rows

A row names the registers `base + i * st1 + j * st2` with i < n1 and j < n2. -/

structure RegRow where
  base : Nat
  n1   : Nat := 1
  st1  : Nat := 4
  n2   : Nat := 1
  st2  : Nat := 4
  deriving DecidableEq, Repr

def RegRow.has (r : RegRow) (a : Nat) : Bool :=
  let d := a - r.base
  decide (r.base ≤ a) && decide (d / r.st1 < r.n1) && decide (d % r.st1 / r.st2 < r.n2) && d % r.st1 % r.st2 == 0

/-- Registers of access type RC that hold a count, a peak or sticky bits (R15). -/
def rcRows : List RegRow :=
  [ { base := 0x0010_0030 }, { base := 0x0011_1018, n1 := 64, st1 := 0x20 },
    { base := 0x0020_000C }, { base := 0x0020_0020, n1 := 4 },
    { base := 0x0030_002C }, { base := 0x0030_0040, n1 := 16 }, { base := 0x0030_0080, n1 := 4 }, { base := 0x0030_0300, n1 := 5 },
    { base := 0x0040_0008 }, { base := 0x0040_0014 }, { base := 0x0040_0050, n1 := 7 },
    { base := 0x0050_0030 }, { base := 0x0051_0004, n1 := 8, st1 := 0x1000, n2 := 2 },
    { base := 0x0051_0010, n1 := 8, st1 := 0x1000, n2 := 4 }, { base := 0x0051_0028, n1 := 8, st1 := 0x1000 },
    { base := 0x0051_0110, n1 := 8, st1 := 0x1000, n2 := 3 },
    { base := 0x0060_011C }, { base := 0x0062_0004, n1 := 8, st1 := 0x10 },
    { base := 0x0070_0008 }, { base := 0x0070_0010, n1 := 6 } ] ++
  [ { base := 0x0080_0008, n1 := 6 }, { base := 0x0080_1008, n1 := 8, st1 := 0x100 },
    { base := 0x0080_1048, n1 := 8, st1 := 0x100, n2 := 5, st2 := 0x10 },
    { base := 0x0081_0008, n1 := 8192, st1 := 0x10, n2 := 2 }, { base := 0x0088_0000, n1 := 8192, st1 := 0x10, n2 := 4 },
    { base := 0x0090_0018 }, { base := 0x0090_1030, n1 := 8, st1 := 0x1000, n2 := 7 },
    { base := 0x00A0_0000, n1 := 11 }, { base := 0x00A8_0010, n1 := 9 },
    { base := 0x00B0_0010, n1 := 8 },
    { base := 0x00C0_0004, n1 := 28, st1 := 0x1_0000 }, { base := 0x00C0_0110, n1 := 28, st1 := 0x1_0000, n2 := 8, st2 := 0x40 },
    { base := 0x00C0_0114, n1 := 28, st1 := 0x1_0000, n2 := 8, st2 := 0x40 },
    { base := 0x00E0_100C, n1 := 12, st1 := 0x40, n2 := 3 }, { base := 0x00E1_002C, n1 := 96, st1 := 0x40 } ] ++
  [ { base := 0x0100_0004, n1 := 24, st1 := 0x1_0000, n2 := 2 } ] ++
  ((List.range 8).map fun k => { base := 0x0100_0118 + 4 * k, n1 := 24, st1 := 0x1_0000, n2 := 16, st2 := 0x40 }) ++
  [ { base := 0x0120_0008, n1 := 12, st1 := 0x1_0000 } ] ++
  ((List.range 4).map fun k => { base := 0x0120_0118 + 4 * k, n1 := 12, st1 := 0x1_0000, n2 := 8, st2 := 0x80 }) ++
  [ { base := 0x0130_0014, n1 := 4, st1 := 0x10 }, { base := 0x0131_0014, n1 := 96, st1 := 0x40, n2 := 5 },
    { base := 0x0170_0004, n1 := 3 }, { base := 0x0170_0108, n1 := 16, st1 := 0x10, n2 := 2 } ]

/-- A register that a read clears, the claims of the Bellboard apart. -/
def isRc (a : Nat) : Bool := rcRows.any fun r => r.has a

/-- Low words of the 64-bit counters of R17. -/
def counterRows : List RegRow :=
  [ { base := 0x0030_0090, n2 := 1 }, { base := 0x0030_0098 }, { base := 0x0040_0070 },
    { base := 0x0051_0030, n1 := 8, st1 := 0x1000, n2 := 2, st2 := 8 }, { base := 0x0060_0010 }, { base := 0x0060_0030 }, { base := 0x0070_0028 }, { base := 0x0080_0020 },
    { base := 0x0090_1010, n1 := 8, st1 := 0x1000, n2 := 4, st2 := 8 }, { base := 0x00A8_0008 },
    { base := 0x00C0_0008, n1 := 28, st1 := 0x1_0000 }, { base := 0x00C0_0108, n1 := 28, st1 := 0x1_0000, n2 := 8, st2 := 0x40 },
    { base := 0x0100_0018, n1 := 24, st1 := 0x1_0000 }, { base := 0x0100_0110, n1 := 24, st1 := 0x1_0000, n2 := 16, st2 := 0x40 },
    { base := 0x0120_0108, n1 := 12, st1 := 0x1_0000, n2 := 8, st2 := 0x80 },
    { base := 0x0120_0110, n1 := 12, st1 := 0x1_0000, n2 := 8, st2 := 0x80 },
    { base := 0x0131_0030, n1 := 96, st1 := 0x40 } ]

def isCounterLow (a : Nat) : Bool := counterRows.any fun r => r.has a

/-- Plain RW registers with the bits that a write sets; a write has no further effect. -/
def rwRows : List (RegRow × Word) :=
  [ ({ base := 0x0000_0020 }, 0xFFFF_F000), ({ base := 0x0000_0024 }, 0xFFFF_FFFF), ({ base := 0x0000_0028 }, 0x01FF_FFFF),
    ({ base := 0x0010_0000 }, 0x0000_0003), ({ base := 0x0010_0020, n1 := 4 }, 0xBFBF_BFBF),
    ({ base := 0x0011_100C, n1 := 64, st1 := 0x20 }, 0x0000_00FF), ({ base := 0x0011_1010, n1 := 64, st1 := 0x20 }, 0x00FF_FFFF),
    ({ base := 0x0030_0004 }, 0x0000_0007), ({ base := 0x0030_0020 }, 0xFFFF_FFFF), ({ base := 0x0030_0030 }, 0x0000_03FF),
    ({ base := 0x0040_0020, n1 := 4 }, 0x0001_FFFF), ({ base := 0x0040_0030, n1 := 4 }, 0x003F_FFFF),
    ({ base := 0x0040_0040 }, 0x0001_FFFF), ({ base := 0x0040_0044 }, 0x003F_FFFF),
    ({ base := 0x0050_0004, n1 := 2 }, 0x0000_FFFF), ({ base := 0x0050_0010 }, 0xFFFF_FFFF), ({ base := 0x0050_001C }, 0x0000_FFFF),
    ({ base := 0x0050_0020 }, 0xC000_077F), ({ base := 0x0058_0100, n1 := 8 }, 0x0003_FFFF),
    ({ base := 0x0140_0104, n1 := 3, st1 := 0x10 }, 0x0000_007F), ({ base := 0x0160_0040 }, 0x0000_FFFF) ]

/-- Bits that a plain write sets, none for a register that is not in the list. -/
def rwMask (a : Nat) : Option Word := (rwRows.find? fun r => r.1.has a).map fun r => r.2

/-! ## Which registers answer (R30) -/

/-- The register at an address lies in a block whose domain is on, and its port or channel exists (R30, R124, R459).
DEDUCED, log entry 15. -/
def State.regOn (s : State) (a : Nat) : Bool :=
  s.coreOn && a % 4 == 0 && (
    let u := a / 2 ^ 20
    if u ≤ 4 then true
    else if u = 5 then !(decide (0x0051_0000 ≤ a) && decide (a < 0x0051_8000)) || s.present ((a - 0x0051_0000) / 0x1000)
    else if u = 6 then s.timeOn
    else if u = 7 then s.dom 72
    else if u = 8 then s.commonOn
    else if u = 9 then s.commonOn &&
      (decide (a < 0x0090_1000) || (s.portPresent ((a - 0x0090_1000) / 0x1000) && s.portPowered ((a - 0x0090_1000) / 0x1000)))
    else if u = 10 then
      if 0x00A8_0000 ≤ a then s.commonOn
      else if a < 0x00A1_0000 then s.dom 68 || s.dom 69 || s.dom 70 || s.dom 71
      else s.dom (68 + (a - 0x00A1_0000) / 4 % 4)
    else if u = 11 || u = 0x17 then s.commonOn
    else if u = 12 || u = 13 then decide (a < 0x00DC_0000) && s.dom ((a - 0x00C0_0000) / 0x1_0000)
    else if u = 14 then
      if a < 0x00E0_1000 then s.dom 77 || s.dom 78 || s.dom 79
      else if a < 0x00E1_0000 then decide ((a - 0x00E0_1000) / 0x40 < 12) && s.bankPowered ((a - 0x00E0_1000) / 0x40)
      else decide ((a - 0x00E1_0000) / 0x40 < 96) && s.hatchPowered ((a - 0x00E1_0000) / 0x40)
    else if u = 0x10 || u = 0x11 then decide (a < 0x0118_0000) && s.dom (28 + (a - 0x0100_0000) / 0x1_0000)
    else if u = 0x12 then decide (a < 0x012C_0000) && s.dom (52 + (a - 0x0120_0000) / 0x1_0000)
    else if u = 0x13 then
      if a < 0x0130_0010 then s.orgPowered
      else if a < 0x0130_0050 then s.dom (64 + (a - 0x0130_0010) / 0x10)
      else if a < 0x0131_0000 then false
      else if a < 0x0131_1800 then s.canvasPowered ((a - 0x0131_0000) / 0x40)
      else s.orgPowered
    else decide (u ≤ 0x16))

/-! ## Values (R12, R31): a read returns the state of the instant it is serviced -/

def flag (b : Bool) (k : Nat) : Nat := if b then 2 ^ k else 0

def State.readStudy (s : State) (r : Requester) (o : Nat) : Word :=
  match o with
  | 0x10 => s.styStraps
  | 0x14 => low (flag s.boot.ready 31 + flag s.boot.failed 30 + s.boot.error % 256 * 2 ^ 16 + flag s.boot.copy 4 + s.boot.stage % 16)
  | 0x40 => low (reqId r)
  | _ => s.reg o

/-- Registers of the Porch; the MSI-X table and its pending bits read 0 in D3hot (R76). DEDUCED, log entry 34. -/
def State.readPorch (s : State) (a : Nat) : Word :=
  let o := a - 0x0010_0000
  if o = 4 then
    low (s.porch.held.length * 2 ^ 16 + flag s.porch.wakeActive 9 + flag (s.inL1 || s.porch.d3hot) 8 +
      (if s.porch.d3hot then 0x30 else 0) + linkCode s.porch.link)
  else if o = 8 then low s.porch.flights.length
  else if 0x1_0000 ≤ o && o < 0x1_0800 then
    let q := s.sq ((o - 0x1_0000) / 0x20)
    match o % 0x20 with
    | 0x0C => low q.head
    | 0x10 => low (flag q.idle 0 + flag q.error 1)
    | _ => s.reg a
  else if 0x1_1000 ≤ o && o < 0x1_1800 then
    let n := (o - 0x1_1000) / 0x20
    match o % 0x20 with
    | 0x14 => low (s.cq n).tail
    | 0x1C => low (flag (s.cq n).error 0 + flag (s.cqEn n && s.cqFull n) 1)
    | _ => s.reg a
  else if 0x4_0000 ≤ o && o < 0x4_8000 then (if s.porch.d3hot then 0 else s.reg a)
  else if 0x4_8000 ≤ o && o < 0x4_8100 then
    if s.porch.d3hot then 0
    else low (((List.range 32).filter fun i => s.porch.pba.contains ((o - 0x4_8000) / 4 * 32 + i)).foldl (fun n i => n + 2 ^ i) 0)
  else s.reg a

/-- Header of an error record (R508). -/
def ErrRec.header (e : ErrRec) : Word := low (sevNum e.sev * 2 ^ 30 + flag e.handled 29 + e.src % 1024)

def ErrRec.wordAt (e : Option ErrRec) (k : Nat) : Word :=
  match e with
  | none => 0
  | some e => match k with | 0 => e.header | 1 => e.i0 | 2 => e.i1 | _ => e.time

/-- Registers of the Bellboard (R507, R508). A claim is read by `claim`. -/
def State.readBell (s : State) (a : Nat) : Word :=
  let o := a - 0x0020_0000
  let b := s.bell
  if o = 0 then low (flag b.cfgErr 16 + b.pend.length)
  else if o = 0x10 then
    let sv := fun (k : Nat) => match b.levels.reverse[k]? with | some e => sevNum e.sev | none => 0
    low (flag b.doneDenied 9 + flag b.double 8 + sv 1 * 16 + sv 0 * 4 + b.levels.length)
  else if 0x40 ≤ o && o < 0x60 then ErrRec.wordAt b.levels.reverse[(o - 0x40) / 0x10]? (o % 0x10 / 4)
  else if o = 0x80 then low b.log.length
  else if 0x90 ≤ o && o < 0xA0 then ErrRec.wordAt b.log.head? (o % 0x10 / 4)
  else if 0x1000 ≤ o && o < 0x12A0 then
    let t := (o - 0x1000) / 0x20
    let st := s.stack t
    let entries := fun (l : List Nat) => low ((l.zipIdx.map fun p => p.1 % 16 * 2 ^ (4 * p.2)).sum)
    match o % 0x20 with
    | 0x0C => low (flag (s.highest t).isSome 31 + flag (s.asleep t) 30 + flag (b.eoiEmpty.contains t) 29 +
        flag (b.fullHeld.contains t) 28 + st.length * 2 ^ 8 + s.runPrio t)
    | 0x10 => entries (st.reverse.take 8)
    | 0x14 => entries (st.reverse.drop 8)
    | 0 => s.reg a
    | _ => 0
  else if 0x1_0000 ≤ o && o < 0x1_2000 && o % 8 = 4 then
    let n := (o - 0x1_0000) / 8
    let t := s.route n
    let held := b.pend.contains n && s.srcEn n && s.heldSource n
    let waking := held && (s.pwr.wake.isSome || (4 ≤ s.srcTarget n && (tfind s.pwr.rising (68 + (s.srcTarget n - 4) / 4)).isSome))
    low (flag (b.pend.contains n) 31 + flag (s.signallable t n) 30 + flag (s.asleep (s.srcTarget n) && t != s.srcTarget n) 29 +
      flag waking 28 + t)
  else s.reg a

/-- HAL_FLOWf_STAT (R412). -/
def State.flowStat (s : State) (f : Nat) : Word :=
  let x := s.flow f
  let (st, k) := match x.active with
    | some (k, _) => (2, k)
    | none => (if x.items.isEmpty then 0 else 1, 0)
  let tm := match x.timer with
    | none => 0
    | some t => if t.waitAny then 1 else 2
  low (st * 2 ^ 30 + tm * 2 ^ 28 + (if x.items.isEmpty then 0 else x.prio) * 2 ^ 24 + k * 2 ^ 19 + x.items.length)

/-- Flows ready in a group at a priority. -/
def State.readyCount (s : State) (g p : Nat) : Nat :=
  (s.hall.flows.filter fun e => flowGroup e.1 == g && e.2.ready && e.2.prio == p).length

def State.readHall (s : State) (a : Nat) : Word :=
  let o := a - 0x0030_0000
  let h := s.hall
  if o = 0 then low (flag h.cfgErr 16 + h.computed * 2 ^ 8 + flag (h.computed < s.forceMin) 7 + h.step)
  else if o = 0x24 then low (h.genUse + h.studyUse / 8 * 2 ^ 20)
  else if o = 0x28 then low h.u
  else if o = 0x2C then low h.usePeak
  else if 0x100 ≤ o && o < 0x240 then low (s.readyCount ((o - 0x100) / 0x40) (o % 0x40 / 4))
  else if 0x400 ≤ o && o < 0x450 then
    match s.serving ((o - 0x400) / 4) with
    | some f => low (2 ^ 31 + f)
    | none => 0
  else if 0x1_0000 ≤ o && o < 0x5_0000 then s.flowStat ((o - 0x1_0000) / 4)
  else s.reg a

/-- PAN_Qq_STAT (R430). -/
def State.queueStat (s : State) (q : Nat) : Word :=
  let x := s.queue q
  let cls := if 33104 ≤ q then (if s.pan.ready then Config.fwQueueClass q % 4 else 3) else queueClass q
  let pool := if 33104 ≤ q then 3 else queuePool q
  low (flag (x.entries.length ≤ x.read) 31 + flag x.under 30 + flag x.mark.isSome 29 + flag x.gapTail 28 + pool * 2 ^ 26 +
    cls * 2 ^ 24 + x.cells)

def State.readPantry (s : State) (a : Nat) : Word :=
  let o := a - 0x0040_0000
  if o = 0 then
    let quarters := if s.pan.ready then s.poolCells false / 24576 else 0
    low ((2 ^ quarters - 1) * 16 + flag (s.poolFree true < s.lowMark true) 3 + flag (s.poolFree false < s.lowMark false) 2 +
      flag (s.pan.farCells != 0) 1 + flag s.pan.ready 0)
  else if o = 4 then low (s.poolFree false)
  else if o = 8 then low s.pan.near.peak
  else if o = 0x0C then low s.pan.farCells
  else if o = 0x10 then low (s.poolFree true)
  else if o = 0x14 then low s.pan.far.peak
  else if o = 0x18 then low (s.gapFree false + s.gapFree true * 2 ^ 16)
  else if 0x4_0000 ≤ o && o < 0x4_0000 + 33792 * 8 then
    let q := (o - 0x4_0000) / 8
    if o % 8 = 0 then s.queueStat q else low (s.queue q).bytes
  else s.reg a

/-- CEL_STAT, the channels and the keepers (R460). -/
def State.readCellar (s : State) (a : Nat) : Word :=
  let o := a - 0x0050_0000
  let c := s.cel
  if o = 0 then
    let keeper := (List.range 8).any fun n => (s.chan n).keeper
    let there := ((List.range 8).filter fun n => s.present n).foldl (fun n k => n + 2 ^ k) 0
    low (c.trainFail.toNat * 2 ^ 24 + there * 2 ^ 16 + flag c.strapErr 4 + flag keeper 3 + flag c.initDone 2 + flag c.trained 1 +
      flag (s.present 0 && s.ranks == 2) 0)
  else if o = 0x8_0000 then low (((List.range 8).filter fun n => (s.chan n).keeper).foldl (fun n k => n + 2 ^ k) 0)
  else if 0x1_0000 ≤ o && o < 0x1_8000 then
    let n := (o - 0x1_0000) / 0x1000
    let x := s.chan n
    match o % 0x1000 with
    | 0 =>
      let worst := x.postponed.foldl (fun m e => Nat.max m e.2) 0
      let banks := ((List.range 16).filter fun b => x.inorder.any fun e => e.1 % 16 == b).foldl (fun n b => n + 2 ^ b) 0
      low (worst * 2 ^ 28 + flag x.window.isSome 27 + flag (x.calDue.isSome && x.window.isNone) 26 + banks)
    | 0x20 => low (s.scrubLine n x.scrubPos)
    | 0x24 => low x.passes
    | 0x100 => 0
    | 0x104 => s.reg a ||| low (flag x.training 31)
    | _ => s.reg a
  else s.reg a

/-- The three words of a PTP value at ns, seconds, and seconds' high part with the fraction (R487). -/
def ptpWord (v k : Nat) : Word :=
  match k with | 0 => low (ptpNs v) | 1 => low (ptpSec v) | _ => ptpSecHi v

def State.readBlv (s : State) (a : Nat) : Word :=
  let o := a - 0x0060_0000
  let b := s.blv
  if o = 0 then
    low (flag b.servo2.on 14 + flag b.servo1.on 13 + flag b.lockBase2 12 + flag b.slew.isSome 11 + flag b.holdover 10 +
      flag b.lock.isSome 9 + flag s.ctRef 8 + flag b.tb2.stepped 6 + flag b.tb1.stepped 5 + flag b.stepped0 4 +
      flag b.tb2.armed 2 + flag b.tb1.armed 1)
  else if 0x18 ≤ o && o < 0x24 then ptpWord b.lat1 ((o - 0x18) / 4)
  else if 0x24 ≤ o && o < 0x30 then ptpWord b.lat2 ((o - 0x24) / 4)
  else if o = 0x40 then wordOfInt b.rate0
  else if o = 0x44 then wordOfInt b.tb1.rate
  else if o = 0x48 then wordOfInt b.tb2.rate
  else if o = 0x50 then 0x1210_385D
  else if o = 0x54 then 0x0000_000E
  else if o = 0x58 then 0x2C1E_2F9A
  else if o = 0x100 then low b.txts.length
  else if 0x104 ≤ o && o < 0x118 then
    match b.txts.head? with
    | none => 0
    | some e =>
      if o = 0x104 then low (2 ^ 31 + flag e.baseOff 22 + flag e.epoch 21 + flag e.base2 20 + e.port * 2 ^ 16 + e.tag.toNat)
      else if o = 0x114 then e.tb0
      else ptpWord e.stamp ((o - 0x108) / 4)
  else if 0x1_0000 ≤ o && o < 0x1_0100 then
    let p := b.port ((o - 0x1_0000) / 0x20)
    match o % 0x20 with
    | 0 => p.rxlat
    | 4 => p.txlat
    | 8 => p.asym
    | 0x0C => low (p.txCt % 256 * 2 ^ 16 + p.rxCt % 256 * 2 ^ 8 + flag p.servo 1 + flag p.base2 0)
    | _ => 0
  else if 0x2_0000 ≤ o && o < 0x2_0080 && o % 0x10 = 0 then
    let p := s.pin ((o - 0x2_0000) / 0x10)
    low (flag p.edge.isSome 7 + flag p.level 6 + p.mode)
  else if 0x3_0000 ≤ o && o < 0x4_0000 then
    let e := tget {} b.rxts ((o - 0x3_0000) / 0x10)
    if o % 0x10 = 0x0C then low (flag e.valid 31 + flag e.epoch 2 + flag e.base2 1 + flag e.baseOff 0)
    else ptpWord e.stamp (o % 0x10 / 4)
  else s.reg a

/-- Registers of the Icehouse outside the window; the window is read through `execIceWindowRead` and `readAccess`. -/
def State.readIce (s : State) (a : Nat) : Word :=
  let o := a - 0x0070_0000
  if o = 0 then low (flag s.ice.entropy 2 + flag s.ice.lent 1 + flag s.ice.alarmed 0)
  else if o = 4 then s.iceLock
  else if o = 0x30 then low s.gate.alarm.toNat
  else if isWindow a then 0
  else s.reg a

/-- PRG_PORTn_STAT and PRG_LEGl_STAT (R388). -/
def State.prgPortStat (s : State) (n : Nat) : Word :=
  let x := s.portPrg n
  low ((x.overhead % 256).toNat * 2 ^ 24 + flag (s.nextExact n).isSome 18 + flag (x.shaper.rate != 0) 17 +
    flag (s.netPort n).linkUp 16 + x.quantum)

def State.prgLegStat (s : State) (l : Nat) : Word :=
  let x := s.legPrg l
  let shaped := ((List.range 4).map fun k => flag ((x.svc k).rate != 0) (27 + k)).sum
  low (flag (x.leg.rate != 0) 31 + shaped + flag x.polEn 26 + s.heldServices l * 2 ^ 22 + x.pace * 2 ^ 8)

def State.readPergola (s : State) (a : Nat) : Word :=
  let o := a - 0x0080_0000
  if o = 0 then
    low (s.hall.step * 2 ^ 16 + ((List.range 8).map fun n => flag (s.nextExact n).isSome (8 + n)).sum +
      ((List.range 8).map fun n => flag (s.netPort n).linkUp n).sum)
  else if o = 4 then low (s.prg.sampleBlock.getD 0)
  else if 0x1000 ≤ o && o < 0x1800 then
    match o % 0x100 with
    | 0 => s.prgPortStat ((o - 0x1000) / 0x100)
    | 4 => wordOfInt ((s.portPrg ((o - 0x1000) / 0x100)).shaper.at s.now).bytes
    | _ => s.reg a
  else if 0x1_0000 ≤ o && o < 0x3_0000 then
    match o % 0x10 with
    | 0 => s.prgLegStat ((o - 0x1_0000) / 0x10)
    | 4 => wordOfInt ((s.legPrg ((o - 0x1_0000) / 0x10)).leg.at s.now).bytes
    | _ => s.reg a
  else s.reg a

def State.readNet (s : State) (a : Nat) : Word :=
  let o := a - 0x0090_0000
  if o = 0 then s.netModeWord
  else if o = 0x14 then low s.net.punt.tail
  else if 0x1000 ≤ o && o < 0x9000 && o % 0x1000 = 0 then s.portStat ((o - 0x1000) / 0x1000)
  else s.reg a

/-- Packet cores and Dumbwaiter (R126, R366). -/
def State.readPkt (s : State) (a : Nat) : Word :=
  let o := a - 0x00A0_0000
  if 0x1_0000 ≤ o && o < 0x1_8000 then s.legWord ((o - 0x1_0000) / 4)
  else if o = 0x8_0000 then s.dmbStat
  else if 0x9_0000 ≤ o && o < 0xA_0000 then s.subStat ((o - 0x9_0000) / 4)
  else if 0xA_0000 ≤ o && o < 0xB_0000 then s.subRate ((o - 0xA_0000) / 4)
  else s.reg a

/-- Decode units in use: legs selected or pinned; encode units in use: each shared mix, and each mix-minus that an encoder
takes (R157, R187). -/
def State.unitsInUse (s : State) : Nat × Nat :=
  let live := s.liveConfs
  let b := s.now / 70560
  (sumNat (live.map fun c => ((s.heard c b).filter fun l => !s.hatchLeg l).length),
   sumNat (live.map fun c => (s.confSet c).cfg.formats +
     ((s.heard c b).filter fun l => s.forms c b (outMinus l) && s.encoded c b (outMinus l)).length))

/-- BND_CONFc_STAT and BND_LEGn_AUDIO (R187). -/
def State.confStat (s : State) (c : Nat) : Word :=
  let g := s.confSet c
  let x := s.confRun c
  let b := s.now / 70560
  let on := s.working (confKey c)
  low (objStateNum (s.obj (confKey c)).st * 2 ^ 30 + flag g.active 29 + flag x.swap.isSome 28 + flag (on && s.fading c b) 27 +
    x.selected.length * 2 ^ 16 + (if on then (s.pinned c b).length * 2 ^ 8 + s.selN c else 0))

def State.legAudioWord (s : State) (l : Nat) : Word :=
  let x := s.legAudio l
  match s.legConf l with
  | none => low (x.last * 2 ^ 16 + flag (x.fade != 0) 12 + 127)
  | some c =>
    let r := s.confRun c
    low (x.last * 2 ^ 16 + flag (x.fade != 0) 12 + flag (tfind r.ramps l).isSome 11 + flag (s.decodes l).isSome 10 +
      flag (s.entry c l).pin 9 + flag (r.selected.any fun e => e.leg == l) 8 + s.score c l)

def State.readBnd (s : State) (a : Nat) : Word :=
  let o := a - 0x00B0_0000
  if o = 0 then low (s.decReserved + s.encReserved * 2 ^ 16)
  else if o = 4 then low (s.unitsInUse.1 + s.unitsInUse.2 * 2 ^ 16)
  else if 0x1_0000 ≤ o && o < 0x1_4000 then
    match o % 0x10 with
    | 0 => s.confStat ((o - 0x1_0000) / 0x10)
    | 4 => low (s.confRun ((o - 0x1_0000) / 0x10)).swapBlk
    | _ => 0
  else if 0x2_0000 ≤ o && o < 0x2_8000 then s.legAudioWord ((o - 0x2_0000) / 4)
  else s.reg a

/-- Parlour registers; a pool engine reads 0 (R219). -/
def State.readParlour (s : State) (a : Nat) : Word :=
  let p := (a - 0x00C0_0000) / 0x1_0000
  let o := a % 0x1_0000
  if o = 0 then s.parStat p
  else if 0x100 ≤ o && o < 0x300 then
    let e := p * 8 + (o - 0x100) / 0x40
    let x := s.eng e
    if !x.reserved then 0
    else
      match o % 0x40 with
      | 0x00 => s.engStat e
      | 0x04 => low x.run.pc
      | 0x18 => x.flags.setWidth 32
      | 0x1C => x.fault
      | 0x20 | 0x24 | 0x28 | 0x2C => (tget 0 x.mboxIn (o % 0x10 / 4)).setWidth 32
      | 0x30 | 0x34 | 0x38 | 0x3C => (tget 0 x.mboxOut (o % 0x10 / 4)).setWidth 32
      | _ => s.reg a
  else s.reg a

/-- Frame number of a bank's present frame. -/
def bankFrame (s : State) (b : Nat) : Nat := if s.working (bankKey b) then s.now / (s.bankCfg b).period else 0

def State.readHat (s : State) (a : Nat) : Word :=
  let o := a - 0x00E0_0000
  if o = 0 then s.hatStat
  else if 0x1000 ≤ o && o < 0x1300 then
    let b := (o - 0x1000) / 0x40
    match o % 0x40 with
    | 0 => s.bankStat b
    | 4 => low (bankFrame s b)
    | 8 => wordOfInt (s.bankRun b).ppm
    | _ => s.reg a
  else if 0x1_0000 ≤ o && o < 0x1_1800 then
    let h := (o - 0x1_0000) / 0x40
    let x := s.hatch h
    match o % 0x40 with
    | 0x0C => s.maskStat h
    | 0x10 => x.rxAct
    | 0x14 => x.txAct
    | 0x18 => x.applied
    | 0x1C => low x.rxTail
    | 0x20 => low x.rxHead
    | 0x24 => low x.txTail
    | 0x28 => low x.txHead
    | _ => s.reg a
  else s.reg a

def State.readGld (s : State) (a : Nat) : Word :=
  let n := (a - 0x0100_0000) / 0x1_0000
  let o := a % 0x1_0000
  if o = 0 then s.gldPipeStat n
  else if o = 0x10 then low s.freeStore
  else if 0x100 ≤ o && o < 0x500 then
    let k := n * 16 + (o - 0x100) / 0x40
    let x := s.slotRun k
    match o % 0x40 with
    | 0x00 => s.gldSlotStat k
    | 0x04 => x.progress
    | 0x08 => low (x.w + x.h * 2 ^ 16)
    | 0x0C => low x.lastPub
    | _ => s.reg a
  else s.reg a

def State.readGle (s : State) (a : Nat) : Word :=
  let n := (a - 0x0120_0000) / 0x1_0000
  let o := a % 0x1_0000
  if o = 0 then s.glePipeStat n
  else if o = 4 then low (s.encRate n / 1000)
  else if o = 0x10 then low s.freeRefs
  else if 0x100 ≤ o && o < 0x500 then
    let c := n * 8 + (o - 0x100) / 0x80
    let x := s.encRun c
    let k := o % 0x80
    if k = 0 then s.gleCanvStat c
    else if k = 4 then low (x.frame.getD 0)
    else if k = 0x28 then low x.lastBits
    else if k = 0x2C then x.lastQp
    else if 0x30 ≤ k && k < 0x54 then low (s.fullRatio c ((k - 0x30) / 4))
    else s.reg a
  else s.reg a

def State.readOrg (s : State) (a : Nat) : Word :=
  let o := a - 0x0130_0000
  if o = 0 then s.orgStat
  else if o = 4 then low s.imagePages
  else if 0x10 ≤ o && o < 0x50 && o % 0x10 = 0 then low (s.orgRate ((o - 0x10) / 0x10) / 1000)
  else if 0x1_0000 ≤ o && o < 0x1_1800 then
    if isRc a then s.reg a else s.canvasWord ((o - 0x1_0000) / 0x40) (o % 0x40)
  else if 0x2_0000 ≤ o && o < 0x2_1000 then s.hostFence ((o - 0x2_0000) / 4)
  else s.reg a

/-- Fusebox (R530). -/
def State.readFus (s : State) (a : Nat) : Word :=
  let o := a - 0x0140_0000
  let p := s.pwr
  if o = 0 then
    low (flag p.clamp 11 + flag (p.job.isSome || !p.waiting.isEmpty || p.entering.isSome || p.wake.isSome) 10 + p.state)
  else if 0x10 ≤ o && o < 0x1C then
    low (((List.range 32).filter fun i => s.dom ((o - 0x10) * 8 + i)).foldl (fun n i => n + 2 ^ i) 0)
  else if 0x100 ≤ o && o < 0x130 && o % 0x10 = 0 then
    let r := s.rail ((o - 0x100) / 0x10)
    low (r.freq % 4 * 2 ^ 24 + r.volt % 4 * 2 ^ 22 + flag r.want.isSome 21 + r.mv)
  else s.reg a

/-- Gatehouse mirror (R529, R541). -/
def State.readGth (s : State) (a : Nat) : Word :=
  let g := s.gate
  match a - 0x0150_0000 with
  | 0x00 => low g.alarm.toNat
  | 0x04 => low (flag g.doubleFault 0)
  | 0x08 => low (g.wakeCause % 8 + g.wakeSrc % 1024 * 2 ^ 16)
  | 0x0C => low g.timer
  | 0x10 => low s.i2cAddr
  | 0x14 => low (flag g.fault 31 + flag g.dropped 30 + g.stage % 4 * 2 ^ 24 + g.pg.toNat * 16 + g.en.toNat)
  | _ => 0

/-- Attic (R529). -/
def State.readAtc (s : State) (a : Nat) : Word :=
  let o := a - 0x0160_0000
  if o < 0x24 then low ((s.pwr.temps.getD (o / 4) 0) % 65536).toNat
  else if 0x50 ≤ o && o < 0x68 then
    let r := (o - 0x50) / 8
    if o % 8 = 0 then low (tget 0 s.pwr.railMv r) else low (tget 0 s.pwr.railMa r)
  else s.reg a

def State.readFtb (s : State) (a : Nat) : Word :=
  let o := a - 0x0170_0000
  if o = 0 then s.ftbStat
  else if 0x100 ≤ o && o < 0x200 then
    match o % 0x10 with
    | 0 => s.peerStat ((o - 0x100) / 0x10)
    | 4 => s.peerOffset ((o - 0x100) / 0x10)
    | _ => s.reg a
  else s.reg a

/-- The 64-bit counter whose low word lies at an address: its table entry, an engine's cycles, or TB0 and TB3 as BLV_LATCH
captured them (R17, R487). -/
def State.counter (s : State) (a : Nat) : Nat :=
  if a = 0x0060_0010 then s.blv.lat0.toNat
  else if a = 0x0060_0030 then s.blv.lat3.toNat
  else if 0x00C0_0108 ≤ a && a < 0x00DC_0000 && a % 0x1_0000 != 8 then
    (s.eng ((a - 0x00C0_0000) / 0x1_0000 * 8 + (a % 0x1_0000 - 0x100) / 0x40)).run.cycles
  else (s.count64 a).toNat

/-- What a register reads as, without the read's own effects. A high word returns what the latest low read latched
(R17, R565); a register of a block that is off, an unassigned offset and a write-only register return 0 (R14, R15, R30).
DEDUCED, log entry 8. -/
def State.readReg (s : State) (r : Requester) (a : Nat) : Word :=
  if !s.regOn a then 0
  else if isCounterLow a then low (s.counter a)
  else if 4 ≤ a && isCounterLow (a - 4) then tget 0 s.hi (a - 4)
  else
    match a / 2 ^ 20 with
    | 0 => s.readStudy r a
    | 1 => s.readPorch a
    | 2 => s.readBell a
    | 3 => s.readHall a
    | 4 => s.readPantry a
    | 5 => s.readCellar a
    | 6 => s.readBlv a
    | 7 => s.readIce a
    | 8 => s.readPergola a
    | 9 => s.readNet a
    | 10 => s.readPkt a
    | 11 => s.readBnd a
    | 12 | 13 => s.readParlour a
    | 14 => s.readHat a
    | 16 | 17 => s.readGld a
    | 18 => s.readGle a
    | 19 => s.readOrg a
    | 20 => s.readFus a
    | 21 => s.readGth a
    | 22 => s.readAtc a
    | 23 => s.readFtb a
    | _ => 0

/-! ## Effects of a read (R15, R17, R145, R494) -/

/-- A peak or a count restarts at its read: the peaks of the Hall and the Pantry from the present use (R411, R427). -/
def clearRc (s : State) (a : Nat) : State :=
  if a = 0x0030_002C then { s with hall := { s.hall with usePeak := s.hall.genUse } }
  else if a = 0x0040_0008 then s.setPool false { s.pan.near with peak := s.pan.near.inUse }
  else if a = 0x0040_0014 then s.setPool true { s.pan.far with peak := s.pan.far.inUse }
  else s.setReg a 0

/-- The low word of a counter latches its high word. -/
def latchHigh (s : State) (a : Nat) : State := { s with hi := tset 0 s.hi a (high (s.counter a)) }

/-- Address of a claim register: its target. -/
def claimTarget (a : Nat) : Option Nat :=
  if 0x0020_1000 ≤ a && a < 0x0020_12A0 && a % 0x20 = 4 then some ((a - 0x0020_1000) / 0x20) else none

/-- Engine of a PAR_ENGj counter that a WAIT or a stall under way adds to (R219). -/
def liveCount (a : Nat) : Option Nat :=
  let o := a % 0x1_0000
  if 0x00C0_0000 ≤ a && a < 0x00DC_0000 && decide (0x100 ≤ o) && decide (o < 0x300) && [0x08, 0x10, 0x14].contains (o % 0x40) then
    some ((a - 0x00C0_0000) / 0x1_0000 * 8 + (o - 0x100) / 0x40)
  else none

/-- A register read with its effects. -/
def readAccess (s : State) (r : Requester) (a : Nat) : Word × State :=
  if !s.regOn a then (0, s)
  else
    match claimTarget a with
    | some t => claim s t
    | none =>
      if a = iceA 0x04 then (s.iceLock, touchWindow s r)
      else if isWindow a then
        if s.ownsWindow r then ((if windowReadable a then s.reg a else 0), touchWindow s r) else (0, s)
      else if isCounterLow a then (s.readReg r a, latchHigh s a)
      else if isRc a then (s.readReg r a, clearRc s a)
      else (s.readReg r a, s)

/-- A count that a WAIT or a stall under way adds to takes that in before it is read (R219). -/
def settled (s : State) (a : Nat) : State :=
  match liveCount a with
  | some e => settle s e
  | none => s

/-- A register read by a requester. -/
def registerRead (s : State) (r : Requester) (a : Nat) : State :=
  let (v, s) := readAccess (settled (hostArrives s r) a) r a
  readOut s r a v

/-- A read of an RC register answers its value and clears it (R15). -/
def execRcRegisterRead (r : Requester) (addr : BitVec 28) (s : State) : Outcome State Fault Refusal :=
  .next (registerRead s r addr.toNat)

/-- A read of a counter's low word latches its high word (R17). -/
def execCounterLowRead (r : Requester) (addr : BitVec 28) (s : State) : Outcome State Fault Refusal :=
  .next (registerRead s r addr.toNat)

/-- The host's first read of a BAR0 register ends the Gatehouse's WAKE_N (R521). -/
def execFirstHostBar0Read (addr : BitVec 28) (s : State) : Outcome State Fault Refusal :=
  .next (registerRead s .host addr.toNat)

/-! ## Writes (R15, R27, R42) -/

/-- Put a value that the manual bounds; of a value beyond its bounds the manual does not say what the register then holds.
DEDUCED, log entry 14. -/
def setBounded (s : State) (a : Nat) (v : Word) (ok : Bool) (mask : Word) : State :=
  if ok then s.setReg a v
  else
    let (k, s) := s.fresh
    s.setReg a (Config.freeWord k &&& mask)

/-- A ring base: locked while its queue is enabled (R42). -/
def writeBase (s : State) (isCq : Bool) (n a : Nat) (v : Word) : State :=
  if (if isCq then s.cqEn n else s.sqEn n) then (if v = s.reg a then s else pchErrQ s 1 isCq n) else s.setReg a v

def writePorch (s : State) (a : Nat) (v : Word) : State :=
  let o := a - 0x0010_0000
  if o = 0x0C then s.setReg a (s.reg a &&& ~~~ v)
  else if 0x1_0000 ≤ o && o < 0x1_0800 then
    let n := (o - 0x1_0000) / 0x20
    match o % 0x20 with
    | 0 => writeBase s false n a (v &&& 0xFFFF_F000)
    | 4 => writeBase s false n a v
    | 8 => writeSqCfg s n v
    | _ => s
  else if 0x1_1000 ≤ o && o < 0x1_1800 then
    let n := (o - 0x1_1000) / 0x20
    match o % 0x20 with
    | 0 => writeBase s true n a (v &&& 0xFFFF_F000)
    | 4 => writeBase s true n a v
    | 8 => writeCqCfg s n v
    | _ => s
  else if 0x4_0000 ≤ o && o < 0x4_8000 then
    -- an MSI-X entry: address, whose low two bits read 0, data, and the mask bit
    sendUnmasked (s.setReg a (match o % 0x10 with | 0 => v &&& 0xFFFF_FFFC | 0x0C => v &&& 1 | _ => v))
  else if 0x8_0000 ≤ o && o < 0xC_0000 then
    match o % 0x1000 with
    | 0 => writeSqTail s ((o - 0x8_0000) / 0x1000) v
    | 4 => writeCqHead s ((o - 0x8_0000) / 0x1000) v
    | _ => s
  else s

def writeBell (s : State) (r : Requester) (a : Nat) (v : Word) : State :=
  let o := a - 0x0020_0000
  if o = 0 then (if bit v 16 then { s with bell := { s.bell with cfgErr := false } } else s)
  else if o = 4 then pulse s (bits v 9 0)
  else if o = 8 then resignal s { s with bell := { s.bell with pend := s.bell.pend.filter fun n => n != bits v 9 0 } }
  else if o = 0x10 then (if bit v 9 then { s with bell := { s.bell with doneDenied := false } } else s)
  else if o = 0x14 then (if bit v 0 then errDone s r else s)
  else if o = 0x18 then errInject s v
  else if o = 0x84 then (if bit v 0 then logPop s else s)
  else if 0x1000 ≤ o && o < 0x12A0 then
    let t := (o - 0x1000) / 0x20
    match o % 0x20 with
    | 0 => writeTargetCtrl s t v
    | 8 => if bit v 0 then endOfInterrupt s t else s
    | 0x0C => if bit v 29 then { s with bell := { s.bell with eoiEmpty := s.bell.eoiEmpty.filter fun u => u != t } } else s
    | _ => s
  else if 0x2000 ≤ o && o < 0x2100 then writeWatch s ((o - 0x2000) / 4) v
  else if 0x1_0000 ≤ o && o < 0x1_2000 && o % 8 = 0 then writeSrcCfg s ((o - 0x1_0000) / 8) v
  else s

def writeHall (s : State) (a : Nat) (v : Word) : State :=
  let o := a - 0x0030_0000
  if o = 0 then (if bit v 16 then { s with hall := { s.hall with cfgErr := false } } else s)
  else if 0x10 ≤ o && o < 0x20 then writeLadder s ((o - 0x10) / 4) v
  else s

/-- PAN_Qq_STAT.UNDERRUN is cleared by a 1. -/
def writePantry (s : State) (a : Nat) (v : Word) : State :=
  let o := a - 0x0040_0000
  if 0x4_0000 ≤ o && o < 0x4_0000 + 33792 * 8 && o % 8 = 0 && bit v 30 then
    let q := (o - 0x4_0000) / 8
    s.setQueue q { s.queue q with under := false }
  else s

/-- A mode register set (R459). -/
def writeMrs (s : State) (n : Nat) (v : Word) : State :=
  let c := s.chan n
  s.setChan n { c with mrs := tset 0 c.mrs (bits v 31 31 * 4 + bits v 23 22) (low (bits v 19 0)) }

/-- CEL_CHn_TRN_CTRL: OP 3 is invalid and starts nothing; the lanes that fail a compare are the memory's answer. -/
def writeTraining (s : State) (n : Nat) (v : Word) : State :=
  match bits v 30 29 with
  | 0 => writePattern s n v
  | 3 => s.setReg (celA n 0x104) (v &&& 0x7F00_FFFF)
  | op =>
    let (i, s) := s.fresh
    compareOp s n op v (BitVec.ofNat 72 (Config.freeNat i))

/-- Width of the other registers of a channel that training software writes. -/
def trainMask (k : Nat) : Word :=
  if k = 0x108 then 0x0003_FFFF
  else if k = 0x10C then 0x8000_007F
  else if k = 0x120 then 0x0000_001F
  else if 0x130 ≤ k && k < 0x140 then 0x0000_007F
  else if 0x200 ≤ k && k < 0x320 then 0x0000_7F7F
  else 0

/-- DEDUCED, log entry 14. -/
def writeCellar (s : State) (a : Nat) (v : Word) : State :=
  let o := a - 0x0050_0000
  if o = 0x0C then
    setBounded s a (v &&& 0xFFFF) (decide (1024 ≤ bits v 15 0) && decide (bits v 15 0 ≤ 4166)) 0xFFFF
  else if o = 0x14 then setBounded s a v (decide (v.toNat ≤ 7056000)) 0xFFFF_FFFF
  else if o = 0x18 then setBounded s a v (decide (v.toNat ≤ 7056)) 0xFFFF_FFFF
  else if 0x1_0000 ≤ o && o < 0x1_8000 then
    let n := (o - 0x1_0000) / 0x1000
    let k := o % 0x1000
    if !s.trainable n then s
    else if k = 0x100 then writeMrs s n v
    else if k = 0x104 then writeTraining s n v
    else if trainMask k = 0 then s
    else s.setReg a (v &&& trainMask k)
  else s

def writeBlv (s : State) (a : Nat) (v : Word) : State :=
  if a = 0x0060_0004 && bit v 0 then latchBases s
  else if a = 0x0060_0118 && bit v 0 then txtsLost { s with blv := { s.blv with txts := s.blv.txts.drop 1 } } 0
  else s

def writeParlour (s : State) (a : Nat) (v : Word) : State :=
  let o := a % 0x1_0000
  if 0x100 ≤ o && o < 0x300 then
    let e := (a - 0x00C0_0000) / 0x1_0000 * 8 + (o - 0x100) / 0x40
    match o % 0x40 with
    | 0x18 => writeEflags s e v
    | 0x20 | 0x24 | 0x28 | 0x2C => writeMboxIn s e (o % 0x10 / 4) v
    | _ => s
  else s

/-- A write of HAT_Hh_MASKGO through this path lands at a bit of its frame that the manual leaves open. -/
def writeHat (s : State) (a : Nat) (v : Word) : State :=
  let o := a - 0x00E0_0000
  if 0x1_0000 ≤ o && o < 0x1_1800 then
    let h := (o - 0x1_0000) / 0x40
    match o % 0x40 with
    | 0 => writeMask s h 0 v
    | 4 => writeMask s h 4 v
    | 8 =>
      let (k, s) := s.fresh
      maskGo s h (bit v 0) (bit v 1) (Config.freeNat k % (s.bankCfg (h / 8)).bits) []
    | 0x20 => writeRxHead s h v
    | 0x24 => writeTxTail s h v
    | _ => s
  else s

/-- A write by a requester to a register that answers. DEDUCED, log entry 8. DESIGN CHOICE, log entry 13. -/
def writeReg (s : State) (r : Requester) (a : Nat) (v : Word) : State :=
  if !s.regOn a then s
  else
    match rwMask a with
    | some m => s.setReg a (v &&& m)
    | none =>
      match a / 2 ^ 20 with
      | 0 => if a = 0x2C then loadGo s v else s
      | 1 => writePorch s a v
      | 2 => writeBell s r a v
      | 3 => writeHall s a v
      | 4 => writePantry s a v
      | 5 => writeCellar s a v
      | 6 => writeBlv s a v
      | 7 => if a = iceA 0x04 then writeIceLock s r v else if isWindow a then writeWindow s r a v else s
      | 9 => if a = netA 0x10 then writePuntHead s v else s
      | 12 | 13 => writeParlour s a v
      | 14 => writeHat s a v
      | 21 =>
        if a = 0x0150_0000 then clearAlarm s (v.extractLsb' 0 5)
        else if a = 0x0150_0014 && bit v 31 then { s with gate := { s.gate with fault := false } }
        else s
      | 22 => if a = 0x0160_0044 then setBounded s a (v &&& 0xFFFF) (decide (sbits v 15 0 ≤ 1200)) 0xFFFF else s
      | _ => s

/-- A register write (R15). DESIGN CHOICE, log entry 13. -/
def execRegisterWrite (r : Requester) (addr : BitVec 28) (v : Word) (s : State) : Outcome State Fault Refusal :=
  .next (writeReg (hostArrives s r) r addr.toNat v)

end Sys2Proof.Machine
end

