-- ==== Sys2Proof/Machine/Transfers.lean ====
section
/-!
DEFINITION. TELEM_SNAPSHOT (R526), the failed host transfer of a command (R574), and the block instant that the Hall and the
Bandstand share (R176, R404).
-/
namespace Sys2Proof.Machine

open Host

/-! ## TELEM_SNAPSHOT -/

/-- Blocks of R32 in its order: base, and the last assigned offset. -/
def snapBlocks : List (Nat × Nat) :=
  [ (0x0000_0000, 0x40), (0x0010_0000, 0xB_F004), (0x0020_0000, 0x1_1FFC), (0x0030_0000, 0x4_FFFC),
    (0x0040_0000, 0x4_0004 + 33791 * 8), (0x0050_0000, 0x8_011C), (0x0060_0000, 0x3_FFFC), (0x0070_0000, 0x2_07FC),
    (0x0080_0000, 0x9_FFFC), (0x0090_0000, 0x8048), (0x00A0_0000, 0xA_FFFC), (0x00B0_0000, 0x2_7FFC) ] ++
  [ (0x00C0_0000, 0x1B_02FC), (0x00E0_0000, 0x1_17EC), (0x0100_0000, 0x17_04F4), (0x0120_0000, 0xB_04D0),
    (0x0130_0000, 0x2_0FFC), (0x0140_0000, 0x124), (0x0150_0000, 0x14), (0x0160_0000, 0x64), (0x0170_0000, 0x1FC) ]

/-- A word of a block image: no claim is made by the copy, and which core does the copy is not told. -/
def State.snapWord (s : State) (who : Word) (a : Nat) : Word :=
  if a = 0x40 then (if s.regOn a then who &&& 0xFF else 0)
  else match claimTarget a with
    | some t => if s.regOn a then (claim s t).1 else 0
    | none => s.readReg .host a

/-- Selected blocks with the place of each image in the buffer. -/
def snapPlaces (mask : Word) : List (Nat × Nat × Nat) :=
  ((snapBlocks.zipIdx.filter fun e => bit mask e.2).foldl
    (fun (acc : List (Nat × Nat × Nat) × Nat) e =>
      (acc.1 ++ [(e.1.1, e.1.2, acc.2)], acc.2 + 16 + e.1.2 + 4)) ([], 0)).1

/-- Bytes of all selected images. -/
def snapSize (mask : Word) : Nat := ((snapPlaces mask).map fun e => 16 + e.2.1 + 4).sum

/-- The image of a block: its header, with the TB0 of its start and end, which the manual does not fix, then its words.
DEDUCED, log entry 32. -/
def State.snapImage (s : State) (k base last : Nat) : List Word :=
  [low base, low (last + 4), Config.freeWord k, Config.freeWord (k + 1)] ++
    (List.range (last / 4 + 1)).map fun i => s.snapWord (Config.freeWord (k + 2)) (base + 4 * i)

/-- RC registers that were copied are cleared. DEDUCED, log entry 32. -/
def snapClear (s : State) (mask : Word) (n : Nat) : State :=
  let copied := fun (a : Nat) => (snapPlaces mask).any fun e =>
    decide (e.1 ≤ a) && decide (a ≤ e.1 + e.2.1) && decide (e.2.2 + 16 + (a - e.1) + 4 ≤ n) && s.regOn a
  let s := { s with regs := s.regs.filter fun e => !(isRc e.1 && copied e.1) }
  [0x0030_002C, 0x0040_0008, 0x0040_0014].foldl (fun s a => if copied a then clearRc s a else s) s

/-- Checks of 0x0F10 in their order (R60). -/
def State.telemChecks (s : State) (c : Cmd) : List (Bool × Status) :=
  let busy := match s.pwr.telem with
    | some d => d != c
    | none => false
  [(busy, stBusy), (bits (c.word 4) 5 0 != 0, stBadField)]

/-- TELEM_SNAPSHOT up to its transfer, which waits while host memory cannot be reached. -/
def telem (c : Cmd) (s : State) (go : State → State) : State :=
  runCmd s 0x0F10 c 1 1 (c.num == 0) true fun s =>
    checked s 0x0F10 c (s.telemChecks c) fun s =>
      if !s.hostReach then { s with pwr := { s.pwr with telem := some c } }
      else viaHost { s with pwr := { s.pwr with telem := none } } go

/-- Bytes that a snapshot's buffer takes. -/
def telemBytes (c : Cmd) : Nat := Nat.min (snapSize (c.word 6)) (c.word 8).toNat

/-- Copy the first n bytes of the selected images to the host, and with CLEAR clear what was copied. -/
def telemCopy (c : Cmd) (n : Nat) (s : State) : State :=
  let places := snapPlaces (c.word 6)
  let k := s.free
  let s := { s with free := s.free + 3 * places.length }
  let ws := (places.zipIdx.map fun e => s.snapImage (k + 3 * e.2) e.1.1 e.1.2.1).flatten
  let s := { s with out := Out.hostBytes (dword (c.word 4) (c.word 5)) ((ws.map wordBytes).flatten.take n) :: s.out }
  if bit (c.word 7) 0 then snapClear s (c.word 6) n else s

def execTelemSnapshot (c : Cmd) (s : State) : Outcome State Fault Refusal :=
  .next (telem c s fun s =>
    let n := telemBytes c
    pulse (complete (telemCopy c n s) 0x0F10 c (if n < snapSize (c.word 6) then stOkPartial else stOk) (low n) 0 0 0) 1009)

/-! ## A command's transfer fails (R574) -/

/-- Take n free words. -/
def freeWords (s : State) (n : Nat) : List Word × State :=
  ((List.range n).map fun i => Config.freeWord (s.free + i), { s with free := s.free + n })

/-- How much of n bytes reached the host before the error: any part but the whole. DEDUCED, log entry 23. -/
def partWritten (s : State) (n : Nat) : Nat × State := (Config.freeNat s.free % Nat.max 1 n, { s with free := s.free + 1 })

/-- PCH_ERR.DMA_ERR is set and the command completes with HOST_DMA. DEDUCED, log entry 23. -/
def hostDma (op : BitVec 16) (c : Cmd) (s : State) : State := finish (pchErr s 2) op c stHostDma

/-- A PCIe error on a transfer of a command that moves host memory; what the command had done stands. DEDUCED, log entry 23. -/
def execHostTransferError (op : BitVec 16) (c : Cmd) (s : State) : Outcome State Fault Refusal :=
  .next (match op.toNat with
    | 0x0413 => frameSend c s (hostDma op c)
    | 0x0912 => engLoad c s fun s =>
        let (ws, s) := freeWords s (bits (c.word 7) 13 0)
        hostDma op c (loadWords c ws s)
    | 0x0913 => engCopy 0x0913 true c s fun s =>
        let (ws, s) := freeWords s (bits (c.word 8) 14 0)
        hostDma op c (copyWords c ws s)
    | 0x0914 => engCopy 0x0914 false c s fun s =>
        let (n, s) := partWritten s (4 * bits (c.word 8) 14 0)
        hostDma op c { s with out := Out.hostBytes (dword (c.word 4) (c.word 5)) ((readWords c s).take n) :: s.out }
    | 0x0B14 => imageLoad c s fun s =>
        let m := imageOf c []
        let k := s.free
        let n := imageBytes m.format m.w m.h
        let bs := (List.range n).map fun i => (Config.freeWord (k + i)).setWidth 8
        hostDma op c (putImage { s with free := s.free + n } c (imageOf c bs))
    | 0x0F10 => telem c s fun s =>
        let (n, s) := partWritten s (telemBytes c)
        hostDma op c (telemCopy c n s)
    | 0x0F20 => flashWrite c s fun s => hostDma op c (scrambleFlash s (c.word 6).toNat (c.word 7).toNat)
    | _ => s)

/-! ## The block instant -/

/-- The Hall's load sample of the present block; forwarding follows a change of the step (R356, R404). -/
def execLoadSample (s : State) : Outcome State Fault Refusal :=
  if !s.coreOn || s.hall.lastBlock = some (s.now / 70560) then .next s
  else
    let t := hallSample s
    .next (if t.hall.step = s.hall.step || !t.commonOn then t
      else
        let peers := (t.objs.filter fun e => e.1 / 2 ^ 32 == 0x0D && e.2.st == .running).map fun e => e.1 % 2 ^ 32
        peers.foldl (fun s n => peerTarget s n) (ladderMoved t))

/-- The Bandstand takes a block: engines' block flags, the steps of R176, and conference links that drain (R122, R210). -/
def execBlockStart (s : State) : Outcome State Fault Refusal :=
  let b := s.now / 70560
  if !s.running || s.bnd.block = some b then .next s
  else .next (blockFlags (linksDrained (blockBandstand s b)))

end Sys2Proof.Machine
end

