-- ==== Sys2Proof/Machine/Dispatch.lean ====
section
/-!
DEFINITION. The one dispatch: every command and event to its meaning, in the order of the opcode table's families.
-/
namespace Sys2Proof.Machine

open Host

def exec (i : Instr) (s : State) : Host.Outcome State Fault Refusal :=
  match i with
  | .nop c => Sys2Proof.Machine.execNop c s
  | .getInfo c => Sys2Proof.Machine.execGetInfo c s
  | .commandFetch sq mem err => Sys2Proof.Machine.execCommandFetch sq mem err s
  | .entryWrite err => Sys2Proof.Machine.execEntryWrite err s
  | .moderationTimerExpiry q => Sys2Proof.Machine.execModerationTimerExpiry q s
  | .eventsLost q => Sys2Proof.Machine.execEventsLost q s
  | .sqTailDoorbell q v => Sys2Proof.Machine.execSqTailDoorbell q v s
  | .cqHeadDoorbell q v => Sys2Proof.Machine.execCqHeadDoorbell q v s
  | .sqEnable q v => Sys2Proof.Machine.execSqEnable q v s
  | .sqDisable q v => Sys2Proof.Machine.execSqDisable q v s
  | .sqIdle q => Sys2Proof.Machine.execSqIdle q s
  | .cqEnable q v => Sys2Proof.Machine.execCqEnable q v s
  | .cqDisable q v => Sys2Proof.Machine.execCqDisable q v s
  | .hostTransferError op c => Sys2Proof.Machine.execHostTransferError op c s
  | .hostTlpRefused write addr dws beFull => Sys2Proof.Machine.execHostTlpRefused write addr dws beFull s
  | .registerWrite r addr v => Sys2Proof.Machine.execRegisterWrite r addr v s
  | .rcRegisterRead r addr => Sys2Proof.Machine.execRcRegisterRead r addr s
  | .counterLowRead r addr => Sys2Proof.Machine.execCounterLowRead r addr s
  | .writeBarrierRead r => Sys2Proof.Machine.execWriteBarrierRead r s
  | .flr => Sys2Proof.Machine.execFlr s
  | .hotReset => Sys2Proof.Machine.execHotReset s
  | .perstNAssert => Sys2Proof.Machine.execPerstNAssert s
  | .perstNRelease => Sys2Proof.Machine.execPerstNRelease s
  | .linkEntersL1 l => Sys2Proof.Machine.execLinkEntersL1 l s
  | .linkDown => Sys2Proof.Machine.execLinkDown s
  | .linkReturnsL0 => Sys2Proof.Machine.execLinkReturnsL0 s
  | .d3hotEntry pmeEn => Sys2Proof.Machine.execD3hotEntry pmeEn s
  | .returnToD0 => Sys2Proof.Machine.execReturnToD0 s
  | .pmeStatusClear pmeEn => Sys2Proof.Machine.execPmeStatusClear pmeEn s
  | .startLegPort c => Sys2Proof.Machine.execStartLegPort c s
  | .stopLegPort c => Sys2Proof.Machine.execStopLegPort c s
  | .getStateLegPort c => Sys2Proof.Machine.execGetStateLegPort c s
  | .startConference c => Sys2Proof.Machine.execStartConference c s
  | .stopConference c => Sys2Proof.Machine.execStopConference c s
  | .getStateConference c => Sys2Proof.Machine.execGetStateConference c s
  | .startBank c => Sys2Proof.Machine.execStartBank c s
  | .stopBank c => Sys2Proof.Machine.execStopBank c s
  | .getStateHatch c => Sys2Proof.Machine.execGetStateHatch c s
  | .startEngine c => Sys2Proof.Machine.execStartEngine c s
  | .stopEngine c => Sys2Proof.Machine.execStopEngine c s
  | .getStateEngine c => Sys2Proof.Machine.execGetStateEngine c s
  | .startSlot c => Sys2Proof.Machine.execStartSlot c s
  | .stopSlot c => Sys2Proof.Machine.execStopSlot c s
  | .getStateSlot c => Sys2Proof.Machine.execGetStateSlot c s
  | .startCanvas c => Sys2Proof.Machine.execStartCanvas c s
  | .stopCanvas c => Sys2Proof.Machine.execStopCanvas c s
  | .getStateCanvas c => Sys2Proof.Machine.execGetStateCanvas c s
  | .startEncoding c => Sys2Proof.Machine.execStartEncoding c s
  | .stopEncoding c => Sys2Proof.Machine.execStopEncoding c s
  | .getStateEncoding c => Sys2Proof.Machine.execGetStateEncoding c s
  | .startSubscription c => Sys2Proof.Machine.execStartSubscription c s
  | .stopSubscription c => Sys2Proof.Machine.execStopSubscription c s
  | .getStateSubscription c => Sys2Proof.Machine.execGetStateSubscription c s
  | .startFootbridgeObject c => Sys2Proof.Machine.execStartFootbridgeObject c s
  | .stopFootbridgeObject c => Sys2Proof.Machine.execStopFootbridgeObject c s
  | .getStateFootbridge c => Sys2Proof.Machine.execGetStateFootbridge c s
  | .resourcesGranted o => Sys2Proof.Machine.execResourcesGranted o s
  | .drainingEnds o => Sys2Proof.Machine.execDrainingEnds o s
  | .legDrainTimeout l => Sys2Proof.Machine.execLegDrainTimeout l s
  | .subscriptionDrainTimeout n => Sys2Proof.Machine.execSubscriptionDrainTimeout n s
  | .portConfig c => Sys2Proof.Machine.execPortConfig c s
  | .portAddr c => Sys2Proof.Machine.execPortAddr c s
  | .puntCfg c => Sys2Proof.Machine.execPuntCfg c s
  | .frameSend c bytes => Sys2Proof.Machine.execFrameSend c bytes s
  | .legConfig c => Sys2Proof.Machine.execLegConfig c s
  | .legIceCred c => Sys2Proof.Machine.execLegIceCred c s
  | .legStream c => Sys2Proof.Machine.execLegStream c s
  | .legBwe c => Sys2Proof.Machine.execLegBwe c s
  | .legStats c => Sys2Proof.Machine.execLegStats c s
  | .ftbConfig c => Sys2Proof.Machine.execFtbConfig c s
  | .ftbLink c => Sys2Proof.Machine.execFtbLink c s
  | .frameReceived p f => Sys2Proof.Machine.execFrameReceived p f s
  | .puntHeadWrite v => Sys2Proof.Machine.execPuntHeadWrite v s
  | .portLinkUp p => Sys2Proof.Machine.execPortLinkUp p s
  | .portLinkDown p => Sys2Proof.Machine.execPortLinkDown p s
  | .stunBindingRequest q => Sys2Proof.Machine.execStunBindingRequest q s
  | .jitterBufferCommit l k => Sys2Proof.Machine.execJitterBufferCommit l k s
  | .rtcpReceived l stamp k => Sys2Proof.Machine.execRtcpReceived l stamp k s
  | .audioPlayoutDeadline l k => Sys2Proof.Machine.execAudioPlayoutDeadline l k s
  | .videoPlayoutDeadline l k => Sys2Proof.Machine.execVideoPlayoutDeadline l k s
  | .consentExpiry l => Sys2Proof.Machine.execConsentExpiry l s
  | .silenceExpiry l => Sys2Proof.Machine.execSilenceExpiry l s
  | .rtcpInterval l => Sys2Proof.Machine.execRtcpInterval l s
  | .ccfbInterval l => Sys2Proof.Machine.execCcfbInterval l s
  | .beaconSend => Sys2Proof.Machine.execBeaconSend s
  | .beaconReceived b => Sys2Proof.Machine.execBeaconReceived b s
  | .peerBeaconTimeout p => Sys2Proof.Machine.execPeerBeaconTimeout p s
  | .mixFrameReceived m => Sys2Proof.Machine.execMixFrameReceived m s
  | .layerFrameReceived m => Sys2Proof.Machine.execLayerFrameReceived m s
  | .iceJobDispatch core jobs => Sys2Proof.Machine.execIceJobDispatch core jobs s
  | .iceJobComplete core r => Sys2Proof.Machine.execIceJobComplete core r s
  | .oldKeyExpiry slot => Sys2Proof.Machine.execOldKeyExpiry slot s
  | .keyWrite c => Sys2Proof.Machine.execKeyWrite c s
  | .keyErase c => Sys2Proof.Machine.execKeyErase c s
  | .keyQuery c => Sys2Proof.Machine.execKeyQuery c s
  | .keyCascade c => Sys2Proof.Machine.execKeyCascade c s
  | .keyAlarmClear c => Sys2Proof.Machine.execKeyAlarmClear c s
  | .keyWindowTimeout op c => Sys2Proof.Machine.execKeyWindowTimeout op c s
  | .iceLockClaim r => Sys2Proof.Machine.execIceLockClaim r s
  | .iceLockRelease r => Sys2Proof.Machine.execIceLockRelease r s
  | .iceLockExpired => Sys2Proof.Machine.execIceLockExpired s
  | .windowKeyWrite r v => Sys2Proof.Machine.execWindowKeyWrite r v s
  | .windowKeyErase r v => Sys2Proof.Machine.execWindowKeyErase r v s
  | .directJobGo r v => Sys2Proof.Machine.execDirectJobGo r v s
  | .iceAlarm cause => Sys2Proof.Machine.execIceAlarm cause s
  | .blockStart => Sys2Proof.Machine.execBlockStart s
  | .audioDecodeDone l samples concealed => Sys2Proof.Machine.execAudioDecodeDone l samples concealed s
  | .audioEncodeDone n output bytes => Sys2Proof.Machine.execAudioEncodeDone n output bytes s
  | .confConfig c => Sys2Proof.Machine.execConfConfig c s
  | .confFormat c => Sys2Proof.Machine.execConfFormat c s
  | .routeLoad c => Sys2Proof.Machine.execRouteLoad c s
  | .routeCopy c => Sys2Proof.Machine.execRouteCopy c s
  | .routeSwap c => Sys2Proof.Machine.execRouteSwap c s
  | .confStats c => Sys2Proof.Machine.execConfStats c s
  | .engReserve c => Sys2Proof.Machine.execEngReserve c s
  | .engConfig c => Sys2Proof.Machine.execEngConfig c s
  | .engLoad c data => Sys2Proof.Machine.execEngLoad c data s
  | .engWrite c data => Sys2Proof.Machine.execEngWrite c data s
  | .engRead c => Sys2Proof.Machine.execEngRead c s
  | .engStats c => Sys2Proof.Machine.execEngStats c s
  | .engineNop e => Sys2Proof.Machine.execEngineNop e s
  | .halt e => Sys2Proof.Machine.execHalt e s
  | .dmac e => Sys2Proof.Machine.execDmac e s
  | .dmpy e => Sys2Proof.Machine.execDmpy e s
  | .dmsu e => Sys2Proof.Machine.execDmsu e s
  | .mac e => Sys2Proof.Machine.execMac e s
  | .macm e => Sys2Proof.Machine.execMacm e s
  | .mpy e => Sys2Proof.Machine.execMpy e s
  | .add e => Sys2Proof.Machine.execAdd e s
  | .sub e => Sys2Proof.Machine.execSub e s
  | .neg e => Sys2Proof.Machine.execNeg e s
  | .abs e => Sys2Proof.Machine.execAbs e s
  | .shl e => Sys2Proof.Machine.execShl e s
  | .shr e => Sys2Proof.Machine.execShr e s
  | .max e => Sys2Proof.Machine.execMax e s
  | .min e => Sys2Proof.Machine.execMin e s
  | .clr e => Sys2Proof.Machine.execClr e s
  | .ldk e => Sys2Proof.Machine.execLdk e s
  | .expd e => Sys2Proof.Machine.execExpd e s
  | .addw e => Sys2Proof.Machine.execAddw e s
  | .subw e => Sys2Proof.Machine.execSubw e s
  | .and e => Sys2Proof.Machine.execAnd e s
  | .or e => Sys2Proof.Machine.execOr e s
  | .xor e => Sys2Proof.Machine.execXor e s
  | .shw e => Sys2Proof.Machine.execShw e s
  | .ldw e => Sys2Proof.Machine.execLdw e s
  | .ld e => Sys2Proof.Machine.execLd e s
  | .ldp e => Sys2Proof.Machine.execLdp e s
  | .st e => Sys2Proof.Machine.execSt e s
  | .stp e => Sys2Proof.Machine.execStp e s
  | .mov e => Sys2Proof.Machine.execMov e s
  | .movw e => Sys2Proof.Machine.execMovw e s
  | .mova e => Sys2Proof.Machine.execMova e s
  | .seta e => Sys2Proof.Machine.execSeta e s
  | .movr e => Sys2Proof.Machine.execMovr e s
  | .br e => Sys2Proof.Machine.execBr e s
  | .call e => Sys2Proof.Machine.execCall e s
  | .ret e => Sys2Proof.Machine.execRet e s
  | .rep e => Sys2Proof.Machine.execRep e s
  | .repw e => Sys2Proof.Machine.execRepw e s
  | .brklp e => Sys2Proof.Machine.execBrklp e s
  | .scale e => Sys2Proof.Machine.execScale e s
  | .setexp e => Sys2Proof.Machine.execSetexp e s
  | .bfnext e => Sys2Proof.Machine.execBfnext e s
  | .wait e => Sys2Proof.Machine.execWait e s
  | .sig e => Sys2Proof.Machine.execSig e s
  | .clrf e => Sys2Proof.Machine.execClrf e s
  | .movb e => Sys2Proof.Machine.execMovb e s
  | .ldx e => Sys2Proof.Machine.execLdx e s
  | .stx e => Sys2Proof.Machine.execStx e s
  | .illegalOpcode e => Sys2Proof.Machine.execIllegalOpcode e s
  | .waitRelease e => Sys2Proof.Machine.execWaitRelease e s
  | .moveComplete e => Sys2Proof.Machine.execMoveComplete e s
  | .engineStopTimeout e => Sys2Proof.Machine.execEngineStopTimeout e s
  | .mailboxIn3Write r e v => Sys2Proof.Machine.execMailboxIn3Write r e v s
  | .eflagsWrite r e v => Sys2Proof.Machine.execEflagsWrite r e v s
  | .hatBankConfig c => Sys2Proof.Machine.execHatBankConfig c s
  | .hatPortConfig c => Sys2Proof.Machine.execHatPortConfig c s
  | .hatLeg c => Sys2Proof.Machine.execHatLeg c s
  | .hatRing c => Sys2Proof.Machine.execHatRing c s
  | .hatMask c land => Sys2Proof.Machine.execHatMask c land s
  | .hatStats c => Sys2Proof.Machine.execHatStats c s
  | .maskgoWrite r h v land => Sys2Proof.Machine.execMaskgoWrite r h v land s
  | .maskApply h => Sys2Proof.Machine.execMaskApply h s
  | .hatchBlockStart h entries fail => Sys2Proof.Machine.execHatchBlockStart h entries fail s
  | .rxEntryWrite h samples fail => Sys2Proof.Machine.execRxEntryWrite h samples fail s
  | .hatRxHeadWrite r h v => Sys2Proof.Machine.execHatRxHeadWrite r h v s
  | .hatTxTailWrite r h v => Sys2Proof.Machine.execHatTxTailWrite r h v s
  | .partnerFrameEdge b bits => Sys2Proof.Machine.execPartnerFrameEdge b bits s
  | .missingFrame b => Sys2Proof.Machine.execMissingFrame b s
  | .synthLock b => Sys2Proof.Machine.execSynthLock b s
  | .lockTimeout b => Sys2Proof.Machine.execLockTimeout b s
  | .hatchRampEnd b => Sys2Proof.Machine.execHatchRampEnd b s
  | .decConfig c => Sys2Proof.Machine.execDecConfig c s
  | .decKeyreq c => Sys2Proof.Machine.execDecKeyreq c s
  | .decStats c => Sys2Proof.Machine.execDecStats c s
  | .decPipeStats c => Sys2Proof.Machine.execDecPipeStats c s
  | .decodeBandBoundary pipe o => Sys2Proof.Machine.execDecodeBandBoundary pipe o s
  | .bandFinal n => Sys2Proof.Machine.execBandFinal n s
  | .pictureCompleteFence n => Sys2Proof.Machine.execPictureCompleteFence n s
  | .keyreqRepeat n => Sys2Proof.Machine.execKeyreqRepeat n s
  | .freezeTimeout n => Sys2Proof.Machine.execFreezeTimeout n s
  | .orgCanvasConfig c => Sys2Proof.Machine.execOrgCanvasConfig c s
  | .orgLayerStage c => Sys2Proof.Machine.execOrgLayerStage c s
  | .orgCommit c => Sys2Proof.Machine.execOrgCommit c s
  | .orgFenceSignal c => Sys2Proof.Machine.execOrgFenceSignal c s
  | .orgImageLoad c bytes => Sys2Proof.Machine.execOrgImageLoad c bytes s
  | .orgImageFree c => Sys2Proof.Machine.execOrgImageFree c s
  | .orgStats c => Sys2Proof.Machine.execOrgStats c s
  | .canvasFrameStart n => Sys2Proof.Machine.execCanvasFrameStart n s
  | .bandRelease n => Sys2Proof.Machine.execBandRelease n s
  | .bandCompose pipe => Sys2Proof.Machine.execBandCompose pipe s
  | .bandWaitExpiry n => Sys2Proof.Machine.execBandWaitExpiry n s
  | .bandPlaced pipe => Sys2Proof.Machine.execBandPlaced pipe s
  | .encConfig c => Sys2Proof.Machine.execEncConfig c s
  | .encLayer c => Sys2Proof.Machine.execEncLayer c s
  | .encStream c => Sys2Proof.Machine.execEncStream c s
  | .encKeyreq c => Sys2Proof.Machine.execEncKeyreq c s
  | .encStats c => Sys2Proof.Machine.execEncStats c s
  | .encPipeStats c => Sys2Proof.Machine.execEncPipeStats c s
  | .bandEncodeStart pipe codes => Sys2Proof.Machine.execBandEncodeStart pipe codes s
  | .bandCoded pipe => Sys2Proof.Machine.execBandCoded pipe s
  | .keyIntervalExpiry n => Sys2Proof.Machine.execKeyIntervalExpiry n s
  | .encodeDrainTimeout n => Sys2Proof.Machine.execEncodeDrainTimeout n s
  | .fwdConfig c => Sys2Proof.Machine.execFwdConfig c s
  | .fwdCeiling c => Sys2Proof.Machine.execFwdCeiling c s
  | .fwdKeyreq c => Sys2Proof.Machine.execFwdKeyreq c s
  | .fwdStats c => Sys2Proof.Machine.execFwdStats c s
  | .packetClone k => Sys2Proof.Machine.execPacketClone k s
  | .targetRecompute l => Sys2Proof.Machine.execTargetRecompute l s
  | .keyWaitExpiry n => Sys2Proof.Machine.execKeyWaitExpiry n s
  | .nackReceived l k seqs => Sys2Proof.Machine.execNackReceived l k seqs s
  | .retransmitHoldExpiry => Sys2Proof.Machine.execRetransmitHoldExpiry s
  | .prgLegShape c => Sys2Proof.Machine.execPrgLegShape c s
  | .prgLegQueue c => Sys2Proof.Machine.execPrgLegQueue c s
  | .prgPolice c => Sys2Proof.Machine.execPrgPolice c s
  | .prgPortConfig c => Sys2Proof.Machine.execPrgPortConfig c s
  | .prgPortShape c => Sys2Proof.Machine.execPrgPortShape c s
  | .prgLegStats c => Sys2Proof.Machine.execPrgLegStats c s
  | .prgPortStats c => Sys2Proof.Machine.execPrgPortStats c s
  | .portFrameStart p fine => Sys2Proof.Machine.execPortFrameStart p fine s
  | .launchReached p => Sys2Proof.Machine.execLaunchReached p s
  | .queueSample => Sys2Proof.Machine.execQueueSample s
  | .hallDispatch k => Sys2Proof.Machine.execHallDispatch k s
  | .flowDone k arm => Sys2Proof.Machine.execFlowDone k arm s
  | .hallTimeout f => Sys2Proof.Machine.execHallTimeout f s
  | .priorityPromotion g => Sys2Proof.Machine.execPriorityPromotion g s
  | .flowHoldOver f => Sys2Proof.Machine.execFlowHoldOver f s
  | .loadSample => Sys2Proof.Machine.execLoadSample s
  | .ladderForceWrite r v => Sys2Proof.Machine.execLadderForceWrite r v s
  | .ladderThresholdWrite r n v => Sys2Proof.Machine.execLadderThresholdWrite r n v s
  | .packetWordWrite p b => Sys2Proof.Machine.execPacketWordWrite p b s
  | .packetCommit p last info => Sys2Proof.Machine.execPacketCommit p last info s
  | .commitLoose p last => Sys2Proof.Machine.execCommitLoose p last s
  | .closeBad p => Sys2Proof.Machine.execCloseBad p s
  | .enqueue handle q info => Sys2Proof.Machine.execEnqueue handle q info s
  | .handleRelease handle => Sys2Proof.Machine.execHandleRelease handle s
  | .mark p => Sys2Proof.Machine.execMark p s
  | .wrewind p => Sys2Proof.Machine.execWrewind p s
  | .read q => Sys2Proof.Machine.execRead q s
  | .queueMark q => Sys2Proof.Machine.execQueueMark q s
  | .rewind q => Sys2Proof.Machine.execRewind q s
  | .release q => Sys2Proof.Machine.execRelease q s
  | .unmark q => Sys2Proof.Machine.execUnmark q s
  | .memLayout c => Sys2Proof.Machine.execMemLayout c s
  | .memoryRequestIssue ch arrivals => Sys2Proof.Machine.execMemoryRequestIssue ch arrivals s
  | .agePromotion ch => Sys2Proof.Machine.execAgePromotion ch s
  | .refreshTick ch rank bank => Sys2Proof.Machine.execRefreshTick ch rank bank s
  | .calibrationDue ch => Sys2Proof.Machine.execCalibrationDue ch s
  | .calibrationForced ch => Sys2Proof.Machine.execCalibrationForced ch s
  | .calibrationWindowEnd ch => Sys2Proof.Machine.execCalibrationWindowEnd ch s
  | .scrubFloorExpiry ch => Sys2Proof.Machine.execScrubFloorExpiry ch s
  | .memoryInitDone => Sys2Proof.Machine.execMemoryInitDone s
  | .keeperHandover ch => Sys2Proof.Machine.execKeeperHandover ch s
  | .trainingWritePattern r ch v => Sys2Proof.Machine.execTrainingWritePattern r ch v s
  | .trainingReadCompare r ch v fails => Sys2Proof.Machine.execTrainingReadCompare r ch v fails s
  | .trainingRegisterCompare r ch v fails => Sys2Proof.Machine.execTrainingRegisterCompare r ch v fails s
  | .trainingOpComplete ch => Sys2Proof.Machine.execTrainingOpComplete ch s
  | .mrsWrite r ch v => Sys2Proof.Machine.execMrsWrite r ch v s
  | .errorInjectArm r v => Sys2Proof.Machine.execErrorInjectArm r v s
  | .timeArm c => Sys2Proof.Machine.execTimeArm c s
  | .timeStep c => Sys2Proof.Machine.execTimeStep c s
  | .timeRate c => Sys2Proof.Machine.execTimeRate c s
  | .timeRead c => Sys2Proof.Machine.execTimeRead c s
  | .timeTb0Lock c => Sys2Proof.Machine.execTimeTb0Lock c s
  | .relockSlewDone => Sys2Proof.Machine.execRelockSlewDone s
  | .timePortComp c => Sys2Proof.Machine.execTimePortComp c s
  | .timePin c => Sys2Proof.Machine.execTimePin c s
  | .timeServo c => Sys2Proof.Machine.execTimeServo c s
  | .captureEdge k rising => Sys2Proof.Machine.execCaptureEdge k rising s
  | .softwareStamp k => Sys2Proof.Machine.execSoftwareStamp k s
  | .triggerEdge k => Sys2Proof.Machine.execTriggerEdge k s
  | .baseLatch r v => Sys2Proof.Machine.execBaseLatch r v s
  | .txtsPop r v => Sys2Proof.Machine.execTxtsPop r v s
  | .sourcePulse n => Sys2Proof.Machine.execSourcePulse n s
  | .pendSet r v => Sys2Proof.Machine.execPendSet r v s
  | .pendClear r v => Sys2Proof.Machine.execPendClear r v s
  | .interruptClaim r t => Sys2Proof.Machine.execInterruptClaim r t s
  | .eoiWrite r t v => Sys2Proof.Machine.execEoiWrite r t v s
  | .targetDisableWrite r t v => Sys2Proof.Machine.execTargetDisableWrite r t v s
  | .sourceConfigWrite r n v => Sys2Proof.Machine.execSourceConfigWrite r n v s
  | .watchWrite r w v => Sys2Proof.Machine.execWatchWrite r w v s
  | .errorReport n sev i0 i1 => Sys2Proof.Machine.execErrorReport n sev i0 i1 s
  | .alertNAssert => Sys2Proof.Machine.execAlertNAssert s
  | .errDone r v => Sys2Proof.Machine.execErrDone r v s
  | .errInject r v => Sys2Proof.Machine.execErrInject r v s
  | .logPop r v => Sys2Proof.Machine.execLogPop r v s
  | .powerDomain c => Sys2Proof.Machine.execPowerDomain c s
  | .domainOnComplete d => Sys2Proof.Machine.execDomainOnComplete d s
  | .powerRunpoint c => Sys2Proof.Machine.execPowerRunpoint c s
  | .powerRailStep c => Sys2Proof.Machine.execPowerRailStep c s
  | .voltageConfirmed r mv => Sys2Proof.Machine.execVoltageConfirmed r mv s
  | .pmbusConfirmTimeout r status => Sys2Proof.Machine.execPmbusConfirmTimeout r status s
  | .powerState c => Sys2Proof.Machine.execPowerState c s
  | .cellarDrained => Sys2Proof.Machine.execCellarDrained s
  | .gthAlarmClear c => Sys2Proof.Machine.execGthAlarmClear c s
  | .alarmLatchWrite r v => Sys2Proof.Machine.execAlarmLatchWrite r v s
  | .telemSnapshot c => Sys2Proof.Machine.execTelemSnapshot c s
  | .wakeSource land src => Sys2Proof.Machine.execWakeSource land src s
  | .wakeStepComplete => Sys2Proof.Machine.execWakeStepComplete s
  | .gatehouseTimerExpiry => Sys2Proof.Machine.execGatehouseTimerExpiry s
  | .i2cAddressMatch addr => Sys2Proof.Machine.execI2cAddressMatch addr s
  | .temperatureSample t => Sys2Proof.Machine.execTemperatureSample t s
  | .clampLift => Sys2Proof.Machine.execClampLift s
  | .railTelemetryRead r mv ma => Sys2Proof.Machine.execRailTelemetryRead r mv ma s
  | .porstNRise pins => Sys2Proof.Machine.execPorstNRise pins s
  | .powerGoodRise g => Sys2Proof.Machine.execPowerGoodRise g s
  | .powerGoodFault g dropped => Sys2Proof.Machine.execPowerGoodFault g dropped s
  | .porstNFall => Sys2Proof.Machine.execPorstNFall s
  | .vddGhLoss => Sys2Proof.Machine.execVddGhLoss s
  | .bootStageComplete r => Sys2Proof.Machine.execBootStageComplete r s
  | .loadGo r v => Sys2Proof.Machine.execLoadGo r v s
  | .flashWrite c bytes verifyOk => Sys2Proof.Machine.execFlashWrite c bytes verifyOk s
  | .recoverySetOffset off => Sys2Proof.Machine.execRecoverySetOffset off s
  | .recoveryAppend bytes => Sys2Proof.Machine.execRecoveryAppend bytes s
  | .recoveryProgram => Sys2Proof.Machine.execRecoveryProgram s
  | .recoveryStatus => Sys2Proof.Machine.execRecoveryStatus s
  | .portDrainTimeout p => Sys2Proof.Machine.execPortDrainTimeout p s
  | .vddGhReturn => Sys2Proof.Machine.execVddGhReturn s
  | .mainDieRelease => Sys2Proof.Machine.execMainDieRelease s
  | .powerGoodFall g => Sys2Proof.Machine.execPowerGoodFall g s
  | .powerDownStepTimeout g => Sys2Proof.Machine.execPowerDownStepTimeout g s
  | .firstHostBar0Read addr => Sys2Proof.Machine.execFirstHostBar0Read addr s
  | .iceWindowRead r addr => Sys2Proof.Machine.execIceWindowRead r addr s

end Sys2Proof.Machine
end

