-- ==== Sys2Proof/Machine/Tick.lean ====
section
/-!
DEFINITION. One CK_CT cycle of an idle device: the time bases, the moderation timers, the Gatehouse timer, and what the
Gatehouse begins by itself.
-/
namespace Sys2Proof.Machine

/-- The Gatehouse timer counts 32.768 kHz ticks, 32,768 of them in 70,560,000 ct (R519). -/
def Gate.tickTimer (g : Gate) : Gate :=
  if !g.timerOn || g.timer = 0 then g
  else if g.timerSub + 32768 < ctPerSec then { g with timerSub := g.timerSub + 32768 }
  else { g with timerSub := g.timerSub + 32768 - ctPerSec, timer := g.timer - 1 }

/-- Moderation timers count CK_CT cycles (R69). -/
def tickQueues (s : State) : State :=
  { s with porch := { s.porch with cq := s.porch.cq.map fun e => (e.1, { e.2 with timer := e.2.timer.map fun t => t + 1 }) } }

/-- The time bases run from PORST_N onward while their domain is on (R462, R510). DEDUCED, log entry 133. -/
def tickBases (s : State) : State := if s.gate.porst && s.timeOn then { s with blv := s.blv.tick } else s

/-- DESIGN CHOICE, log entry 2. -/
def tick (s : State) : State :=
  let s := tickQueues (tickBases (settleBad { s with cyc := s.cyc + 1 }))
  gateAdvance { s with gate := s.gate.tickTimer }

end Sys2Proof.Machine
end

