-- ==== Sys2Proof/WellFormed.lean ====
section
/-!
DEFINITION. The packet that a command row runs, with its opcode and its lengths (R47, and each chapter's command table), and
the operands that make an instruction well formed.
-/
namespace Sys2Proof

open Sys2Proof.Machine

/-- A command of the table: its opcode, its packet, and the LEN it takes, from and to. -/
structure Packet where
  op    : BitVec 16
  c     : Cmd
  lenLo : Nat := 1
  lenHi : Nat := 1
  deriving DecidableEq, Repr

/-- The packet of a command row; an event has none. -/
def Instr.packet : Instr → Option Packet
  | .nop c => some { op := 0x0000, c := c }
  | .getInfo c => some { op := 0x0004, c := c }
  | .startLegPort c => some { op := 0x0401, c := c }
  | .stopLegPort c => some { op := 0x0402, c := c }
  | .getStateLegPort c => some { op := 0x0403, c := c }
  | .startConference c => some { op := 0x0701, c := c }
  | .stopConference c => some { op := 0x0702, c := c }
  | .getStateConference c => some { op := 0x0703, c := c }
  | .startBank c => some { op := 0x0801, c := c }
  | .stopBank c => some { op := 0x0802, c := c }
  | .getStateHatch c => some { op := 0x0803, c := c }
  | .startEngine c => some { op := 0x0901, c := c }
  | .stopEngine c => some { op := 0x0902, c := c }
  | .getStateEngine c => some { op := 0x0903, c := c }
  | .startSlot c => some { op := 0x0A01, c := c }
  | .stopSlot c => some { op := 0x0A02, c := c }
  | .getStateSlot c => some { op := 0x0A03, c := c }
  | .startCanvas c => some { op := 0x0B01, c := c }
  | .stopCanvas c => some { op := 0x0B02, c := c }
  | .getStateCanvas c => some { op := 0x0B03, c := c }
  | .startEncoding c => some { op := 0x0C01, c := c }
  | .stopEncoding c => some { op := 0x0C02, c := c }
  | .getStateEncoding c => some { op := 0x0C03, c := c }
  | .startSubscription c => some { op := 0x0D01, c := c }
  | .stopSubscription c => some { op := 0x0D02, c := c }
  | .getStateSubscription c => some { op := 0x0D03, c := c }
  | .startFootbridgeObject c => some { op := 0x0E01, c := c }
  | .stopFootbridgeObject c => some { op := 0x0E02, c := c }
  | .getStateFootbridge c => some { op := 0x0E03, c := c }
  | .portConfig c => some { op := 0x0410, c := c }
  | .portAddr c => some { op := 0x0411, c := c }
  | .puntCfg c => some { op := 0x0412, c := c }
  | .frameSend c _ => some { op := 0x0413, c := c }
  | .legConfig c => some { op := 0x0420, c := c }
  | .legIceCred c => some { op := 0x0421, c := c, lenLo := 3, lenHi := 3 }
  | .legStream c => some { op := 0x0422, c := c }
  | .legBwe c => some { op := 0x0423, c := c }
  | .legStats c => some { op := 0x0424, c := c }
  | .ftbConfig c => some { op := 0x0E10, c := c }
  | .ftbLink c => some { op := 0x0E11, c := c }
  | .keyWrite c => some { op := 0x0510, c := c, lenLo := 2, lenHi := 2 }
  | .keyErase c => some { op := 0x0511, c := c }
  | .keyQuery c => some { op := 0x0512, c := c }
  | .keyCascade c => some { op := 0x0513, c := c }
  | .keyAlarmClear c => some { op := 0x0514, c := c }
  | .confConfig c => some { op := 0x0710, c := c }
  | .confFormat c => some { op := 0x0711, c := c }
  | .routeLoad c => some { op := 0x0720, c := c, lenLo := 1, lenHi := 8 }
  | .routeCopy c => some { op := 0x0721, c := c }
  | .routeSwap c => some { op := 0x0722, c := c }
  | .confStats c => some { op := 0x0730, c := c }
  | .engReserve c => some { op := 0x0910, c := c }
  | .engConfig c => some { op := 0x0911, c := c }
  | .engLoad c _ => some { op := 0x0912, c := c }
  | .engWrite c _ => some { op := 0x0913, c := c }
  | .engRead c => some { op := 0x0914, c := c }
  | .engStats c => some { op := 0x0915, c := c }
  | .hatBankConfig c => some { op := 0x0810, c := c }
  | .hatPortConfig c => some { op := 0x0811, c := c }
  | .hatLeg c => some { op := 0x0812, c := c }
  | .hatRing c => some { op := 0x0813, c := c }
  | .hatMask c _ => some { op := 0x0814, c := c }
  | .hatStats c => some { op := 0x0815, c := c }
  | .decConfig c => some { op := 0x0A10, c := c }
  | .decKeyreq c => some { op := 0x0A11, c := c }
  | .decStats c => some { op := 0x0A12, c := c }
  | .decPipeStats c => some { op := 0x0A13, c := c }
  | .orgCanvasConfig c => some { op := 0x0B10, c := c }
  | .orgLayerStage c => some { op := 0x0B11, c := c }
  | .orgCommit c => some { op := 0x0B12, c := c, lenLo := 1, lenHi := 2 }
  | .orgFenceSignal c => some { op := 0x0B13, c := c }
  | .orgImageLoad c _ => some { op := 0x0B14, c := c }
  | .orgImageFree c => some { op := 0x0B15, c := c }
  | .orgStats c => some { op := 0x0B16, c := c }
  | .encConfig c => some { op := 0x0C10, c := c }
  | .encLayer c => some { op := 0x0C11, c := c }
  | .encStream c => some { op := 0x0C12, c := c }
  | .encKeyreq c => some { op := 0x0C13, c := c }
  | .encStats c => some { op := 0x0C14, c := c }
  | .encPipeStats c => some { op := 0x0C15, c := c }
  | .fwdConfig c => some { op := 0x0D10, c := c }
  | .fwdCeiling c => some { op := 0x0D11, c := c }
  | .fwdKeyreq c => some { op := 0x0D12, c := c }
  | .fwdStats c => some { op := 0x0D13, c := c }
  | .prgLegShape c => some { op := 0x0610, c := c }
  | .prgLegQueue c => some { op := 0x0611, c := c }
  | .prgPolice c => some { op := 0x0612, c := c }
  | .prgPortConfig c => some { op := 0x0613, c := c }
  | .prgPortShape c => some { op := 0x0614, c := c }
  | .prgLegStats c => some { op := 0x0615, c := c }
  | .prgPortStats c => some { op := 0x0616, c := c }
  | .memLayout c => some { op := 0x0310, c := c }
  | .timeArm c => some { op := 0x0210, c := c }
  | .timeStep c => some { op := 0x0211, c := c }
  | .timeRate c => some { op := 0x0212, c := c }
  | .timeRead c => some { op := 0x0213, c := c }
  | .timeTb0Lock c => some { op := 0x0214, c := c }
  | .timePortComp c => some { op := 0x0215, c := c }
  | .timePin c => some { op := 0x0216, c := c }
  | .timeServo c => some { op := 0x0217, c := c }
  | .powerDomain c => some { op := 0x0110, c := c }
  | .powerRunpoint c => some { op := 0x0111, c := c }
  | .powerRailStep c => some { op := 0x0112, c := c }
  | .powerState c => some { op := 0x0113, c := c }
  | .gthAlarmClear c => some { op := 0x0114, c := c }
  | .telemSnapshot c => some { op := 0x0F10, c := c }
  | .flashWrite c _ _ => some { op := 0x0F20, c := c }
  | _ => none

/-- The packet holds the words that its LEN says, sixteen per unit, four of them header words (R47). -/
def Cmd.packetOk (c : Cmd) : Bool := c.par.length + 4 == 16 * Nat.max 1 c.len

def isSample (v : Int) : Bool := decide (-8388608 ≤ v) && decide (v ≤ 8388607)

/-- What an outside agent supplies has the shape the manual gives it: the bytes a transfer moves, 24-bit samples, nine
temperatures, aligned registers, whole lines of memory. -/
def Instr.operandsOk : Instr → Bool
  | .commandFetch sq mem _ => decide (mem.words.length = 16 * Nat.max 1 (packetCmd sq mem.words).len) ||
    (decide (8 < (packetCmd sq mem.words).len) && decide (mem.words.length = 16))
  | .hostTransferError _ c => c.packetOk
  | .keyWindowTimeout _ c => c.packetOk
  | .frameSend c bytes => bytes.length == bits (c.word 6) 13 0
  | .engLoad c data => data.length == bits (c.word 7) 13 0
  | .engWrite c data => data.length == bits (c.word 8) 14 0
  | .orgImageLoad c bytes => bytes.length == imageBytes (bits (c.word 6) 1 0) (bits (c.word 7) 11 0) (bits (c.word 7) 27 16)
  | .flashWrite c bytes _ => bytes.length == (c.word 7).toNat
  | .hostTlpRefused _ addr dws _ => addr.toNat % 4 == 0 && dws != 0
  | .registerWrite _ addr _ => addr.toNat % 4 == 0
  | .rcRegisterRead _ addr => addr.toNat % 4 == 0
  | .counterLowRead _ addr => addr.toNat % 4 == 0
  | .firstHostBar0Read addr => addr.toNat % 4 == 0
  | .iceWindowRead _ addr => addr.toNat % 4 == 0
  | .audioDecodeDone _ l _ => l.all fun p => isSample p.1 && isSample p.2
  | .rxEntryWrite _ l _ => l.all fun f => f.all isSample
  | .hatchBlockStart _ l _ => l.all fun e => e.smp.all fun f => f.all isSample
  | .mixFrameReceived m => decide (m.recs.length ≤ 9) && m.recs.all fun r => r.samples.length == 48
  | .temperatureSample t => t.length == 9
  | .memoryRequestIssue _ l => l.all fun r => r.pa.toNat % 64 == 0
  | _ => true

/-- A well-formed instruction. -/
def Instr.wellFormed (i : Instr) : Bool :=
  (match i.packet with
   | some p => p.c.packetOk
   | none => true) && i.operandsOk

end Sys2Proof
end

