-- ==== Sys2Proof/Safety.lean ====
section
/-!
DEFINITION. What claims say of a run: a packet that may run, what taking it and answering it does, and what a state
keeps to.
-/
namespace Sys2Proof.Machine

/-! ## Packets (R38, R47-R52, R60) -/

/-- A packet whose header passes: nothing earlier of its queue holds it back (R49, R50), the holding buffer has room (R74), its LEN is one that its opcode
takes, its reserved header bits are 0 (R60), and no reset has overtaken it (R38). -/
abbrev State.takes (s : State) (p : Packet) : Prop :=
  mayStart s p.op p.c = true ∧ s.paused = false ∧ p.lenLo ≤ p.c.len ∧ p.c.len ≤ p.lenHi ∧ p.c.headerOk = true ∧
  ∀ f ∈ s.porch.flights, f.op = p.op → f.c = p.c → f.discard = false

/-- The state in which a packet's meaning begins: its flight, if it has one, is marked. -/
def State.begun (s : State) (p : Packet) : State := beginCmd s p.op p.c

/-- The completion queue of a packet: the one its submission queue was bound to at the fetch. -/
def State.completionQueue (s : State) (p : Packet) : Nat :=
  match s.flightOf p.op p.c with
  | some f => f.cq
  | none => s.boundCq p.c.sq

/-- The completion entry of a packet (R52). -/
def State.completion (s : State) (p : Packet) (st : Status) (r0 r1 r2 r3 : Word) : Entry :=
  { evt := false, sq := p.c.sq, code := p.op, tag := p.c.tag, status := st, obj := p.c.obj,
    r0 := r0, r1 := r1, r2 := r2, r3 := r3, time := s.entryTime, wake := p.c.wake,
    cq := s.completionQueue p }

/-- The state with one entry more produced for the Porch to write. -/
def State.produce (s : State) (e : Entry) : State :=
  { s with porch := { s.porch with produced := s.porch.produced ++ [e] } }

/-- The state with a packet's completion produced, its results given. -/
def State.answers (s : State) (p : Packet) (st : Status) (r0 r1 r2 r3 : Word) : State :=
  s.produce (s.completion p st r0 r1 r2 r3)

/-- The state with a packet's completion produced, its results 0. -/
def State.answer (s : State) (p : Packet) (st : Status) : State := s.answers p st 0 0 0 0

/-- The state after a packet has done `effect` and completed with OK. -/
def State.after (s : State) (p : Packet) (effect : State → State) : State := (effect (s.begun p)).answer p stOk

/-! ## Objects (R65, R66) -/

/-- An object that a START has taken: STARTING, with the START that waits (R65). -/
def State.toStarting (s : State) (k : Nat) (c : Cmd) : State :=
  s.setObj k { s.obj k with st := .starting, starter := some c, stoppers := [], abort := false, since := s.cyc }

/-- An object that a STOP has taken: DRAINING, with the STOP that waits (R65). -/
def State.toDraining (s : State) (k : Nat) (c : Cmd) : State :=
  s.setObj k { s.obj k with st := .draining, stoppers := [c], abort := bit (c.word 4) 0, since := s.cyc }

/-- An object that was granted what it needs: RUNNING (R65). -/
def State.toRunning (s : State) (k : Nat) : State :=
  s.setObj k { s.obj k with st := .running, starter := none, since := s.cyc }

/-- An object without work: STOPPED, with no command of its own that waits (R65). -/
def State.toStopped (s : State) (k : Nat) : State :=
  s.setObj k { s.obj k with st := .stopped, starter := none, stoppers := [], abort := false, since := s.cyc }

/-! ## Engines (R194, R202-R206) -/

/-- Engine e executes, no move is writing the program word at its PC, and that word is w with the opcode given (R205, R206). -/
abbrev State.executes (s : State) (e op : Nat) (w : Word) : Prop :=
  s.engExecutes e = true ∧ (s.eng e).fetchHeld = false ∧ s.progWord e (s.engRun e).pc = w ∧ bits w 31 26 = op

/-- The same outside the end of a loop, where R204 bars some instructions. -/
abbrev State.executesFree (s : State) (e op : Nat) (w : Word) : Prop :=
  s.executes e op w ∧ (s.engRun e).atLoopEnd = false

/-! ## What every step keeps -/

/-- The canonical form of main memory: addresses rise strictly and no listed byte equals what an unlisted one reads as. -/
abbrev Memory.wf (m : Tab Byte) : Prop := tabWf 0 m = true

/-- What every step keeps: memory in its canonical form, at most 16 running priorities for a target (R493, R494), and one of the five
device states, of which only Sleep (3) and Off (4) are entered by stages (R517, R518). -/
abbrev State.Inv (s : State) : Prop :=
  Memory.wf s.cel.mem ∧ (∀ e ∈ s.bell.levelStacks, e.2.length ≤ 16) ∧ s.pwr.state ≤ 4 ∧
  (∀ e ∈ s.pwr.entering, e.1 = 3 ∨ e.1 = 4)

end Sys2Proof.Machine
end

