-- ==== Sys2Proof/Certificates/Slice0/Obligations.lean ====
section
/-!
DEFINITION. The statements about the device that the provers settle, family by family.
-/

open Sys2Proof Sys2Proof.Machine Host

/-! ## The whole device -/

/-- A step takes the command at the front of the queue and runs it on the state with the queue's rest. On an empty queue, with every fetched
command begun or defined and the Gatehouse at rest, the device idles for one CK_CT cycle (the model's choice, log entry 2): the
cycle count rises by one, TB0 too where PORST_N is high and TIME is on, and objects, memory, registers and outputs stay. -/
def Obligations.StepRunsTheFrontCommand : Prop :=
  (∀ (c : Instr) (s : State) (r : List Instr), step (s.withPending (c :: r)) = exec c (s.withPending r)) ∧
  (∀ s : State, s.pending = [] → (∀ f ∈ s.porch.flights, f.started = true ∨ badStatus f.op f.c = none) → s.gate.step = 7 →
    s.pwr.wake = none →
    ∃ t, step s = .next t ∧ t.pending = [] ∧ t.cyc = s.cyc + 1 ∧
      t.blv.tb0 = (if s.gate.porst && s.timeOn then s.blv.tb0 + 1 else s.blv.tb0) ∧
      t.objs = s.objs ∧ t.cel = s.cel ∧ t.regs = s.regs ∧ t.out = s.out)

/-- After reset every object is STOPPED, nothing is queued, held, produced or in flight, no source is pending and no target has a running
priority, the load ladder stands at L0, every switched domain is off until the boot, memory lists nothing, every stored register holds
the value that `regReset` gives it (its Reset column, or log entry 3's choice where it has none), TB0 is 0, every queue of the Pantry
names no packet, READY is 0, and the state keeps the machine's invariant. -/
def Obligations.WhatResetLeaves : Prop :=
  (∀ k, State.reset.obj k = {} ∧ (State.reset.obj k).st = .stopped) ∧
  State.reset.pending = [] ∧ State.reset.porch.flights = [] ∧ State.reset.porch.held = [] ∧ State.reset.porch.produced = [] ∧
  State.reset.bell.pend = [] ∧ (∀ t, State.reset.stack t = []) ∧ State.reset.hall.step = 0 ∧ State.reset.hall.flows = [] ∧
  (∀ d, d < 80 → State.reset.dom d = false) ∧ State.reset.cel.mem = [] ∧ (∀ a, State.reset.reg a = regReset a) ∧
  State.reset.blv.tb0 = 0 ∧ (∀ q, (State.reset.queue q).last.handle = 0x1FFFF) ∧ State.reset.boot.ready = false ∧
  State.reset.Inv

/-- A packet of any command row is checked in one order: while something earlier of its queue holds it back, or the holding buffer is
full, nothing happens; then its length is checked, then the reserved bits of its header, and the first that fails completes it with its
status and does nothing else (R49, R60, R74). -/
def Obligations.EveryPacketIsCheckedInOrder : Prop :=
  ∀ (i : Instr) (p : Packet) (s : State), i.packet = some p →
    (mayStart s p.op p.c = false ∨ s.paused = true → exec i s = .next s) ∧
    (mayStart s p.op p.c = true → s.paused = false → (p.c.len < p.lenLo ∨ p.lenHi < p.c.len) →
      exec i s = .next (finish (s.begun p) p.op p.c stBadLength)) ∧
    (mayStart s p.op p.c = true → s.paused = false → p.lenLo ≤ p.c.len → p.c.len ≤ p.lenHi → p.c.headerOk = false →
      exec i s = .next (finish (s.begun p) p.op p.c stBadField))

/-- FENCE holds a command until every earlier command of its own submission queue has completed; BARRIER holds every later command of its
queue until it has; so a command with both flags runs alone in its queue. Neither holds a command of another queue, and a command without
FENCE is not held by commands of its queue that have started, carry no BARRIER and act on another object (R50). -/
def Obligations.FenceAndBarrierOrderOneQueue : Prop :=
  ∀ (s : State) (i : Instr) (p : Packet) (before after : List Flight) (f : Flight), i.packet = some p →
    s.porch.flights = before ++ f :: after → f.op = p.op → f.c = p.c → f.started = false →
    (∀ g ∈ before, g.op ≠ p.op ∨ g.c ≠ p.c ∨ g.started = true) →
    ((p.c.fence = true → (∃ g ∈ before, g.c.sq = p.c.sq) → exec i s = .next s) ∧
     ((∃ g ∈ before, g.c.sq = p.c.sq ∧ g.c.barrier = true) → exec i s = .next s) ∧
     ((∀ g ∈ before, g.c.sq ≠ p.c.sq) → mayStart s p.op p.c = true) ∧
     (p.c.fence = false →
        (∀ g ∈ before, g.c.sq = p.c.sq → g.started = true ∧ g.c.barrier = false ∧ sameObject p.op p.c g = false) →
        mayStart s p.op p.c = true))

/-- Every command and every event has an effect in every state: exec answers a next state, never a fault or a refusal. -/
def Obligations.EveryCommandAnswersAState : Prop :=
  ∀ (i : Instr) (s : State), ∃ t, exec i s = .next t

/-- Every step keeps the machine's invariant: memory stays in its canonical form, no target holds more than 16 running priorities (R494),
the device state is one of the five and only Sleep or Off is ever being entered (R517, R518); and a step takes just the front command off
the queue. -/
def Obligations.EveryStepKeepsTheInvariant : Prop :=
  ∀ (s t : State), s.Inv → step s = .next t → t.Inv ∧ t.pending = s.pending.drop 1

/-! ## The Porch -/

/-- NOP and GET_INFO complete at once: NOP with results 0, GET_INFO with the firmware version, the straps, the free
entries of the holding buffer and the commands in flight (R64). -/
def Obligations.SystemCommandsCompleteAtOnce : Prop :=
  ∀ (s : State) (c : Cmd), c.num = 0 →
    (s.takes ⟨0x0000, c, 1, 1⟩ →
      exec (.nop c) s = .next ((s.begun ⟨0x0000, c, 1, 1⟩).answer ⟨0x0000, c, 1, 1⟩ stOk)) ∧
    (s.takes ⟨0x0004, c, 1, 1⟩ →
      exec (.getInfo c) s = .next ((s.begun ⟨0x0004, c, 1, 1⟩).answers ⟨0x0004, c, 1, 1⟩ stOk s.boot.fw
        (s.gate.straps.setWidth 32) (low (256 - s.porch.held.length)) (low s.porch.flights.length)))

/-- The Study fetches the command at the fetch position of a queue that R46 admits, once the host's link is in L0 (`s'`). Without a PCIe
error a defined command with a LEN of 1 to 8 enters flight last, bound to its queue's completion queue; the fetch position moves by LEN
slots modulo the ring, no other queue moves, nothing completes and no object changes (R44-R48). With a PCIe error no command is taken:
the queue is in error and QUEUE_ERROR is raised (R58). Other fetched commands have begun or are defined. -/
def Obligations.AFetchedCommandEntersFlight : Prop :=
  ∀ (s s' : State) (sq : Fin 64) (ws : List Word) (split : List (Fin 64)),
    s.fetching = true → s.fetchable sq = true → s.turnOk split sq = true → (packetCmd sq ws).slots ≤ s.slots sq →
    s' = belSignal (leaveL1 s) →
    (badStatus (packetOp ws) (packetCmd sq ws) = none →
      (∀ f ∈ s'.porch.flights, f.started = true ∨ badStatus f.op f.c = none) →
      ∃ t, exec (.commandFetch sq ⟨ws, split⟩ none) s = .next t ∧
        t.porch.flights = s'.porch.flights ++
          [{ op := packetOp ws, c := packetCmd sq ws, started := false, discard := false, cq := s'.boundCq sq }] ∧
        (t.sq sq).head = ((s'.sq sq).head + (packetCmd sq ws).len) % s'.sqSize sq ∧
        (t.sq sq).tail = (s'.sq sq).tail ∧ (∀ m, m ≠ sq.val → t.sq m = s'.sq m) ∧
        t.porch.produced = s'.porch.produced ∧ t.objs = s.objs ∧ t.cel = s.cel) ∧
    (∀ e, exec (.commandFetch sq ⟨ws, split⟩ (some e)) s = .next (queueError s' false sq e))

/-- An entry is written to its ring in two TLPs, its words 2 to 7 with the relaxed-ordering and ID-based-ordering attributes and then its
words 0 and 1 without them (`out` lists the newest first), at 32 bytes a place; the ring's tail goes on by one place, PHASE turns over
where it returns to place 0, and no other queue changes (R52, R53). With the link in L0 the Porch takes the oldest produced entry: a
completion whose queue has room is written, its command retires, and it counts towards its queue's interrupt (R48, R57, R69); an event
goes to the queue of its route with that queue's next sequence number (R54, R55). An event queue that lost events takes EVENTS_LOST once
it has room, held while the link is in L1 (R56, R71); the host's answer to that write is free (log entry 150, the model's choice). A
moderation timer that has reached TIME_CT ends, and the queue's unmasked vector goes out (R69, R70). -/
def Obligations.EntriesAndInterruptsReachTheHost : Prop :=
  (∀ (s : State) (n : Nat) (e : Entry) (q : BitVec 16),
    (hostWrite s n e q).out =
      [ .tlp (dword (s.reg (cqBaseLo n)) (s.reg (cqBaseHi n)) + 32 * (s.cq n).tail) ((entryWords e q (s.cq n).phase).take 2) false false,
        .tlp (dword (s.reg (cqBaseLo n)) (s.reg (cqBaseHi n)) + 32 * (s.cq n).tail + 8) ((entryWords e q (s.cq n).phase).drop 2) true
          true ] ++ s.out ∧
    (((hostWrite s n e q).cq n).tail, ((hostWrite s n e q).cq n).phase) =
      (if (s.cq n).tail + 1 < s.cqSize n then ((s.cq n).tail + 1, (s.cq n).phase) else (0, !(s.cq n).phase)) ∧
    ∀ m, m ≠ n → (hostWrite s n e q).cq m = s.cq m) ∧
  (∀ (s s' : State) (e : Entry) (rest : List Entry),
    s.porch.produced = e :: rest → s.hostReach = true → s.inL1 = false → s' = { s with porch := { s.porch with produced := rest } } →
    (e.evt = false → s.cqEn e.cq = true → (s.cq e.cq).error = false → s.cqFull e.cq = false →
      exec (.entryWrite none) s =
        .next (settleBad (moderate (hostWrite (powerStateWritten (retire s' e) e) e.cq e 0) e.cq))) ∧
    (∀ n, e.evt = true → s.evRoute (e.code.toNat / 256) = some n → (s.cq n).error = false → (s.cq n).lostSince = 0 →
      s.eventRoom n = true →
      exec (.entryWrite none) s =
        .next (moderate (hostWrite (s'.setCq n { s'.cq n with seq := (s'.cq n).seq + 1 }) n e (s'.cq n).seq) n))) ∧
  (∀ (s : State) (q : Fin 64) (s' : State), s' = s.setCq q { s.cq q with seq := (s.cq q).seq + 1 } →
    s.cqEn q = true → s.evq q = true → (s.cq q).error = false → 0 < (s.cq q).lostSince → s.eventRoom q = true →
    (∀ x w, x = { s' with free := s.free + 1 } → w = hostWrite x q (eventsLostEntry s q) (s.cq q).seq → s.hostReach = true →
      s.inL1 = false → exec (.eventsLost q) s = .next (match hostAnswer s.free with
        | none => moderate (w.setCq q { w.cq q with lostSince := 0 }) q
        | some e => belSignal (queueFails (loseWaited x q (eventsLostEntry s q)) true q e))) ∧
    (s.porch.d3hot = false → s.inL1 = true →
      exec (.eventsLost q) s = .next (placeEntry (s.setCq q { s.cq q with lostSince := 0, seq := (s.cq q).seq + 1 }) q
        (eventsLostEntry s q) (s.cq q).seq))) ∧
  (∀ (s : State) (q : Fin 64) (n : Nat),
    (s.cq q).timer = some n → (s.cq q).modTime ≠ 0 → (s.cq q).modTime ≤ n → s.hostReach = true → s.inL1 = false →
    ∃ t, exec (.moderationTimerExpiry q) s = .next t ∧ (t.cq q).timer = none ∧ (t.cq q).count = 0 ∧
      (s.masked (bits (s.reg (cqCfgA q)) 26 16) = false → t.out = .msix (bits (s.reg (cqCfgA q)) 26 16) :: s.out))

/-- While the Porch is on, a doorbell whose index lies in its enabled ring moves that ring's index and no other (R43); a submission
doorbell also posts its item to the queue's flow (R391) and, in Idle or Drowse, asks the device to wake (R519). A doorbell of a disabled
ring is ignored, and an index outside the ring sets PCH_ERR bit 0 and names the queue (R43). -/
def Obligations.DoorbellsMoveTheirRing : Prop :=
  ∀ (s s' : State) (q : Fin 64) (v : Word), s.coreOn = true → s' = hostArrives s .host →
    (s'.sqEn q = true → bits v 13 0 < s'.sqSize q →
      exec (.sqTailDoorbell q v) s =
        .next (doorbellItem ((doorbellWake s').setSq q { s'.sq q with tail := bits v 13 0 }) q)) ∧
    (s'.sqEn q = true → s'.sqSize q ≤ bits v 13 0 → exec (.sqTailDoorbell q v) s = .next (pchErrQ (doorbellWake s') 0 false q)) ∧
    (s'.sqEn q = false → exec (.sqTailDoorbell q v) s = .next (doorbellWake s')) ∧
    (s'.cqEn q = true → bits v 15 0 < s'.cqSize q →
      exec (.cqHeadDoorbell q v) s = .next (s'.setCq q { s'.cq q with head := bits v 15 0 })) ∧
    (s'.cqEn q = true → s'.cqSize q ≤ bits v 15 0 → exec (.cqHeadDoorbell q v) s = .next (pchErrQ s' 0 true q)) ∧
    (s'.cqEn q = false → exec (.cqHeadDoorbell q v) s = .next s')

/-- While the Porch is on, a disabled queue whose SIZE and kind R41 and R40 allow is enabled with the fields written and its indices, error
and counts at 0 (EVENTS_LOST keeps its count); an enabled one is disabled by a write that leaves SIZE and its binding (a completion
queue: its kind) as they are, a completion queue only once no bound submission queue is busy and no entry of it is held; a disabled
submission queue with nothing in flight turns idle (R40-R42, R82, R569, R570). A write that breaks one of these rules changes no
configuration: PCH_ERR bit 1 is set and names the queue. -/
def Obligations.QueuesAreEnabledAndDisabled : Prop :=
  ∀ (s s' : State) (q : Fin 64) (v : Word), s.coreOn = true → s' = hostArrives s .host →
    (s'.sqEn q = false → 4 ≤ bits v 3 0 → bits v 3 0 ≤ 14 → s'.evq (bits v 13 8) = false →
      exec (.sqEnable q v) s = .next ((s'.setReg (sqCfgA q) ((v ||| 0x8000_0000) &&& 0x800F_3F0F)).setSq q
        { head := 0, tail := 0, error := false, idle := false })) ∧
    (s'.sqEn q = false → (bits v 3 0 < 4 ∨ 14 < bits v 3 0 ∨ s'.evq (bits v 13 8) = true) →
      exec (.sqEnable q v) s = .next (pchErrQ s' 1 false q)) ∧
    (s'.sqEn q = true → bits v 3 0 = bits (s'.reg (sqCfgA q)) 3 0 → bits v 13 8 = bits (s'.reg (sqCfgA q)) 13 8 →
      exec (.sqDisable q v) s = .next (s'.setReg (sqCfgA q) (v &&& 0x000F_3F0F))) ∧
    (s'.sqEn q = true → (bits v 3 0 ≠ bits (s'.reg (sqCfgA q)) 3 0 ∨ bits v 13 8 ≠ bits (s'.reg (sqCfgA q)) 13 8) →
      exec (.sqDisable q v) s = .next (pchErrQ s' 1 false q)) ∧
    (s'.cqEn q = false → 4 ≤ bits v 4 0 → bits v 4 0 ≤ 16 → (bit v 8 = true → s'.boundEnabled q = false) →
      exec (.cqEnable q v) s = .next ((s'.setReg (cqCfgA q) ((v ||| 0x8000_0000) &&& 0x87FF_031F)).setCq q
        { lostSince := (s'.cq q).lostSince })) ∧
    (s'.cqEn q = false → (bits v 4 0 < 4 ∨ 16 < bits v 4 0 ∨ (bit v 8 = true ∧ s'.boundEnabled q = true)) →
      exec (.cqEnable q v) s = .next (pchErrQ s' 1 true q)) ∧
    (s'.cqEn q = true → bits v 4 0 = bits (s'.reg (cqCfgA q)) 4 0 → bit v 8 = s'.evq q → s'.boundBusy q = false → s'.heldOf q = 0 →
      exec (.cqDisable q v) s = .next (s'.setReg (cqCfgA q) (v &&& 0x07FF_031F))) ∧
    (s'.cqEn q = true → (bits v 4 0 ≠ bits (s'.reg (cqCfgA q)) 4 0 ∨ bit v 8 ≠ s'.evq q ∨ s'.boundBusy q = true ∨ s'.heldOf q ≠ 0) →
      exec (.cqDisable q v) s = .next (pchErrQ s' 1 true q)) ∧
    (s.sqEn q = false → (∀ f ∈ s.porch.flights, f.c.sq ≠ q) →
      exec (.sqIdle q) s = .next (s.setSq q { s.sq q with idle := true }))

/-- After the accesses of the host have brought the link to L0, and an engine whose count is read has settled (`x`): a read of an RC
register that is neither a claim nor a window register returns its value, and it reads 0 from then on, the three peaks instead the
present use (R15, R411, R427). A read of the low word of a 64-bit counter returns it and latches the high word, which a read of the high
word then returns (R17, R565). STY_WBARRIER returns the requester's identity (R29). A write to a plain RW register stores the bits it
defines, one to PCH_ERR clears the bits written 1, and one to a register that is off changes nothing (R15, R30). -/
def Obligations.RegistersReadAndWriteByAccessType : Prop :=
  ∀ (s s' x : State) (r : Requester) (a : BitVec 28) (v : Word), s' = hostArrives s r →
    x = settled s' a.toNat →
    (x.regOn a.toNat = true → isRc a.toNat = true → isCounterLow a.toNat = false → claimTarget a.toNat = none →
      isWindow a.toNat = false → a.toNat ≠ iceA 0x04 →
      exec (.rcRegisterRead r a) s = .next (readOut (clearRc x a.toNat) r a.toNat (x.readReg r a.toNat)) ∧
      (a.toNat ≠ 0x0030_002C → a.toNat ≠ 0x0040_0008 → a.toNat ≠ 0x0040_0014 → (clearRc x a.toNat).reg a.toNat = 0) ∧
      (a.toNat = 0x0030_002C → (clearRc x a.toNat).hall.usePeak = x.hall.genUse) ∧
      (a.toNat = 0x0040_0008 → (clearRc x a.toNat).pan.near.peak = x.pan.near.inUse) ∧
      (a.toNat = 0x0040_0014 → (clearRc x a.toNat).pan.far.peak = x.pan.far.inUse)) ∧
    (x.regOn a.toNat = true → isCounterLow a.toNat = true → claimTarget a.toNat = none →
      isWindow a.toNat = false → a.toNat ≠ iceA 0x04 →
      exec (.counterLowRead r a) s = .next (readOut (latchHigh x a.toNat) r a.toNat (low (x.counter a.toNat))) ∧
      (x.regOn (a.toNat + 4) = true → isCounterLow (a.toNat + 4) = false →
        (latchHigh x a.toNat).readReg r (a.toNat + 4) = high (x.counter a.toNat))) ∧
    exec (.writeBarrierRead r) s = .next (readOut s' r 0x40 (low (reqId r))) ∧
    (∀ m, s'.regOn a.toNat = true → rwMask a.toNat = some m → exec (.registerWrite r a v) s = .next (s'.setReg a.toNat (v &&& m))) ∧
    (s'.regOn pchErrA = true → a.toNat = pchErrA →
      exec (.registerWrite r a v) s = .next (s'.setReg pchErrA (s'.reg pchErrA &&& ~~~ v))) ∧
    (s'.regOn a.toNat = false → exec (.registerWrite r a v) s = .next s')

/-- A host access with a byte enable clear, or of neither one nor two DW, is refused: PCH_ERR bit 4 is set, nothing else is written, and
a read is answered Unsupported Request (R13). The host's first read of a BAR0 register with the link in L0 answers as every register
read does and ends the WAKE_N of the Gatehouse (R521). A PCIe error on the host transfer of any of the seven commands that move host
memory ends it with HOST_DMA and sets PCH_ERR.DMA_ERR once its checks pass (R574): FRAME_SEND sends nothing; ENG_LOAD, ENG_WRITE,
ORG_IMAGE_LOAD and FLASH_WRITE leave free data where they wrote; of ENG_READ and TELEM_SNAPSHOT a part of the buffer is written,
and what was done stands (free values, log entry 23, the model's reading). -/
def Obligations.HostAccessesThatFailOrWake : Prop :=
  ∀ (s : State),
    (∀ (s' : State) (write beFull : Bool) (a : BitVec 28) (n : Nat), s' = hostArrives s .host → (beFull = false ∨ (n ≠ 1 ∧ n ≠ 2)) →
      exec (.hostTlpRefused write a n beFull) s =
        .next (if write then pchErr s' 4 else { pchErr s' 4 with out := .ur :: (pchErr s' 4).out })) ∧
    (∀ (x : State) (a : BitVec 28) (y : Word × State), x = settled (hostArrives s .host) a.toNat →
      y = readAccess x .host a.toNat → y.2.pwr.wakeN = true → y.2.porch.link = .l0 →
      exec (.firstHostBar0Read a) s = .next { y.2 with
        pwr := { y.2.pwr with wakeN := false }, out := .read .host a.toNat y.1 :: .wakeN false :: y.2.out }) ∧
    (∀ (c : Cmd) (op : BitVec 16) (x : State), s.takes ⟨op, c, 1, 1⟩ → s.hostReach = true → x = belSignal (leaveL1 (s.begun ⟨op, c, 1, 1⟩)) →
      (op = 0x0413 → s.portObjOk c.num = true → s.portPowered (c.num - 0x10000) = true → firstFail (s.frameSendChecks c) = none →
        exec (.hostTransferError op c) s = .next ((pchErr x 2).answer ⟨op, c, 1, 1⟩ stHostDma)) ∧
      (op = 0x0912 → engOk c.num = true → s.engPowered c.num = true → firstFail (s.engLoadChecks c) = none →
        exec (.hostTransferError op c) s = .next ((pchErr (loadWords c (freeWords x (bits (c.word 7) 13 0)).1
          (freeWords x (bits (c.word 7) 13 0)).2) 2).answer ⟨op, c, 1, 1⟩ stHostDma)) ∧
      (op = 0x0913 → engOk c.num = true → s.engPowered c.num = true → firstFail (s.engCopyChecks c true) = none →
        exec (.hostTransferError op c) s = .next ((pchErr (copyWords c (freeWords x (bits (c.word 8) 14 0)).1
          (freeWords x (bits (c.word 8) 14 0)).2) 2).answer ⟨op, c, 1, 1⟩ stHostDma)) ∧
      (op = 0x0914 → engOk c.num = true → s.engPowered c.num = true → firstFail (s.engCopyChecks c false) = none →
        ∀ p, p = partWritten x (4 * bits (c.word 8) 14 0) →
          exec (.hostTransferError op c) s = .next ((pchErr { p.2 with
            out := .hostBytes (dword (c.word 4) (c.word 5)) ((readWords c p.2).take p.1) :: p.2.out } 2).answer ⟨op, c, 1, 1⟩ stHostDma)) ∧
      (op = 0x0B14 → imageOk c.num = true → firstFail (s.imageLoadChecks c) = none →
        ∀ n bs, n = imageBytes (bits (c.word 6) 1 0) (bits (c.word 7) 11 0) (bits (c.word 7) 27 16) →
          bs = (List.range n).map (fun i => (Config.freeWord (x.free + i)).setWidth 8) →
          exec (.hostTransferError op c) s =
            .next ((pchErr (putImage { x with free := x.free + n } c (imageOf c bs)) 2).answer ⟨op, c, 1, 1⟩ stHostDma)) ∧
      (op = 0x0F10 → c.num = 0 → firstFail (s.telemChecks c) = none → s.pwr.telem = none →
        ∀ p, p = partWritten x (telemBytes c) →
          exec (.hostTransferError op c) s = .next ((pchErr (telemCopy c p.1 p.2) 2).answer ⟨op, c, 1, 1⟩ stHostDma)) ∧
      (op = 0x0F20 → c.num = 0 → firstFail (s.flashWriteChecks c) = none → s.pwr.flashing = none →
        exec (.hostTransferError op c) s =
          .next ((pchErr (scrambleFlash x (c.word 6).toNat (c.word 7).toNat) 2).answer ⟨op, c, 1, 1⟩ stHostDma)))

/-- FLR, hot reset and PERST_N reset the Porch only: its queues, the holding buffer and every register of its block but PCH_ERR go back to
their reset values, and the completions of the commands in flight are discarded; objects, memory and the units keep their state, and
commands in flight stay in flight (R38, R498, R561). After a hot reset and from PERST_N on the link is down. PERST_N high ends the
assertion, and where wake source 3 is enabled it wakes a device that is not in Run (R519). -/
def Obligations.PorchResetsLeaveTheDeviceRunning : Prop :=
  ∀ (s : State) (u : State → State → Prop),
    (u = fun s t => t.objs = s.objs ∧ t.cel = s.cel ∧ t.pan = s.pan ∧ t.hall = s.hall ∧ t.prg = s.prg ∧ t.net = s.net ∧ t.ftb = s.ftb ∧
      t.ice = s.ice ∧ t.hat = s.hat ∧ t.bnd = s.bnd ∧ t.par = s.par ∧ t.dec = s.dec ∧ t.org = s.org ∧ t.enc = s.enc ∧ t.dmb = s.dmb ∧
      t.blv = s.blv) →
    (∀ i ∈ [Instr.flr, .hotReset, .perstNAssert], ∃ t, exec i s = .next t ∧ t.porch.sq = [] ∧ t.porch.cq = [] ∧ t.porch.held = [] ∧
      (∀ a, 0x0010_0000 ≤ a → a < 0x0020_0000 → a ≠ pchErrA → t.reg a = regReset a) ∧
      (∀ f ∈ t.porch.flights, f.discard = true) ∧
      (∀ f ∈ s.porch.flights, (∀ e ∈ s.porch.produced, retires e f = false) → { f with discard := true } ∈ t.porch.flights) ∧ u s t ∧
      (i ≠ .flr → t.porch.link = .down) ∧ (i = .perstNAssert → t.porch.perst = true)) ∧
    (s.porch.perst = true → ∃ t, exec .perstNRelease s = .next t ∧ t.porch.perst = false ∧ u s t ∧
      (s.wakeEnabled 3 = true → s.pwr.wake = none → s.pwr.state ≠ 0 → t.pwr.wake ≠ none))

/-- The link enters an L1 state with source 33, and at once leaves it where 192 entries or more are held (R71, R491); it goes down with
its width and generation 0 and source 33 (R72). It returns to L0 only with PERST_N high; in D0 the held entries are written first, and
after a link-down the link trains anew and every kept interrupt is sent (R71, R72). D3hot keeps PME_En with source 33, asks the host to
wake where a wake-capable entry is held, and holds entries from then on (R73, R568); the return to D0 writes the held entries with the
link in L0 (R75). A write of 1 to PME_Status ends the wake (R73); what is still held asks again (log entry 24, the model's reading). -/
def Obligations.LinkAndPowerStatesOfTheFunction : Prop :=
  ∀ (s : State),
    (∀ l t, s.porch.link ≠ .down →
      t = (if s.porch.link = lowLink l then s else pulse (resignal s { s with porch := { s.porch with link := lowLink l } }) 33) →
      exec (.linkEntersL1 l) s =
        .next (if 192 ≤ t.porch.held.length && !t.porch.d3hot then belSignal (leaveL1 t) else t)) ∧
    (s.porch.link ≠ .down → exec .linkDown s =
      .next (pulse (resignal s { s with porch := { s.porch with width := 0, gen := 0, link := .down } }) 33)) ∧
    (s.porch.perst = false → s.porch.d3hot = false → s.porch.link ≠ .down → exec .linkReturnsL0 s =
      .next (pulse (resignal s (sendUnmasked (writeHeld { s with porch := { s.porch with link := .l0 } }))) 33)) ∧
    (s.porch.perst = false → s.porch.d3hot = false → s.porch.link = .down → exec .linkReturnsL0 s =
      .next (pulse (resignal s (sendUnmasked (sendKept (writeHeld { trainLink s with
        porch := { (trainLink s).porch with link := .l0 } })))) 33)) ∧
    (s.porch.perst = true → exec .linkReturnsL0 s = .next s) ∧
    (∀ e, s.porch.d3hot = false → s.porch.link ≠ .down → exec (.d3hotEntry e) s =
      .next (checkWake (pulse (resignal s { s with porch := { s.porch with d3hot := true, pmeEn := e } }) 33))) ∧
    (s.porch.d3hot = true → s.porch.link ≠ .down → ∃ t, exec .returnToD0 s = .next t ∧ t.porch.d3hot = false ∧ t.porch.link = .l0 ∧
      t.porch.held = [] ∧ t.objs = s.objs) ∧
    (∀ e t, t = { s with porch := { s.porch with pmeEn := e, pmeStatus := false, wakeActive := false, wakeN := false } } →
      exec (.pmeStatusClear e) s = .next (checkWake (if s.porch.wakeN then { t with out := .wakeN false :: t.out } else t)))

/-! ## Objects -/

/-- START of a STOPPED object whose checks pass leaves it STARTING with the START waiting; a decode slot, canvas, encoding or subscription
also reserves, and a bank begins: a slave is RUNNING at once, a master waits for its synthesiser (R65, R241, `bankStart`). START of a
hatch-leg completes with BUSY, or WRONG_STATE where its bank is not STOPPED, and START of a hatch with BANK_OBJECT (R246; of a hatch-leg
log entry 30, the model's reading). -/
def Obligations.StartLeavesTheObjectStarting : Prop :=
  ∀ (s : State) (c : Cmd), c.word 4 = 0 →
    (s.takes ⟨0x0401, c, 1, 1⟩ → s.rangeFourOk c.num = true → s.rangeFourPowered c.num = true → s.hatchLeg c.num = false →
      s.stopped (objKey 4 c.num) = true → (c.num < 8192 → firstFail (s.legChecks c.num) = none) →
      exec (.startLegPort c) s = .next ((s.begun ⟨0x0401, c, 1, 1⟩).toStarting (objKey 4 c.num) c)) ∧
    (s.takes ⟨0x0701, c, 1, 1⟩ → confOk c.num = true → s.confPowered c.num = true → s.stopped (objKey 7 c.num) = true →
      firstFail (s.confChecks c.num) = none →
      exec (.startConference c) s = .next ((s.begun ⟨0x0701, c, 1, 1⟩).toStarting (objKey 7 c.num) c)) ∧
    (s.takes ⟨0x0801, c, 1, 1⟩ → s.bankOk c.num = true → s.bankPowered (c.num - 0x10000) = true →
      s.stopped (objKey 8 c.num) = true →
      exec (.startBank c) s =
        .next (bankStart ((s.begun ⟨0x0801, c, 1, 1⟩).toStarting (objKey 8 c.num) c) (c.num - 0x10000))) ∧
    (s.takes ⟨0x0901, c, 1, 1⟩ → engOk c.num = true → s.engPowered c.num = true → (s.eng c.num).reserved = true →
      s.stopped (objKey 9 c.num) = true →
      exec (.startEngine c) s = .next ((s.begun ⟨0x0901, c, 1, 1⟩).toStarting (objKey 9 c.num) c)) ∧
    (s.takes ⟨0x0A01, c, 1, 1⟩ → slotOk c.num = true → s.slotPowered c.num = true → s.stopped (objKey 0x0A c.num) = true →
      firstFail (s.slotChecks c.num (s.pipeUnits (c.num / 16)) s.freeStore) = none →
      exec (.startSlot c) s = .next (slotReserve ((s.begun ⟨0x0A01, c, 1, 1⟩).toStarting (objKey 0x0A c.num) c) c.num)) ∧
    (s.takes ⟨0x0B01, c, 1, 1⟩ → canvasOk c.num = true → s.canvasPowered c.num = true → s.stopped (objKey 0x0B c.num) = true →
      firstFail (s.canvasChecks c.num) = none →
      exec (.startCanvas c) s = .next (canvasReserve ((s.begun ⟨0x0B01, c, 1, 1⟩).toStarting (objKey 0x0B c.num) c) c.num)) ∧
    (s.takes ⟨0x0C01, c, 1, 1⟩ → encOk c.num = true → s.encPowered c.num = true → s.stopped (objKey 0x0C c.num) = true →
      firstFail (s.encChecks c.num) = none →
      exec (.startEncoding c) s = .next (encReserve ((s.begun ⟨0x0C01, c, 1, 1⟩).toStarting (objKey 0x0C c.num) c) c.num)) ∧
    (s.takes ⟨0x0D01, c, 1, 1⟩ → subOk c.num = true → s.stopped (objKey 0x0D c.num) = true →
      firstFail (s.subChecks c.num) = none →
      exec (.startSubscription c) s = .next (subReserve ((s.begun ⟨0x0D01, c, 1, 1⟩).toStarting (objKey 0x0D c.num) c) c.num)) ∧
    (s.takes ⟨0x0E01, c, 1, 1⟩ → ftbObjOk c.num = true → s.ftbObjPowered c.num = true → s.stopped (objKey 0x0E c.num) = true →
      firstFail (if c.num = 0x10000 then s.ftbChecks else s.linkChecks) = none →
      exec (.startFootbridgeObject c) s = .next ((s.begun ⟨0x0E01, c, 1, 1⟩).toStarting (objKey 0x0E c.num) c)) ∧
    (s.takes ⟨0x0401, c, 1, 1⟩ → c.num < 8192 → s.legPowered c.num = true → s.hatchLeg c.num = true →
      exec (.startLegPort c) s = .next ((s.begun ⟨0x0401, c, 1, 1⟩).answer ⟨0x0401, c, 1, 1⟩
        (if s.legState c.num == .stopped then stBusy else stWrongState))) ∧
    (s.takes ⟨0x0801, c, 1, 1⟩ → c.num < 96 → s.hatchPowered c.num = true → s.stopped (bankKey (c.num / 8)) = true →
      exec (.startBank c) s = .next ((s.begun ⟨0x0801, c, 1, 1⟩).answer ⟨0x0801, c, 1, 1⟩ stBankObject))

/-- STOP of a STOPPED object completes with OK at once and changes nothing else; STOP of a RUNNING object leaves it DRAINING with
the STOP waiting, from which the unit's own drain goes on, with ABORT or without (R65). STOP of a hatch-leg completes with OK where it is
STOPPED, else with BUSY, and STOP of a hatch whose bank is not STARTING with BANK_OBJECT (R246; of a hatch-leg log entry 30, the model's
reading). -/
def Obligations.StopDrainsARunningObject : Prop :=
  ∀ (s : State) (c : Cmd), bits (c.word 4) 31 1 = 0 →
    (s.takes ⟨0x0402, c, 1, 1⟩ → s.rangeFourOk c.num = true → s.rangeFourPowered c.num = true → s.hatchLeg c.num = false →
      (s.stopped (objKey 4 c.num) = true → exec (.stopLegPort c) s = .next ((s.begun ⟨0x0402, c, 1, 1⟩).answer ⟨0x0402, c, 1, 1⟩ stOk)) ∧
      (s.isRunning (objKey 4 c.num) = true → exec (.stopLegPort c) s =
        .next (let t := (s.begun ⟨0x0402, c, 1, 1⟩).toDraining (objKey 4 c.num) c
          if c.num < 8192 then legDrain t c.num (bit (c.word 4) 0) else if c.num = 0x10100 then reachStopped t 4 c.num
          else portDrain t (c.num - 0x10000) (bit (c.word 4) 0)))) ∧
    (s.takes ⟨0x0702, c, 1, 1⟩ → confOk c.num = true → s.confPowered c.num = true →
      (s.stopped (objKey 7 c.num) = true → exec (.stopConference c) s = .next ((s.begun ⟨0x0702, c, 1, 1⟩).answer ⟨0x0702, c, 1, 1⟩ stOk)) ∧
      (s.isRunning (objKey 7 c.num) = true → exec (.stopConference c) s =
        .next (confDrain ((s.begun ⟨0x0702, c, 1, 1⟩).toDraining (objKey 7 c.num) c) c.num (bit (c.word 4) 0)))) ∧
    (s.takes ⟨0x0802, c, 1, 1⟩ → s.bankOk c.num = true → s.bankPowered (c.num - 0x10000) = true →
      (s.stopped (objKey 8 c.num) = true → exec (.stopBank c) s = .next ((s.begun ⟨0x0802, c, 1, 1⟩).answer ⟨0x0802, c, 1, 1⟩ stOk)) ∧
      (s.isRunning (objKey 8 c.num) = true → exec (.stopBank c) s =
        .next (bankDrain ((s.begun ⟨0x0802, c, 1, 1⟩).toDraining (objKey 8 c.num) c) (c.num - 0x10000) (bit (c.word 4) 0)))) ∧
    (s.takes ⟨0x0902, c, 1, 1⟩ → engOk c.num = true → s.engPowered c.num = true → (s.eng c.num).reserved = true →
      (s.stopped (objKey 9 c.num) = true → exec (.stopEngine c) s = .next ((s.begun ⟨0x0902, c, 1, 1⟩).answer ⟨0x0902, c, 1, 1⟩ stOk)) ∧
      (s.isRunning (objKey 9 c.num) = true → exec (.stopEngine c) s =
        .next (engDrain ((s.begun ⟨0x0902, c, 1, 1⟩).toDraining (objKey 9 c.num) c) c.num (bit (c.word 4) 0)))) ∧
    (s.takes ⟨0x0A02, c, 1, 1⟩ → slotOk c.num = true → s.slotPowered c.num = true →
      (s.stopped (objKey 0x0A c.num) = true → exec (.stopSlot c) s = .next ((s.begun ⟨0x0A02, c, 1, 1⟩).answer ⟨0x0A02, c, 1, 1⟩ stOk)) ∧
      (s.isRunning (objKey 0x0A c.num) = true → exec (.stopSlot c) s =
        .next (slotDrain ((s.begun ⟨0x0A02, c, 1, 1⟩).toDraining (objKey 0x0A c.num) c) c.num (bit (c.word 4) 0)))) ∧
    (s.takes ⟨0x0B02, c, 1, 1⟩ → canvasOk c.num = true → s.canvasPowered c.num = true →
      (s.stopped (objKey 0x0B c.num) = true → exec (.stopCanvas c) s = .next ((s.begun ⟨0x0B02, c, 1, 1⟩).answer ⟨0x0B02, c, 1, 1⟩ stOk)) ∧
      (s.isRunning (objKey 0x0B c.num) = true → exec (.stopCanvas c) s =
        .next (canvasDrain ((s.begun ⟨0x0B02, c, 1, 1⟩).toDraining (objKey 0x0B c.num) c) c.num (bit (c.word 4) 0)))) ∧
    (s.takes ⟨0x0C02, c, 1, 1⟩ → encOk c.num = true → s.encPowered c.num = true →
      (s.stopped (objKey 0x0C c.num) = true → exec (.stopEncoding c) s = .next ((s.begun ⟨0x0C02, c, 1, 1⟩).answer ⟨0x0C02, c, 1, 1⟩ stOk)) ∧
      (s.isRunning (objKey 0x0C c.num) = true → exec (.stopEncoding c) s =
        .next (encDrain ((s.begun ⟨0x0C02, c, 1, 1⟩).toDraining (objKey 0x0C c.num) c) c.num (bit (c.word 4) 0)))) ∧
    (s.takes ⟨0x0D02, c, 1, 1⟩ → subOk c.num = true →
      (s.stopped (objKey 0x0D c.num) = true → exec (.stopSubscription c) s = .next ((s.begun ⟨0x0D02, c, 1, 1⟩).answer ⟨0x0D02, c, 1, 1⟩ stOk)) ∧
      (s.isRunning (objKey 0x0D c.num) = true → exec (.stopSubscription c) s =
        .next (subDrain ((s.begun ⟨0x0D02, c, 1, 1⟩).toDraining (objKey 0x0D c.num) c) c.num (bit (c.word 4) 0)))) ∧
    (s.takes ⟨0x0E02, c, 1, 1⟩ → ftbObjOk c.num = true → s.ftbObjPowered c.num = true →
      (s.stopped (objKey 0x0E c.num) = true → exec (.stopFootbridgeObject c) s = .next ((s.begun ⟨0x0E02, c, 1, 1⟩).answer ⟨0x0E02, c, 1, 1⟩ stOk)) ∧
      (s.isRunning (objKey 0x0E c.num) = true → exec (.stopFootbridgeObject c) s =
        .next (let t := (s.begun ⟨0x0E02, c, 1, 1⟩).toDraining (objKey 0x0E c.num) c
          if c.num = 0x10000 then ftbDrain t (bit (c.word 4) 0)
          else if bit (c.word 4) 0 then reachStopped t 0x0E c.num else t))) ∧
    (s.takes ⟨0x0402, c, 1, 1⟩ → c.num < 8192 → s.legPowered c.num = true → s.hatchLeg c.num = true →
      exec (.stopLegPort c) s = .next ((s.begun ⟨0x0402, c, 1, 1⟩).answer ⟨0x0402, c, 1, 1⟩
        (if s.legState c.num == .stopped then stOk else stBusy))) ∧
    (s.takes ⟨0x0802, c, 1, 1⟩ → c.num < 96 → s.hatchPowered c.num = true → s.starting (bankKey (c.num / 8)) = false →
      exec (.stopBank c) s = .next ((s.begun ⟨0x0802, c, 1, 1⟩).answer ⟨0x0802, c, 1, 1⟩ stBankObject))

/-- GET_STATE returns the object's state and the generation of its configuration, of an engine also whether it is reserved, and changes
nothing else; an object whose domain is off reports STOPPED, a hatch or a hatch-leg the state of its bank (R62, R65, R66, R246). -/
def Obligations.GetStateReportsStateAndGeneration : Prop :=
  ∀ (s : State) (c : Cmd), c.word 4 = 0 →
    (s.takes ⟨0x0403, c, 1, 1⟩ → s.rangeFourOk c.num = true → s.hatchLeg c.num = false →
      exec (.getStateLegPort c) s = .next ((s.begun ⟨0x0403, c, 1, 1⟩).answers ⟨0x0403, c, 1, 1⟩ stOk
        (low (if s.rangeFourPowered c.num then objStateNum (s.obj (objKey 4 c.num)).st else 0)) (s.obj (objKey 4 c.num)).gen 0 0)) ∧
    (s.takes ⟨0x0703, c, 1, 1⟩ → confOk c.num = true →
      exec (.getStateConference c) s = .next ((s.begun ⟨0x0703, c, 1, 1⟩).answers ⟨0x0703, c, 1, 1⟩ stOk
        (low (if s.confPowered c.num then objStateNum (s.obj (objKey 7 c.num)).st else 0)) (s.obj (objKey 7 c.num)).gen 0 0)) ∧
    (s.takes ⟨0x0803, c, 1, 1⟩ → c.num < 96 →
      exec (.getStateHatch c) s = .next ((s.begun ⟨0x0803, c, 1, 1⟩).answers ⟨0x0803, c, 1, 1⟩ stOk
        (low (if s.hatchPowered c.num then objStateNum (s.obj (bankKey (c.num / 8))).st else 0)) (s.obj (hatchKey c.num)).gen 0 0)) ∧
    (s.takes ⟨0x0803, c, 1, 1⟩ → s.bankOk c.num = true →
      exec (.getStateHatch c) s = .next ((s.begun ⟨0x0803, c, 1, 1⟩).answers ⟨0x0803, c, 1, 1⟩ stOk
        (low (if s.bankPowered (c.num - 0x10000) then objStateNum (s.obj (objKey 8 c.num)).st else 0)) (s.obj (objKey 8 c.num)).gen 0 0)) ∧
    (s.takes ⟨0x0403, c, 1, 1⟩ → s.hatchLeg c.num = true →
      exec (.getStateLegPort c) s = .next ((s.begun ⟨0x0403, c, 1, 1⟩).answers ⟨0x0403, c, 1, 1⟩ stOk
        (low (if s.legPowered c.num then objStateNum (s.legState c.num) else 0)) (s.obj (legKey c.num)).gen 0 0)) ∧
    (s.takes ⟨0x0903, c, 1, 1⟩ → engOk c.num = true →
      exec (.getStateEngine c) s = .next ((s.begun ⟨0x0903, c, 1, 1⟩).answers ⟨0x0903, c, 1, 1⟩ stOk
        (low (if s.engPowered c.num then objStateNum (s.obj (objKey 9 c.num)).st else 0)) (s.obj (objKey 9 c.num)).gen
        (if (s.eng c.num).reserved then 1 else 0) 0)) ∧
    (s.takes ⟨0x0A03, c, 1, 1⟩ → slotOk c.num = true →
      exec (.getStateSlot c) s = .next ((s.begun ⟨0x0A03, c, 1, 1⟩).answers ⟨0x0A03, c, 1, 1⟩ stOk
        (low (if s.slotPowered c.num then objStateNum (s.obj (objKey 0x0A c.num)).st else 0)) (s.obj (objKey 0x0A c.num)).gen 0 0)) ∧
    (s.takes ⟨0x0B03, c, 1, 1⟩ → canvasOk c.num = true →
      exec (.getStateCanvas c) s = .next ((s.begun ⟨0x0B03, c, 1, 1⟩).answers ⟨0x0B03, c, 1, 1⟩ stOk
        (low (if s.canvasPowered c.num then objStateNum (s.obj (objKey 0x0B c.num)).st else 0)) (s.obj (objKey 0x0B c.num)).gen 0 0)) ∧
    (s.takes ⟨0x0C03, c, 1, 1⟩ → encOk c.num = true →
      exec (.getStateEncoding c) s = .next ((s.begun ⟨0x0C03, c, 1, 1⟩).answers ⟨0x0C03, c, 1, 1⟩ stOk
        (low (if s.encPowered c.num then objStateNum (s.obj (objKey 0x0C c.num)).st else 0)) (s.obj (objKey 0x0C c.num)).gen 0 0)) ∧
    (s.takes ⟨0x0D03, c, 1, 1⟩ → subOk c.num = true →
      exec (.getStateSubscription c) s = .next ((s.begun ⟨0x0D03, c, 1, 1⟩).answers ⟨0x0D03, c, 1, 1⟩ stOk
        (low (objStateNum (s.obj (objKey 0x0D c.num)).st)) (s.obj (objKey 0x0D c.num)).gen 0 0)) ∧
    (s.takes ⟨0x0E03, c, 1, 1⟩ → ftbObjOk c.num = true →
      exec (.getStateFootbridge c) s = .next ((s.begun ⟨0x0E03, c, 1, 1⟩).answers ⟨0x0E03, c, 1, 1⟩ stOk
        (low (if s.ftbObjPowered c.num then objStateNum (s.obj (objKey 0x0E c.num)).st else 0)) (s.obj (objKey 0x0E c.num)).gen 0 0))

/-- Once the Study has what a STARTING object needs, and unless the holding buffer is full, the object is RUNNING and its START completes
with OK, after which the unit begins; if the first failing check of the object names a status, START completes with that status and the
object is STOPPED (R65, R74). Said of every kind of object but banks, which settle at START or at their synthesiser's lock: its
range, its number, its checks and what begins; of a port, the host path and an engine nothing is checked. -/
def Obligations.TheGrantCompletesStart : Prop :=
  ∀ (s : State) (c : Cmd) (waits : Nat → Nat → Prop) (grants : Obj → Nat → Nat → List (Bool × Status) → (State → State) → Prop)
    (refuses : Obj → Nat → Nat → List (Bool × Status) → Prop),
    waits = (fun range num => s.starting (objKey range num) = true ∧ (s.obj (objKey range num)).starter = some c ∧ s.paused = false ∧
      ∀ f ∈ s.porch.flights, f.op = startOp range → f.c = c → f.discard = false) →
    grants = (fun o range num checks begins => waits range num → firstFail checks = none →
      exec (.resourcesGranted o) s = .next (begins ((s.toRunning (objKey range num)).answer ⟨startOp range, c, 1, 1⟩ stOk))) →
    refuses = (fun o range num checks => waits range num → ∀ st, firstFail checks = some st →
      ∃ t, exec (.resourcesGranted o) s = .next t ∧ t.stopped (objKey range num) = true ∧
        t.porch.produced = s.porch.produced ++ [s.completion ⟨startOp range, c, 1, 1⟩ st 0 0 0 0]) →
    (∀ n, grants (.leg n) 4 n (s.legChecks n) (fun t => legBegins t n) ∧ refuses (.leg n) 4 n (s.legChecks n)) ∧
    (∀ n, grants (.port n) 4 (0x10000 + n) [] id) ∧
    grants .hostPath 4 0x10100 [] id ∧
    (∀ n, grants (.conf n) 7 n (s.confChecks n) (fun t => confBegins t n) ∧ refuses (.conf n) 7 n (s.confChecks n)) ∧
    (∀ n, grants (.engine n) 9 n [] (fun t => engStart t n)) ∧
    (∀ n, grants (.slot n) 0x0A n (s.slotGrant n) id ∧ refuses (.slot n) 0x0A n (s.slotGrant n)) ∧
    (∀ n, grants (.canvas n) 0x0B n (s.canvasChecks n) (fun t => canvasBegins t n) ∧ refuses (.canvas n) 0x0B n (s.canvasChecks n)) ∧
    (∀ n, grants (.encoding n) 0x0C n (s.encChecks n) (fun t => encBegins t n) ∧ refuses (.encoding n) 0x0C n (s.encChecks n)) ∧
    (∀ n, grants (.sub n) 0x0D n (s.subChecks n) (fun t => subBegins t n) ∧ refuses (.sub n) 0x0D n (s.subChecks n)) ∧
    (∀ n, grants (.link n) 0x0E n s.linkChecks id ∧ refuses (.link n) 0x0E n s.linkChecks) ∧
    grants .footbridge 0x0E 0x10000 s.ftbChecks id ∧ refuses .footbridge 0x0E 0x10000 s.ftbChecks

/-- An object that reaches STOPPED completes every STOP that waits with OK, in order, and no other object changes (R65). A DRAINING object
takes that way once its work has left, unless the holding buffer is full, each kind through its own end (R74); and where a range bounds
the drain the time-out takes it there too: a leg discards its egress after 1,411,200 ct (R95), a port after 70,560 ct (R84), an engine
after 70,560 ct (R215), a subscription after 7,056,000 ct (R361), and an encoding, whose picture has had no band for a frame period,
codes the rest of its units as skip (R314). -/
def Obligations.DrainingEndsInStopped : Prop :=
  (∀ (s : State) (range num : Nat),
    (∀ f ∈ s.porch.flights, f.discard = false) →
    (reachStopped s range num).stopped (objKey range num) = true ∧
    (reachStopped s range num).porch.produced = s.porch.produced ++
      (s.obj (objKey range num)).stoppers.map (fun c => s.completion ⟨stopOp range, c, 1, 1⟩ stOk 0 0 0 0) ∧
    ∀ k, k ≠ objKey range num → (reachStopped s range num).obj k = s.obj k) ∧
  (∀ (s : State), s.paused = false →
    (∀ n : Fin 8192, s.draining (objKey 4 n) = true → s.legIdle n = true → exec (.drainingEnds (.leg n)) s = .next (legDrained s n)) ∧
    (∀ n : Fin 8, s.draining (objKey 4 (0x10000 + n)) = true → (s.portQueues n).isEmpty = true →
      exec (.drainingEnds (.port n)) s = .next (portDrained s n)) ∧
    (s.draining (objKey 4 0x10100) = true → exec (.drainingEnds .hostPath) s = .next (reachStopped s 4 0x10100)) ∧
    (∀ n : Fin 1024, s.draining (objKey 7 n) = true → s.confIdle n = true → exec (.drainingEnds (.conf n)) s = .next (confStopped s n)) ∧
    (∀ n : Fin 12, s.draining (objKey 8 (0x10000 + n)) = true → exec (.drainingEnds (.bank n)) s = .next (bankStopped s n)) ∧
    (∀ n : Fin 224, s.draining (objKey 9 n) = true → s.engIdle n = true → exec (.drainingEnds (.engine n)) s = .next (engStopped s n 1)) ∧
    (∀ n : Fin 384, s.draining (objKey 0x0A n) = true → (s.slotRun n).cur = none →
      exec (.drainingEnds (.slot n)) s = .next (slotStopped s n)) ∧
    (∀ n : Fin 96, s.draining (objKey 0x0B n) = true → (s.canvas n).frame = none →
      (∀ (e : Nat × Placed), e ∈ s.org.busy → e.2.canvas ≠ n) → exec (.drainingEnds (.canvas n)) s = .next (canvasStopped s n)) ∧
    (∀ n : Fin 96, s.draining (objKey 0x0C n) = true → s.encIdle n = true → (s.encRun n).frame = none →
      exec (.drainingEnds (.encoding n)) s = .next (encStopped s n)) ∧
    (∀ n : Fin 16384, s.draining (objKey 0x0D n) = true → (s.sub n).inFrame = none →
      exec (.drainingEnds (.sub n)) s = .next (reachStopped s 0x0D n)) ∧
    (∀ n : Fin 1024, s.draining (objKey 0x0E n) = true → s.now % 70560 = 0 →
      exec (.drainingEnds (.link n)) s = .next (reachStopped s 0x0E n)) ∧
    (s.draining (objKey 0x0E 0x10000) = true → exec (.drainingEnds .footbridge) s = .next (reachStopped s 0x0E 0x10000))) ∧
  (∀ (s : State),
    (∀ (l : Fin 8192) (t : State), s.draining (objKey 4 l) = true → (s.obj (objKey 4 l)).since + 1411200 ≤ s.cyc →
      t = (State.legQueues l).foldl emptyQueue s →
      exec (.legDrainTimeout l) s = .next (if t.legIdle l then legDrained t l else t)) ∧
    (∀ p : Fin 8, s.draining (objKey 4 (0x10000 + p)) = true → (s.obj (objKey 4 (0x10000 + p))).since + 70560 ≤ s.cyc →
      exec (.portDrainTimeout p) s = .next (portDrained s p)) ∧
    (∀ e : Fin 224, s.draining (objKey 9 e) = true → (s.obj (objKey 9 e)).since + 70560 ≤ s.cyc →
      exec (.engineStopTimeout e) s = .next (engStopped s e 1)) ∧
    (∀ n : Fin 16384, s.commonOn = true → s.draining (objKey 0x0D n) = true → (s.obj (objKey 0x0D n)).since + 7056000 ≤ s.cyc →
      exec (.subscriptionDrainTimeout n) s = .next (subDrain s n true)) ∧
    (∀ n : Fin 96, s.running = true → s.draining (objKey 0x0C n) = true → s.encIdle n = true → (s.encRun n).frame.isSome = true →
      (s.encRun n).lastBand + framePeriod (s.encRun n).rate ≤ s.now →
      ∃ t, exec (.encodeDrainTimeout n) s = .next (encStopped t n)))

/-! ## Ports, legs, the host path and the Footbridge -/

/-- PORT_CONFIG and PORT_ADDR of a STOPPED port hold what their packets say, a MAX_FRAME of 0 standing for 1522, PORT_CONFIG with the
port's latency compensation, and count one generation (R66, R119); PUNT_CFG opens the punt ring of the host path, empty, and counts one
generation (R90). -/
def Obligations.PortCommandsHoldTheirPacket : Prop :=
  ∀ (s : State) (c : Cmd),
    (∀ p, c.num = 0x10000 + p → s.takes ⟨0x0410, c, 1, 1⟩ → s.portObjOk c.num = true → s.portPowered p = true →
      firstFail (s.portConfigChecks c) = none →
      exec (.portConfig c) s = .next (s.after ⟨0x0410, c, 1, 1⟩ fun t => bumpGen (loadComp (t.setNetPort p { t.netPort p with
        cfg := some { fec := bits (c.word 4) 3 0,
                      maxFrame := if bits (c.word 4) 31 16 = 0 then 1522 else bits (c.word 4) 31 16,
                      mac := bits (c.word 5) 15 0 * 2 ^ 32 + (c.word 6).toNat, untagged := bit (c.word 7) 0,
                      vids := ((vidHalves c).map fun v => v.toNat).filter fun v => v != 0 } }) p
        (portLatency (s.portSpeed p) (bits (c.word 4) 3 0)).1 (portLatency (s.portSpeed p) (bits (c.word 4) 3 0)).2) (portKey p))) ∧
    (∀ p, c.num = 0x10000 + p → s.takes ⟨0x0411, c, 1, 1⟩ → s.portObjOk c.num = true → s.portPowered p = true →
      firstFail (s.portAddrChecks c) = none →
      exec (.portAddr c) s = .next (s.after ⟨0x0411, c, 1, 1⟩ fun t => bumpGen (t.setNetPort p { t.netPort p with
        addrs := if bit (c.word 4) 31 then tput (t.netPort p).addrs (bits (c.word 4) 3 0)
              { ip := ipOf (bit (c.word 4) 8) (c.word 5) (c.word 6) (c.word 7) (c.word 8), vid := bits (c.word 9) 11 0,
                hop := macOf (c.word 10) (c.word 11) }
            else tdel (t.netPort p).addrs (bits (c.word 4) 3 0) }) (portKey p))) ∧
    (c.num = 0x10100 → s.takes ⟨0x0412, c, 1, 1⟩ → firstFail (s.puntCfgChecks c) = none →
      exec (.puntCfg c) s = .next (s.after ⟨0x0412, c, 1, 1⟩ fun t => bumpGen { t with net := { t.net with
        punt := { on := true, base := dword (c.word 4) (c.word 5), size := bits (c.word 6) 3 0 } } } hostPathKey))

/-- FRAME_SEND with the host in reach takes the frame from host memory and, where the Hall admits its item, queues it on its port, on
queue 0 if it carries PTP and on queue 4 if not, padded to 60 bytes, and completes with OK. A write of NET_PUNT_HEAD moves the head of
the punt ring while COMMON is on and is discarded while it is off (R30, R90). A port's link comes up only while the port is RUNNING;
PORT_LINK and source 128 + p report either change, and a link that goes down drops its port's packets (R374, R491). A frame that arrives
on an up link of a RUNNING or DRAINING port counts its FEC codewords and itself and is parsed (R87, R124); one whose FCS is wrong, that is
too long, or that is MAC control goes no further than its counter. -/
def Obligations.FramesAndLinksOfPorts : Prop :=
  ∀ (s : State),
    (∀ (c : Cmd) (bytes : List Byte) (p : Nat) (t : State) (ok : Bool), c.num = 0x10000 + p → s.takes ⟨0x0413, c, 1, 1⟩ →
      s.portObjOk c.num = true → s.portPowered p = true → firstFail (s.frameSendChecks c) = none → s.hostReach = true →
      hallWork (belSignal (leaveL1 (s.begun ⟨0x0413, c, 1, 1⟩))) (portFlow p) 8 = (ok, t) →
      exec (.frameSend c bytes) s = .next (finish (if ok then sendPort t p
        (if ptpFrame (bytes.take (bits (c.word 6) 13 0)) then 0 else 4) (Nat.max 60 (bits (c.word 6) 13 0))
        { tstamp := if bit (c.word 6) 16 then some c.tag else none,
          body := 1 :: (bytes.take (bits (c.word 6) 13 0)).map fun b => b.toNat } else t) 0x0413 c stOk)) ∧
    (∀ (v : Word) (t : State), t = hostArrives s .host →
      (t.commonOn = true → exec (.puntHeadWrite v) s = .next (writePuntHead t v) ∧
        (writePuntHead t v).net.punt.head = bits v 11 0 % 2 ^ t.net.punt.size) ∧
      (t.commonOn = false → exec (.puntHeadWrite v) s = .next t)) ∧
    (∀ p : Fin 8, s.isRunning (portKey p) = true → (s.netPort p).linkUp = false → s.running = true →
      exec (.portLinkUp p) s =
        .next (pulse (event (s.setNetPort p { s.netPort p with linkUp := true, fecLock := true, blockLock := true })
          0x0416 (low (0x10000 + p)) 1 0 0 0) (128 + p))) ∧
    (∀ p : Fin 8, s.isRunning (portKey p) = false → exec (.portLinkUp p) s = .next s) ∧
    (∀ p : Fin 8, (s.netPort p).linkUp = true →
      exec (.portLinkDown p) s =
        .next (pulse (event (dropPortQueues (s.setNetPort p { s.netPort p with linkUp := false, fecLock := false, blockLock := false }) p)
          0x0416 (low (0x10000 + p)) 0 0 0 0) (128 + p))) ∧
    (∀ (p : Fin 8) (f : Frame) (t : State), s.working (portKey p) = true → (s.netPort p).linkUp = true → s.running = true →
      t = ((countFec s p f).bump64 (netPortA p 0x10) 1).bump64 (netPortA p 0x18) f.len →
      exec (.frameReceived p f) s = .next (parse t p f) ∧
      (f.fcsOk = false → parse t p f = t.bump (netPortA p 0x30) 1) ∧
      (f.fcsOk = true → (t.portCfg p).maxFrame < f.len → parse t p f = t.bump (netPortA p 0x3C) 1) ∧
      (f.fcsOk = true → f.len ≤ (t.portCfg p).maxFrame → f.ethertype = 0x8808 → parse t p f = t.bump (netPortA p 0x48) 1))

/-- LEG_CONFIG, LEG_ICE_CRED, LEG_STREAM and LEG_BWE of a STOPPED leg hold what their packets say from then on and count one
generation (R66, R105, R107, R119); LEG_STATS reports the bandwidth estimate, RATE_START of a STOPPED leg, and a stream's packets
received, packets lost and depth, and changes nothing else. -/
def Obligations.LegCommandsHoldTheirPacket : Prop :=
  ∀ (s : State) (c : Cmd), legOk c.num = true → s.legPowered c.num = true →
    (s.takes ⟨0x0420, c, 1, 1⟩ → firstFail (s.legConfigChecks c) = none →
      exec (.legConfig c) s = .next (s.after ⟨0x0420, c, 1, 1⟩ fun t => bumpGen (t.setLegSet c.num { t.legSet c.num with
        cfg := some
          { conf := bits (c.word 4) 9 0, port := bits (c.word 5) 2 0, addr := bits (c.word 5) 7 4, udp := bits (c.word 5) 31 16,
            static := bit (c.word 6) 0, rejoin := bit (c.word 6) 1, ccfb := bit (c.word 6) 2, nack := bit (c.word 6) 3,
            consent := if c.word 7 = 0 then 2116800000 else (c.word 7).toNat,
            silence := if c.word 8 = 0 then 705600000 else (c.word 8).toNat,
            remote := c.word 9 ++ c.word 10 ++ c.word 11 ++ c.word 12, remoteUdp := bits (c.word 13) 15 0,
            levelId := bits (c.word 14) 7 0, ddId := bits (c.word 14) 15 8,
            rtcp := if c.word 15 = 0 then 70560000 else (c.word 15).toNat } }) (legKey c.num))) ∧
    (s.takes ⟨0x0421, c, 3, 3⟩ → firstFail (s.legIceCredChecks c) = none →
      exec (.legIceCred c) s = .next (s.after ⟨0x0421, c, 3, 3⟩ fun t => bumpGen (t.setLegSet c.num { t.legSet c.num with
        cred := some { lfrag := c.bytes 5 (bits (c.word 4) 5 0), rfrag := c.bytes 13 (bits (c.word 4) 13 8),
                       pwd := c.bytes 21 (bits (c.word 4) 22 16) } }) (legKey c.num))) ∧
    (s.takes ⟨0x0422, c, 1, 1⟩ → firstFail (s.legStreamChecks c) = none →
      exec (.legStream c) s = .next (s.after ⟨0x0422, c, 1, 1⟩ fun t => bumpGen (t.setLegSet c.num { t.legSet c.num with
        streams := if bit (c.word 4) 31 then tput (t.legSet c.num).streams (bits (c.word 4) 2 0) (streamOf c)
          else tdel (t.legSet c.num).streams (bits (c.word 4) 2 0) }) (legKey c.num))) ∧
    (s.takes ⟨0x0423, c, 1, 1⟩ → firstFail (s.legBweChecks c) = none →
      exec (.legBwe c) s = .next (s.after ⟨0x0423, c, 1, 1⟩ fun t => bumpGen (t.setLegSet c.num { t.legSet c.num with
        bwe := [c.word 4, c.word 5, c.word 6, c.word 7, c.word 8, c.word 9, c.word 10, c.word 11, c.word 12, c.word 13, c.word 14,
                c.word 15] }) (legKey c.num))) ∧
    (s.takes ⟨0x0424, c, 1, 1⟩ → bits (c.word 4) 31 3 = 0 →
      exec (.legStats c) s = .next ((s.begun ⟨0x0424, c, 1, 1⟩).answers ⟨0x0424, c, 1, 1⟩ stOk
        (low (if s.stopped (legKey c.num) then (s.legSet c.num).params.rateStart else s.estimate c.num))
        (low (s.stream c.num (bits (c.word 4) 2 0)).received) (low (s.stream c.num (bits (c.word 4) 2 0)).lost)
        (low (s.stream c.num (bits (c.word 4) 2 0)).depth)))

/-- While the device is in Run: a binding request that names no leg is counted and punted, and LEG_UNKNOWN_PEER may report it; one that
does not authenticate is counted only; a valid one moves its leg's connection and is answered (R93, R94). A served TIMEOUT of an ACTIVE
leg's flow makes the leg DEPARTED with LEG_DEPARTED where no consent has come for CONSENT, of a leg that is not static (cause 1), or no
media for SILENCE, unless that is 0xFFFF_FFFF (cause 2) (R96). -/
def Obligations.ConnectivityOfLegs : Prop :=
  ∀ (s : State), s.running = true →
    (∀ (q : Stun) l, s.stunLeg q = some l → q.integrity = true → q.fingerprint = true →
      exec (.stunBindingRequest q) s = .next (stunAnswer (stunMoves s l q) l q)) ∧
    (∀ (q : Stun) l, s.stunLeg q = some l → (q.integrity = false ∨ q.fingerprint = false) →
      exec (.stunBindingRequest q) s = .next (s.bump (pktA 0x04) 1)) ∧
    (∀ (q : Stun) b t, s.stunLeg q = none →
      punt (s.bump (pktA 0x08) 1) q.port q.len 7 noLeg (q.stamp.setWidth 32) none q.data q.puntFail = (b, t) →
      exec (.stunBindingRequest q) s = .next (unknownPeer t q b)) ∧
    (∀ (l : Fin 8192) (g : LegCfg), s.timeoutServed (legFlow l) = true → (s.legSet l).cfg = some g → (s.legRun l).conn = .active →
      (g.static = false → (s.legRun l).consentAt + g.consent ≤ s.now →
        exec (.consentExpiry l) s = .next (event (s.setLegRun l { s.legRun l with
          conn := .departed, cause := 1, rtcpDue := none, ccfbDue := none }) 0x0412 (low l) 1 0 0 0)) ∧
      (g.silence ≠ 0xFFFF_FFFF → (s.legRun l).mediaAt + g.silence ≤ s.now →
        exec (.silenceExpiry l) s = .next (event (s.setLegRun l { s.legRun l with
          conn := .departed, cause := 2, rtcpDue := none, ccfbDue := none }) 0x0412 (low l) 2 0 0 0)))

/-- While the device is in Run: a packet of an ACTIVE leg restarts its silence time and is counted for its stream; it is committed to that
stream's jitter buffer, a repair to the buffer of the stream it repairs; one of an unknown SSRC is reported, and one of a leg that is
not ACTIVE is counted only (R96, R98, R101). A served TIMEOUT of the leg's flow plays out what is due of an audio or a video stream
(R102-R104). RTCP of an ACTIVE leg is taken, of another counted (R99). At its interval, served by a TIMEOUT, each stream of the leg
is reported and the next interval drawn; RFC 8888 feedback goes out every 3,528,000 ct where LEG_CONFIG has it (R99). -/
def Obligations.MediaOfLegs : Prop :=
  ∀ (s : State), s.running = true →
    (∀ (l : Fin 8192) (k : Rtp) (t : State), s.live (legKey l) = true → (s.legRun l).conn = .active → t = heardAt s l k.stamp.toNat →
      (∀ i g, s.recvStream l k.ssrc = some (i, g) → g.kind ≠ 2 → exec (.jitterBufferCommit l k) s =
        .next (commitTo (t.setStream l i { t.stream l i with received := (t.stream l i).received + 1 }) l i g k k.seq.toNat)) ∧
      (∀ i g r, s.recvStream l k.ssrc = some (i, g) → g.kind = 2 → tfind (s.legSet l).streams g.rtxOf = some r → r.send = false →
        r.kind ≠ 2 → exec (.jitterBufferCommit l k) s =
          .next (commitTo (t.setStream l i { t.stream l i with received := (t.stream l i).received + 1 }) l g.rtxOf r k k.osn.toNat)) ∧
      (s.recvStream l k.ssrc = none → exec (.jitterBufferCommit l k) s = .next (unknownSsrc t l k.ssrc))) ∧
    (∀ (l : Fin 8192) (k : Rtp), s.live (legKey l) = true → (s.legRun l).conn ≠ .active →
      exec (.jitterBufferCommit l k) s = .next (s.bump (pktA 0x14) 1)) ∧
    (∀ (l : Fin 8192) (i : Fin 8) g, tfind (s.legSet l).streams i = some g → s.live (legKey l) = true → g.send = false →
      s.timeoutServed (legFlow l) = true →
      (g.kind = 0 → exec (.audioPlayoutDeadline l i) s = .next (playOut s l i g)) ∧
      (g.kind = 1 → exec (.videoPlayoutDeadline l i) s = .next (playVideo s l i))) ∧
    (∀ (l : Fin 8192) (stamp : Dword) (k : Rtcp), s.live (legKey l) = true →
      exec (.rtcpReceived l stamp k) s =
        .next (if (s.legRun l).conn = .active then rtcpPacket (heardAt s l stamp.toNat) l k stamp.toNat else s.bump (pktA 0x14) 1)) ∧
    (∀ (l : Fin 8192) g t, (s.legSet l).cfg = some g → s.conn l = .active →
      ((s.legRun l).rtcpDue = some t → t ≤ s.now → s.timeoutServed (legFlow l) = true → ∃ u, exec (.rtcpInterval l) s = .next u ∧
        u = rtcpReports s l g ∧ (u.legRun l).rtcpDue.isSome = true) ∧
      ((s.legRun l).ccfbDue = some t → t ≤ s.now → g.ccfb = true → ∃ u, exec (.ccfbInterval l) s = .next u ∧
        (u.legRun l).ccfbDue = some (t + 3528000)))

/-- FTB_CONFIG of the STOPPED Footbridge and FTB_LINK of a STOPPED link hold what their packets say and count one generation (R66, R119).
A beacon is sent while the Footbridge runs, unless the Bellboard holds a double fault. A beacon of the bridge reaches its peer where it
authenticates, is counted as a failure where it does not, and under the device's own CASCADE_ID counts as a conflict where it is another
device's; one of another bridge or version is not looked at (R108-R112). A peer without a beacon for 2,116,800 ct departs with
PEER_DEPARTED and its source (R110, R491). A MIX or LAYER frame to this device that authenticates is held for its block, or forwarded as
its peer's packet, where its peer is ready, and dropped where not; one that does not authenticate is counted (R113, R114). -/
def Obligations.FootbridgeCommandsAndFrames : Prop :=
  ∀ (s : State),
    (∀ (c : Cmd), s.takes ⟨0x0E10, c, 1, 1⟩ → c.num = 0x10000 → s.ftbPowered = true → firstFail (s.ftbConfigChecks c) = none →
      exec (.ftbConfig c) s = .next (s.after ⟨0x0E10, c, 1, 1⟩ fun t => bumpGen { t with ftb := { t.ftb with seq := 0, cfg := (some
        { vid := bits (c.word 4) 11 0, port := bits (c.word 4) 14 12, bridge := bits (c.word 5) 15 0, keyBase := bits (c.word 6) 13 0,
          epoch := c.word 7, mixDelay := if bits (c.word 8) 3 0 = 0 then 2 else bits (c.word 8) 3 0,
          da := if macOf (c.word 9) (c.word 10) = 0 then 0x0300_0000_F800 else macOf (c.word 9) (c.word 10) }) } } ftbKey)) ∧
    (∀ (c : Cmd), s.takes ⟨0x0E11, c, 1, 1⟩ → c.num < 1024 → firstFail (s.ftbLinkChecks c) = none →
      exec (.ftbLink c) s = .next (s.after ⟨0x0E11, c, 1, 1⟩ fun t => bumpGen { t with ftb := { t.ftb with links := (tput t.ftb.links c.num
          { ccid := bits (c.word 4) 15 0, mask := bits (c.word 5) 15 0, mix := bit (c.word 6) 0, layers := bit (c.word 6) 1 }) } }
        (linkKey c.num))) ∧
    (∀ g, s.ftb.cfg = some g → s.isRunning ftbKey = true → s.running = true →
      (s.bell.double = false → exec .beaconSend s = .next (sendBeacon s g)) ∧
      (∀ b : Beacon, b.version = 1 → b.bridge.toNat = g.bridge →
        (b.auth = true → b.src.val ≠ s.cascadeId → exec (.beaconReceived b) s = .next (peerBeacon s g b)) ∧
        (b.auth = true → b.src.val = s.cascadeId → exec (.beaconReceived b) s =
          .next (if b.uid = Config.deviceUid then s.bump (ftbA 0x0C) 1 else idConflict (s.bump (ftbA 0x0C) 1) b)) ∧
        (b.auth = false → exec (.beaconReceived b) s = .next (s.bump (ftbPeerA b.src.val 0x0C) 1))) ∧
      (∀ b : Beacon, (b.version ≠ 1 ∨ b.bridge.toNat ≠ g.bridge) → exec (.beaconReceived b) s = .next s)) ∧
    (∀ p : Fin 16, s.isRunning ftbKey = true → (s.peer p).present = true → (s.peer p).last + 2116800 ≤ s.now →
      exec (.peerBeaconTimeout p) s = .next (pulse (event (s.setPeer p { s.peer p with present := false, sync := false, desyncSaid := false })
        0x0E11 (low p) 0 0 0 0) (176 + p))) ∧
    (∀ m : MixFrame, s.fromPeer m.version m.bridge m.src m.dst = true →
      exec (.mixFrameReceived m) s = .next (if !m.auth then s.bump (ftbPeerA m.src.val 0x0C) 1
        else if s.peerReady m.src.val then holdMix s m else s)) ∧
    (∀ m : LayerFrame, s.fromPeer m.version m.bridge m.src m.dst = true → s.commonOn = true →
      exec (.layerFrameReceived m) s = .next (if !m.auth then s.bump (ftbPeerA m.src.val 0x0C) 1
        else if s.peerReady m.src.val
          then clonePacket s { m.pkt with kind := 2, src := ⟨m.src.val, by omega⟩, index := m.srcLeg, layerByte := m.layer } else s))

/-! ## The Icehouse -/

/-- With the window free: KEY_WRITE puts the new key in the slot at the next generation, keeps a receive slot's previous key and answers
with the generation; KEY_ERASE ends the jobs that name the slot and empties it at the next generation, its index state standing; KEY_QUERY
reports generation, suite, presence and how many associations are exhausted and warned; KEY_CASCADE with its legs and the Footbridge
STOPPED lends the block, and erases all of it when it comes back; KEY_ALARM_CLEAR ends the alarm once no cause is left, and ends with
ALARM until then (R133-R138, R149-R152). While another holds the window such a command waits; after 1,411,200 ct it completes with LOCKED
(R146). -/
def Obligations.KeyCommandsRunInTheFreeWindow : Prop :=
  ∀ (s : State) (c : Cmd),
    (∀ m, s.takes ⟨0x0510, c, 2, 2⟩ → c.num < 16384 → s.dom 72 = true → firstFail (s.keyWriteChecks c) = none → s.ice.lock = none →
      m = keyMat (bits (c.word 4) 1 0) (c.bytes 6 32) (c.bytes 14 12) → s.sameKey c.num m = false → s.ice.alarmed = false →
      (bits (c.word 4) 31 16 = 0 ∨ bits (c.word 4) 31 16 = (s.slot c.num).gen) →
      ∃ t, exec (.keyWrite c) s = .next t ∧ (t.slot c.num).mat = some m ∧ (t.slot c.num).gen = nextGen (s.slot c.num).gen ∧
        (t.slot c.num).old = (if s.recvSlot c.num then (s.slot c.num).mat.map (fun p => (p, s.cyc)) else none) ∧
        (∀ n, n ≠ c.num → t.slot n = s.slot n) ∧
        t.porch.produced = s.porch.produced ++ [s.completion ⟨0x0510, c, 2, 2⟩ stOk (low (nextGen (s.slot c.num).gen)) 0 0 0]) ∧
    (∀ e, s.takes ⟨0x0511, c, 1, 1⟩ → c.num < 16384 → s.dom 72 = true → bits (c.word 4) 15 0 = 0 → s.ice.lock = none →
      (bits (c.word 4) 31 16 = 0 ∨ bits (c.word 4) 31 16 = (s.slot c.num).gen) →
      e = (eraseSlot (s.begun ⟨0x0511, c, 1, 1⟩) c.num).2 →
      exec (.keyErase c) s = .next (complete e 0x0511 c stOk (low (e.slot c.num).gen) (low (s.jobsOn fun m => m == c.num).length) 0 0) ∧
      e.slot c.num = { s.slot c.num with mat := none, old := none, gen := nextGen (s.slot c.num).gen } ∧
      e.jobsOn (fun m => m == c.num) = [] ∧ ∀ n, n ≠ c.num → e.slot n = s.slot n) ∧
    (∀ k, k = s.slot c.num → s.takes ⟨0x0512, c, 1, 1⟩ → c.num < 16384 → s.ice.lock = none →
      exec (.keyQuery c) s = .next ((s.begun ⟨0x0512, c, 1, 1⟩).answers ⟨0x0512, c, 1, 1⟩ stOk
        (low (k.gen + (match k.mat with | some m => m.suite * 2 ^ 16 + 2 ^ 18 | none => 0) + (if k.old.isSome then 2 ^ 19 else 0)))
        (low (k.sas.filter (·.exhausted)).length) (low (k.sas.filter (·.warned)).length) 0)) ∧
    (s.takes ⟨0x0513, c, 1, 1⟩ → c.num = 0 → s.dom 72 = true → bits (c.word 4) 31 1 = 0 → s.ice.lock = none →
      (∀ i, i < 17 → s.legState (8175 + i) = .stopped) → s.stopped ftbKey = true →
      (bit (c.word 4) 0 = true → s.ice.lent = false →
        exec (.keyCascade c) s = .next (s.after ⟨0x0513, c, 1, 1⟩ fun t => { t with ice := { t.ice with lent := true } })) ∧
      (bit (c.word 4) 0 = false → s.ice.lent = true →
        ∃ t, exec (.keyCascade c) s = .next t ∧ t.ice.lent = false ∧ ∀ n, 16350 ≤ n → n < 16384 → (t.slot n).mat = none)) ∧
    (s.takes ⟨0x0514, c, 1, 1⟩ → c.num = 0 → s.dom 72 = true → s.ice.lock = none → s.ice.alarmed = true →
      (s.gate.alarm = 0 → exec (.keyAlarmClear c) s = .next (s.after ⟨0x0514, c, 1, 1⟩ fun t =>
        { t with ice := { t.ice with alarmed := false, entropy := true } })) ∧
      (s.gate.alarm ≠ 0 → exec (.keyAlarmClear c) s = .next ((s.begun ⟨0x0514, c, 1, 1⟩).answer ⟨0x0514, c, 1, 1⟩ stAlarm))) ∧
    (∀ o, s.takes ⟨0x0511, c, 1, 1⟩ → c.num < 16384 → s.dom 72 = true → bits (c.word 4) 15 0 = 0 → s.ice.lock = some o →
      ∃ t, exec (.keyErase c) s = .next t ∧ t.ice = { s.ice with waiting := s.ice.waiting ++ [(0x0511, c, s.cyc)] } ∧
        t.porch = (s.begun ⟨0x0511, c, 1, 1⟩).porch) ∧
    (∀ op t, s.ice.waiting = [(op, c, t)] → t + 1411200 ≤ s.cyc →
      exec (.keyWindowTimeout op c) s = .next (finish { s with ice := { s.ice with waiting := [] } } op c stLocked))

/-- The window belongs to one requester at a time: while the Icehouse is on, a claim of the free window takes it and any other claim is
counted as denied; the owner's release, or 705,600 ct without an access, frees it, the latter with ICE_LOCK_EXPIRED and source 112
(R143, R145). Its registers answer the owner alone, key words reading 0; ICE_LOCK names the owner to all (R143, R144, R155). Through it
the owner writes a key that the slot may hold, while no alarm stands, or erases a slot, with the status and the new generation in its
registers; and GO of a direct job, while none runs, puts a class-3 job in the queue with BUSY set (R147, R155). -/
def Obligations.TheWindowHasOneOwner : Prop :=
  ∀ (s u t : State) (r : Requester) (v : Word), u = hostArrives s r → u.iceOn = true → t = touchWindow u r →
    (u.ice.lock = none →
      exec (.iceLockClaim r) s = .next { u with ice := { u.ice with lock := some (reqId r, u.cyc), claimed := some u.cyc } }) ∧
    (∀ o, u.ice.lock = some o → u.ownsWindow r = false → exec (.iceLockClaim r) s = .next (u.bump (iceA 0x08) 1)) ∧
    (u.ownsWindow r = true → exec (.iceLockRelease r) s = .next (windowFree t)) ∧
    (∀ o a, s.ice.lock = some (o, a) → a + 705600 ≤ s.cyc → s.ice.waiting = [] →
      ∃ w, exec .iceLockExpired s = .next w ∧ w.ice.lock = none ∧ ∃ e ∈ w.porch.produced, e.evt = true ∧ e.code = 0x0514 ∧ e.r0 = low o) ∧
    (∀ n m, n = bits v 27 14 → m = keyMat (bits v 29 28) (t.regBytes (iceA 0x1_0000) 8) (t.regBytes (iceA 0x1_0020) 3) →
      u.ownsWindow r = true → t.suiteOk n (bits v 29 28) = true →
      unusedKey (bits v 29 28) (t.regBytes (iceA 0x1_0000) 8) (t.regBytes (iceA 0x1_0020) 3) = false → t.sameKey n m = false →
      t.ice.alarmed = false →
      ∃ w, exec (.windowKeyWrite r v) s = .next w ∧ (w.slot n).mat = some m ∧ (w.slot n).gen = nextGen (s.slot n).gen ∧
        w.reg (iceA 0x1_0034) = stOk.setWidth 32 ∧ w.reg (iceA 0x1_0038) = low (nextGen (s.slot n).gen)) ∧
    (∀ n, n = bits v 27 14 → u.ownsWindow r = true →
      ∃ w, exec (.windowKeyErase r v) s = .next w ∧ (w.slot n).mat = none ∧ (w.slot n).gen = nextGen (s.slot n).gen ∧
        w.reg (iceA 0x1_0034) = stOk.setWidth 32 ∧ w.reg (iceA 0x1_0038) = low (nextGen (s.slot n).gen)) ∧
    (u.ownsWindow r = true → u.ice.direct = false →
      ∃ w j, exec (.directJobGo r v) s = .next w ∧ w.ice.direct = true ∧ w.ice.queue = u.ice.queue ++ [j] ∧ j.kind = .direct ∧
        j.cls.val = 3 ∧ j.slot.val = bits v 29 16 ∧ w.reg (iceA 0x1_0050) = v ||| 0x8000_0000 ∧
        bit (w.reg (iceA 0x1_0054)) 31 = true) ∧
    (exec (.iceWindowRead r (BitVec.ofNat 28 (iceA 0x04))) s = .next (readOut t r (iceA 0x04) u.iceLock)) ∧
    (∀ a : BitVec 28, isWindow a.toNat = true →
      (u.ownsWindow r = true → exec (.iceWindowRead r a) s =
        .next (readOut t r a.toNat (if windowReadable a.toNat then u.reg a.toNat else 0))) ∧
      (u.ownsWindow r = false → exec (.iceWindowRead r a) s = .next (readOut u r a.toNat 0)))

/-- In Run, with domain 72 on: an idle crypto core takes the job that the classes admit next, with the slot's key and generation of that
moment; a packet job on a slot without a key is dropped and counted (R130, R132, R136). A packet job that completes counts and is an item
of its flow; a send that carries a frame of the Footbridge queues it on its port, and a receive job's result is judged by replay window,
authentication and key (R137, R142). A direct job that completes writes its result to the window (R147). A previous key is erased a second
after its rewrite (R137). A tamper alarm in Run latches its cause, erases every slot, and leaves no job (R148, R149). -/
def Obligations.CryptoJobsAndAlarms : Prop :=
  ∀ (s : State),
    (∀ (core : Fin 16) (jobs q : List JobReq) (r : JobReq), s.running = true → s.dom 72 = true → tfind s.ice.cores core = none →
      q = s.ice.queue ++ jobs.filter (fun r => r.kind != .direct && r.kind != .ftbSend) → pickJob s.ice.since3 q = some r →
      exec (.iceJobDispatch core jobs) s = .next (dispatchJob { s with ice := { s.ice with
        queue := q.erase r, since3 := if r.cls.val = 3 then 0 else s.ice.since3 + 1 } } core r) ∧
      (∀ m, sends r.kind = false → r.kind ≠ .direct → (s.slot r.slot).mat = some m →
        ∃ t j, exec (.iceJobDispatch core jobs) s = .next t ∧ tfind t.ice.cores core = some j ∧ j.req = r ∧ j.mat = m ∧
          j.gen = (s.slot r.slot).gen) ∧
      (r.kind ≠ .direct → (s.slot r.slot).mat = none → exec (.iceJobDispatch core jobs) s =
        .next (({ s with ice := { s.ice with
          queue := q.erase r, since3 := if r.cls.val = 3 then 0 else s.ice.since3 + 1 } }).bump (iceA 0x18) 1))) ∧
    (∀ (core : Fin 16) (x : AuthResult) (j : IceJob) (t : State), tfind s.ice.cores core = some j →
      t = ({ s with ice := { s.ice with cores := tdel s.ice.cores core } }).bump64 (iceA 0x28) 1 →
      (j.req.kind = .direct → exec (.iceJobComplete core x) s = .next (endDirectJob t j)) ∧
      (j.req.kind ≠ .direct → sends j.req.kind = true → j.req.frame = none →
        exec (.iceJobComplete core x) s = .next (hallWork t (jobFlow j.req) 6).2) ∧
      (∀ f, j.req.kind ≠ .direct → sends j.req.kind = true → j.req.frame = some f →
        exec (.iceJobComplete core x) s = .next (sendPacket (hallWork t (jobFlow j.req) 6).2 f.queue f.bytes
          { counted := f.bytes, body := f.kind :: (j.aad.map BitVec.toNat ++ f.body), net := f.net })) ∧
      (j.req.kind ≠ .direct → sends j.req.kind = false →
        exec (.iceJobComplete core x) s = .next (endReceive (hallWork t (jobFlow j.req) 6).2 j x))) ∧
    (∀ (n : Fin 16384) m t, (s.slot n).old = some (m, t) → t + ctPerSec ≤ s.cyc →
      exec (.oldKeyExpiry n) s = .next (s.setSlot n { s.slot n with old := none })) ∧
    (∀ cause : Fin 5, s.running = true → s.pwr.entering = none → s.dom 72 = true → ∃ t, exec (.iceAlarm cause) s = .next t ∧
      t.gate.alarm.getLsbD cause = true ∧ t.ice.alarmed = true ∧ t.ice.cores = [] ∧ t.ice.queue = [] ∧
      ∀ n, n < 16384 → (t.slot n).mat = none)

/-! ## The Bandstand -/

/-- CONF_CONFIG and CONF_FORMAT of a STOPPED conference hold what their packets say and count one generation (R66, R157, R158).
ROUTE_LOAD writes its entries to the bank that is not active up to the first one refused, and answers with their number and OK, the
refusal where none was written, or OK_PARTIAL. ROUTE_COPY copies the active bank to the other. ROUTE_SWAP of a RUNNING conference arms the
swap for its block and answers with that block and the bank that becomes active, of a STOPPED one it swaps at once (R174, R175, R184).
CONF_STATS reports the legs selected and, of a conference that mixes, pinned, and the concealed, late and clipped counts (R182).
A block start takes the Bandstand's steps once, sets EF0 of the reserved engines and lets links that drain end (R122, R176, R210).
A frame that a leg's decoder delivers in time joins the leg's samples, each cut to 24 bits; of one that comes late no sample joins; of a
lost or concealed one the concealed samples join, and it is counted (R160, R167, R180). An output's frame that is coded is an item of its
conference's flow and goes to every listener that can still be sent media; of no bytes, or to an output that has no job, nothing is sent
(R168, R181). -/
def Obligations.ConferencesAndTheirBlocks : Prop :=
  (∀ (s : State) (c : Cmd), confOk c.num = true → s.confPowered c.num = true →
      (s.takes ⟨0x0710, c, 1, 1⟩ → firstFail (s.confConfigChecks c) = none →
        exec (.confConfig c) s = .next (s.after ⟨0x0710, c, 1, 1⟩ fun t => bumpGen (t.setConfSet c.num { t.confSet c.num with cfg :=
          { selCount := bits (c.word 4) 4 0, pinSlots := bits (c.word 4) 12 8, stereo := bit (c.word 4) 16, lowlat := bit (c.word 4) 17,
            speakerEvt := bit (c.word 4) 18, formats := bits (c.word 4) 22 20, floor := bits (c.word 5) 6 0,
            margin := bits (c.word 5) 13 8, hold := (c.word 6).toNat, scoreCt := (c.word 7).toNat, xfade := (c.word 8).toNat,
            ceil := bits (c.word 9) 4 0, release := (c.word 10).toNat, hpf := bits (c.word 11) 1 0, deess := bits (c.word 11) 13 8,
            eqLow := sbits (c.word 12) 7 0, eqMid := sbits (c.word 12) 15 8, eqHigh := sbits (c.word 12) 23 16 } }) (confKey c.num))) ∧
      (s.takes ⟨0x0711, c, 1, 1⟩ → firstFail (s.confFormatChecks c) = none →
        exec (.confFormat c) s = .next (s.after ⟨0x0711, c, 1, 1⟩ fun t => bumpGen (t.setConfSet c.num { t.confSet c.num with
          formats := tset {} (t.confSet c.num).formats (bits (c.word 4) 1 0)
            { codec := bits (c.word 4) 7 4, channels := bits (c.word 4) 9 8, frame := bits (c.word 4) 14 12,
              bandwidth := bits (c.word 4) 19 16, bitrate := (c.word 5).toNat, fec := bit (c.word 6) 0, dtx := bit (c.word 6) 1,
              cbr := bit (c.word 6) 2, mode := bits (c.word 6) 5 4 } }) (confKey c.num))) ∧
      (∀ k t bad, s.takes ⟨0x0720, c, 1, 8⟩ → firstFail (s.routeLoadChecks c) = none →
        loadEntries s c.num ((List.range (bits (c.word 4) 5 0)).map fun i => routeEntry c i) 0
          ((s.confSet c.num).bank !(s.confSet c.num).active) = (k, t, bad) →
        exec (.routeLoad c) s = .next (((s.begun ⟨0x0720, c, 1, 8⟩).setConfSet c.num
          ((s.confSet c.num).setBank (!(s.confSet c.num).active) t)).answers ⟨0x0720, c, 1, 8⟩
          (match bad with | none => stOk | some st => if k = 0 then st else stOkPartial) (low k) 0 0 0)) ∧
      (s.takes ⟨0x0721, c, 1, 1⟩ → firstFail (s.routeCopyChecks c) = none →
        exec (.routeCopy c) s = .next (s.after ⟨0x0721, c, 1, 1⟩ fun t => t.setConfSet c.num
          ((s.confSet c.num).setBank (!(s.confSet c.num).active) ((s.confSet c.num).bank (s.confSet c.num).active)))) ∧
      (s.takes ⟨0x0722, c, 1, 1⟩ → firstFail (s.routeSwapChecks c) = none → s.isRunning (confKey c.num) = true →
        exec (.routeSwap c) s = .next (((s.begun ⟨0x0722, c, 1, 1⟩).setConfRun c.num { s.confRun c.num with
            swap := some (s.swapBlock c.num (dword (c.word 4) (c.word 5))) }).answers ⟨0x0722, c, 1, 1⟩ stOk
          (low (s.swapBlock c.num (dword (c.word 4) (c.word 5)))) (high (s.swapBlock c.num (dword (c.word 4) (c.word 5))))
          (if (s.confSet c.num).active then 0 else 1) 0)) ∧
      (s.takes ⟨0x0722, c, 1, 1⟩ → firstFail (s.routeSwapChecks c) = none → s.isRunning (confKey c.num) = false →
        ∃ t, exec (.routeSwap c) s = .next t ∧ (t.confSet c.num).active = !(s.confSet c.num).active ∧
          (t.confSet c.num).bankA = (s.confSet c.num).bankA ∧ (t.confSet c.num).bankB = (s.confSet c.num).bankB ∧
          (t.confRun c.num).swap = none) ∧
      (s.takes ⟨0x0730, c, 1, 1⟩ →
        exec (.confStats c) s = .next ((s.begun ⟨0x0730, c, 1, 1⟩).answers ⟨0x0730, c, 1, 1⟩ stOk
          (low ((s.confRun c.num).selected.length +
            (if s.working (confKey c.num) then (s.pinned c.num (s.now / 70560)).length else 0) * 256))
          (low (s.confRun c.num).concealed) (low (s.confRun c.num).decLate) (low (s.confRun c.num).clipped)))) ∧
  (∀ (s : State),
      (s.running = true → s.bnd.block ≠ some (s.now / 70560) →
        exec .blockStart s = .next (blockFlags (linksDrained (blockBandstand s (s.now / 70560)))) ∧
        (blockBandstand s (s.now / 70560)).bnd.block = some (s.now / 70560)) ∧
      (s.bnd.block = some (s.now / 70560) → exec .blockStart s = .next s) ∧
      (∀ (l : Fin 8192) (samples own : List (Int × Int)) (j : DecJob) (r : List DecJob), (s.legAudio l).jobs = j :: r →
        own = (samples.take j.dur).map (fun p => (clip24 p.1, clip24 p.2)) →
        (j.lost = false → exec (.audioDecodeDone l samples false) s = .next (s.setLegAudio l { (s.legAudio l).heardFrame own with
          jobs := r,
          runs := (s.legAudio l).runs ++ if j.late then [] else [{ start := j.start, smp := own }] })) ∧
        (∀ smp x t, conceal s l (s.legAudio l) j.dur own = (smp, x, t) →
          ∃ u, exec (.audioDecodeDone l samples true) s = .next u ∧
            (u.legAudio l).jobs = r ∧ (u.legAudio l).runs = x.runs ++ (if j.late then [] else [{ start := j.start, smp := smp }]) ∧
            u.reg (bndA 0x1C) = (s.bump (bndA 0x1C) 1).reg (bndA 0x1C))) ∧
      (∀ (n : Fin 1024) (o bytes : Nat) (j : AudioJob) (t : State), (tget {} (s.confRun n).outs o).job = some j →
        t = s.setConfRun n { s.confRun n with outs := tset {} (s.confRun n).outs o { tget {} (s.confRun n).outs o with job := none } } →
        (j.format.bytes bytes = 0 → exec (.audioEncodeDone n o bytes) s = .next t) ∧
        (∀ ok u, j.format.bytes bytes ≠ 0 → hallWork t (confFlow n) 1 = (ok, u) →
          exec (.audioEncodeDone n o bytes) s = .next (if ok then (j.legs.filter u.hearing).foldl
            (fun u l => sendAudio u l (j.format.bytes bytes) (j.format.stamp j.first)) u else u))) ∧
      (∀ (n : Fin 1024) (o bytes : Nat), (tget {} (s.confRun n).outs o).job = none →
        exec (.audioEncodeDone n o bytes) s = .next s))

/-! ## The parlour engines -/

/-- An accumulator takes an exact result modulo 2^56, OV is set when it does not fit and is never cleared by it, and the other
accumulators stay (R195, R196); an accumulator ALU result sets Z and N from the 56 bits (R208); a move out of an accumulator
shifts right by 24 + s toward minus infinity and saturates to 24 bits with OV (R197-R199). -/
def Obligations.AccumulatorsWrapAndMovesSaturate : Prop :=
  (∀ (r : EngRun) (a : Nat) (v : Int),
    (r.putAcc a v).getAcc a = BitVec.ofInt 56 v ∧
    (r.putAcc a v).ov = (r.ov || decide (v < -2 ^ 55) || decide (2 ^ 55 ≤ v)) ∧
    (∀ b, b % 4 ≠ a % 4 → (r.putAcc a v).getAcc b = r.getAcc b) ∧
    (r.putAcc a v).w = r.w ∧ (r.putAcc a v).pt = r.pt ∧ (r.putAcc a v).loops = r.loops ∧ (r.putAcc a v).pc = r.pc) ∧
  (∀ (r : EngRun) (a : Nat) (v : Int),
    (r.alu a v).z = decide (BitVec.ofInt 56 v = 0) ∧ (r.alu a v).n = (BitVec.ofInt 56 v).msb ∧
    (r.alu a v).getAcc a = BitVec.ofInt 56 v) ∧
  (∀ (r : EngRun) (a : Nat),
    (-8388608 ≤ asr (r.getAcc a).toInt r.moveShift → asr (r.getAcc a).toInt r.moveShift ≤ 8388607 →
      (r.moveOut a).1.toInt = asr (r.getAcc a).toInt r.moveShift ∧ (r.moveOut a).2.ov = r.ov) ∧
    (8388607 < asr (r.getAcc a).toInt r.moveShift → (r.moveOut a).1 = 0x7FFFFF ∧ (r.moveOut a).2.ov = true) ∧
    (asr (r.getAcc a).toInt r.moveShift < -8388608 → (r.moveOut a).1 = 0x800000 ∧ (r.moveOut a).2.ov = true) ∧
    (r.moveOut a).2.getAcc a = r.getAcc a)

/-- An instruction that goes on stores the registers it leaves, the PC and the loop stack by the loop rule, and its counts; it
changes no other engine, no flag, mailbox or queued move of its own engine, no engine memory, and outside the engines only counter
registers and the count of free values taken (R203-R205). -/
def Obligations.AnInstructionGoesOnInItsEngineAlone : Prop :=
  ∀ (s : State) (e : Nat) (x : EngRun) (c : Cost),
    (let y := (goOn s e x c).engRun e
     y.w = x.w ∧ y.acc = x.acc ∧ y.pt = x.pt ∧ y.md = x.md ∧ y.cl = x.cl ∧ y.z = x.z ∧ y.n = x.n ∧ y.ov = x.ov ∧
     y.scale = x.scale ∧ y.exp = x.exp ∧ y.nexp = x.nexp ∧ y.calls = x.calls ∧ y.mode = x.mode ∧
     (y.pc, y.loops) = loopNext x.pc x.loops ∧ x.cycles < y.cycles) ∧
    (∀ j, j ≠ e → (goOn s e x c).eng j = s.eng j) ∧
    ((goOn s e x c).eng e).flags = (s.eng e).flags ∧ ((goOn s e x c).eng e).moves = (s.eng e).moves ∧
    ((goOn s e x c).eng e).mboxIn = (s.eng e).mboxIn ∧ ((goOn s e x c).eng e).mboxOut = (s.eng e).mboxOut ∧
    (goOn s e x c).par.prog = s.par.prog ∧ (goOn s e x c).par.data = s.par.data ∧ (goOn s e x c).par.shared = s.par.shared ∧
    goOn s e x c = { s with par := (goOn s e x c).par, regs := (goOn s e x c).regs, free := (goOn s e x c).free }

/-- The accumulator instructions: DMAC, DMPY and DMSU on both accumulators of a pair with the products of the words at their two
pointers and of the words after those; MAC and MPY with the product of two registers; ADD, SUB, NEG, ABS, SHL, SHR, MAX and MIN on ACCa and ACCb with Z and N; EXPD
(R195, R196, R199, R206-R208). -/
def Obligations.AccumulatorInstructions : Prop :=
  ∀ (s : State) (e : Fin 224) (w : Word) (r : EngRun), r = s.engRun e →
    (s.executes e 0x02 w → exec (.dmac e) s = .next (dualMac s e r w fun a p => a + p)) ∧
    (s.executes e 0x03 w → exec (.dmpy e) s = .next (dualMac s e r w fun _ p => p)) ∧
    (s.executes e 0x04 w → exec (.dmsu e) s = .next (dualMac s e r w fun a p => a - p)) ∧
    (∀ (f : Int → Int → Int) (q : EngRun) (a0 a1 b0 b1 : Nat), a0 = r.access (fPx w) (fMx w) → a1 = r.after (fPx w) a0 →
      q = r.modify (fPx w) (fMx w) → b0 = q.access (fPy w) (fMy w) → b1 = q.after (fPy w) b0 →
      ((dualMac s e r w f).engRun e).getAcc (fPair w) =
        BitVec.ofInt 56 (f (r.getAcc (fPair w)).toInt (product (s.read24 e a0) (s.read24 e b0))) ∧
      ((dualMac s e r w f).engRun e).getAcc (fPair w + 1) =
        BitVec.ofInt 56 (f (r.getAcc (fPair w + 1)).toInt (product (s.read24 e a1) (s.read24 e b1)))) ∧
    (∀ a x y, a = bits w 25 24 → x = r.getAcc a → y = r.getAcc (bits w 23 22) →
      (s.executes e 0x05 w → exec (.mac e) s = .next (goOn s e (r.putAcc a
        (x.toInt + product (r.getW (bits w 21 19)) (r.getW (bits w 18 16)))) { wrote := { acc := [a] } })) ∧
      (s.executes e 0x07 w → exec (.mpy e) s = .next (goOn s e (r.putAcc a
        (product (r.getW (bits w 21 19)) (r.getW (bits w 18 16)))) { wrote := { acc := [a] } })) ∧
      (s.executes e 0x08 w → exec (.add e) s = .next (goOn s e (r.alu a (x.toInt + y.toInt)) { wrote := { acc := [a] } })) ∧
      (s.executes e 0x09 w → exec (.sub e) s = .next (goOn s e (r.alu a (x.toInt - y.toInt)) { wrote := { acc := [a] } })) ∧
      (s.executes e 0x0A w → exec (.neg e) s = .next (goOn s e (r.alu a (-x.toInt)) { wrote := { acc := [a] } })) ∧
      (s.executes e 0x0B w → exec (.abs e) s = .next (goOn s e (r.alu a x.toInt.natAbs) { wrote := { acc := [a] } })) ∧
      (s.executes e 0x0C w → exec (.shl e) s =
        .next (goOn s e (r.alu a (x.toInt * 2 ^ bits w 4 0)) { wrote := { acc := [a] } })) ∧
      (s.executes e 0x0D w → exec (.shr e) s =
        .next (goOn s e (r.alu a (asr x.toInt (bits w 4 0))) { wrote := { acc := [a] } })) ∧
      (s.executes e 0x0E w → exec (.max e) s = .next (goOn s e (r.alu a (max x.toInt y.toInt)) { wrote := { acc := [a] } })) ∧
      (s.executes e 0x0F w → exec (.min e) s = .next (goOn s e (r.alu a (min x.toInt y.toInt)) { wrote := { acc := [a] } })) ∧
      (s.executes e 0x12 w → exec (.expd e) s =
        .next (goOn s e (r.setW (bits w 21 19) (BitVec.ofNat 24 (expOf x))) {})))

/-- MACM multiplies a register with the word at a pointer; CLR zeroes the accumulators it names and leaves Z and N; LDK loads a
shifted constant, for a shift up to 39, and a free value for one above (log entry 86); MOV and MOVW move an accumulator out, MOVA a word in (R195-R199, R206-R208). -/
def Obligations.AccumulatorLoadsAndMoves : Prop :=
  ∀ (s : State) (e : Fin 224) (w : Word) (r : EngRun) (a n m : Nat), r = s.engRun e → a = bits w 25 24 → n = bits w 15 13 →
    m = bits w 12 10 →
    (s.executes e 0x06 w → exec (.macm e) s = .next (goOn s e ((r.modify n m).putAcc a
      ((r.getAcc a).toInt + product (r.getW (bits w 21 19)) (s.read24 e (r.access n m))))
      { slots := 1, used := ptrUse n m, wrote := { acc := [a] } })) ∧
    (s.executes e 0x10 w → ∃ t, exec (.clr e) s = .next t ∧ (t.engRun e).z = r.z ∧ (t.engRun e).n = r.n ∧
      ∀ i, i < 4 → (t.engRun e).getAcc i = if w.getLsbD i then 0 else r.getAcc i) ∧
    (s.executes e 0x11 w → bits w 5 0 ≤ 39 → exec (.ldk e) s =
      .next (goOn s e (r.alu a (sbits w 23 8 * 2 ^ bits w 5 0)) { wrote := { acc := [a] } })) ∧
    (s.executes e 0x11 w → 39 < bits w 5 0 → ∃ v, exec (.ldk e) s =
      .next (goOn { s with free := s.free + 1 } e (r.alu a v) { wrote := { acc := [a] } })) ∧
    (s.executes e 0x1E w → exec (.mov e) s =
      .next (goOn (s.write24 e (r.access n m) (r.moveOut a).1) e ((r.moveOut a).2.modify n m)
        { slots := 1, moved := some a, used := ptrUse n m })) ∧
    (s.executes e 0x1F w → exec (.movw e) s =
      .next (goOn s e ((r.moveOut a).2.setW (bits w 21 19) (r.moveOut a).1) { moved := some a })) ∧
    (s.executes e 0x20 w → exec (.mova e) s =
      .next (goOn s e (r.putAcc a ((r.getW (bits w 21 19)).toInt * 2 ^ 24)) { wrote := { acc := [a] } }))

/-- The word instructions: ADDW and SUBW saturate, AND, OR, XOR and SHW act on the bits, LDW loads a constant; LD, LDP, ST and STP
access the data memory at a pointer, the pairs on an even register, with free words on an odd one; SETA and MOVR set and read pointer
registers, a kind that names none reading a free word (R200, R201, R206, R207). -/
def Obligations.WordAndPointerInstructions : Prop :=
  ∀ (s : State) (e : Fin 224) (w : Word) (r : EngRun) (i n m : Nat) (x y : BitVec 24), r = s.engRun e → i = bits w 21 19 →
    n = bits w 15 13 → m = bits w 12 10 → x = r.getW i → y = r.getW (bits w 18 16) →
    (s.executes e 0x13 w → exec (.addw e) s = .next (goOn s e (r.setW i (satWord (x.toInt + y.toInt))) {})) ∧
    (s.executes e 0x14 w → exec (.subw e) s = .next (goOn s e (r.setW i (satWord (x.toInt - y.toInt))) {})) ∧
    (s.executes e 0x15 w → exec (.and e) s = .next (goOn s e (r.setW i (x &&& y)) {})) ∧
    (s.executes e 0x16 w → exec (.or e) s = .next (goOn s e (r.setW i (x ||| y)) {})) ∧
    (s.executes e 0x17 w → exec (.xor e) s = .next (goOn s e (r.setW i (x ^^^ y)) {})) ∧
    (s.executes e 0x18 w → 0 ≤ sbits w 5 0 → exec (.shw e) s = .next (goOn s e (r.setW i (x <<< (sbits w 5 0).toNat)) {})) ∧
    (s.executes e 0x18 w → sbits w 5 0 < 0 →
      exec (.shw e) s = .next (goOn s e (r.setW i (BitVec.ofInt 24 (asr x.toInt (-sbits w 5 0).toNat))) {})) ∧
    (s.executes e 0x19 w → exec (.ldw e) s =
      .next (goOn s e (r.setW (bits w 25 23) (BitVec.ofInt 24 (sbits w 22 0))) {})) ∧
    (s.executes e 0x1A w → exec (.ld e) s = .next (goOn s e ((r.modify n m).setW i (s.read24 e (r.access n m)))
      { slots := 1, used := ptrUse n m })) ∧
    (s.executes e 0x1B w → i % 2 = 0 → exec (.ldp e) s =
      .next (goOn s e (((r.modify n m).setW i (s.read24 e (r.access n m))).setW (i + 1) (s.read24 e (r.after n (r.access n m))))
        { slots := pairSlots (r.access n m) (r.after n (r.access n m)), used := ptrUse n m })) ∧
    (s.executes e 0x1B w → i % 2 = 1 → ∃ u v, exec (.ldp e) s = .next (goOn { s with free := s.free + 2 } e
      (((r.modify n m).setW i u).setW (i + 1) v)
      { slots := pairSlots (r.access n m) (r.after n (r.access n m)), used := ptrUse n m })) ∧
    (s.executes e 0x1C w → exec (.st e) s = .next (goOn (s.write24 e (r.access n m) x) e (r.modify n m)
      { slots := 1, used := ptrUse n m })) ∧
    (s.executes e 0x1D w → i % 2 = 0 → exec (.stp e) s =
      .next (goOn ((s.write24 e (r.access n m) x).write24 e (r.after n (r.access n m)) (r.getW (i + 1))) e (r.modify n m)
        { slots := pairSlots (r.access n m) (r.after n (r.access n m)), used := ptrUse n m })) ∧
    (s.executes e 0x1D w → i % 2 = 1 → ∃ u v, exec (.stp e) s =
      .next (goOn ((({ s with free := s.free + 2 } : State).write24 e (r.access n m) u).write24 e (r.after n (r.access n m)) v) e
        (r.modify n m) { slots := pairSlots (r.access n m) (r.after n (r.access n m)), used := ptrUse n m })) ∧
    (s.executes e 0x21 w → exec (.seta e) s = .next (goOn s e (r.setPtr (bits w 22 21) (bits w 25 23) (low (bits w 14 0)))
      { wrote := { ptr := some (bits w 22 21, bits w 25 23) } })) ∧
    (s.executes e 0x22 w → bit w 0 = false → exec (.movr e) s =
      .next (goOn s e (r.setPtr (bits w 2 1) (bits w 18 16) (x.setWidth 32)) { wrote := { ptr := some (bits w 2 1, bits w 18 16) } })) ∧
    (s.executes e 0x22 w → bit w 0 = true → bits w 2 1 = 0 → exec (.movr e) s =
      .next (goOn s e (r.setW i ((r.getPt (bits w 18 16)).setWidth 24)) {})) ∧
    (s.executes e 0x22 w → bit w 0 = true → bits w 2 1 = 1 → exec (.movr e) s =
      .next (goOn s e (r.setW i ((r.getMd (bits w 18 16)).signExtend 24)) {})) ∧
    (s.executes e 0x22 w → bit w 0 = true → bits w 2 1 = 2 → exec (.movr e) s =
      .next (goOn s e (r.setW i ((r.getCl (bits w 18 16)).setWidth 24)) {})) ∧
    (s.executes e 0x22 w → bit w 0 = true → bits w 2 1 = 3 → ∃ v, exec (.movr e) s =
      .next (goOn { s with free := s.free + 1 } e (r.setW i v) {}))

/-- Control flow: a branch taken leaves the loops that its target lies outside, and one with an unassigned condition goes either way; CALL
and RET use the call stack of 8, REP and REPW the loop stack of 4, a REPW of count 0 going on behind its end, and one more entry, or a
return or break without one, faults; HALT, WAIT and all of these at a loop's end fault with cause 6 (R203, R204, R218). -/
def Obligations.ControlInstructions : Prop :=
  ∀ (s : State) (e : Fin 224) (w : Word) (r : EngRun) (t : Nat), r = s.engRun e → t = bits w 12 0 →
    (s.executesFree e 0x23 w → (bits w 25 14 = 0 ∨ (bits w 25 14 = 1 ∧ r.z = true) ∨ (bits w 25 14 = 2 ∧ r.z = false) ∨
        (bits w 25 14 = 3 ∧ r.n = true) ∨ (bits w 25 14 = 4 ∧ r.n = false) ∨ (bits w 25 14 = 5 ∧ r.ov = true)) →
      exec (.br e) s = .next (goTo s e r { branch := true } t (loopLeave t r.loops))) ∧
    (s.executesFree e 0x23 w → (bits w 25 14 = 1 ∧ r.z = false ∨ bits w 25 14 = 2 ∧ r.z = true ∨ bits w 25 14 = 3 ∧ r.n = false ∨
        bits w 25 14 = 4 ∧ r.n = true ∨ bits w 25 14 = 5 ∧ r.ov = false) →
      exec (.br e) s = .next (goOn s e r {})) ∧
    (s.executesFree e 0x23 w → 5 < bits w 25 14 →
      exec (.br e) s = .next (goTo { s with free := s.free + 1 } e r { branch := true } t (loopLeave t r.loops)) ∨
      exec (.br e) s = .next (goOn { s with free := s.free + 1 } e r {})) ∧
    (s.executesFree e 0x24 w → r.calls.length < 8 → exec (.call e) s =
      .next (goTo s e { r with calls := (r.pc + 1) % 8192 :: r.calls } { branch := true } t (loopLeave t r.loops))) ∧
    (s.executesFree e 0x24 w → 8 ≤ r.calls.length → exec (.call e) s = .next (engFault s e 3)) ∧
    (∀ u l, s.executesFree e 0x25 w → r.calls = u :: l → exec (.ret e) s = .next (goTo s e { r with calls := l } { branch := true } u r.loops)) ∧
    (s.executesFree e 0x25 w → r.calls = [] → exec (.ret e) s = .next (engFault s e 3)) ∧
    (s.executesFree e 0x26 w → r.loops.length < 4 → exec (.rep e) s = .next (goTo s e r {} ((r.pc + 1) % 8192)
      ({ start := (r.pc + 1) % 8192, stop := t, count := bits w 25 14 + 1 } :: r.loops))) ∧
    (s.executesFree e 0x26 w → 4 ≤ r.loops.length → exec (.rep e) s = .next (engFault s e 2)) ∧
    (s.executesFree e 0x27 w → r.loops.length < 4 → (r.getW (bits w 25 23)).toNat % 65536 ≠ 0 → exec (.repw e) s =
      .next (goTo s e r {} ((r.pc + 1) % 8192)
        (⟨(r.pc + 1) % 8192, t, (r.getW (bits w 25 23)).toNat % 65536⟩ :: r.loops))) ∧
    (s.executesFree e 0x27 w → r.loops.length < 4 → (r.getW (bits w 25 23)).toNat % 65536 = 0 → exec (.repw e) s =
      .next (goTo s e r {} (loopNext t r.loops).1 (loopNext t r.loops).2)) ∧
    (s.executesFree e 0x27 w → 4 ≤ r.loops.length → exec (.repw e) s = .next (engFault s e 2)) ∧
    (∀ l rest, s.executesFree e 0x28 w → r.loops = l :: rest → exec (.brklp e) s =
      .next (goTo s e r { branch := true } (loopNext l.stop rest).1 (loopNext l.stop rest).2)) ∧
    (s.executesFree e 0x28 w → r.loops = [] → exec (.brklp e) s = .next (engFault s e 2)) ∧
    (∀ barred : Nat → Instr → Prop,
      barred = (fun op i => s.executes e op w → r.atLoopEnd = true → exec i s = .next (engFault s e 6)) →
      barred 0x01 (.halt e) ∧ barred 0x23 (.br e) ∧ barred 0x24 (.call e) ∧ barred 0x25 (.ret e) ∧ barred 0x26 (.rep e) ∧
        barred 0x27 (.repw e) ∧ barred 0x28 (.brklp e) ∧ barred 0x2C (.wait e))

/-- Block floating point, flags, mailboxes and the mover: SCALE and SETEXP set the scaler, an exponent above 8 being free; BFNEXT takes
the next exponent; WAIT goes on with a flag of its mask set and waits without, until one is set; SIG sets a flag that software may set of
a reserved engine of its parlour, CLRF clears its own; MOVB queues the descriptor at its pointer, or stalls while four wait; the mover's
descriptor of at most 16 words, alone in its parlour, copies its words; LDX reads mailboxes, block, number and cycles, an unassigned index
a free word; STX writes the mailboxes out; HALT halts the engine with ENG_HALTED, and stops one that drains; an opcode above 0x31 faults
with cause 1; a fetch that a move holds stalls; writes of MBOX_IN3 and EFLAGS reach a reserved engine alone (R197, R203-R206,
R209-R212, R216, R219). -/
def Obligations.SystemInstructions : Prop :=
  ∀ (s : State) (e : Fin 224) (w : Word) (r : EngRun), r = s.engRun e →
    (s.executes e 0x00 w → exec (.engineNop e) s = .next (goOn s e r {})) ∧
    (s.executesFree e 0x01 w → s.draining (engKey e) = false →
      ∃ t, exec (.halt e) s = .next t ∧ (t.engRun e).mode = .halted ∧ (t.engRun e).pc = r.pc ∧ t.objs = s.objs ∧
        ∃ ev ∈ t.porch.produced, ev.evt = true ∧ ev.code = 0x0910 ∧ ev.obj = low e ∧ ev.r0 = low r.pc ∧ ev.r1 = 0) ∧
    (s.executesFree e 0x01 w → s.draining (engKey e) = true → exec (.halt e) s =
      .next (reachStopped (movesEnd (engHalted (account (s.setRun e r) e {}) e 0) e) 9 e)) ∧
    (∀ op go, s.engExecutes e = true → (s.eng e).fetchHeld = true → engOp s e op go = stallNow s e) ∧
    (s.executes e 0x29 w → exec (.scale e) s = .next (goOn s e { r with scale := bits w 1 0 } {})) ∧
    (s.executes e 0x2A w → bits w 3 0 ≤ 8 → exec (.setexp e) s = .next (goOn s e { r with exp := bits w 3 0 } {})) ∧
    (s.executes e 0x2A w → 8 < bits w 3 0 → ∃ x, x ≤ 8 ∧
      exec (.setexp e) s = .next (goOn { s with free := s.free + 1 } e { r with exp := x } {})) ∧
    (s.executes e 0x2B w → exec (.bfnext e) s = .next (goOn s e { r with exp := r.nexp, nexp := 0 } {})) ∧
    (s.executesFree e 0x2C w → (s.eng e).flags &&& w.setWidth 24 ≠ 0 → exec (.wait e) s = .next (goOn s e r {})) ∧
    (s.executesFree e 0x2C w → (s.eng e).flags &&& w.setWidth 24 = 0 →
      exec (.wait e) s = .next ((settle s e).setRun e { (settle s e).engRun e with
        mode := .waiting, mask := w.setWidth 24, since := some s.cyc })) ∧
    (∀ k j, s.executes e 0x2D w → k = bits w 4 0 → j = e.val / 8 * 8 + bits w 25 23 → 
      ((s.eng j).reserved = true → k < 24 → (k < 4 ∨ 8 ≤ k) →
        exec (.sig e) s = .next (setFlags (goOn s e r {}) j (flagMask k))) ∧
      (((s.eng j).reserved = false ∨ 24 ≤ k ∨ (4 ≤ k ∧ k < 8)) → exec (.sig e) s = .next (goOn s e r {}))) ∧
    (s.executes e 0x2E w → ∃ t, exec (.clrf e) s = .next t ∧ (t.eng e).flags = (s.eng e).flags &&& ~~~ w.setWidth 24 ∧
      ∀ j, j ≠ e.val → (t.eng j).flags = (s.eng j).flags) ∧
    (∀ p a b c d, s.executes e 0x2F w → (s.eng e).moves.length < 4 → p = bits w 15 13 → a = r.access p (bits w 12 10) →
      b = r.after p a → c = r.after p b → d = r.after p c → ∃ t, exec (.movb e) s = .next t ∧
      (t.eng e).moves = (s.eng e).moves ++ [moveOf (s.read24 e a) (s.read24 e b) (s.read24 e c) (s.read24 e d)]) ∧
    (s.executes e 0x2F w → 4 ≤ (s.eng e).moves.length → exec (.movb e) s = .next (stallNow s e)) ∧
    (s.executes e 0x30 w → bits w 3 0 < 4 →
      exec (.ldx e) s = .next (goOn s e (r.setW (bits w 25 23) (tget 0 (s.eng e).mboxIn (bits w 3 0))) {})) ∧
    (s.executes e 0x30 w → 4 ≤ bits w 3 0 → bits w 3 0 < 8 → exec (.ldx e) s = .next (goOn s e (r.setW (bits w 25 23) 0) {})) ∧
    (s.executes e 0x30 w → 11 ≤ bits w 3 0 → ∃ v, exec (.ldx e) s =
      .next (goOn { s with free := s.free + 1 } e (r.setW (bits w 25 23) v) {})) ∧
    (s.executes e 0x30 w → bits w 3 0 = 8 →
      exec (.ldx e) s = .next (goOn s e (r.setW (bits w 25 23) (BitVec.ofNat 24 (s.now / 70560))) {})) ∧
    (s.executes e 0x30 w → bits w 3 0 = 9 →
      exec (.ldx e) s = .next (goOn s e (r.setW (bits w 25 23) (BitVec.ofNat 24 e)) {})) ∧
    (s.executes e 0x30 w → bits w 3 0 = 10 →
      exec (.ldx e) s = .next (goOn s e (r.setW (bits w 25 23) (BitVec.ofNat 24 r.cycles)) {})) ∧
    (s.executes e 0x31 w → (bits w 3 0 < 4 ∨ 8 ≤ bits w 3 0) → exec (.stx e) s = .next (goOn s e r {})) ∧
    (s.executes e 0x31 w → 4 ≤ bits w 3 0 → bits w 3 0 < 8 → ∃ t, exec (.stx e) s = .next t ∧
      tget 0 (t.eng e).mboxOut (bits w 3 0 - 4) = r.getW (bits w 25 23)) ∧
    (∀ op, s.executes e op w → 0x31 < op → exec (.illegalOpcode e) s = .next (engFault s e 1)) ∧
    (s.running = true → s.dom (e / 8) = true → (s.eng e).reserved = true → s.working (engKey e) = true → r.mode = .waiting →
      (s.eng e).flags &&& r.mask ≠ 0 → ∃ t, exec (.waitRelease e) s = .next t ∧ (t.engRun e).mode = .executing ∧
        (t.engRun e).pc = (loopNext r.pc r.loops).1) ∧
    (∀ m rest, s.running = true → s.dom (e / 8) = true → (s.eng e).moves = m :: rest →
      exec (.moveComplete e) s = .next (moveEnds s e) ∧
      (s.moveOk e m = true → m.len ≤ 16 → m.dst < 2 → (s.eng e).served = 0 →
        (∀ k, k < 8 → 8 * (e.val / 8) + k ≠ e.val → (s.eng (8 * (e.val / 8) + k)).moves = []) →
        ((moveEnds s e).eng e).moves = rest ∧
        ∀ i, i < m.len → (moveEnds s e).readSpace e m.dst (m.dstA + i) = s.readSpace e m.src (m.srcA + i))) ∧
    (∀ q v u, u = hostArrives s q →
      ((u.eng e).reserved = true → u.dom (e / 8) = true →
        (∃ t, exec (.mailboxIn3Write q e v) s = .next t ∧ tget 0 (t.eng e).mboxIn 3 = v.setWidth 24 ∧ (t.eng e).flags.getLsbD 3 = true) ∧
        ∃ t, exec (.eflagsWrite q e v) s = .next t ∧ (t.eng e).flags = (u.eng e).flags ||| (v.setWidth 24 &&& 0xFFFF00)) ∧
      ((u.eng e).reserved = false → exec (.mailboxIn3Write q e v) s = .next u ∧ exec (.eflagsWrite q e v) s = .next u))

/-- ENG_RESERVE gives an engine to the host with its memories at 0, or takes it back to the pool, and answers how many are reserved;
ENG_CONFIG holds its packet; ENG_LOAD writes program words; ENG_WRITE writes words of the memory it names and, if asked, sets a flag,
and ENG_READ sends such words to the host, both in turn with the moves of the parlour; ENG_STATS reports cycles, stalls, waits and
steals up to the moment (R190-R193, R212, R214). -/
def Obligations.EngineCommands : Prop :=
  ∀ (s : State) (c : Cmd), engOk c.num = true → s.engPowered c.num = true →
    (s.takes ⟨0x0910, c, 1, 1⟩ → firstFail (s.engReserveChecks c) = none → bit (c.word 4) 0 = !(s.eng c.num).reserved →
      ∃ t, exec (.engReserve c) s = .next t ∧ t.eng c.num = { reserved := bit (c.word 4) 0 } ∧ (∀ i, t.dataWord c.num i = 0) ∧
        (∀ i, t.progWord c.num i = 0) ∧ (∀ i, t.sharedWord c.num i = 0) ∧
        s.completion ⟨0x0910, c, 1, 1⟩ stOk (low t.reservedCount) 0 0 0 ∈ t.porch.produced) ∧
    (s.takes ⟨0x0911, c, 1, 1⟩ → firstFail (s.engConfigChecks c) = none →
      exec (.engConfig c) s = .next (s.after ⟨0x0911, c, 1, 1⟩ fun t => bumpGen { t with par := { t.par with
        cfgs := (tset {} t.par.cfgs c.num
          { entry := bits (c.word 4) 12 0, winBase := bits (c.word 5) 19 0, winPages := bits (c.word 6) 14 0,
            ovlStart := bits (c.word 7) 12 0, ovlEnd := bits (c.word 7) 28 16, scale := bits (c.word 8) 1 0,
            exp := bits (c.word 8) 11 8 }) } } (engKey c.num))) ∧
    (∀ data, s.takes ⟨0x0912, c, 1, 1⟩ → firstFail (s.engLoadChecks c) = none → s.hostReach = true →
      exec (.engLoad c data) s = .next (finish (bumpGen (loadWords c data
        (belSignal (leaveL1 (s.begun ⟨0x0912, c, 1, 1⟩)))) (engKey c.num)) 0x0912 c stOk)) ∧
    (∀ data t, s.takes ⟨0x0913, c, 1, 1⟩ → firstFail (s.engCopyChecks c true) = none → s.hostReach = true →
      t = (copyWords c data (hostTurns (c.num / 8) ((bits (c.word 8) 14 0 + 15) / 16)
        (belSignal (leaveL1 (s.begun ⟨0x0913, c, 1, 1⟩))))).bump64 (parA (c.num / 8) 8) (4 * bits (c.word 8) 14 0) →
      (bit (c.word 9) 0 = false → exec (.engWrite c data) s = .next (finish t 0x0913 c stOk)) ∧
      (bit (c.word 9) 0 = true → exec (.engWrite c data) s =
        .next (finish (setFlags t c.num (flagMask (bits (c.word 9) 12 8))) 0x0913 c stOk))) ∧
    (∀ t, s.takes ⟨0x0914, c, 1, 1⟩ → firstFail (s.engCopyChecks c false) = none → s.hostReach = true →
      t = (hostTurns (c.num / 8) ((bits (c.word 8) 14 0 + 15) / 16)
        (belSignal (leaveL1 (s.begun ⟨0x0914, c, 1, 1⟩)))).bump64 (parA (c.num / 8) 8) (4 * bits (c.word 8) 14 0) →
      exec (.engRead c) s = .next (finish { t with
        out := Out.hostBytes (dword (c.word 4) (c.word 5)) (((List.range (bits (c.word 8) 14 0)).map fun i =>
          wordBytes (t.readSpace c.num (bits (c.word 6) 0 0) (bits (c.word 7) 13 0 + i))).flatten) :: t.out } 0x0914 c stOk)) ∧
    (∀ t, s.takes ⟨0x0915, c, 1, 1⟩ → firstFail (s.engStatsChecks c) = none → t = settle (s.begun ⟨0x0915, c, 1, 1⟩) c.num →
      exec (.engStats c) s = .next (complete t 0x0915 c stOk (low (t.engRun c.num).cycles) (low (t.engRun c.num).stalls)
        (low (t.engRun c.num).waits) (low (t.engRun c.num).steals)))

/-! ## The hatches -/

/-- The configure commands of a STOPPED bank store what their packets say and count one generation: the frame's clock, whose SLOTS cut
the hatches' masks and whose master drives its clocks low (R221-R223, R241), a hatch's packing and SDO_IDLE, a leg bound to a slot or
unbound (R228), a ring that begins empty or none, its entry stride answered (R231, R247). HAT_STATS answers underrun frames, late and bad
entries, drops, and departures since START. HAT_MASK on a STOPPED bank changes the masks it names at once; on a RUNNING one they pend for
frame k, or k + 1 in its last 8 bits, and the command waits with them; naming neither it completes and changes nothing (R238, R239). -/
def Obligations.HatchCommands : Prop :=
  ∀ (s : State) (c : Cmd) (land : Nat),
    (∀ b g, s.takes ⟨0x0810, c, 1, 1⟩ → b = c.num - 0x10000 → s.bankOk c.num = true → s.bankPowered b = true →
      firstFail (s.hatBankConfigChecks c) = none →
      g = ({
            master := bit (c.word 4) 0, rate := bits (c.word 4) 4 1, slots := bits (c.word 4) 9 5 + 1,
            width := widthOf (bits (c.word 4) 11 10), offset := bits (c.word 4) 16 12, fsPol := bit (c.word 4) 17,
            bclkPol := bit (c.word 4) 18, fsWidth := bits (c.word 4) 20 19,
            bits := (if bits (c.word 5) 10 0 = 0 then bits (c.word 4) 16 12 + (bits (c.word 4) 9 5 + 1) * widthOf (bits (c.word 4) 11 10)
              else bits (c.word 5) 10 0),
            ramp := (if bits (c.word 6) 6 0 = 0 then 4 else bits (c.word 6) 6 0) } : BankCfg) →
      (g.master = false → exec (.hatBankConfig c) s = .next (s.after ⟨0x0810, c, 1, 1⟩ fun t => bumpGen ((hatchesOf b).foldl
        (fun t h => cutMasks t h g.slotMask) { t with hat := { t.hat with cfgs := tput t.hat.cfgs b g } }) (bankKey b))) ∧
      (g.master = true → ∃ u, exec (.hatBankConfig c) s = .next u ∧ u.hat.cfgs = tput s.hat.cfgs b g ∧
        u.out = Out.clocksLow b :: s.out)) ∧
    (hatchOk c.num = true → s.hatchPowered c.num = true →
      (s.takes ⟨0x0811, c, 1, 1⟩ → firstFail (s.hatPortConfigChecks c) = none →
        exec (.hatPortConfig c) s = .next (s.after ⟨0x0811, c, 1, 1⟩ fun t => bumpGen ({ (t.setHatch c.num
          { t.hatch c.num with pack := bits (c.word 4) 1 0, sdoIdle := bit (c.word 4) 4 }) with
            out := Out.sdoRest c.num (bit (c.word 4) 4) :: t.out }) (hatchKey c.num))) ∧
      (s.takes ⟨0x0812, c, 1, 1⟩ → firstFail (s.hatLegChecks c) = none → bit (c.word 4) 31 = true → bit (c.word 4) 8 = false →
        exec (.hatLeg c) s = .next (s.after ⟨0x0812, c, 1, 1⟩ fun t => bumpGen { t with hat := { t.hat with
          legs := tput t.hat.legs (bits (c.word 5) 12 0) { (tfind t.hat.legs (bits (c.word 5) 12 0)).getD {} with
              conf := bits (c.word 6) 9 0, rx := some (c.num, bits (c.word 4) 4 0) } } } (hatchKey c.num))) ∧
      (s.takes ⟨0x0812, c, 1, 1⟩ → firstFail (s.hatLegChecks c) = none → bit (c.word 4) 31 = true → bit (c.word 4) 8 = true →
        exec (.hatLeg c) s = .next (s.after ⟨0x0812, c, 1, 1⟩ fun t => bumpGen { t with hat := { t.hat with
          legs := tput t.hat.legs (bits (c.word 5) 12 0) { (tfind t.hat.legs (bits (c.word 5) 12 0)).getD {} with
              conf := bits (c.word 6) 9 0, tx := some (c.num, bits (c.word 4) 4 0) } } } (hatchKey c.num))) ∧
      (s.takes ⟨0x0812, c, 1, 1⟩ → firstFail (s.hatLegChecks c) = none → bit (c.word 4) 31 = false →
        exec (.hatLeg c) s = .next (s.after ⟨0x0812, c, 1, 1⟩ fun t => bumpGen { t with hat := { t.hat with
          legs := tdel t.hat.legs (bits (c.word 5) 12 0) } } (hatchKey c.num))) ∧
      (s.takes ⟨0x0813, c, 1, 1⟩ → firstFail (s.hatRingChecks c) = none → bit (c.word 4) 0 = true →
        exec (.hatRing c) s = .next ((bumpGen ((s.begun ⟨0x0813, c, 1, 1⟩).setHatch c.num { s.hatch c.num with
            tx := if bit (c.word 4) 31 then
              some { host := bit (c.word 4) 1, size := bits (c.word 4) 7 4, base := dword (c.word 5) (c.word 6) } else none,
            txHead := 0, txTail := 0, visible := [] }) (hatchKey c.num)).answers ⟨0x0813, c, 1, 1⟩ stOk
          (low ((s.bankCfg (c.num / 8)).stride (s.hatch c.num).pack)) 0 0 0)) ∧
      (s.takes ⟨0x0813, c, 1, 1⟩ → firstFail (s.hatRingChecks c) = none → bit (c.word 4) 0 = false →
        exec (.hatRing c) s = .next ((bumpGen ((s.begun ⟨0x0813, c, 1, 1⟩).setHatch c.num { s.hatch c.num with
            rx := if bit (c.word 4) 31 then
              some { host := bit (c.word 4) 1, size := bits (c.word 4) 7 4, base := dword (c.word 5) (c.word 6) } else none,
            rxHead := 0, rxTail := 0 }) (hatchKey c.num)).answers ⟨0x0813, c, 1, 1⟩ stOk
          (low ((s.bankCfg (c.num / 8)).stride (s.hatch c.num).pack)) 0 0 0)) ∧
      (s.takes ⟨0x0815, c, 1, 1⟩ →
        exec (.hatStats c) s = .next ((s.begun ⟨0x0815, c, 1, 1⟩).answers ⟨0x0815, c, 1, 1⟩ stOk
          (low (s.hatch c.num).underN) (low (s.hatch c.num).lateBad) (low (s.hatch c.num).drops)
          (low (s.bankRun (c.num / 8)).departures))) ∧
      (∀ m x, m = (s.bankCfg (c.num / 8)).slotMask → x = s.hatch c.num → s.takes ⟨0x0814, c, 1, 1⟩ →
        firstFail (s.hatMaskChecks c) = none →
        (s.stopped (bankKey (c.num / 8)) = true → (bit (c.word 6) 0 || bit (c.word 6) 1) = true →
          ∃ t, exec (.hatMask c land) s = .next t ∧ (t.hatch c.num).pend = none ∧
            (t.hatch c.num).rxAct = (if bit (c.word 6) 0 then c.word 4 &&& m else x.rxAct) ∧
            (t.hatch c.num).txAct = (if bit (c.word 6) 1 then c.word 5 &&& m else x.txAct) ∧
            t.porch.produced = s.porch.produced ++ [s.completion ⟨0x0814, c, 1, 1⟩ stOk 0 0 0 0]) ∧
        (bit (c.word 6) 0 = false → bit (c.word 6) 1 = false →
          exec (.hatMask c land) s = .next ((s.begun ⟨0x0814, c, 1, 1⟩).answer ⟨0x0814, c, 1, 1⟩ stOk)) ∧
        (s.isRunning (bankKey (c.num / 8)) = true → (bit (c.word 6) 0 || bit (c.word 6) 1) = true →
          ∃ t, exec (.hatMask c land) s = .next t ∧ (t.hatch c.num) = { x with
            pend := some ⟨(if land + 8 ≤ (s.bankCfg (c.num / 8)).bits then s.now / (s.bankCfg (c.num / 8)).period + 1
                else s.now / (s.bankCfg (c.num / 8)).period + 2),
              (if bit (c.word 6) 0 then some (c.word 4 &&& m) else none), (if bit (c.word 6) 1 then some (c.word 5 &&& m) else none),
              x.pend.isSome, (match x.pend with | some o => o.cmds | none => []) ++ [c]⟩ } ∧
          t.porch.produced = s.porch.produced)))

/-- A MASKGO that names a mask of a STOPPED bank applies at once, of another it pends for frame k or k + 1; a mask pending for a frame that
has come takes force with HAT_MASK_APPLIED (R238, R239). A master's synthesiser that locks in time starts its bank at the next block start
with a rising ramp, one that does not ends START with LOCK_FAIL (R225, R240). A ramp that has risen changes nothing; one that has fallen
fixes the block in which the frames stop (R240, R241). A slave's first edge is noted; the eighth regular frame of a matching partner is
reported; a present partner's edge is held against its period; the fourth missing frame of one that does not match is a departure (R242,
R243).
A block start takes each hatch's block once: a new receive entry begins, and an entry of a ring in main memory that names the block,
was visible in time and has the block's frames passes its head (R230, R234). An entry that has ended is written, its header naming its
first frame, block, frames and masks, or dropped and counted while the ring is full (R231, R233). A write of a ring index stores it, makes
the entries up to a new tail visible, and is counted if it is too large or there is no ring (R233, R234, R251). -/
def Obligations.ClocksPartnersAndRingsOfHatches : Prop :=
  (∀ (s : State),
      (∀ (r : Requester) (h : Fin 96) (v m : Word) (land : Nat) (u : State) (k : MaskChange), u = hostArrives s r →
        u.hatchPowered h = true → (bit v 0 || bit v 1) = true → m = (u.bankCfg (h / 8)).slotMask →
        k = ⟨(if land + 8 ≤ (u.bankCfg (h / 8)).bits then u.now / (u.bankCfg (h / 8)).period + 1
            else u.now / (u.bankCfg (h / 8)).period + 1 + 1),
          (if bit v 0 then some (u.reg (hatchA h 0) &&& m) else none), (if bit v 1 then some (u.reg (hatchA h 4) &&& m) else none),
          (u.hatch h).pend.isSome, (match (u.hatch h).pend with | some o => o.cmds | none => [])⟩ →
        (u.stopped (bankKey (h / 8)) = false →
          exec (.maskgoWrite r h v land) s = .next (u.setHatch h { u.hatch h with pend := some k })) ∧
        (u.stopped (bankKey (h / 8)) = true → ∃ w, exec (.maskgoWrite r h v land) s = .next w ∧ (w.hatch h).pend = none ∧
          (w.hatch h).rxAct = k.rx.getD (u.hatch h).rxAct ∧ (w.hatch h).txAct = k.tx.getD (u.hatch h).txAct)) ∧
      (∀ (h : Fin 96) (m : MaskChange), (s.hatch h).pend = some m → s.stopped (bankKey (h / 8)) = false →
        m.frame * (s.bankCfg (h / 8)).period ≤ s.now → ∃ t, exec (.maskApply h) s = .next t ∧ (t.hatch h).pend = none ∧
          (t.hatch h).rxAct = m.rx.getD (s.hatch h).rxAct ∧ (t.hatch h).txAct = m.tx.getD (s.hatch h).txAct ∧
          (t.hatch h).applied = low m.frame ∧
          ∃ e ∈ t.porch.produced, e.evt = true ∧ e.code = 0x0810 ∧ e.obj = low h ∧ e.r0 = low m.frame) ∧
      (∀ (b : Fin 12), s.starting (bankKey b) = true → (s.bankCfg b).master = true →
        (s.cyc ≤ (s.bankRun b).startAt + 1411200 → ∃ t, exec (.synthLock b) s = .next t ∧ t.isRunning (bankKey b) = true ∧
          t.bankRun b = { s.bankRun b with locked := true, firstBlock := some (s.now / 70560 + 1),
                                           ramp := some (true, 70560 * (s.now / 70560 + 1)),
                                           clocked := firstFrame (s.bankCfg b).period (s.now / 70560 + 1) }) ∧
        ((s.bankRun b).startAt + 1411200 < s.cyc → ∃ t, exec (.lockTimeout b) s = .next t ∧ t.stopped (bankKey b) = true ∧
          ∀ c, (s.obj (bankKey b)).starter = some c → (∀ f ∈ s.porch.flights, f.op = 0x0801 → f.c = c → f.discard = false) →
            t.porch.produced = s.porch.produced ++ [s.completion ⟨0x0801, c, 1, 1⟩ stLockFail 0 0 0 0])) ∧
      (∀ (b : Fin 12) (t : Nat), t + (s.bankCfg b).rampCt ≤ s.now →
        ((s.bankRun b).ramp = some (true, t) → exec (.hatchRampEnd b) s = .next s) ∧
        ((s.bankRun b).ramp = some (false, t) → (s.bankRun b).stopAt = none → exec (.hatchRampEnd b) s = .next (s.setBankRun b
          { s.bankRun b with stopAt := some ((t + (s.bankCfg b).rampCt + 70559) / 70560 * 70560) }))) ∧
      (∀ (b : Fin 12) (n : Nat), (s.bankCfg b).master = false → s.working (bankKey b) = true → s.bankPowered b = true →
        ((s.bankRun b).lastEdge = none → exec (.partnerFrameEdge b n) s =
          .next (s.setBankRun b { s.bankRun b with lastEdge := some s.now, missed := 0 })) ∧
        (∀ t, (s.bankRun b).lastEdge = some t → (s.bankRun b).partner = true → exec (.partnerFrameEdge b n) s =
          .next (partnerGoesOn (s.setBankRun b { s.bankRun b with lastEdge := some s.now, missed := 0 }) b (s.now - t))) ∧
        (∀ t, (s.bankRun b).lastEdge = some t → (s.bankRun b).partner = false → (s.bankRun b).regular = 7 → (s.bankRun b).bitCount = n →
          n = (s.bankCfg b).bits → nearPeriod (s.bankRun b).period 1 (s.now - t) = true →
          nearPeriod (s.bankCfg b).period 8 (s.now - (s.bankRun b).winStart) = true → ∃ u, exec (.partnerFrameEdge b n) s = .next u ∧
            (u.bankRun b).partner = true ∧ (u.bankRun b).isMatch = true ∧ (u.bankRun b).missed = 0 ∧
            ∃ e ∈ u.porch.produced, e.evt = true ∧ e.code = 0x0811 ∧ e.obj = low (0x10000 + b))) ∧
      (∀ (b : Fin 12) (t : Nat), (s.bankCfg b).master = false → s.working (bankKey b) = true → (s.bankRun b).lastEdge = some t →
        (s.bankRun b).partner = true → (s.bankRun b).isMatch = false → (s.bankRun b).missed = 3 →
        t + (s.bankRun b).period * 4 + (s.bankRun b).period / 8 < s.now → ∃ u, exec (.missingFrame b) s = .next u ∧
          (u.bankRun b).partner = false ∧ (u.bankRun b).departures = (s.bankRun b).departures + 1 ∧ (u.bankRun b).missed = 4 ∧
          ∃ e ∈ u.porch.produced, e.evt = true ∧ e.code = 0x0812 ∧ e.obj = low (0x10000 + b) ∧ e.r0 = low (s.bankRun b).firstMissing)) ∧
  (∀ (s : State),
      (∀ (h : Fin 96) (entries : List TxHdr) (fail : Bool), s.bankFrames (h / 8) (s.now / 70560) = true →
        (s.hatch h).txBlock ≠ some (s.now / 70560) → ∃ t, exec (.hatchBlockStart h entries fail) s = .next t ∧
          (t.hatch h).txBlock = some (s.now / 70560) ∧
          (t.hatch h).cur = { first := firstFrame (s.bankCfg (h / 8)).period (s.now / 70560), isPart := false } ∧
          (∀ j : Fin 96, j ≠ h → t.hatch j = s.hatch j) ∧ t.cel.mem = s.cel.mem ∧
          ∀ g e, (s.hatch h).tx = some g → g.host = false → (s.hatch h).filled ≠ 0 → s.memEntry h g = some e →
            e.block = low (s.now / 70560) → (s.hatch h).visible.headD 0 + 35280 ≤ 70560 * (s.now / 70560) →
            e.frames = blockFrames (s.bankCfg (h / 8)).period (s.now / 70560) →
            (t.hatch h).txHead = ((s.hatch h).txHead + 1) % 2 ^ g.size ∧ (t.hatch h).txEntry = some e.mask) ∧
      (∀ (h : Fin 96) (entries : List TxHdr) (fail : Bool), (s.hatch h).txBlock = some (s.now / 70560) →
        exec (.hatchBlockStart h entries fail) s = .next s) ∧
      (∀ (h : Fin 96) (samples : List (List Int)) (fail : Bool) (d : RxDue) (r : List RxDue) (g : HatRing),
        (s.hatch h).due = d :: r → d.endAt ≤ s.now → s.legSlots h false = [] → (s.hatch h).rx = some g → g.host = false → d.mask ≠ 0 →
        (∀ k p ring bytes, k = s.bankCfg (h / 8) →
          p = repeatLost (slotsOf d.mask) d.lost d.first (samples.take d.frames) (s.hatch h).lastRx →
          ring = p.1.zipIdx.map (fun (f : List Int × Nat) => (pickSlots (slotsOf d.mask) d.mask f.1).map fun v =>
            rampSample d.ramp k.rampCt ((d.first + f.2) * k.period) (k.carry v)) →
          bytes = entryBytes d k.period (s.hatch h).pack d.mask ring →
          ((s.hatch h).rxTail + 1) % 2 ^ g.size ≠ (s.hatch h).rxHead →
          (∃ t, exec (.rxEntryWrite h samples fail) s = .next t ∧ (t.hatch h).due = r ∧
            (t.hatch h).rxTail = ((s.hatch h).rxTail + 1) % 2 ^ g.size ∧ (t.hatch h).rxHead = (s.hatch h).rxHead ∧
            t.cel.mem = (s.writeMem (s.entryAt h g (s.hatch h).rxTail) bytes).cel.mem) ∧
          bytes.take 32 = [low (d.first * k.period), high (d.first * k.period), low (d.first * k.period / 70560),
              low (d.frames + (if d.isPart then 2 ^ 16 else 0) + (if d.lost.isEmpty then 0 else 2 ^ 17)), d.mask,
              (if d.lost.isEmpty then 0 else d.mask), low d.first, (0 : Word)].flatMap wordBytes) ∧
        (((s.hatch h).rxTail + 1) % 2 ^ g.size = (s.hatch h).rxHead →
          ∃ t, exec (.rxEntryWrite h samples fail) s = .next t ∧ (t.hatch h).due = r ∧ (t.hatch h).drops = (s.hatch h).drops + 1 ∧
            (t.hatch h).rxTail = (s.hatch h).rxTail ∧ t.cel.mem = s.cel.mem)) ∧
      (∀ (h : Fin 96) (samples : List (List Int)) (fail : Bool), (s.hatch h).due = [] → exec (.rxEntryWrite h samples fail) s = .next s) ∧
      (∀ (r : Requester) (h : Fin 96) (v : Word) (s' : State) (g : HatRing), s' = hostArrives s r → s'.hatchPowered h = true →
        ((s'.hatch h).rx = some g →
          (bits v 9 0 < 2 ^ g.size → exec (.hatRxHeadWrite r h v) s = .next (s'.setHatch h { s'.hatch h with rxHead := bits v 9 0 })) ∧
          (2 ^ g.size ≤ bits v 9 0 → exec (.hatRxHeadWrite r h v) s = .next (s'.bump (bankA (h / 8) 0x14) 1))) ∧
        ((s'.hatch h).tx = some g →
          (bits v 9 0 < 2 ^ g.size → ∃ t, exec (.hatTxTailWrite r h v) s = .next t ∧ (t.hatch h).txTail = bits v 9 0 ∧
            (t.hatch h).txHead = (s'.hatch h).txHead ∧ (t.hatch h).visible.length = (t.hatch h).filled ∧
            (t.hatch h).visible.take (s'.hatch h).visible.length = (s'.hatch h).visible.take (t.hatch h).filled) ∧
          (2 ^ g.size ≤ bits v 9 0 → exec (.hatTxTailWrite r h v) s = .next (s'.bump (bankA (h / 8) 0x14) 1))) ∧
        ((s'.hatch h).rx = none → exec (.hatRxHeadWrite r h v) s = .next (s'.bump (bankA (h / 8) 0x14) 1)) ∧
        ((s'.hatch h).tx = none → exec (.hatTxTailWrite r h v) s = .next (s'.bump (bankA (h / 8) 0x14) 1))))

/-! ## The Glasshouse decodes -/

/-- DEC_CONFIG of a STOPPED slot holds what its packet says, 0 standing for the stated defaults, counts one generation, and answers the
units and pages that the slot will need; DEC_KEYREQ of a RUNNING slot asks for a key picture at once; DEC_STATS reports pictures, tainted
ones, key requests and size, DEC_PIPE_STATS units, running slots, late pictures and the free pages of the store (R272, R273).
ENC_CONFIG, ENC_LAYER and ENC_STREAM of a STOPPED encoding hold what their packets say, 0 standing for the stated defaults, and
count one generation (R334); ENC_KEYREQ makes a key pending for the layers of its mask, and for all of them where the mask is not 0 and
the encoding is not simulcast (R332); ENC_STATS reports a layer's coded and dropped pictures, exhaustions and fullness, ENC_PIPE_STATS the
rate reserved, encodings running, slow bands and free reference pages (R335). -/
def Obligations.GlasshouseCommands : Prop :=
  (∀ (s : State) (c : Cmd),
      (∀ g : SlotCfg, s.takes ⟨0x0A10, c, 1, 1⟩ → slotOk c.num = true → s.slotPowered c.num = true →
        firstFail (s.decConfigChecks c) = none →
        g = { leg := bits (c.word 4) 12 0, stream := bits (c.word 4) 15 13, av1 := bits (c.word 4) 17 16 == 1, bit10 := bit (c.word 4) 18,
              dpb := if bits (c.word 4) 23 20 = 0 then 3 else bits (c.word 4) 23 20, freeze := bits (c.word 4) 25 24,
              keyreq := bits (c.word 4) 27 26, maxW := bits (c.word 5) 11 0, maxH := bits (c.word 5) 27 16,
              maxFps := bits (c.word 6) 6 0, freezeCt := if c.word 7 = 0 then 70560000 else (c.word 7).toNat,
              keyreqCt := if c.word 8 = 0 then 21168000 else (c.word 8).toNat,
              keyreqMax := if bits (c.word 9) 7 0 = 0 then 10 else bits (c.word 9) 7 0, opPoint := bits (c.word 10) 4 0 } →
        exec (.decConfig c) s = .next ((bumpGen
          { s.begun ⟨0x0A10, c, 1, 1⟩ with dec := { s.dec with cfgs := tset {} s.dec.cfgs c.num g } } (slotKey c.num)).answers
            ⟨0x0A10, c, 1, 1⟩ stOk (low g.units) (low g.pages) 0 0)) ∧
      (s.takes ⟨0x0A11, c, 1, 1⟩ → slotOk c.num = true → s.slotPowered c.num = true → s.isRunning (slotKey c.num) = true →
        exec (.decKeyreq c) s = .next (finish (slotAsks (s.begun ⟨0x0A11, c, 1, 1⟩) c.num) 0x0A11 c stOk)) ∧
      (s.takes ⟨0x0A12, c, 1, 1⟩ → slotOk c.num = true →
        exec (.decStats c) s = .next ((s.begun ⟨0x0A12, c, 1, 1⟩).answers ⟨0x0A12, c, 1, 1⟩ stOk (low (s.slotRun c.num).pics)
          (low (s.slotRun c.num).taints) (low (s.slotRun c.num).keys) (low ((s.slotRun c.num).w + (s.slotRun c.num).h * 65536)))) ∧
      (∀ n, c.num = 0x10000 + n → n < 24 → s.takes ⟨0x0A13, c, 1, 1⟩ →
        exec (.decPipeStats c) s = .next ((s.begun ⟨0x0A13, c, 1, 1⟩).answers ⟨0x0A13, c, 1, 1⟩ stOk (low (s.pipeUnits n))
          (low (s.slotsRunning n)) (low (tget 0 s.dec.late n)) (low s.freeStore)))) ∧
  (∀ (s : State) (c : Cmd),
      (encOk c.num = true → s.encPowered c.num = true →
        (∀ g : EncCfg, s.takes ⟨0x0C10, c, 1, 1⟩ → firstFail (s.encConfigChecks c) = none →
          g = { codec := bits (c.word 4) 1 0, mode := bits (c.word 4) 5 4, spatial := bits (c.word 4) 9 8, temporal := bits (c.word 4) 13 12,
                keyInt := (c.word 5).toNat, keyMin := if (c.word 6).toNat = 0 then 35280000 else (c.word 6).toNat,
                switchCt := if (c.word 7).toNat = 0 then 70560000 else (c.word 7).toNat,
                keyFactor := if bits (c.word 8) 7 0 = 0 then 0x40 else bits (c.word 8) 7 0 } →
          exec (.encConfig c) s = .next ((bumpGen ((s.begun ⟨0x0C10, c, 1, 1⟩).setEncSet c.num { s.encSet c.num with cfg := g })
            (encKey c.num)).answers ⟨0x0C10, c, 1, 1⟩ stOk
            (low (({ s.encSet c.num with cfg := g } : EncSet).pxRate (s.canvasCfg c.num) / 1000))
            (low (g.pages (s.canvasCfg c.num).w (s.canvasCfg c.num).h)) 0 0)) ∧
        (s.takes ⟨0x0C11, c, 1, 1⟩ → firstFail (s.encLayerChecks c) = none →
          exec (.encLayer c) s = .next (s.after ⟨0x0C11, c, 1, 1⟩ fun t => bumpGen (t.setEncSet c.num { s.encSet c.num with
            layers := tset {} (s.encSet c.num).layers (bits (c.word 4) 1 0)
              { bitrate := (c.word 5).toNat, buf := (c.word 6).toNat, ts0 := bits (c.word 7) 6 0, ts1 := bits (c.word 7) 14 8,
                qpMin := bits (c.word 8) 7 0, qpMax := some (bits (c.word 8) 15 8) } }) (encKey c.num))) ∧
        (s.takes ⟨0x0C12, c, 1, 1⟩ → firstFail (s.encStreamChecks c) = none →
          exec (.encStream c) s = .next (s.after ⟨0x0C12, c, 1, 1⟩ fun t => bumpGen (t.setEncSet c.num { s.encSet c.num with
            streams := (if bit (c.word 4) 31 then tput (s.encSet c.num).streams (bits (c.word 4) 1 0)
              { ssrc := c.word 5, pt := bits (c.word 6) 6 0, ddId := bits (c.word 6) 15 8,
                payload := (if bits (c.word 6) 31 16 = 0 then 1200 else bits (c.word 6) 31 16), tsBase := c.word 7 }
              else tdel (s.encSet c.num).streams (bits (c.word 4) 1 0)) }) (encKey c.num))) ∧
        (s.takes ⟨0x0C13, c, 1, 1⟩ → firstFail (s.encKeyreqChecks c) = none → ∃ t, exec (.encKeyreq c) s = .next t ∧
          (∀ i, i < (s.encSet c.num).cfg.spatial → tget 0 (s.encRun c.num).keyPend i = 0 → tget 0 (t.encRun c.num).keyPend i =
            (if (bits (c.word 4) 2 0).testBit i ∨ (bits (c.word 4) 2 0 ≠ 0 ∧ (s.encSet c.num).cfg.simulcast = false) then 3 else 0)) ∧
          t.porch.produced = s.porch.produced ++ [s.completion ⟨0x0C13, c, 1, 1⟩ stOk 0 0 0 0])) ∧
      (s.takes ⟨0x0C14, c, 1, 1⟩ → encOk c.num = true → bits (c.word 4) 31 4 = 0 → bits (c.word 4) 3 0 ≤ 8 →
        exec (.encStats c) s = .next ((s.begun ⟨0x0C14, c, 1, 1⟩).answers ⟨0x0C14, c, 1, 1⟩ stOk
          (low (tget 0 (s.encRun c.num).coded (bits (c.word 4) 3 0))) (low (tget 0 (s.encRun c.num).drops (bits (c.word 4) 3 0)))
          (low (tget 0 (s.encRun c.num).exh (bits (c.word 4) 3 0))) (low (s.fullRatio c.num (bits (c.word 4) 3 0))))) ∧
      (∀ n, c.num = 0x1_0000 + n → n < 12 → s.takes ⟨0x0C15, c, 1, 1⟩ →
        exec (.encPipeStats c) s = .next ((s.begun ⟨0x0C15, c, 1, 1⟩).answers ⟨0x0C15, c, 1, 1⟩ stOk (low (s.encRate n / 1000))
          (low (s.encRunning n).length) (low (tget 0 s.enc.slow n)) (low s.freeRefs))))

/-- In Run with its domain on, a pipe decodes the next band of the slot that the deadlines pick; of a slot without a picture the first that
waits begins, unless its stream is refused, when none begins and a key picture is needed (R253, R257, R261). A band's fence follows once
the band below it is decoded, of 128-row superblocks once the superblock row below is, or with the picture's last band, and is signalled
only for a picture that is shown (R263, R264). A picture whose every band is written joins the stored pictures and signals fence 31 if it
is shown, and a late one is counted (R264). A key request repeats in a taint run when its time has passed, and policy 2 shows pictures
again after FREEZE_CT, with DEC_FREEZE where they were frozen (R268, R270). -/
def Obligations.PicturesBandsAndFences : Prop :=
  ∀ (s : State),
    (∀ (pipe : Fin 24) (o : BandObs) (k : Nat), s.running = true → s.dom (28 + pipe) = true → s.pickSlot pipe = some k →
      (s.slotRun k).taint = none → o.gap = none → o.damaged = [] →
      (∀ p, (s.slotRun k).cur = some p → (∀ r ∈ o.refs, ((s.slotRun k).ref r.1).any (fun q => !q.tainted) = true) →
        ∃ t, exec (.decodeBandBoundary pipe o) s = .next t ∧
          t.slotRun k = { s.slotRun k with cur := some { p with
            decoded := p.decoded + 1, isRef := o.isRef, unref := o.unref,
            firstRef := p.firstRef.orElse fun _ => o.refs.head?.map Prod.fst } } ∧
          tget 0 t.dec.last pipe = k + 1 ∧ (∀ j, j ≠ k → t.slotRun j = s.slotRun j) ∧ t.porch.produced = s.porch.produced) ∧
      (∀ w r i, (s.slotRun k).cur = none → (s.slotRun k).waiting = w :: r → (w.key = true ∨ (s.slotRun k).needKey = false) →
        o.stream = none → o.newSeq = false → o.refs = [] → (s.slotRun k).info = some i →
        ((s.slotCfg k).refuses i o.excluded = none → ∃ t c, exec (.decodeBandBoundary pipe o) s = .next t ∧
          (t.slotRun k).cur = some c ∧ c.num = w.num ∧ c.decoded = 1 ∧ c.final = 0 ∧ (t.slotRun k).waiting = r ∧
          (t.slotRun k).needKey = false) ∧
        ((s.slotCfg k).refuses i o.excluded ≠ none → ∃ t, exec (.decodeBandBoundary pipe o) s = .next t ∧
          (t.slotRun k).cur = none ∧ (t.slotRun k).waiting = r ∧ (t.slotRun k).needKey = true))) ∧
    (∀ (k : Fin 384) (p : CurPic), s.working (slotKey k) = true → (s.slotRun k).cur = some p → p.final < p.bands →
      ((if p.sb128 then p.final / 2 * 2 + 4 else p.final + 2) ≤ p.decoded ∨ p.decoded = p.bands) →
      (p.shown = true → exec (.bandFinal k) s = .next (s.setSlotRun k { s.slotRun k with
        cur := some { p with final := p.final + 1, held := p.held || (p.final + 1 = 1 && s.orgUses k) },
        progress := fenceWord p.num (p.final + 1), lastPub := p.num })) ∧
      (p.shown = false → exec (.bandFinal k) s = .next (s.setSlotRun k { s.slotRun k with
        cur := some { p with final := p.final + 1 } }))) ∧
    (∀ (k : Fin 384) (p : CurPic), (s.slotRun k).cur = some p → p.final < p.bands → p.decoded < p.bands →
      p.decoded < (if p.sb128 then p.final / 2 * 2 + 4 else p.final + 2) →
      exec (.bandFinal k) s = .next s) ∧
    (∀ (k : Fin 384) (p : CurPic), s.isRunning (slotKey k) = true → (s.slotRun k).cur = some p → p.decoded = p.bands →
      p.final = p.bands → p.tainted = false → p.clean = false → p.recovery = none → (s.slotRun k).recov = none → ∃ t, exec (.pictureCompleteFence k) s = .next t ∧
        (t.slotRun k).cur = none ∧ (t.slotRun k).pics = (s.slotRun k).pics + 1 ∧ (t.slotRun k).taints = (s.slotRun k).taints ∧
        (t.slotRun k).progress = (if p.shown then fenceWord p.num 31 else (s.slotRun k).progress) ∧
        (t.slotRun k).lastPub = (if p.shown then p.num else (s.slotRun k).lastPub) ∧
        tget 0 t.dec.late (k / 16) = tget 0 s.dec.late (k / 16) + (if p.deadline < s.now then 1 else 0)) ∧
    (∀ (k : Fin 384) (t : Nat), (s.slotRun k).keyNext = some t → (s.slotRun k).taint.isSome = true → s.isRunning (slotKey k) = true →
      (t ≤ s.now → exec (.keyreqRepeat k) s = .next (runAsks s k)) ∧ (s.now < t → exec (.keyreqRepeat k) s = .next s)) ∧
    (∀ (k : Fin 384) (t n : Nat), (s.slotRun k).taint = some (t, n) → (s.slotCfg k).freeze = 2 → (s.slotRun k).switched = false →
      t + (s.slotCfg k).freezeCt ≤ s.now → s.working (slotKey k) = true → ∃ u, exec (.freezeTimeout k) s = .next u ∧
        u.slotRun k = { s.slotRun k with switched := true, frozen := false } ∧
        ((s.slotRun k).frozen = true → ∃ e ∈ u.porch.produced, e.evt = true ∧ e.code = 0x0A16 ∧ e.obj = low k ∧ e.r0 = 2))

/-! ## The Orangery -/

/-- ORG_CANVAS_CONFIG of a STOPPED canvas and ORG_LAYER_STAGE store what their packets say (R282, R305). ORG_COMMIT takes the staged layers
under the next sequence number: pending with its fences while the canvas is RUNNING, ending a commit that it replaces with outcome 3, and
in force at once while it is STOPPED (R295, R296). ORG_FENCE_SIGNAL writes a host fence and answers the value before; an image is loaded,
or freed while no layer names it, and the free pages answered (R302-R304); ORG_STATS answers frames, torn bands, skipped frames and the
active commit. -/
def Obligations.CanvasCommands : Prop :=
  ∀ (s : State) (c : Cmd),
    (canvasOk c.num = true → s.canvasPowered c.num = true →
      (s.takes ⟨0x0B10, c, 1, 1⟩ → firstFail (s.orgCanvasConfigChecks c) = none →
        exec (.orgCanvasConfig c) s = .next (s.after ⟨0x0B10, c, 1, 1⟩ fun t => bumpGen { t with org := { t.org with
          cfgs := tset {} t.org.cfgs c.num
            { w := bits (c.word 4) 10 0, h := bits (c.word 4) 26 16, rate := bits (c.word 5) 2 0, phase := (c.word 6).toNat,
              bgY := bits (c.word 7) 9 0, bgCb := bits (c.word 7) 19 10, bgCr := bits (c.word 7) 29 20,
              frames := (if bits (c.word 8) 3 0 = 0 then 3 else bits (c.word 8) 3 0), policy := bit (c.word 8) 8,
              wait := (c.word 9).toNat } } } (canvasKey c.num))) ∧
      (s.takes ⟨0x0B11, c, 1, 1⟩ → firstFail (s.orgLayerStageChecks c) = none →
        exec (.orgLayerStage c) s = .next (s.after ⟨0x0B11, c, 1, 1⟩ fun t => t.setCanvas c.num { t.canvas c.num with
          staging := (if bit (c.word 4) 4 then tput (t.canvas c.num).staging (bits (c.word 4) 3 0)
            { kind := bits (c.word 4) 6 5, opq := bit (c.word 4) 7, opacity := bits (c.word 4) 15 8, border := bits (c.word 4) 19 16,
              source := bits (c.word 5) 12 0, dx := sbits (c.word 6) 12 0, dy := sbits (c.word 6) 28 16, dw := bits (c.word 7) 11 0,
              dh := bits (c.word 7) 27 16, sx := bits (c.word 8) 11 0, sy := bits (c.word 8) 27 16, sw := bits (c.word 9) 11 0,
              sh := bits (c.word 9) 27 16, colY := bits (c.word 10) 9 0, colCb := bits (c.word 10) 19 10, colCr := bits (c.word 10) 29 20 }
            else tdel (t.canvas c.num).staging (bits (c.word 4) 3 0)) })) ∧
      (s.takes ⟨0x0B12, c, 1, 2⟩ → firstFail (s.orgCommitChecks c) = none → (s.canvas c.num).pend = none →
        s.stopped (canvasKey c.num) = false →
        exec (.orgCommit c) s = .next (((s.begun ⟨0x0B12, c, 1, 2⟩).setCanvas c.num { s.canvas c.num with
            nextSeq := nextSeqNo (s.canvas c.num).nextSeq,
            pend := some { seq := (s.canvas c.num).nextSeq, earliest := c.word 5, layers := (s.canvas c.num).staging,
                           fences := (List.range (bits (c.word 4) 3 0)).map (s.fenceOf c), seen := 0 } }).answers
          ⟨0x0B12, c, 1, 2⟩ stOk (low (s.canvas c.num).nextSeq) 0 0 0)) ∧
      (∀ p, s.takes ⟨0x0B12, c, 1, 2⟩ → firstFail (s.orgCommitChecks c) = none → (s.canvas c.num).pend = some p →
        s.stopped (canvasKey c.num) = false →
        ∃ t, exec (.orgCommit c) s = .next t ∧ t.canvas c.num = { s.canvas c.num with
          nextSeq := nextSeqNo (s.canvas c.num).nextSeq,
          pend := some { seq := (s.canvas c.num).nextSeq, earliest := c.word 5, layers := (s.canvas c.num).staging,
                         fences := (List.range (bits (c.word 4) 3 0)).map (s.fenceOf c), seen := 0 } } ∧
          ∃ e ∈ t.porch.produced, e.evt = true ∧ e.code = 0x0B10 ∧ e.obj = low c.num ∧ e.r0 = low p.seq ∧ e.r1 = 3) ∧
      (s.takes ⟨0x0B12, c, 1, 2⟩ → firstFail (s.orgCommitChecks c) = none → (s.canvas c.num).pend = none →
        s.stopped (canvasKey c.num) = true →
        ∃ t, exec (.orgCommit c) s = .next t ∧ t.canvas c.num = { s.canvas c.num with
          nextSeq := nextSeqNo (s.canvas c.num).nextSeq, seq := (s.canvas c.num).nextSeq, active := (s.canvas c.num).staging } ∧
          s.completion ⟨0x0B12, c, 1, 2⟩ stOk (low (s.canvas c.num).nextSeq) 0 0 0 ∈ t.porch.produced)) ∧
    (s.takes ⟨0x0B13, c, 1, 1⟩ → hostFenceOk c.num = true →
      exec (.orgFenceSignal c) s = .next ({ s.begun ⟨0x0B13, c, 1, 1⟩ with org := { s.org with
        hfence := tset 0 s.org.hfence (c.num - 0x2_0000) (c.word 4) } }.answers ⟨0x0B13, c, 1, 1⟩ stOk
          (s.hostFence (c.num - 0x2_0000)) 0 0 0)) ∧
    (∀ bytes, s.takes ⟨0x0B14, c, 1, 1⟩ → imageOk c.num = true → firstFail (s.imageLoadChecks c) = none →
      (s.begun ⟨0x0B14, c, 1, 1⟩).hostReach = true → ∃ t, exec (.orgImageLoad c bytes) s = .next t ∧
        tfind t.org.images (c.num - 0x3_0000) = some (imageOf c bytes) ∧
        ∀ i, i ≠ c.num - 0x3_0000 → tfind t.org.images i = tfind s.org.images i) ∧
    (s.takes ⟨0x0B15, c, 1, 1⟩ → imageOk c.num = true → s.imageInUse (c.num - 0x3_0000) = false →
      exec (.orgImageFree c) s = .next ({ s.begun ⟨0x0B15, c, 1, 1⟩ with org := { s.org with
        images := tdel s.org.images (c.num - 0x3_0000) } }.answers ⟨0x0B15, c, 1, 1⟩ stOk
          (low (4096 - sumNat ((tdel s.org.images (c.num - 0x3_0000)).map fun (e : Nat × Image) => e.2.pages))) 0 0 0)) ∧
    (s.takes ⟨0x0B16, c, 1, 1⟩ → canvasOk c.num = true →
      exec (.orgStats c) s = .next ((s.begun ⟨0x0B16, c, 1, 1⟩).answers ⟨0x0B16, c, 1, 1⟩ stOk (low (s.canvas c.num).frames)
        (low (s.canvas c.num).tornN) (low (s.canvas c.num).skipN) (low (s.canvas c.num).seq)))

/-- At a frame start a RUNNING canvas begins its frame, or skips it while the last one is unfinished or, of an odd one, while the ladder
halves the rate (R289, R293). A band is released at its instant (R281); an idle pipe composes the released band that comes first, with
the start and release of its frame, one at a time, and a band whose wait has passed waits for its sources no longer (R290-R292); a
composed band is placed, with its samples, for an encoding that runs, and discarded otherwise; the last one ends the frame (R292, R300). -/
def Obligations.FramesAndBandsOfCanvases : Prop :=
  ∀ (s : State),
    (∀ (n : Fin 96) (k : Nat), (s.canvasCfg n).frameAt s.now = some k → s.running = true → s.bell.double = false →
      s.dom (64 + n / 24) = true → s.isRunning (canvasKey n) = true → (s.canvas n).lastK ≠ some k →
      ((s.hall.step < 3 ∨ k % 2 = 0) → (s.canvas n).frame = none →
        exec (.canvasFrameStart n) s = .next (beginFrame (s.setCanvas n { s.canvas n with lastK := some k }) n k) ∧
        ((beginFrame (s.setCanvas n { s.canvas n with lastK := some k }) n k).canvas n).frame = some k ∧
        ((beginFrame (s.setCanvas n { s.canvas n with lastK := some k }) n k).canvas n).released = 0 ∧
        ((beginFrame (s.setCanvas n { s.canvas n with lastK := some k }) n k).canvas n).begun = 0) ∧
      (3 ≤ s.hall.step → k % 2 = 1 → exec (.canvasFrameStart n) s =
        .next ((s.setCanvas n { s.canvas n with lastK := some k }).bump (canvasA n 0x1C) 1)) ∧
      (∀ j, s.hall.step < 3 → (s.canvas n).frame = some j → (s.canvas n).begun < (s.canvasCfg n).bands →
        ∃ t, exec (.canvasFrameStart n) s = .next t ∧ (t.canvas n).skipN = (s.canvas n).skipN + 1 ∧ (t.canvas n).frame = some j ∧
          (t.canvas n).active = (s.canvas n).active)) ∧
    (∀ (n : Fin 96) (k : Nat), (s.canvas n).frame = some k → s.running = true → s.working (canvasKey n) = true →
      (s.canvas n).released < (s.canvasCfg n).bands →
      ((s.canvasCfg n).release k (s.canvas n).released ≤ s.now → ∃ t, exec (.bandRelease n) s = .next t ∧
        (t.canvas n).released = (s.canvas n).released + 1 ∧ (t.canvas n).begun = (s.canvas n).begun) ∧
      (s.now < (s.canvasCfg n).release k (s.canvas n).released → exec (.bandRelease n) s = .next s)) ∧
    (∀ (pipe : Fin 4) (t c k : Nat), s.running = true → s.bell.double = false → s.dom (64 + pipe) = true → tfind s.org.busy pipe = none →
      earliest ((pipeCanvases pipe).filterMap fun c => (s.mayCompose c).map fun t => (t, c)) = some (t, c) →
      (s.canvas c).frame = some k → ∃ u b, exec (.bandCompose pipe) s = .next u ∧ tfind u.org.busy pipe = some b ∧ b.canvas = c ∧
        b.frame = k ∧ b.band = (s.canvas c).begun ∧ b.at' = s.now ∧ (u.canvas c).begun = (s.canvas c).begun + 1 ∧
        b.start = (s.canvasCfg c).start k ∧ b.release = (s.canvasCfg c).release k b.band ∧ b.src = s.shown c b.band) ∧
    (∀ (pipe : Fin 4) (b : Placed), tfind s.org.busy pipe = some b → exec (.bandCompose pipe) s = .next s) ∧
    (∀ (n : Fin 96) (k : Nat), (s.canvas n).frame = some k → s.running = true → s.working (canvasKey n) = true →
      (s.canvas n).begun < (s.canvas n).released → (s.unready (s.canvas n) (s.canvasCfg n) (s.canvas n).begun).isSome = true →
      ((s.canvasCfg n).release k (s.canvas n).begun + (s.canvasCfg n).waitCt ≤ s.now →
        exec (.bandWaitExpiry n) s = .next (composeNext (s.setCanvas n { s.canvas n with torn := true }) (n / 24))) ∧
      (s.now < (s.canvasCfg n).release k (s.canvas n).begun + (s.canvasCfg n).waitCt → exec (.bandWaitExpiry n) s = .next s)) ∧
    (∀ (pipe : Fin 4) (b : Placed), tfind s.org.busy pipe = some b → s.running = true → s.isRunning (canvasKey b.canvas) = true →
      ∃ t, exec (.bandPlaced pipe) s = .next t ∧ tfind t.org.busy pipe = none ∧
        t.enc.placed = (if s.encTakes b.canvas && !s.bell.double
          then s.enc.placed ++ [{ b.done (s.canvasCfg b.canvas) with at' := s.now }] else s.enc.placed) ∧
        (t.canvas b.canvas).frames = (s.canvas b.canvas).frames + (if b.band + 1 = (s.canvasCfg b.canvas).bands then 1 else 0) ∧
        (b.band + 1 = (s.canvasCfg b.canvas).bands → (s.canvas b.canvas).frame = some b.frame → (t.canvas b.canvas).frame = none))

/-! ## The Glasshouse encodes -/

/-- In Run with its domain on, an idle pipe takes the placed band with the earliest release; the first band whose geometry is not the
encoding's is discarded with a GEOMETRY event, a later band of a frame under way is coded (R316, R322, R336). A coded band's units go out
as items of the canvas stream's flow, those that the Hall admits, in order; its pipe is idle again, and a band that took too long is
counted (R319, R320). A key falls due in every layer of a simulcast encoding whose last one is KEY_INTERVAL_CT old, and in all layers of
another once its first one's is (R332). -/
def Obligations.BandsOfEncodings : Prop :=
  ∀ (s : State),
    (∀ (pipe : Fin 12) (codes : List BandCode) (b : Placed), s.running = true → s.dom (52 + pipe) = true →
      tfind s.enc.busy pipe = none → pickPlaced pipe s.enc.placed = some b →
      (exec (.bandEncodeStart pipe codes) s = .next (takeBand s pipe b codes) ∧
        (takeBand s pipe b codes).enc.placed = s.enc.placed.erase b) ∧
      ((s.encRun b.canvas).geom = false → (s.encRun b.canvas).fits b = false → ∃ t, exec (.bandEncodeStart pipe codes) s = .next t ∧
        (t.encRun b.canvas).geom = true ∧ (t.encRun b.canvas).frame = none ∧ tfind t.enc.busy pipe = none ∧
        ∃ e ∈ t.porch.produced, e.evt = true ∧ e.code = 0x0C13 ∧ e.obj = low b.canvas) ∧
      ((s.encRun b.canvas).geom = false → (s.encRun b.canvas).fits b = true → b.band ≠ 0 → (s.encRun b.canvas).frame = some b.frame →
        ∃ t j, exec (.bandEncodeStart pipe codes) s = .next t ∧ tfind t.enc.busy pipe = some j ∧ j.band = b ∧
          (t.encRun b.canvas).frame = some b.frame ∧ t.porch.produced = s.porch.produced)) ∧
    (∀ (pipe : Fin 12) (j : EncJob), s.running = true → tfind s.enc.busy pipe = some j → s.isRunning (encKey j.band.canvas) = true →
      ∃ t, exec (.bandCoded pipe) s = .next t ∧ tfind t.enc.busy pipe = none ∧ t.enc.placed = s.enc.placed ∧
        (j.tiles.foldl (passTile j.band.canvas j.band.frame)
          { s with enc := { s.enc with busy := tdel s.enc.busy pipe } }).out <:+ t.out ∧
        tget 0 t.enc.slow pipe = tget 0 s.enc.slow pipe +
          (if j.band.at' + (s.encRunning pipe).length * 19038 < s.now then 1 else 0)) ∧
    (∀ (c k : Nat) (x : Nat × Nat × Nat) (ok : Bool) (t : State),
      hallWork s (canvasFlow c (if (s.encSet c).cfg.simulcast then x.1 else 0)) 5 = (ok, t) →
      passTile c k s x = if ok then { t with out := Out.tile c x.1 k x.2.1 x.2.2 :: t.out } else t) ∧
    (∀ (pipe : Fin 12), tfind s.enc.busy pipe = none → exec (.bandCoded pipe) s = .next s) ∧
    (∀ (n : Fin 96), s.isRunning (encKey n) = true → (s.encSet n).cfg.keyInt ≠ 0 → (s.encSet n).cfg.spatial ≤ 3 →
      ∃ t, exec (.keyIntervalExpiry n) s = .next t ∧ t.porch.produced = s.porch.produced ∧
        ∀ i, i < (s.encSet n).cfg.spatial → tget 0 (s.encRun n).keyPend i = 0 →
          ((s.encSet n).cfg.simulcast = true → tget 0 (t.encRun n).keyPend i =
            (if tget 0 (s.encRun n).lastKey i ≠ 0 ∧ since (s.encRun n).lastKey i s.now (s.encSet n).cfg.keyInt = true then 2 else 0)) ∧
          ((s.encSet n).cfg.simulcast = false → tget 0 (s.encRun n).lastKey 0 ≠ 0 →
            since (s.encRun n).lastKey 0 s.now (s.encSet n).cfg.keyInt = true → tget 0 (t.encRun n).keyPend i = 2))

/-! ## The Dumbwaiter -/

/-- FWD_CONFIG of a STOPPED subscription and FWD_CEILING hold what their packets say, 0 standing for the stated defaults; the ceiling of a
RUNNING subscription is recomputed at once and answered with its points; FWD_KEYREQ of a RUNNING one asks the source for the layers of its
mask, if any, and completes; FWD_STATS reports points, suspension, clones, rate and changes (R350, R353, R361, R362).
A shaper that a command writes has its rate and burst and no tokens, a policer that it writes is full (R377, R384, R385); queue
limits, ages and pacing, overhead and quantum are stored, 0 standing for the stated defaults (R371-R373), and count a generation of their
leg or port (R66); the statistics commands report (R388). -/
def Obligations.EgressCommands : Prop :=
  (∀ (s : State) (c : Cmd), subOk c.num = true →
      (s.takes ⟨0x0D10, c, 1, 1⟩ → firstFail (s.fwdConfigChecks c) = none →
        exec (.fwdConfig c) s = .next (s.after ⟨0x0D10, c, 1, 1⟩ fun t => bumpGen (t.setSubCfg c.num
          { kind := bits (c.word 4) 1 0, indep := bit (c.word 4) 2, suspend := bit (c.word 4) 3, evt := bit (c.word 4) 4,
            toPeer := bit (c.word 4) 5, prio := bits (c.word 4) 11 8, destIdx := bits (c.word 4) 14 12,
            dest := bits (c.word 5) 12 0, link := bits (c.word 5) 25 16, source := c.word 6, maxS := bits (c.word 7) 1 0,
            maxT := bits (c.word 7) 3 2, pause := bit (c.word 7) 4,
            upHold := (if (c.word 8).toNat = 0 then 141120000 else (c.word 8).toNat),
            keyWait := (if (c.word 9).toNat = 0 then 70560000 else (c.word 9).toNat),
            headroom := bits (c.word 10) 6 0 }) (subKey c.num))) ∧
      (s.takes ⟨0x0D11, c, 1, 1⟩ → firstFail (s.fwdCeilingChecks c) = none → s.stopped (subKey c.num) = true →
        exec (.fwdCeiling c) s = .next (((s.begun ⟨0x0D11, c, 1, 1⟩).setSubCfg c.num { s.subCfg c.num with
          maxS := bits (c.word 4) 1 0, maxT := bits (c.word 4) 3 2, pause := bit (c.word 4) 4 }).answers ⟨0x0D11, c, 1, 1⟩ stOk
            (low ((s.sub c.num).cur.getD 0 + (s.sub c.num).target.getD 0 * 16)) 0 0 0)) ∧
      (∀ t, s.takes ⟨0x0D11, c, 1, 1⟩ → firstFail (s.fwdCeilingChecks c) = none → s.isRunning (subKey c.num) = true →
        t = (s.begun ⟨0x0D11, c, 1, 1⟩).setSubCfg c.num { s.subCfg c.num with
          maxS := bits (c.word 4) 1 0, maxT := bits (c.word 4) 3 2, pause := bit (c.word 4) 4 } →
        ((s.subCfg c.num).toPeer = true → exec (.fwdCeiling c) s =
          .next (complete (peerTarget t c.num) 0x0D11 c stOk (low ((peerTarget t c.num).subPoints c.num)) 0 0 0)) ∧
        ((s.subCfg c.num).toPeer = false → exec (.fwdCeiling c) s = .next (complete (recompute t (s.subCfg c.num).dest 2) 0x0D11 c stOk
          (low ((recompute t (s.subCfg c.num).dest 2).subPoints c.num)) 0 0 0))) ∧
      (s.takes ⟨0x0D12, c, 1, 1⟩ → s.isRunning (subKey c.num) = true → bits (c.word 4) 31 3 = 0 →
        (bits (c.word 4) 2 0 = 0 → exec (.fwdKeyreq c) s = .next (s.after ⟨0x0D12, c, 1, 1⟩ id)) ∧
        (bits (c.word 4) 2 0 ≠ 0 → exec (.fwdKeyreq c) s =
          .next (finish (askSource (s.begun ⟨0x0D12, c, 1, 1⟩) c.num (bits (c.word 4) 2 0) 3) 0x0D12 c stOk))) ∧
      (s.takes ⟨0x0D13, c, 1, 1⟩ →
        exec (.fwdStats c) s = .next ((s.begun ⟨0x0D13, c, 1, 1⟩).answers ⟨0x0D13, c, 1, 1⟩ stOk
          (low (s.subPoints c.num + if (s.sub c.num).suspended then 256 else 0)) (low (s.sub c.num).clones)
          (low (kbits (recent s.now (s.sub c.num).sent))) (low (s.sub c.num).changes)))) ∧
  (∀ (s : State) (c : Cmd),
      (s.prgLegOk c.num = true → s.legPowered c.num = true →
        (∀ x, s.takes ⟨0x0610, c, 1, 1⟩ → firstFail (s.prgLegShapeChecks c) = none →
          x = { s.legPrg c.num with
            leg := (if bit (c.word 4) 0 then ⟨(c.word 5).toNat, (c.word 6).toNat, 0, 0, s.now⟩ else (s.legPrg c.num).leg),
            svc0 := (if bit (c.word 4) 1 then ⟨(c.word 7).toNat, (c.word 8).toNat, 0, 0, s.now⟩ else (s.legPrg c.num).svc0),
            svc1 := (if bit (c.word 4) 2 then ⟨(c.word 9).toNat, (c.word 10).toNat, 0, 0, s.now⟩ else (s.legPrg c.num).svc1),
            svc2 := (if bit (c.word 4) 3 then ⟨(c.word 11).toNat, (c.word 12).toNat, 0, 0, s.now⟩ else (s.legPrg c.num).svc2),
            svc3 := (if bit (c.word 4) 4 then ⟨(c.word 13).toNat, (c.word 14).toNat, 0, 0, s.now⟩ else (s.legPrg c.num).svc3) } →
          exec (.prgLegShape c) s = .next (s.after ⟨0x0610, c, 1, 1⟩ fun t => (t.setLegPrg c.num x).bump (prgA 0x1C)
            ((List.range 5).filter fun k => bit (c.word 4) k).length)) ∧
        (s.takes ⟨0x0611, c, 1, 1⟩ → firstFail (s.prgLegQueueChecks c) = none →
          exec (.prgLegQueue c) s = .next (s.after ⟨0x0611, c, 1, 1⟩ fun t => bumpGen (t.setLegPrg c.num { s.legPrg c.num with
            qlimit := (List.range 4).map fun k => if bits (c.word (4 + k)) 23 0 = 0 then (if k = 1 ∨ k = 2 then 262144 else 16384)
              else bits (c.word (4 + k)) 23 0,
            age := [(c.word 8).toNat, (c.word 9).toNat, (c.word 10).toNat, (c.word 11).toNat], pace := bits (c.word 12) 7 0 })
            (objKey 4 c.num))) ∧
        (s.takes ⟨0x0612, c, 1, 1⟩ → firstFail (s.prgPoliceChecks c) = none →
          exec (.prgPolice c) s = .next (s.after ⟨0x0612, c, 1, 1⟩ fun t => t.setLegPrg c.num { s.legPrg c.num with
            polEn := bit (c.word 4) 0,
            pol := ⟨(c.word 5).toNat, (c.word 6).toNat, (((c.word 6).toNat * 65536 : Nat) : Int), 0, s.now⟩ })) ∧
        (s.takes ⟨0x0615, c, 1, 1⟩ → s.hatchLeg c.num = false →
          exec (.prgLegStats c) s = .next ((s.begun ⟨0x0615, c, 1, 1⟩).answers ⟨0x0615, c, 1, 1⟩ stOk (low (s.legPrg c.num).polDrops)
            (low (s.legPrg c.num).qDrops) (wordOfInt ((s.legPrg c.num).leg.at s.now).bytes) (low (s.heldServices c.num))))) ∧
      (∀ p, c.num = 0x10000 + p → s.portPresent p = true → s.portPowered p = true →
        (s.takes ⟨0x0613, c, 1, 1⟩ → firstFail (s.prgPortConfigChecks c) = none →
          exec (.prgPortConfig c) s = .next (s.after ⟨0x0613, c, 1, 1⟩ fun t => bumpGen (t.setPortPrg p { s.portPrg p with
            overhead := sbits (c.word 4) 7 0, quantum := (if bits (c.word 5) 15 0 = 0 then 1600 else bits (c.word 5) 15 0) })
            (portKey p))) ∧
        (s.takes ⟨0x0614, c, 1, 1⟩ → rateOk (c.word 4) = true → burstOk (c.word 5) = true →
          exec (.prgPortShape c) s = .next (s.after ⟨0x0614, c, 1, 1⟩ fun t => (t.setPortPrg p { s.portPrg p with
            shaper := ⟨(c.word 4).toNat, (c.word 5).toNat, 0, 0, s.now⟩ }).bump (prgA 0x1C) 1)) ∧
        (s.takes ⟨0x0616, c, 1, 1⟩ →
          exec (.prgPortStats c) s = .next ((s.begun ⟨0x0616, c, 1, 1⟩).answers ⟨0x0616, c, 1, 1⟩ stOk (low (s.portPrg p).linkDrops)
            (low (s.portPrg p).late) (low (s.portPrg p).guardIdle) (wordOfInt ((s.portPrg p).shaper.at s.now).bytes)))))

/-- In Run, a packet of a source, unless it is padding alone, is recorded for its source's rates and meets the subscriptions that take it,
one of each egress port in turn and of a port in ascending order; one that was cloned is held for repair; one that a leg still owes is held
and sent as that repair, and a descriptor that cannot be read is counted (R23, R342, R348, R360). A leg's targets are recomputed every
7,056,000 ct (R350). A RUNNING subscription that waits for a key asks again after KEY_WAIT_CT (R353). A NACK of a number not sent does
nothing, of a stream without RTX is counted, and of a held packet sends it again (R360); held packets are dropped after 14,112,000 ct. -/
def Obligations.PacketsTargetsAndRepairs : Prop :=
  ∀ (s : State), s.commonOn = true →
    (∀ (k : FwdPkt) (t : State), s.running = true → (k.kind.val ≠ 1 ∨ (s.legSet k.src).cfg.any (fun g => g.ddId != 0) = true) →
      (k.padding = true → exec (.packetClone k) s = .next s) ∧
      (k.padding = false → t = (if k.dd = some none then s.bump (dmbA 0x1C) 1 else s) →
        (∀ w ∈ s.dmb.wanted, w.1 = k.key' → w.2.1 = k.stream → w.2.2.1 = k.seq.toNat →
          exec (.packetClone k) s = .next (serveRepair (holdPacket t k) k)) ∧
        (∀ made u, (∀ w ∈ s.dmb.wanted, ¬ (w.1 = k.key' ∧ w.2.1 = k.stream ∧ w.2.2.1 = k.seq.toNat)) →
          (s.interleaved (s.takers k)).foldl (serveSub (tget 0 (s.src k.key').frame k.stream != k.ts.toNat + 1) k)
            (false, recordPacket t k) = (made, u) →
          exec (.packetClone k) s = .next (if made then holdPacket u k else u)))) ∧
    (∀ (n m : Nat), s.subPort n < 8 → s.subPort m < 8 → s.interleaved [n, m] =
      if s.subPort n = s.subPort m ∨ s.subPort n < s.subPort m then [n, m] else [m, n]) ∧
    (∀ l : Fin 8192, (tget 0 s.dmb.redone l = 0 ∨ tget 0 s.dmb.redone l - 1 + 7056000 ≤ s.now) →
      ∃ t, exec (.targetRecompute l) s = .next t ∧ tget 0 t.dmb.redone l = s.now + 1 ∧
        (s.subsOf l = [] → t = { s with dmb := { s.dmb with redone := tset 0 s.dmb.redone l (s.now + 1) } })) ∧
    (∀ l : Fin 8192, tget 0 s.dmb.redone l ≠ 0 → s.now < tget 0 s.dmb.redone l - 1 + 7056000 → exec (.targetRecompute l) s = .next s) ∧
    (∀ n : Fin 16384, s.isRunning (subKey n) = true →
      (s.awaits n = .nothing → exec (.keyWaitExpiry n) s = .next (s.setSub n { s.sub n with waitAt := none })) ∧
      (∀ t, s.awaits n ≠ .nothing → s.heldUp n = false → (s.sub n).waitAt = some t →
        (t + (s.subCfg n).keyWait ≤ s.now → exec (.keyWaitExpiry n) s = .next
          (askSource (s.setSub n { s.sub n with waitAt := some s.now }) n (2 ^ (pointOf ((s.sub n).target.getD 0)).1) 3)) ∧
        (s.now < t + (s.subCfg n).keyWait → exec (.keyWaitExpiry n) s = .next s))) ∧
    (∀ (l : Fin 8192) (i : Fin 8) (q : BitVec 16), s.running = true →
      ((∀ p ∈ (s.send l i).sent, p.seq ≠ q.toNat) → exec (.nackReceived l i [q]) s = .next s) ∧
      (∀ p, (s.send l i).sent.find? (fun p => p.seq == q.toNat) = some p → s.rtxOf l i = none →
        exec (.nackReceived l i [q]) s = .next (s.bump (dmbA 0x24) 1)) ∧
      (∀ p, (s.send l i).sent.find? (fun p => p.seq == q.toNat) = some p → (s.rtxOf l i).isSome = true → p.bytes ≠ 0 →
        s.heldPkt p = true → exec (.nackReceived l i [q]) s = .next (resend s l i p p.bytes))) ∧
    (∃ t, exec .retransmitHoldExpiry s = .next t ∧ t.dmb.held = s.dmb.held.filter fun h => !decide (h.at' + 14112000 ≤ s.now)) ∧
    ((∀ h ∈ s.dmb.held, s.now < h.at' + 14112000) → exec .retransmitHoldExpiry s = .next s)

/-! ## The Pergola -/

/-- A free port whose queues begin with packets that are no gap markers and within their age limits sends the first head of the first
order that has one: in order 1 (an exact launch that has come) whatever the shapers hold, in a later order one that its shapers admit, that
no guard holds and that its deficit covers (stated for a single such head). The frame goes out as its bytes (a beacon with TB0 of this
instant, R111), leaves its queue, and the port is busy for the frame's time on the wire; with no head that may go, or a port that is not
free, nothing changes (R368, R370, R372, R378). A launch that the Belvedere raises starts its frame at once on a free port, none before its
instant. Once a block the media queues are sampled, the port queues into their DEPTH registers, and a second time in a block not (R381). -/
def Obligations.FramesLeaveInOrder : Prop :=
  ∀ (s : State),
    (∀ (p : Fin 8) (fine : Fin 64), ∃ t, exec (.portFrameStart p fine) s = .next t) ∧
    (∀ (p : Fin 8) (fine : Fin 64) (k : Nat) (q : Nat) (e : QEntry) (l : List (Nat × QEntry)), s.portFree p = true →
      (∀ x ∈ s.portQueues p, ∀ a ∈ (s.queue x).entries.head?,
        a.gap = false ∧ (s.ageLimitOf x = 0 ∨ s.now - a.born ≤ s.ageLimitOf x)) →
      1 ≤ k → k ≤ 6 → (∀ j, j < k → 1 ≤ j → s.candidates p j = []) → s.candidates p k = (q, e) :: l →
      (k = 1 ∨ (l = [] ∧ s.guarded p e = false ∧
        s.countedOn p e.pkt.counted ≤ tget 0 (s.portPrg p).deficits q + (s.portPrg p).quantum)) →
      ∃ t, exec (.portFrameStart p fine) s = .next t ∧
        (∃ o, t.out = Out.egress p (q :: Nat.max e.pkt.counted 60 :: s.now ::
          (if e.pkt.body.head? = some 10 then e.pkt.body.set beaconTb0 s.now else e.pkt.body)) e.pkt.net :: o) ∧
        (t.queue q).entries = (s.queue q).entries.tail ∧ (t.portPrg p).freeAt = s.now + s.txTime p e.pkt.counted) ∧
    (∀ (p : Fin 8) (fine : Fin 64), s.portFree p = false ∨ s.portQueues p = [] → exec (.portFrameStart p fine) s = .next s) ∧
    (∀ (p : Fin 8) (e : QEntry) (r : List QEntry) (at' : Nat), s.portFree p = true → s.portQueues p = [32768 + 5 * p.val] →
      (s.queue (32768 + 5 * p)).entries = e :: r → e.gap = false → e.pkt.launch = some at' →
      (at' ≤ s.now → ∃ t, exec (.launchReached p) s = .next t ∧
        (∃ o, t.out = Out.egress p ((32768 + 5 * p.val) :: Nat.max e.pkt.counted 60 :: s.now ::
          (if e.pkt.body.head? = some 10 then e.pkt.body.set beaconTb0 s.now else e.pkt.body)) e.pkt.net :: o) ∧
        (t.queue (32768 + 5 * p)).entries = r ∧ (t.portPrg p).freeAt = s.now + s.txTime p e.pkt.counted) ∧
      (s.now < at' → exec (.launchReached p) s = .next s)) ∧
    (∀ (p : Fin 8), s.portFree p = false → exec (.launchReached p) s = .next s) ∧
    (s.commonOn = true → s.prg.sampleBlock ≠ some (s.now / 70560) → ∃ t, exec .queueSample s = .next t ∧
      t.prg = { s.prg with sampleBlock := some (s.now / 70560) } ∧ t.pan = s.pan ∧
      ∀ n k, n < 8 → 1 ≤ k → k ≤ 3 → t.reg (prgPortA n (0x40 + k * 0x10)) = (s.queue (32768 + n * 5 + k)).depthWord) ∧
    (s.commonOn = false ∨ s.prg.sampleBlock = some (s.now / 70560) → exec .queueSample s = .next s)

/-! ## The Hall -/

/-- An idle core takes the head item of its group's best ready flow, whether by priority or promoted, and the item's entry is freed; the
flow is ACTIVE with that core (R394-R396). A STOP item that a leg's flow serves discards the items behind it, disarms the flow's timer and
ends the leg's connection (R95, R400). A core that serves something takes nothing.
A done write releases the flow, which rejoins its list at the tail while it has items; the timer of a flow that is no leg's is kept,
disarmed, or armed in either mode as the write says, a leg's flow's for the leg's earliest pending deadline; a deadline that has passed
joins as a TIMEOUT at once (R397, R399, R400, R573). A timer that falls due joins its flow as a TIMEOUT item (R400). A group whose
priority-15 list waited 70,560 ct is promoted once (R396); a flow ACTIVE for longer is reported once (R398). -/
def Obligations.FlowsAreDispatched : Prop :=
  (∀ (s : State) (k : Fin 20),
      (∃ t, exec (.hallDispatch k) s = .next t) ∧
      (s.consumerIdle k = false → exec (.hallDispatch k) s = .next s) ∧
      (∀ (f : Nat) (x : Flow) (pr : Bool) (i : Item) (r : List Item), s.consumerIdle k = true →
        s.nextFlow (consumerGroup k) = (some (f, x), pr) → x.items = i :: r → s.hall.waiting = [] →
        (¬ (i.kind = .stop ∧ flowClass f = 0) → ∃ t, exec (.hallDispatch k) s = .next t ∧
          t.flow f = { x with active := some (k.val, s.cyc), held := false, items := r, item := some i } ∧
          t.hall.genUse = (if i.kind = .timeout ∨ studyItem f i = true then s.hall.genUse else s.hall.genUse - 1) ∧
          t.hall.studyUse = (if i.kind = .timeout ∨ studyItem f i = false then s.hall.studyUse else s.hall.studyUse - 1)) ∧
        (i.kind = .stop → flowClass f = 0 → ∃ t, exec (.hallDispatch k) s = .next t ∧
          (t.flow f).active = some (k.val, s.cyc) ∧ (t.flow f).items = [] ∧ (t.flow f).timer = none ∧ (t.legRun f).conn = .absent))) ∧
  (∀ (s : State),
      (∀ (k : Fin 20) (arm : TimerArm), s.serving k = none → exec (.flowDone k arm) s = .next s) ∧
      (∀ (k : Fin 20) (f : Nat) (y : Flow), s.serving k = some f →
        y = (if (s.flow f).items = [] then { s.flow f with active := none, item := none, join := 0, held := false }
          else { s.flow f with active := none, item := none, join := s.hall.nextJoin }) →
        (flowClass f ≠ 0 →
          (∃ t, exec (.flowDone k .keep) s = .next t ∧ t.flow f = y ∧ t.hall.nextJoin = s.hall.nextJoin + 1) ∧
          (∃ t, exec (.flowDone k .disarm) s = .next t ∧ t.flow f = { y with timer := none }) ∧
          (∀ (d : Dword) (p : Fin 16), s.now < d.toNat →
            (∃ t, exec (.flowDone k (.waitAny d p)) s = .next t ∧
              t.flow f = { y with timer := some { due := d.toNat, waitAny := true, prio := p } }) ∧
            (∃ t, exec (.flowDone k (.deadline d p)) s = .next t ∧
              t.flow f = { y with timer := some { due := d.toNat, waitAny := false, prio := p } })) ∧
          (∀ (d : Dword) (p : Fin 16), d.toNat ≤ s.now →
            (∃ t, exec (.flowDone k (.waitAny d p)) s = .next t ∧ (t.flow f).timer = none ∧
              (t.flow f).items = y.items ++ [{ kind := .timeout, prio := p, handle := none, due := d.toNat }]) ∧
            (∃ t, exec (.flowDone k (.deadline d p)) s = .next t ∧ (t.flow f).timer = none ∧
              (t.flow f).items = y.items ++ [{ kind := .timeout, prio := p, handle := none, due := d.toNat }]))) ∧
        (∀ arm, flowClass f = 0 →
          (firstDue (s.legDeadlines f) = none → ∃ t, exec (.flowDone k arm) s = .next t ∧ t.flow f = { y with timer := none }) ∧
          (∀ d p, firstDue (s.legDeadlines f) = some (d, p) → s.now < d → ∃ t, exec (.flowDone k arm) s = .next t ∧
            t.flow f = { y with timer := some { due := d, waitAny := false, prio := p } }) ∧
          (∀ d p, firstDue (s.legDeadlines f) = some (d, p) → d ≤ s.now → ∃ t, exec (.flowDone k arm) s = .next t ∧
            (t.flow f).timer = none ∧ (t.flow f).items = y.items ++ [{ kind := .timeout, prio := p, handle := none, due := d }]))) ∧
      (∀ (f : Fin 65536), (s.flow f).timer = none → exec (.hallTimeout f) s = .next s) ∧
      (∀ (f : Fin 65536) (m : FlowTimer), (s.flow f).timer = some m →
        (m.due ≤ s.now → ∃ t, exec (.hallTimeout f) s = .next t ∧ (t.flow f).timer = none ∧ (t.flow f).active = (s.flow f).active ∧
          (t.flow f).items = (s.flow f).items ++ [{ kind := .timeout, prio := m.prio, handle := none, due := m.due }]) ∧
        (s.now < m.due → exec (.hallTimeout f) s = .next s)) ∧
      (∀ (g : Fin 5) (t : Nat), tfind s.hall.bgSince g = some t →
        (t + 70560 ≤ s.cyc → exec (.priorityPromotion g) s =
          .next { s with hall := { s.hall with promote := linsert s.hall.promote g } }) ∧
        (s.cyc < t + 70560 → exec (.priorityPromotion g) s = .next s)) ∧
      (∀ (g : Fin 5), tfind s.hall.bgSince g = none → exec (.priorityPromotion g) s = .next s) ∧
      (∀ (f : Fin 65536) (k t : Nat), (s.flow f).active = some (k, t) →
        ((s.flow f).held = false → t + 70560 < s.cyc →
          ∃ u, exec (.flowHoldOver f) s = .next u ∧ u.flow f = { s.flow f with held := true }) ∧
        ((s.flow f).held = true ∨ s.cyc ≤ t + 70560 → exec (.flowHoldOver f) s = .next s)) ∧
      (∀ (f : Fin 65536), (s.flow f).active = none → exec (.flowHoldOver f) s = .next s))

/-- Once a block the load sample is the greater of the Hall's and the pool's fill in 1,024ths; the step rises at once to the highest one
whose ENTER it reaches, falls by one after EXIT_HOLD below EXIT, and is never less than FORCE_MIN (R403, R404, R408). A write of a
threshold is stored where the thresholds stay in order, else it is refused and sets CFG_ERR; a write of FORCE_MIN is
stored; without the core domain neither write has an effect (R30, R405, R408). -/
def Obligations.TheLoadLadder : Prop :=
  ∀ (s : State),
    (s.coreOn = true → s.hall.lastBlock ≠ some (s.now / 70560) → ∃ t, exec .loadSample s = .next t ∧
      t.hall.u = Nat.max (1024 * s.hall.genUse / 126976) (1024 * s.pan.near.inUse / 98304) ∧
      t.hall.step = Nat.max t.hall.computed (Nat.min 4 (bits (s.reg (halA 0x04)) 2 0)) ∧
      t.hall.lastBlock = some (s.now / 70560) ∧
      (∀ m, s.hall.computed < m → m ≤ 4 → s.enterAt m ≤ t.hall.u → m ≤ t.hall.computed) ∧
      (s.hall.computed < t.hall.computed → s.enterAt t.hall.computed ≤ t.hall.u ∧ t.hall.computed ≤ 4) ∧
      (t.hall.computed < s.hall.computed → t.hall.computed = s.hall.computed - 1 ∧ t.hall.u < s.exitAt s.hall.computed ∧
        s.hall.below.getD s.now + s.exitHold ≤ s.now)) ∧
    (s.coreOn = false ∨ s.hall.lastBlock = some (s.now / 70560) → exec .loadSample s = .next s) ∧
    (∀ (r : Requester) (v : Word) (s' : State) (n : Fin 4) (u : State), s' = hostArrives s r → s'.coreOn = true →
      u = s'.setReg (halA (0x10 + n * 4)) (v &&& 0x03FF_03FF) →
      exec (.ladderForceWrite r v) s = .next (s'.setReg (halA 0x04) (v &&& 7)) ∧
      (u.ladderOk = true → exec (.ladderThresholdWrite r n v) s = .next u) ∧
      (u.ladderOk = false → exec (.ladderThresholdWrite r n v) s = .next { s' with hall := { s'.hall with cfgErr := true } })) ∧
    (∀ (r : Requester) (v : Word) (n : Fin 4), (hostArrives s r).coreOn = false →
      exec (.ladderForceWrite r v) s = .next (hostArrives s r) ∧ exec (.ladderThresholdWrite r n v) s = .next (hostArrives s r))

/-! ## The Pantry -/

/-- The first word of a packet takes a cell of the first pool that admits its class; where none admits it the packet is dropped and
counted. Each later word writes the next bytes and takes a cell when the last is full; a write that finds no cell drops the packet, one
past 1 MiB closes it BAD (R414, R416, R417, R421). A packet closed BAD gives its cells back. MARK and WREWIND keep and restore the write
position (R419); an operation on a packet that is not open, or a WREWIND without a mark, changes nothing.
The final word commits a packet bound for a queue, ENQUEUE a loose one by its handle. The packet joins the queue's tail (after the
marker of a pending count); a link that is down, a launch more than a second ahead of an egress queue's now, or a full queue drops it: its
cells return, and the packets in the queue stay as they are (R374, R379, R417, R418, R424, R425). A packet committed loose stands under its
handle until that handle is linked or released; an unknown handle is counted (R417, R418, R572). -/
def Obligations.ProducersWritePackets : Prop :=
  (∀ (s : State) (p : Producer),
      (∀ b far, s.openPkt p = none → s.choosePool (boundPool b).1 (boundPool b).2 = .ok far → ∃ t h, exec (.packetWordWrite p b) s = .next t ∧
        t.openPkt p = some { bound := b, far := far, handle := h, bytes := 8, cells := 1, mark := none } ∧
        (t.pool far).used = (s.pool far).used + 1 ∧ t.pan.queues = s.pan.queues ∧ t.pan.loose = s.pan.loose) ∧
      (∀ b far, s.openPkt p = none → s.choosePool (boundPool b).1 (boundPool b).2 = .error far → ∃ t, exec (.packetWordWrite p b) s = .next t ∧
        t.openPkt p = none ∧ (t.pool far).drops = (s.pool far).drops + 1 ∧ t.pan.loose = s.pan.loose) ∧
      (∀ b o, s.openPkt p = some o → o.bytes + 8 ≤ 1048576 →
        (o.bytes + 8 ≤ o.cells * 256 → exec (.packetWordWrite p b) s = .next (s.setOpen p { o with bytes := o.bytes + 8 })) ∧
        (o.cells * 256 < o.bytes + 8 → 0 < s.dataFree o.far → ∃ t c, exec (.packetWordWrite p b) s = .next t ∧
          t.openPkt p = some { o with bytes := o.bytes + 8, cells := o.cells + 1, rest := o.rest ++ [c] } ∧
          (t.pool o.far).used = (s.pool o.far).used + 1) ∧
        (o.cells * 256 < o.bytes + 8 → s.dataFree o.far = 0 → ∃ t, exec (.packetWordWrite p b) s = .next t ∧ t.openPkt p = none ∧
          (t.pool o.far).used = (s.pool o.far).used - o.cells ∧ (t.pool o.far).drops = (s.pool o.far).drops + 1)) ∧
      (∀ b o, s.openPkt p = some o → 1048576 < o.bytes + 8 →
        exec (.packetWordWrite p b) s = .next ((giveCells (s.closeOpen p) o.far false o.cells).bump (nearA 0x58) 1)) ∧
      (∀ o, s.openPkt p = some o → exec (.closeBad p) s = .next ((giveCells (s.closeOpen p) o.far false o.cells).bump (nearA 0x58) 1)) ∧
      (∀ o, s.openPkt p = some o → exec (.mark p) s = .next (s.setOpen p { o with mark := some o.bytes }) ∧
        (o.mark = none → exec (.wrewind p) s = .next s) ∧
        ∀ m, o.mark = some m → exec (.wrewind p) s = .next ((giveCells s o.far false (o.cells - (m + 255) / 256)).setOpen p
          { o with bytes := m, cells := (m + 255) / 256, rest := o.rest.take ((m + 255) / 256 - 1) })) ∧
      (s.openPkt p = none → exec (.closeBad p) s = .next s ∧ exec (.mark p) s = .next s ∧ exec (.wrewind p) s = .next s ∧
        (∀ last info, exec (.packetCommit p last info) s = .next s) ∧ ∀ last, exec (.commitLoose p last) s = .next s)) ∧
  (∀ (s : State) (info : PktInfo) (q : Fin 33792) (late : Bool),
      late = (decide (q.val < 32808) && info.launch.any fun d => decide (s.now + ctPerSec < d.toNat)) →
      (∀ (p : Producer) (last : Fin 8) (o : OpenPkt) (n : Nat), s.openPkt p = some o → n = o.bytes + lastBytes last → n ≤ o.cells * 256 →
        n ≤ 1048576 →
        (o.bound = .queue q → ∃ t, exec (.packetCommit p last info) s = .next t ∧ t.openPkt p = none ∧
          (s.egressDown q = true ∨ late = true →
            t.queue q = s.queue q ∧ (t.pool o.far).used = (s.pool o.far).used - o.cells) ∧
          (s.egressDown q = false → late = false →
            (s.queueLimit q < (s.queue q).bytes + n → (t.pool o.far).used = (s.pool o.far).used - o.cells ∧
              ((t.queue q).entries.filter fun e => !e.gap) = (s.queue q).entries.filter fun e => !e.gap) ∧
            ((s.queue q).bytes + n ≤ s.queueLimit q →
              (t.queue q).entries.getLast? = some {
                handle := o.handle, bytes := n, cells := o.cells, far := o.far, gap := false,
                note := s.now % 2 ^ 28, born := s.now, pkt := pktOf info, rest := o.rest } ∧
              ((s.queue q).pend = 0 → (t.queue q).entries.dropLast = (s.queue q).entries ∧ t.pan.near = s.pan.near ∧ t.pan.far = s.pan.far) ∧
              (∀ j, j ≠ q.val → t.queue j = s.queue j) ∧ t.pan.loose = s.pan.loose))) ∧
        (∀ pool cls, o.bound = .loose pool cls → ∃ t, exec (.commitLoose p last) s = .next t ∧ t.openPkt p = none ∧
          tfind t.pan.loose o.handle = some { bytes := n, cells := o.cells, far := o.far, rest := o.rest, note := s.now % 2 ^ 28 } ∧
          t.pan.queues = s.pan.queues)) ∧
      (∀ (h : Nat) (l : Loose), tfind s.pan.loose h = some l →
        (∃ t, exec (.enqueue h q info) s = .next t ∧ t.pan.loose = tdel s.pan.loose h ∧
          (s.egressDown q = true ∨ late = true →
            t.queue q = s.queue q ∧ (t.pool l.far).used = (s.pool l.far).used - l.cells) ∧
          (s.egressDown q = false → late = false →
            (s.queueLimit q < (s.queue q).bytes + l.bytes → (t.pool l.far).used = (s.pool l.far).used - l.cells ∧
              ((t.queue q).entries.filter fun e => !e.gap) = (s.queue q).entries.filter fun e => !e.gap) ∧
            ((s.queue q).bytes + l.bytes ≤ s.queueLimit q →
              (t.queue q).entries.getLast? = some {
                handle := h, bytes := l.bytes, cells := l.cells, far := l.far, gap := false,
                note := s.now % 2 ^ 28, born := s.now, pkt := pktOf info, rest := l.rest } ∧
              ((s.queue q).pend = 0 → (t.queue q).entries.dropLast = (s.queue q).entries ∧ t.pan.near = s.pan.near ∧ t.pan.far = s.pan.far)))) ∧
        exec (.handleRelease h) s =
          .next (giveCells { s with pan := { s.pan with loose := tdel s.pan.loose h } } l.far false l.cells)) ∧
      (∀ h, tfind s.pan.loose h = none →
        exec (.handleRelease h) s = .next (s.bump (nearA 0x68) 1) ∧ exec (.enqueue h q info) s = .next (s.bump (nearA 0x68) 1)))

/-- READ answers the entry at the read position and advances it, or the last one again as an underrun that is counted; the mark keeps a
position to which REWIND returns; RELEASE frees the entries up to the earlier of read position and mark, and their cells (R422, R423). -/
def Obligations.ConsumersReadQueues : Prop :=
  ∀ (s : State) (q : Fin 33792),
    (∀ e, (s.queue q).entries[(s.queue q).read]? = some e → exec (.read q) s = .next (s.setQueue q { s.queue q with
      read := (s.queue q).read + 1, last := ⟨e.handle, e.bytes, e.gap, e.note, false⟩ })) ∧
    ((s.queue q).entries.length ≤ (s.queue q).read → exec (.read q) s = .next ((s.setQueue q { s.queue q with
      under := true, last := { (s.queue q).last with under := true } }).bump (nearA 0x64) 1)) ∧
    ((s.queue q).entries.length ≤ (s.queue q).read → (s.queue q).last = {} →
      ∃ t, exec (.read q) s = .next t ∧ (t.queue q).last.handle = 0x1FFFF ∧ (t.queue q).last.under = true) ∧
    exec (.queueMark q) s = .next (s.setQueue q { s.queue q with mark := some (s.queue q).read }) ∧
    exec (.unmark q) s = .next (s.setQueue q { s.queue q with mark := none }) ∧
    (∀ m, (s.queue q).mark = some m → exec (.rewind q) s = .next (s.setQueue q { s.queue q with read := m })) ∧
    ((s.queue q).mark = none → exec (.rewind q) s = .next s) ∧
    (∀ n, n = Nat.min (s.queue q).read ((s.queue q).mark.getD (s.queue q).read) → ∃ t, exec (.release q) s = .next t ∧
      t.queue q = { s.queue q with
        entries := (s.queue q).entries.drop n, read := (s.queue q).read - n, mark := (s.queue q).mark.map fun m => m - n } ∧
      (∀ j, j ≠ q.val → t.queue j = s.queue j) ∧
      (t.pool false).used = (s.pool false).used -
        (((s.queue q).entries.take n).filter fun e => !e.far && !e.gap).foldl (fun k e => k + e.cells) 0 ∧
      t.cel.mem = s.cel.mem ∧ t.porch = s.porch)

/-! ## The Cellar -/

/-- A request that arrives at an idle channel issues at once: a write changes the bytes of its line that it names and no other byte of
memory, a read changes none (R437, R443); one of class 2 or 3 to a bank with a postponed refresh waits for that refresh, which goes first
(R447). A channel whose memory is not initialised, whose keeper has the refresh, or that the straps leave out takes no request (R441,
R448). Requests of class 2 or 3 that have reached their age limit go to class 1 and are counted (R444).
While the training registers take writes, an operation with GO and at least one line runs, and GO reads 1 until it ends: OP 0 writes
its pattern to the lines it names and to no other byte (the fixed pattern 0x55 and 0xAA per beat, or a PRBS-7 one), the compares OP 1 and 2
set the sticky fail bits of the lanes that fail. Without GO or lines the word is only stored, and a write that the registers do not take
changes nothing (R454, R460).
MEM_LAYOUT answers an area's base, size and units (R436, R457). CEL_INJECT is stored (R460), a mode register of a rank set while the
training registers take writes (R459, R460); without the core domain, or once trained with requests in the channel, the write has no
effect. -/
def Obligations.RequestsAndTrainingReachMemory : Prop :=
  ((∀ (s : State) (ch : Fin 8),
        (∀ rs, ∃ t, exec (.memoryRequestIssue ch rs) s = .next t) ∧
        (∀ rs, s.present ch = false ∨ s.cel.initDone = false ∨ (s.chan ch).keeper = true →
          exec (.memoryRequestIssue ch rs) s = .next s) ∧
        (∀ (r : MemReq), s.present ch = true → s.cel.initDone = true → (s.chan ch).keeper = false → (s.chan ch).window = none →
          (s.chan ch).scrubProm = false → (s.chan ch).reads = [] → (s.chan ch).writes = [] → s.paChan r.pa.toNat = ch.val →
          (r.cls.val < 2 ∨ (s.chan ch).owed (s.paBankKey r.pa.toNat) = 0 →
            (r.write = true → ∃ t, exec (.memoryRequestIssue ch [r]) s = .next t ∧
              t.cel.mem = r.data.foldl (fun m d => tset 0 m (lineOf r.pa.toNat + d.1.val) d.2) s.cel.mem ∧
              (t.chan ch).reads = [] ∧ (t.chan ch).writes = []) ∧
            (r.write = false → ∃ t, exec (.memoryRequestIssue ch [r]) s = .next t ∧ t.cel.mem = s.cel.mem ∧
              (t.chan ch).reads = [] ∧ (t.chan ch).writes = [])) ∧
          (2 ≤ r.cls.val → 0 < (s.chan ch).owed (s.paBankKey r.pa.toNat) → ∃ t, exec (.memoryRequestIssue ch [r]) s = .next t ∧
            t.cel.mem = s.cel.mem ∧ (t.chan ch).all.map MemQ.req = [r] ∧
            (t.chan ch).owed (s.paBankKey r.pa.toNat) = (s.chan ch).owed (s.paBankKey r.pa.toNat) - 1)) ∧
        (∀ (due : MemQ → Bool), due = (fun q => !q.prom && decide (2 ≤ q.req.cls.val) && s.ageLimit q.req.cls.val != 0 &&
            decide (s.ageLimit q.req.cls.val ≤ s.memAge q)) → s.present ch = true →
          (0 < ((s.chan ch).all.filter due).length → exec (.agePromotion ch) s = .next ((s.setChan ch { s.chan ch with
            reads := (s.chan ch).reads.map (fun q => if due q then { q with prom := true } else q),
            writes := (s.chan ch).writes.map (fun q => if due q then { q with prom := true } else q) }).bump (celA ch 0x28)
              ((s.chan ch).all.filter due).length)) ∧
          (((s.chan ch).all.filter due).length = 0 → exec (.agePromotion ch) s = .next s)) ∧
        (s.present ch = false → exec (.agePromotion ch) s = .next s)) ∧
    (∀ (s : State) (r : Requester) (ch : Fin 8) (v : Word) (f : BitVec 72) (s' : State), s' = hostArrives s r →
        (s'.trainable ch = true → bit v 31 = true → bits v 15 0 ≠ 0 →
          (bits v 30 29 = 0 → ∃ t, exec (.trainingWritePattern r ch v) s = .next t ∧ (t.chan ch).training = true ∧
            (∀ a, (∀ l ∈ patternLines s' ch v, a < l ∨ l + 64 ≤ a) → tget 0 t.cel.mem a = tget 0 s'.cel.mem a) ∧
            (bit (s'.reg (celA ch 0x10C)) 31 = false → t.cel.mem = (patternLines s' ch v).foldl
              (fun m l => ((List.finRange 64).map fun i => (i, if i.val / 8 % 2 = 0 then (0x55 : Byte) else 0xAA)).foldl
                (fun m d => tset 0 m (l + d.1.val) d.2) m) s'.cel.mem)) ∧
          (bits v 30 29 = 1 → ∃ t, exec (.trainingReadCompare r ch v f) s = .next t ∧ (t.chan ch).training = true ∧
            t.reg (celA ch 0x110) = s'.reg (celA ch 0x110) ||| f.extractLsb' 0 32 ∧
            t.reg (celA ch 0x114) = s'.reg (celA ch 0x114) ||| f.extractLsb' 32 32 ∧
            t.reg (celA ch 0x118) = s'.reg (celA ch 0x118) ||| (f.extractLsb' 64 8).setWidth 32 ∧ t.cel.mem = s'.cel.mem) ∧
          (bits v 30 29 = 2 → ∃ t, exec (.trainingRegisterCompare r ch v f) s = .next t ∧ (t.chan ch).training = true ∧
            t.reg (celA ch 0x110) = s'.reg (celA ch 0x110) ||| f.extractLsb' 0 32 ∧
            t.reg (celA ch 0x114) = s'.reg (celA ch 0x114) ||| f.extractLsb' 32 32 ∧
            t.reg (celA ch 0x118) = s'.reg (celA ch 0x118) ||| (f.extractLsb' 64 8).setWidth 32 ∧ t.cel.mem = s'.cel.mem)) ∧
        (s'.trainable ch = true → bit v 31 = false ∨ bits v 15 0 = 0 →
          (bits v 30 29 = 1 → exec (.trainingReadCompare r ch v f) s = .next (s'.setReg (celA ch 0x104) (v &&& 0x7F00_FFFF))) ∧
          (bits v 30 29 = 2 → exec (.trainingRegisterCompare r ch v f) s = .next (s'.setReg (celA ch 0x104) (v &&& 0x7F00_FFFF))) ∧
          (bits v 30 29 = 0 → ∃ t, exec (.trainingWritePattern r ch v) s = .next t ∧ t.reg (celA ch 0x104) = v &&& 0x7F00_FFFF ∧
            t.cel = s'.cel)) ∧
        (s'.trainable ch = false → exec (.trainingWritePattern r ch v) s = .next s' ∧ exec (.trainingReadCompare r ch v f) s = .next s' ∧
          exec (.trainingRegisterCompare r ch v f) s = .next s') ∧
        exec (.trainingOpComplete ch) s = .next (s.setChan ch { s.chan ch with training := false }))) ∧
  (∀ (s : State),
      (∀ c : Cmd, s.takes ⟨0x0310, c, 1, 1⟩ → c.num < 8 → s.cel.laid = true →
        exec (.memLayout c) s = .next ((s.begun ⟨0x0310, c, 1, 1⟩).answers ⟨0x0310, c, 1, 1⟩ stOk (low (s.areaBase c.num)) 0
          (low (s.areaSize c.num / 1024)) (low (s.areaUnits c.num)))) ∧
      (∀ (r : Requester) (v : Word) (s' : State), s' = hostArrives s r →
        (s'.coreOn = true → exec (.errorInjectArm r v) s = .next (s'.setReg 0x0050_0020 (v &&& 0xC000_077F))) ∧
        (s'.coreOn = false → exec (.errorInjectArm r v) s = .next s') ∧
        (∀ ch : Fin 8, s'.trainable ch = true → exec (.mrsWrite r ch v) s = .next (s'.setChan ch { s'.chan ch with
          mrs := tset 0 (s'.chan ch).mrs (bits v 31 31 * 4 + bits v 23 22) (low (bits v 19 0)) })) ∧
        (∀ ch : Fin 8, s'.trainable ch = false → exec (.mrsWrite r ch v) s = .next s')))

/-- A bank's refresh that falls due goes unless a window or a class-1 request holds the bank: then it is postponed, at most eight of a
bank, and one more is counted (R446, R447); a keeper refreshes the banks it keeps (R448). A calibration that is due runs in a gap or is
deferred; past its deferral it is forced, one channel at a time in channel order, and its window ends after 141 ct with every refresh made
(R451). The scrubber's floor promotes its next read (R452). Initialisation ends with INIT_DONE; a keeper takes refresh on the way into
Sleep and gives it back on a wake, the last one letting the supplies go (R441, R448). An event that is not due changes nothing. -/
def Obligations.RefreshCalibrationAndScrub : Prop :=
  ∀ (s : State) (ch : Fin 8), s.present ch = true →
    (∀ (rank : Fin 2) (bank : Fin 16) (k : Nat), k = rank.val * 16 + bank.val →
      (s.ranks ≤ rank.val → exec (.refreshTick ch rank bank) s = .next s) ∧
      (rank.val < s.ranks → (s.chan ch).keeper = true → exec (.refreshTick ch rank bank) s = .next (if s.keeps ch rank bank then
        s.setChan ch { s.chan ch with postponed := tset 0 (s.chan ch).postponed k 0 } else s)) ∧
      (rank.val < s.ranks → (s.chan ch).keeper = false →
        ((s.chan ch).window = none → s.class1At (s.chan ch) k = false → exec (.refreshTick ch rank bank) s =
          .next (s.setChan ch { s.chan ch with postponed := tset 0 (s.chan ch).postponed k 0 })) ∧
        ((s.chan ch).window ≠ none ∨ s.class1At (s.chan ch) k = true →
          ((s.chan ch).owed k < 8 → exec (.refreshTick ch rank bank) s = .next (s.setChan ch { s.chan ch with
            postponed := tset 0 (s.chan ch).postponed k ((s.chan ch).owed k + 1) })) ∧
          (8 ≤ (s.chan ch).owed k → exec (.refreshTick ch rank bank) s = .next (s.bump (celA ch 0x14) 1))))) ∧
    ((s.chan ch).keeper = false → (s.chan ch).calLast + (s.reg 0x0050_0010).toNat ≤ s.cyc →
      (s.chanIdle (s.chan ch) = true ∧ (s.chan ch).window = none → exec (.calibrationDue ch) s = .next (s.setChan ch { s.chan ch with
        calDue := some ((s.chan ch).calDue.getD s.cyc), window := some (s.cyc, false) })) ∧
      (s.chanIdle (s.chan ch) = false ∨ (s.chan ch).window ≠ none → exec (.calibrationDue ch) s = .next (s.setChan ch { s.chan ch with
        calDue := some ((s.chan ch).calDue.getD s.cyc) }))) ∧
    ((s.chan ch).keeper = true ∨ s.cyc < (s.chan ch).calLast + (s.reg 0x0050_0010).toNat → exec (.calibrationDue ch) s = .next s) ∧
    (s.calOver ch = true → (∀ n, n < 8 → s.forcedNow n = false) → (∀ n, n < ch.val → s.calOver n = false) →
      exec (.calibrationForced ch) s = .next ((s.setChan ch { s.chan ch with
        postponed := (s.chan ch).postponed.map (fun e => (e.1, Nat.min e.2 4)), window := some (s.cyc, true) }).bump (celA ch 0x18) 1)) ∧
    (s.calOver ch = false ∨ (∃ n, n < 8 ∧ s.forcedNow n = true) ∨ (∃ n, n < ch.val ∧ s.calOver n = true) →
      exec (.calibrationForced ch) s = .next s) ∧
    (∀ t f, (s.chan ch).window = some (t, f) →
      (t + 141 ≤ s.cyc → ∃ u, exec (.calibrationWindowEnd ch) s = .next u ∧ u.chan ch = { s.chan ch with
        window := none, calDue := none, calLast := (s.chan ch).calDue.getD s.cyc, postponed := [] } ∧ u.cel.mem = s.cel.mem) ∧
      (s.cyc < t + 141 → exec (.calibrationWindowEnd ch) s = .next s)) ∧
    ((s.chan ch).window = none → exec (.calibrationWindowEnd ch) s = .next s) ∧
    (s.cel.initDone = true ∧ (s.chan ch).keeper = false ∧ (s.chan ch).scrubProm = false ∧
        (s.chan ch).scrubLast + (s.reg 0x0050_0018).toNat ≤ s.cyc →
      exec (.scrubFloorExpiry ch) s = .next ((s.setChan ch { s.chan ch with scrubProm := true }).bump (celA ch 0x28) 1)) ∧
    (s.cel.initDone = false ∨ (s.chan ch).keeper = true ∨ (s.chan ch).scrubProm = true ∨
        s.cyc < (s.chan ch).scrubLast + (s.reg 0x0050_0018).toNat → exec (.scrubFloorExpiry ch) s = .next s) ∧
    (s.initRuns = true → exec .memoryInitDone s = .next (pulse { s with cel := { s.cel with initDone := true } } 88)) ∧
    (s.initRuns = false → exec .memoryInitDone s = .next s) ∧
    (∀ t : State, s.pwr.entering = some (3, 4) → t = pulse (s.setChan ch { s.chan ch with keeper := true }) 89 →
      exec (.keeperHandover ch) s = .next (if t.keepersDone then switchOff t 3 else t)) ∧
    (s.pwr.entering ≠ some (3, 4) → s.pwr.wake = none ∨ (s.chan ch).keeper = false → exec (.keeperHandover ch) s = .next s) ∧
    (∀ w, s.pwr.entering ≠ some (3, 4) → s.pwr.wake = some w → (s.chan ch).keeper = true →
      (w.left = 3 → 4 ≤ w.step → exec (.keeperHandover ch) s =
        .next (pulse (s.setChan ch { s.chan ch with keeper := false, window := some (s.cyc, true) }) 89)) ∧
      (w.left ≠ 3 ∨ w.step < 4 → exec (.keeperHandover ch) s = .next s))

/-! ## The Belvedere -/

/-- TIME_ARM of a base starts it from 0 with no step used or stops it at 0, and sends TB0 into holdover when it was its lock base (R464,
R470); TIME_STEP adds its offset once, TIME_RATE sets the rate, TIME_READ answers one cycle's values (R465, R466, R483). TIME_TB0_LOCK sets
TB0 to a stepped base, or relocks it from holdover by slewing, which ends at offset 0 with the base's own rate (R469, R470).
TIME_PORT_COMP stores a port's constants or reloads those of R473 (R474); TIME_SERVO gives the servo its port or takes it away (R482).
TIME_PIN gives a pin its mode, and a trigger its first instant: START, or the next whole second of its base with ALIGN (R480). A write
of BLV_LATCH captures all four bases, one of BLV_TXTS_POP drops the queue's first stamp, with their bit and the domain (R477, R487). An edge
that a capture pin's mode takes is held for its stamp and a further one counted, another only read; the firmware stamps a held edge from one
latch (R479, R480). A trigger pin rises at its instant for WIDTH and falls, its next instant the first that has not passed (R480; which
instants a step leaves out is the model's reading, log entry 175). -/
def Obligations.TimeBasesAndPins : Prop :=
  (∀ (s : State) (c : Cmd),
      (∀ two : Bool, s.takes ⟨0x0210, c, 1, 1⟩ → c.num = (if two then 2 else 1) →
        (c.word 4 = 1 → s.blv.isLock two = false → ∃ t, exec (.timeArm c) s = .next t ∧ t.blv.base two = { armed := true } ∧
          t.blv.tb0 = s.blv.tb0 ∧ (t.blv.servo two).usedStep = false ∧
          t.porch.produced = s.porch.produced ++ [s.completion ⟨0x0210, c, 1, 1⟩ stOk 0 0 0 0]) ∧
        (c.word 4 = 0 → s.blv.isLock two = false → ∃ t, exec (.timeArm c) s = .next t ∧
          t.blv.base two = (if (s.blv.base two).armed then {} else s.blv.base two) ∧ t.blv.tb0 = s.blv.tb0) ∧
        (bits (c.word 4) 31 1 = 0 → s.blv.isLock two = true → (s.blv.base two).armed = true → ∃ t, exec (.timeArm c) s = .next t ∧
          t.blv.base two = { armed := bit (c.word 4) 0 } ∧ t.blv.lock = none ∧ t.blv.holdover = true ∧ t.blv.rate0 = s.blv.rate0)) ∧
      (s.takes ⟨0x0211, c, 1, 1⟩ → firstFail (s.timeStepChecks c) = none →
        (c.num = 0 → ∃ t, exec (.timeStep c) s = .next t ∧ t.blv.tb0 = s.blv.tb0 + BitVec.ofNat 64 (dword (c.word 4) (c.word 5)) ∧
          t.blv.stepped0 = true ∧ t.blv.tb1 = s.blv.tb1 ∧ t.blv.tb2 = s.blv.tb2) ∧
        (∀ two : Bool, c.num = (if two then 2 else 1) → ∃ t, exec (.timeStep c) s = .next t ∧ t.blv.tb0 = s.blv.tb0 ∧
          t.blv.base two = { s.blv.base two with
            stepped := true, val := ptpAdd (s.blv.base two).val (signed64 (dword (c.word 4) (c.word 5)) * 2 ^ 40) })) ∧
      (s.takes ⟨0x0212, c, 1, 1⟩ → c.num ≤ 2 → firstFail (s.timeRateChecks c) = none →
        exec (.timeRate c) s = .next (s.after ⟨0x0212, c, 1, 1⟩ fun t => setRate t c.num (c.word 4).toInt) ∧
        (c.num = 0 → (setRate s 0 (c.word 4).toInt).blv = { s.blv with rate0 := (c.word 4).toInt }) ∧
        (∀ two : Bool, c.num = (if two then 2 else 1) → s.blv.isLock two = false →
          (setRate s c.num (c.word 4).toInt).blv = s.blv.setBase two { s.blv.base two with rate := (c.word 4).toInt }) ∧
        (∀ two : Bool, c.num = (if two then 2 else 1) → s.blv.isLock two = true → s.blv.slew = none →
          (setRate s c.num (c.word 4).toInt).blv =
            { s.blv.setBase two { s.blv.base two with rate := (c.word 4).toInt } with rate0 := (c.word 4).toInt })) ∧
      (s.takes ⟨0x0213, c, 1, 1⟩ →
        (c.num = 0 → exec (.timeRead c) s = .next ((s.begun ⟨0x0213, c, 1, 1⟩).answers ⟨0x0213, c, 1, 1⟩ stOk
          (low s.blv.tb0.toNat) (high s.blv.tb0.toNat) (low s.blv.tb3.toNat) (high s.blv.tb3.toNat))) ∧
        (∀ two : Bool, c.num = (if two then 2 else 1) → exec (.timeRead c) s = .next ((s.begun ⟨0x0213, c, 1, 1⟩).answers
          ⟨0x0213, c, 1, 1⟩ stOk (low (ptpNs (s.blv.base two).val)) (low (ptpSec (s.blv.base two).val)) (ptpSecHi (s.blv.base two).val)
          (low s.blv.tb0.toNat))) ∧
        (c.num = 3 → exec (.timeRead c) s = .next ((s.begun ⟨0x0213, c, 1, 1⟩).answers ⟨0x0213, c, 1, 1⟩ stOk
          (low s.blv.tb3.toNat) (high s.blv.tb3.toNat) (low s.blv.tb0.toNat) (high s.blv.tb0.toNat)))) ∧
      (∀ two : Bool, s.takes ⟨0x0214, c, 1, 1⟩ → c.num = (if two then 2 else 1) → s.ctRef = true → (s.blv.base two).armed = true →
        (s.blv.base two).stepped = true →
        (s.blv.holdover = false → s.blv.stepped0 = false → s.mediaStopped = true → ∃ t, exec (.timeTb0Lock c) s = .next t ∧
          t.blv.lock = some two ∧ t.blv.stepped0 = true ∧ t.blv.tb0 = BitVec.ofNat 64 (computedTb0 (s.blv.base two).val) ∧
          t.blv.rate0 = (s.blv.base two).rate) ∧
        (s.blv.holdover = true → -70560 ≤ relockOffset s two → relockOffset s two ≤ 70560 → ∃ t, exec (.timeTb0Lock c) s = .next t ∧
          t.blv = { s.blv with
            lock := some two, lockBase2 := two, holdover := false, slew := some (relockOffset s two * 2 ^ 40),
            rate0 := (s.blv.base two).rate + (if relockOffset s two < 0 then -slewRate else slewRate) })) ∧
      (∀ two d, s.blv.lock = some two → s.blv.slew = some d →
        (d = 0 → ∃ t, exec .relockSlewDone s = .next t ∧ t.blv = { s.blv with slew := none, rate0 := (s.blv.base two).rate }) ∧
        (d ≠ 0 → exec .relockSlewDone s = .next s)) ∧
      (s.blv.lock = none ∨ s.blv.slew = none → exec .relockSlewDone s = .next s) ∧
      (∀ n, s.takes ⟨0x0215, c, 1, 1⟩ → c.num = 0x10000 + n → s.portPresent n = true → s.portPowered n = true →
        firstFail (s.timePortCompChecks c) = none →
        (bit (c.word 4) 1 = false → exec (.timePortComp c) s = .next (s.after ⟨0x0215, c, 1, 1⟩ fun t => t.setStampPort n
          { s.blv.port n with base2 := bit (c.word 4) 0, rxlat := c.word 5, txlat := c.word 6, asym := c.word 7 })) ∧
        (bit (c.word 4) 1 = true → exec (.timePortComp c) s = .next (s.after ⟨0x0215, c, 1, 1⟩ fun t => t.setStampPort n
          { s.blv.port n with
            base2 := bit (c.word 4) 0, rxlat := latQ16 (s.blv.port n).rxCt, txlat := latQ16 (s.blv.port n).txCt, asym := 0 }))) ∧
      (∀ two : Bool, s.takes ⟨0x0217, c, 1, 1⟩ → c.num = (if two then 2 else 1) → firstFail (s.timeServoChecks c) = none →
        (bit (c.word 4) 0 = true → ∃ t, exec (.timeServo c) s = .next t ∧ t.blv.servo two =
            { on := true, transport := bit (c.word 4) 1, port := bits (c.word 4) 6 4, addr := bits (c.word 4) 11 8,
              domain := bits (c.word 5) 7 0, logDelay := sbits (c.word 5) 15 8 } ∧
          (t.blv.port (bits (c.word 4) 6 4)).servo = true) ∧
        (bit (c.word 4) 0 = false → ∃ t, exec (.timeServo c) s = .next t ∧ t.blv.servo two = {} ∧
          ((s.blv.servo two).on = true → (t.blv.port (s.blv.servo two).port).servo = false)))) ∧
  (∀ (s : State),
      (∀ (c : Cmd) k, s.takes ⟨0x0216, c, 1, 1⟩ → c.num = 0x20000 + k → k < 8 → firstFail (s.timePinChecks c) = none →
        (bits (c.word 4) 2 0 = 4 → (s.pin k).level = false → exec (.timePin c) s = .next (s.after ⟨0x0216, c, 1, 1⟩ fun t => t.setPin k
          { mode := 4, align := bit (c.word 4) 4, base2 := bit (c.word 4) 5,
            start := (if bit (c.word 4) 4 then nextSecond s (bit (c.word 4) 5) else dword (c.word 5) (c.word 6)),
            period := (c.word 7).toNat, width := (c.word 8).toNat, level := false,
            next := firstInstant (if bit (c.word 4) 4 then nextSecond s (bit (c.word 4) 5) else dword (c.word 5) (c.word 6))
              (c.word 7).toNat s.now })) ∧
        (bits (c.word 4) 2 0 ≤ 3 → ∃ t, exec (.timePin c) s = .next t ∧ (t.pin k).mode = bits (c.word 4) 2 0 ∧ (t.pin k).edge = none ∧
          (t.pin k).next = none ∧ (t.pin k).fall = none)) ∧
      (∀ (r : Requester) (v : Word) (s' : State), s' = hostArrives s r →
        (s'.timeOn = true → bit v 0 = true → exec (.baseLatch r v) s = .next { s' with blv := { s'.blv with
            lat0 := s'.blv.tb0, lat1 := s'.blv.tb1.val, lat2 := s'.blv.tb2.val, lat3 := s'.blv.tb3 } } ∧
          ∃ t, exec (.txtsPop r v) s = .next t ∧ t.blv.txts = s'.blv.txts.drop 1) ∧
        (s'.timeOn = false ∨ bit v 0 = false → exec (.baseLatch r v) s = .next s' ∧ exec (.txtsPop r v) s = .next s')) ∧
      (∀ (k : Fin 8) (rising : Bool), (s.pin k).mode = 4 ∨ s.timeOn = false → exec (.captureEdge k rising) s = .next s) ∧
      (∀ (k : Fin 8) (rising : Bool), (s.pin k).mode ≠ 4 → s.timeOn = true →
        ((s.pin k).mode = 3 ∨ (s.pin k).mode = (if rising then 1 else 2) →
          ((s.pin k).edge = none → exec (.captureEdge k rising) s =
            .next (pulse (s.setPin k { s.pin k with level := rising, edge := some rising }) (66 + k))) ∧
          ((s.pin k).edge.isSome = true → exec (.captureEdge k rising) s =
            .next (pulse ((s.setPin k { s.pin k with level := rising }).bump (0x0062_0004 + k * 0x10) 1) (66 + k)))) ∧
        ((s.pin k).mode ≠ 3 → (s.pin k).mode ≠ (if rising then 1 else 2) →
          exec (.captureEdge k rising) s = .next (s.setPin k { s.pin k with level := rising }))) ∧
      (∀ (k : Fin 8) rising, (s.pin k).edge = some rising → s.running = true → ∃ t, exec (.softwareStamp k) s = .next t ∧
        t.pin k = { s.pin k with edge := none } ∧ t.blv.lat0 = s.blv.tb0 ∧ ∃ e ∈ t.porch.produced, e.evt = true ∧ e.code = 0x0213 ∧
          e.obj = low (0x20000 + k) ∧ e.r0 = low s.now ∧ e.r1 = high s.now ∧
          e.r2 = low (ptpNs (s.blv.base (s.pin k).base2).val)) ∧
      (∀ (k : Fin 8), (s.pin k).edge = none ∨ s.running = false → exec (.softwareStamp k) s = .next s) ∧
      (∀ (k : Fin 8) (t : Nat), (s.pin k).fall = some t → t ≤ s.now → exec (.triggerEdge k) s =
        .next { s.setPin k { s.pin k with level := false, fall := none } with out := Out.pin k false :: s.out }) ∧
      (∀ (k : Fin 8), (∀ t, (s.pin k).fall = some t → s.now < t) →
        (∀ t, (s.pin k).next = some t → t ≤ s.now →
          exec (.triggerEdge k) s = .next { s.setPin k { s.pin k with
            level := true, fall := some (t + (s.pin k).width),
            next := if (s.pin k).period = 0 then none else if (s.pin k).align then some (secondAfter s (s.pin k).base2)
              else firstInstant (t + (s.pin k).period) (s.pin k).period s.now } with out := Out.pin k true :: s.out }) ∧
        ((∀ t, (s.pin k).next = some t → s.now < t) → exec (.triggerEdge k) s = .next s)))

/-! ## The Bellboard -/

/-- A pulse makes an assigned source pending (R489); an unassigned number with the core domain on changes no pending bit. A claim takes the
pending enabled source of its target with the best priority, clears its pending bit and pushes its priority; with 16 priorities pushed it
is refused as full; with none it answers none (R494, R496). A write of EOI pops the stack, or notes an empty one (R495). Pending bits,
target disables, source settings and the watch list are written, a source setting that names no target refused (R490, R497, R499-R501,
R507); without the core domain a write has no effect and a claim reads 0 (R30). Source 33 apart, which the link's leaving L1 sets on its
way. -/
def Obligations.SourcesAreClaimedAndEnded : Prop :=
  ∀ (s : State),
    (∀ n : Fin 1024, ∃ t, exec (.sourcePulse n) s = .next t ∧ (s.coreOn = true →
      (sourceAssigned n = true → n.val ∈ t.bell.pend) ∧ (∀ m ∈ s.bell.pend, m ∈ t.bell.pend) ∧
      (sourceAssigned n = false → ∀ m ∈ t.bell.pend, m ≠ 33 → m ∈ s.bell.pend) ∧
      t.bell.levelStacks = s.bell.levelStacks ∧ t.bell.log = s.bell.log)) ∧
    (∀ (r : Requester) (s' : State), s' = hostArrives s r → s'.coreOn = true →
      (∀ v, ∃ t, exec (.pendSet r v) s = .next t ∧ (sourceAssigned (bits v 9 0) = true → bits v 9 0 ∈ t.bell.pend) ∧
        ∀ m ∈ s'.bell.pend, m ∈ t.bell.pend) ∧
      (∀ v, ∃ t, exec (.pendClear r v) s = .next t ∧ (bits v 9 0 ≠ 33 → bits v 9 0 ∉ t.bell.pend) ∧
        ∀ m ∈ s'.bell.pend, m ≠ bits v 9 0 → m ∈ t.bell.pend) ∧
      (∀ t : Fin 21, s'.claimable t = none → exec (.interruptClaim r t) s = .next (readOut s' r (0x0020_1004 + t.val * 0x20) 0x8000_0000)) ∧
      (∀ (t : Fin 21) n, s'.claimable t = some n →
        (16 ≤ (s'.stack t).length → ∃ u, exec (.interruptClaim r t) s = .next u ∧ t.val ∈ u.bell.fullHeld ∧
          u.bell.pend = s'.bell.pend ∧ u.bell.levelStacks = s'.bell.levelStacks) ∧
        ((s'.stack t).length < 16 → ∃ u, exec (.interruptClaim r t) s = .next u ∧ (n ≠ 33 → n ∉ u.bell.pend) ∧
          (∀ m ∈ s'.bell.pend, m ≠ n → m ∈ u.bell.pend) ∧ u.stack t = s'.srcPrio n :: s'.stack t ∧
          (∀ j, j ≠ t.val → u.stack j = s'.stack j))) ∧
      (∀ (t : Fin 21) v, bit v 0 = true →
        (∀ a l, s'.stack t = a :: l → ∃ u, exec (.eoiWrite r t v) s = .next u ∧ u.stack t = l ∧ (∀ m ∈ s'.bell.pend, m ∈ u.bell.pend) ∧
          ∀ j, j ≠ t.val → u.stack j = s'.stack j) ∧
        (s'.stack t = [] → exec (.eoiWrite r t v) s =
          .next { s' with bell := { s'.bell with eoiEmpty := linsert s'.bell.eoiEmpty t } })) ∧
      (∀ (t : Fin 21) v, bit v 0 = false → exec (.eoiWrite r t v) s = .next s') ∧
      (∀ (t : Fin 21) v, ∃ u, exec (.targetDisableWrite r t v) s = .next u ∧ u.reg (0x0020_1000 + t * 0x20) = v &&& 1 ∧
        ∀ m ∈ s'.bell.pend, m ∈ u.bell.pend) ∧
      (∀ (n : Fin 1024) v, bits (srcCfgValue n v) 8 4 < 21 → (bits (srcCfgValue n v) 13 9 < 21 ∨ bits (srcCfgValue n v) 13 9 = 31) →
        ∃ u, exec (.sourceConfigWrite r n v) s = .next u ∧ u.reg (srcCfgA n) = srcCfgValue n v ∧
          ∀ m ∈ s'.bell.pend, m ∈ u.bell.pend) ∧
      (∀ (n : Fin 1024) v, 21 ≤ bits (srcCfgValue n v) 8 4 ∨ (21 ≤ bits (srcCfgValue n v) 13 9 ∧ bits (srcCfgValue n v) 13 9 ≠ 31) →
        exec (.sourceConfigWrite r n v) s = .next { s' with bell := { s'.bell with cfgErr := true } }) ∧
      (∀ (w : Fin 64) v, exec (.watchWrite r w v) s = .next (s'.setReg (0x0020_2000 + w * 4) (v &&& 0x8000_03FF)))) ∧
    (∀ (r : Requester) (s' : State) (v : Word) (t : Fin 21) (n : Fin 1024) (w : Fin 64), s' = hostArrives s r → s'.coreOn = false →
      exec (.pendSet r v) s = .next s' ∧ exec (.pendClear r v) s = .next s' ∧
      exec (.interruptClaim r t) s = .next (readOut s' r (0x0020_1004 + t.val * 0x20) 0) ∧ exec (.eoiWrite r t v) s = .next s' ∧
      exec (.targetDisableWrite r t v) s = .next s' ∧ exec (.sourceConfigWrite r n v) s = .next s' ∧ exec (.watchWrite r w v) s = .next s')

/-- A deferred error with no level open and a fatal one with no fatal level open open a handling level, and a corrected one does not;
each is logged while the log has room, a full log drops the new one (R502, R503, R505). A fatal error while a fatal level is open is a
double fault (R506). ERR_DONE by the host or by the core that its source is routed to closes the innermost level, another core's is
denied (R504); the injector reports an error of its severity and source, 3 none (R507); a log entry is popped from the head; ALERT_N follows
source 19's message, which a mask holds back while the host can be reached (R506). Without the core domain none of these writes acts. -/
def Obligations.ErrorsAreHandledAndLogged : Prop :=
  ∀ (s : State),
    (∀ (n : Fin 1024) (sev : Severity) (i0 i1 : Word), s.coreOn = true →
      (∀ h, h = (match sev with
          | .corrected => false | .deferred => s.bell.levels.isEmpty | .fatal => !s.bell.levels.any fun l => l.sev == .fatal) →
        ∃ t, exec (.errorReport n sev i0 i1) s = .next t ∧
          t.bell.levels = (if h then [⟨sev, true, n, i0, i1, s.blv.tb0.setWidth 32⟩] else []) ++ s.bell.levels ∧
          t.bell.log = (if s.bell.log.length < 32 then s.bell.log ++ [⟨sev, h, n, i0, i1, s.blv.tb0.setWidth 32⟩] else s.bell.log) ∧
          (sev = .corrected → 16 ∈ t.bell.pend) ∧ (h = true → (if sev = .fatal then 18 else 17) ∈ t.bell.pend) ∧
          (sev = .fatal → h = false → t.bell.double = true ∧ t.gate.doubleFault = true ∧ 19 ∈ t.bell.pend))) ∧
    (∀ (n : Fin 1024) (sev : Severity) (i0 i1 : Word), s.coreOn = false → exec (.errorReport n sev i0 i1) s = .next s) ∧
    (∀ (r : Requester) (s' : State), s' = hostArrives s r → s'.coreOn = true →
      (∀ (v : Word) (l : ErrRec) (rest : List ErrRec), bit v 0 = true → s'.bell.levels = l :: rest →
        ((r = .host ∨ s'.route (if l.sev = .fatal then 18 else 17) = reqTarget r) →
          exec (.errDone r v) s = .next { s' with bell := { s'.bell with levels := rest } }) ∧
        (r ≠ .host → s'.route (if l.sev = .fatal then 18 else 17) ≠ reqTarget r →
          exec (.errDone r v) s = .next { s' with bell := { s'.bell with doneDenied := true } })) ∧
      (∀ v : Word, bit v 0 = false ∨ s'.bell.levels = [] → exec (.errDone r v) s = .next s') ∧
      (∀ v : Word, bit v 0 = true → exec (.logPop r v) s =
        .next { s' with bell := { s'.bell with log := s'.bell.log.drop 1, fullSaid := false } }) ∧
      (∀ v : Word, bit v 0 = false → exec (.logPop r v) s = .next s') ∧
      (∀ v : Word, bits v 1 0 ≤ 2 → s'.bell.log.length < 32 → ∃ t l, exec (.errInject r v) s = .next t ∧
        t.bell.log = s'.bell.log ++ [l] ∧ l.src = bits v 25 16 ∧
        l.sev = (if bits v 1 0 = 0 then .corrected else if bits v 1 0 = 1 then .deferred else .fatal)) ∧
      (∀ v : Word, bits v 1 0 = 3 → ∃ t, exec (.errInject r v) s = .next t ∧ t.bell = s'.bell)) ∧
    (∀ (r : Requester) (v : Word) (s' : State), s' = hostArrives s r → s'.coreOn = false →
      exec (.errDone r v) s = .next s' ∧ exec (.logPop r v) s = .next s' ∧ exec (.errInject r v) s = .next s') ∧
    (s.bell.alertWait = true → s.hostReach = false ∨ s.porch.pba.contains (s.srcVector 19) = false → exec .alertNAssert s =
      .next { s with bell := { s.bell with alertWait := false }, gate := { s.gate with alertN := true }, out := Out.alertN true :: s.out }) ∧
    (s.bell.alertWait = false ∨ (s.hostReach = true ∧ s.porch.pba.contains (s.srcVector 19) = true) → exec .alertNAssert s = .next s)

/-! ## Fusebox, Gatehouse and Attic -/

/-- In Run, with no power command under way: POWER_DOMAIN begins a switch on that ends when the domain is on, answers a domain already as
asked, refuses to switch off live objects or a held domain and else switches it off; POWER_RUNPOINT and POWER_RAIL_STEP order a rail's
voltage, or move its frequency, unless the clamp, a reservation or the order of R514 forbids it; POWER_STATE answers Run, names a live
range, enters Idle and Drowse at once and Sleep and Off by their steps; the alarm latch is cleared of causes that are gone (R511-R518,
R524, R525). A power command waits behind one under way, and is answered BUSY while a state change runs (R512). A rail's order completes
when a reading within 10 mV confirms it, with PMBUS_FAIL when none does in 705,600 ct (R515). Sensors raise a warning at ATC_WARN and clamp
the rails to P3 at ATC_CRIT; the clamp lifts after a cool second (R525). -/
def Obligations.PowerCommandsAndRails : Prop :=
  ∀ (s : State) (c : Cmd),
    (s.pwr.entering = none → s.pwr.wake = none → s.pwr.job = none → s.pwr.state = 0 → s.pwr.waiting = [] →
      (s.takes ⟨0x0110, c, 1, 1⟩ → c.num < 80 →
        (bit (c.word 4) 0 = true → s.dom c.num = true → exec (.powerDomain c) s = .next (s.after ⟨0x0110, c, 1, 1⟩ id)) ∧
        (bit (c.word 4) 0 = true → s.dom c.num = false → exec (.powerDomain c) s = .next { s.begun ⟨0x0110, c, 1, 1⟩ with pwr := { s.pwr with
          rising := tput s.pwr.rising c.num s.cyc, job := some ⟨0x0110, c⟩, waiting := [] } }) ∧
        (bit (c.word 4) 0 = false → s.dom c.num = false → tfind s.pwr.rising c.num = none →
          exec (.powerDomain c) s = .next (s.after ⟨0x0110, c, 1, 1⟩ id)) ∧
        (bit (c.word 4) 0 = false → s.dom c.num = true →
          (s.domainLive c.num = true → exec (.powerDomain c) s = .next ((s.begun ⟨0x0110, c, 1, 1⟩).answer ⟨0x0110, c, 1, 1⟩ stNotStopped)) ∧
          (s.domainLive c.num = false → s.domainHeld c.num = true →
            exec (.powerDomain c) s = .next ((s.begun ⟨0x0110, c, 1, 1⟩).answer ⟨0x0110, c, 1, 1⟩ stBusy)) ∧
          (s.domainLive c.num = false → s.domainHeld c.num = false →
            ∃ t, exec (.powerDomain c) s = .next t ∧ t.dom c.num = false ∧ ∀ d, d ≠ c.num → t.dom d = s.dom d))) ∧
      (∀ p, p = bits (c.word 4) 1 0 → s.takes ⟨0x0111, c, 1, 1⟩ → c.num < 3 →
        ((s.pwr.clamp = true ∧ p < 3) ∨ s.railOver c.num p = true →
          exec (.powerRunpoint c) s = .next ((s.begun ⟨0x0111, c, 1, 1⟩).answer ⟨0x0111, c, 1, 1⟩ stBusy)) ∧
        (s.pwr.clamp = false ∨ p = 3 → s.railOver c.num p = false →
          ∃ t, exec (.powerRunpoint c) s = .next t ∧ t.pwr.job = some ⟨0x0111, c⟩ ∧ t.out = Out.vout c.num p :: s.out ∧
            t.rail c.num = { s.rail c.num with freq := Nat.max (s.rail c.num).freq p, want := some (p, s.cyc) })) ∧
      (∀ p, p = bits (c.word 4) 3 2 → s.takes ⟨0x0112, c, 1, 1⟩ → c.num < 3 →
        (s.pwr.clamp = true → p < 3 → exec (.powerRailStep c) s = .next ((s.begun ⟨0x0112, c, 1, 1⟩).answer ⟨0x0112, c, 1, 1⟩ stBusy)) ∧
        (s.pwr.clamp = false ∨ p = 3 →
          (bit (c.word 4) 0 = true → p ≤ (s.rail c.num).freq → ∃ t, exec (.powerRailStep c) s = .next t ∧ t.pwr.job = some ⟨0x0112, c⟩ ∧
            t.out = Out.vout c.num p :: s.out) ∧
          (bit (c.word 4) 0 = true → (s.rail c.num).freq < p → ∃ t, exec (.powerRailStep c) s = .next t ∧
            s.completion ⟨0x0112, c, 1, 1⟩ stPowerState 0 0 0 0 ∈ t.porch.produced ∧ t.pwr.rails = s.pwr.rails) ∧
          (bit (c.word 4) 0 = false → (s.rail c.num).volt ≤ p → s.railOver c.num p = false → ∃ t, exec (.powerRailStep c) s = .next t ∧
            s.completion ⟨0x0112, c, 1, 1⟩ stOk (low (s.rail c.num).mv) 0 0 0 ∈ t.porch.produced ∧
            t.rail c.num = { s.rail c.num with freq := p }) ∧
          (bit (c.word 4) 0 = false → p < (s.rail c.num).volt → ∃ t, exec (.powerRailStep c) s = .next t ∧
            s.completion ⟨0x0112, c, 1, 1⟩ stPowerState 0 0 0 0 ∈ t.porch.produced ∧ t.pwr.rails = s.pwr.rails))) ∧
      (s.takes ⟨0x0113, c, 1, 1⟩ → c.num = 0 →
        (bits (c.word 4) 2 0 = 0 → exec (.powerState c) s = .next (s.after ⟨0x0113, c, 1, 1⟩ id)) ∧
        (∀ r, bits (c.word 4) 2 0 ≠ 0 → s.liveRange = some r →
          exec (.powerState c) s = .next ((s.begun ⟨0x0113, c, 1, 1⟩).answers ⟨0x0113, c, 1, 1⟩ stWrongState (low r) 0 0 0)) ∧
        (s.liveRange = none →
          (5 ≤ bits (c.word 4) 2 0 → exec (.powerState c) s = .next ((s.begun ⟨0x0113, c, 1, 1⟩).answer ⟨0x0113, c, 1, 1⟩ stBadField)) ∧
          (bits (c.word 4) 2 0 = 1 → ∃ t, exec (.powerState c) s = .next t ∧ t.pwr.state = 1 ∧ t.pwr.dom = s.pwr.dom) ∧
          (bits (c.word 4) 2 0 = 2 → ∃ t, exec (.powerState c) s = .next t ∧ t.pwr.state = 2 ∧ t.pwr.dom = 0 ∧ t.pwr.savedDom = s.pwr.dom ∧
            (t.rail 2).volt = 3) ∧
          (bits (c.word 4) 2 0 = 3 ∨ bits (c.word 4) 2 0 = 4 → ∃ t, exec (.powerState c) s = .next t ∧
            t.pwr.entering = some (bits (c.word 4) 2 0, 2) ∧ t.pwr.state = 0 ∧ t.pwr.savedDom = s.pwr.dom))) ∧
      (s.takes ⟨0x0114, c, 1, 1⟩ → c.num = 0 → ∃ t, exec (.gthAlarmClear c) s = .next t ∧
        t.gate.alarm = s.gate.alarm &&& ~~~ ((c.word 4).extractLsb' 0 5 &&& ~~~ s.alarmPresent &&& 0x17))) ∧
    (s.takes ⟨0x0110, c, 1, 1⟩ → c.num < 80 →
      (s.pwr.entering ≠ none ∨ s.pwr.wake ≠ none →
        exec (.powerDomain c) s = .next ((s.begun ⟨0x0110, c, 1, 1⟩).answer ⟨0x0110, c, 1, 1⟩ stBusy)) ∧
      (s.pwr.entering = none → s.pwr.wake = none → s.pwr.job ≠ none → exec (.powerDomain c) s =
        .next { s.begun ⟨0x0110, c, 1, 1⟩ with pwr := { s.pwr with waiting := s.pwr.waiting ++ [⟨0x0110, c⟩] } })) ∧
    (∀ (r : Requester) (v : Word) (s' : State), s' = hostArrives s r → exec (.alarmLatchWrite r v) s =
      .next (if s'.coreOn then { s' with gate := { s'.gate with
        alarm := s'.gate.alarm &&& ~~~ (v.extractLsb' 0 5 &&& ~~~ s'.alarmPresent &&& 0x17) } } else s')) ∧
    (∀ (d : Fin 80), tfind s.pwr.rising d = none → exec (.domainOnComplete d) s = .next s) ∧
    (∀ (d : Fin 80) (t : Nat), tfind s.pwr.rising d = some t → s.pwr.waiting = [] → ∃ u, exec (.domainOnComplete d) s = .next u ∧
      u.dom d = true ∧ (∀ j, j ≠ d.val → u.dom j = s.dom j) ∧ u.pwr.rising = tdel s.pwr.rising d ∧
      (s.pwr.job = some ⟨0x0110, c⟩ → c.num = d.val → u.pwr.job = none ∧ s.completion ⟨0x0110, c, 1, 1⟩ stOk 0 0 0 0 ∈ u.porch.produced)) ∧
    (∀ (r : Fin 3) (mv : Nat), (s.rail r).want = none → s.gate.step ≠ 3 → exec (.voltageConfirmed r mv) s = .next s) ∧
    (∀ (r : Fin 3) (mv p t : Nat), (s.rail r).want = some (p, t) → s.gate.step ≠ 3 →
      (mv + 10 < pointMv p ∨ pointMv p + 10 < mv → exec (.voltageConfirmed r mv) s = .next s) ∧
      (pointMv p ≤ mv + 10 → mv ≤ pointMv p + 10 →
        (s.railJob r = none → exec (.voltageConfirmed r mv) s = .next (s.setRail r { s.rail r with volt := p, mv := mv, want := none })) ∧
        (s.pwr.job = some ⟨0x0111, c⟩ → c.num = r.val → s.pwr.waiting = [] → ∃ u, exec (.voltageConfirmed r mv) s = .next u ∧
          u.rail r = { s.rail r with volt := p, mv := mv, want := none, freq := if s.pwr.clamp ∧ p < 3 then (s.rail r).freq else p } ∧
          u.pwr.job = none ∧ s.completion ⟨0x0111, c, 1, 1⟩ stOk (low mv) 0 0 0 ∈ u.porch.produced) ∧
        (s.pwr.job = some ⟨0x0112, c⟩ → c.num = r.val → s.pwr.waiting = [] → ∃ u, exec (.voltageConfirmed r mv) s = .next u ∧
          u.rail r = { s.rail r with volt := p, mv := mv, want := none } ∧ u.pwr.job = none ∧
          s.completion ⟨0x0112, c, 1, 1⟩ stOk (low mv) 0 0 0 ∈ u.porch.produced))) ∧
    (∀ (r : Fin 3) (st : Word), (∀ x ∈ (s.rail r).want, s.cyc < x.2 + 705600) →
      exec (.pmbusConfirmTimeout r st) s = .next s) ∧
    (∀ (r : Fin 3) (st : Word) (p t : Nat), (s.rail r).want = some (p, t) → t + 705600 ≤ s.cyc → s.pwr.waiting = [] →
      ∃ u, exec (.pmbusConfirmTimeout r st) s = .next u ∧ u.rail r = { s.rail r with want := none } ∧
        (∃ e ∈ u.porch.produced, e.evt = true ∧ e.code = 0x0112 ∧ e.obj = low r ∧ e.r0 = st ∧ e.r1 = low (pointMv p)) ∧
        (s.pwr.job = some ⟨0x0111, c⟩ → c.num = r.val → s.completion ⟨0x0111, c, 1, 1⟩ stPmbusFail 0 0 0 0 ∈ u.porch.produced)) ∧
    (∀ ts : List Int, s.coreOn = false → exec (.temperatureSample ts) s = .next s) ∧
    (∀ ts : List Int, ts.length = 9 → s.coreOn = true →
      ((∀ x ∈ ts, x < s.atcWarn ∧ x < s.atcCrit) → exec (.temperatureSample ts) s =
        .next { s with pwr := { s.pwr with temps := ts, coolSince := some (s.pwr.coolSince.getD s.cyc) } }) ∧
      ((∃ x ∈ ts, s.atcWarn ≤ x) → (∀ x ∈ ts, x < s.atcCrit) → ∃ t, exec (.temperatureSample ts) s = .next t ∧ t.pwr.rails = s.pwr.rails ∧
        t.pwr.coolSince = none ∧ ∃ e ∈ t.porch.produced, e.evt = true ∧ e.code = 0x0111 ∧ e.r1 = 1) ∧
      (s.pwr.clamp = false → (∃ x ∈ ts, s.atcCrit ≤ x) →
        ∃ t, exec (.temperatureSample ts) s = .next t ∧ t.pwr.clamp = true ∧ ∀ r, r < 3 → (t.rail r).freq = 3 ∧ (t.rail r).volt = 3)) ∧
    (∀ t, s.pwr.coolSince = some t → s.pwr.clamp = true →
      (t + ctPerSec ≤ s.cyc → ∃ u, exec .clampLift s = .next u ∧ u.pwr.clamp = false ∧ u.pwr.rails = s.pwr.rails) ∧
      (s.cyc < t + ctPerSec → exec .clampLift s = .next s)) ∧
    (s.pwr.coolSince = none ∨ s.pwr.clamp = false → exec .clampLift s = .next s) ∧
    (∀ (r : Fin 3) mv ma, exec (.railTelemetryRead r mv ma) s = .next (if s.coreOn then { s with pwr := { s.pwr with
      railMv := tset 0 s.pwr.railMv r (mv % 2 ^ 16), railMa := tset 0 s.pwr.railMa r (ma % 2 ^ 24) } } else s))

/-- The supply groups rise in order, each on the last one's power-good, group 1 on its rails' readings too, and the main die is released
1 ms after the last (R537); a power-good that fails, or does not rise in 10 ms, lowers every group and asserts ALERT_N (R538); enables fall
in order, each on the last one's power-good or 5 ms after it (R539); PORST_N and VDD_GH power the main die down (R540). Sleep follows the
Cellar's drain (R518). An enabled source starts a wake, which goes through its steps to Run, tells WOKE and drives WAKE_N where it was asked
(R519, R521, R522, R528); the timer and an address match are such sources (R519, R520). What is not due changes nothing. -/
def Obligations.SuppliesAndWakes : Prop :=
  ∀ (s : State),
    (∀ pins, s.gate.porst = false → s.gate.vdd = true → ∃ t, exec (.porstNRise pins) s = .next t ∧ t.gate.porst = true ∧
      t.gate.straps = pins ∧ (s.gate.step = 1 → s.gate.lowering = [] → s.gate.vddSince + 2 * 70560 ≤ s.cyc →
        t.gate.step = 2 ∧ t.gate.en.getLsbD 0 = true)) ∧
    (∀ pins, s.gate.porst = true ∨ s.gate.vdd = false → exec (.porstNRise pins) s = .next s) ∧
    (∀ k : Fin 4, s.gate.vdd = false → exec (.powerGoodRise k) s = .next s) ∧
    (∀ k : Fin 4, s.gate.vdd = true → ∃ t, exec (.powerGoodRise k) s = .next t ∧ t.gate.pg.getLsbD k = true ∧
      (k = 0 → s.gate.step = 2 → t.gate.step = 3 ∧ t.gate.en = s.gate.en ||| 2) ∧
      (k = 1 → s.gate.step = 3 → (∀ r, r < 3 → s.gate.railsOk.contains r = true) → t.gate.step = 4 ∧ t.gate.en = s.gate.en ||| 4) ∧
      (k = 1 → s.gate.step = 3 → (∃ r, r < 3 ∧ s.gate.railsOk.contains r = false) → t.gate.step = 3 ∧ t.gate.en = s.gate.en) ∧
      (k = 2 → s.gate.step = 4 → t.gate.step = 5 ∧ t.gate.en = s.gate.en ||| 8) ∧
      (k = 3 → s.gate.step = 5 → t.gate.step = 6 ∧ t.gate.since = s.cyc)) ∧
    (s.gate.step = 6 → s.gate.since + 70560 ≤ s.cyc → ∃ t, exec .mainDieRelease s = .next t ∧ t.gate.step = 7 ∧ t.boot.stage = 1 ∧
      (s.bell.watched = [] → t.regs = s.regs.filter fun e => decide (0x0020_2000 ≤ e.1) && decide (e.1 < 0x0020_2100))) ∧
    (s.gate.step ≠ 6 ∨ s.cyc < s.gate.since + 70560 → exec .mainDieRelease s = .next s) ∧
    (∀ k : Fin 4, s.gate.en.getLsbD k = true →
      (s.gate.pg.getLsbD k = true → ∃ t, exec (.powerGoodFault k true) s = .next t ∧ t.gate.fault = true ∧ t.gate.dropped = true ∧
        t.gate.stage = k ∧ t.gate.step = 0 ∧ t.gate.alertN = true ∧ t.gate.pg.getLsbD k = false ∧ t.pwr.dom = 0) ∧
      (s.gate.pg.getLsbD k = false → s.gate.since + 705600 ≤ s.cyc → ∃ t, exec (.powerGoodFault k false) s = .next t ∧
        t.gate.fault = true ∧ t.gate.dropped = false ∧ t.gate.stage = k ∧ t.gate.step = 0 ∧ t.gate.alertN = true ∧ t.pwr.dom = 0) ∧
      (s.gate.pg.getLsbD k = false → exec (.powerGoodFault k true) s = .next s) ∧
      (s.gate.pg.getLsbD k = true ∨ s.cyc < s.gate.since + 705600 → exec (.powerGoodFault k false) s = .next s)) ∧
    (∀ (k : Fin 4) d, s.gate.en.getLsbD k = false → exec (.powerGoodFault k d) s = .next s) ∧
    (∀ k : Fin 4, s.gate.en.getLsbD k = true → exec (.powerGoodFall k) s = .next s) ∧
    (∀ k : Fin 4, s.gate.en.getLsbD k = false →
      (s.gate.lowering.head? ≠ some k.val → exec (.powerGoodFall k) s = .next { s with gate := s.gate.setPg k false }) ∧
      (∀ (j : Fin 4) r, s.gate.lowering = k.val :: j.val :: r → s.gate.en.getLsbD j = true → ∃ t, exec (.powerGoodFall k) s = .next t ∧
        t.gate.pg.getLsbD k = false ∧ t.gate.en.getLsbD j = false ∧ t.gate.lowering = j.val :: r ∧ t.gate.since = s.cyc)) ∧
    (∀ k : Fin 4, s.gate.lowering.head? = some k.val → s.gate.since + 5 * 70560 ≤ s.cyc →
      (s.gate.lowering = [k.val] → s.gate.step = 0 → s.pwr.wake = none →
        exec (.powerDownStepTimeout k) s = .next { s with gate := { s.gate with lowering := [] } }) ∧
      (∀ (j : Fin 4) r, s.gate.lowering = k.val :: j.val :: r → s.gate.en.getLsbD j = true → ∃ t, exec (.powerDownStepTimeout k) s = .next t ∧
        t.gate.en.getLsbD j = false ∧ t.gate.lowering = j.val :: r ∧ t.gate.since = s.cyc)) ∧
    (∀ k : Fin 4, s.gate.lowering.head? ≠ some k.val ∨ s.cyc < s.gate.since + 5 * 70560 →
      exec (.powerDownStepTimeout k) s = .next s) ∧
    (s.gate.porst = true → ∃ t, exec .porstNFall s = .next t ∧ t.gate.porst = false ∧ t.gate.step = 1 ∧ t.gate.alarm = s.gate.alarm ∧
      t.gate.stage = s.gate.stage ∧ t.pwr = {} ∧ t.bell = {} ∧ t.regs = [] ∧ t.boot.flash = s.boot.flash) ∧
    (s.gate.porst = false → exec .porstNFall s = .next s) ∧
    (∃ t, exec .vddGhLoss s = .next t ∧ t.gate = { vdd := false } ∧ t.regs = [] ∧ t.pwr = {} ∧ t.boot.flash = s.boot.flash) ∧
    exec .vddGhReturn s = .next (if s.gate.vdd then s else { s with gate := { vdd := true, vddSince := s.cyc } }) ∧
    (s.pwr.entering = some (3, 3) →
      (s.keepersDone = false → exec .cellarDrained s = .next { s with pwr := { s.pwr with entering := some (3, 4) } }) ∧
      (s.keepersDone = true → ∃ t, exec .cellarDrained s = .next t ∧ t.pwr.state = 3 ∧ t.pwr.entering = none ∧ t.porch.produced = [])) ∧
    (s.pwr.entering ≠ some (3, 3) → exec .cellarDrained s = .next s) ∧
    (∀ (b : Fin 7) (src : Fin 1024) (named : Bool), named = (b.val ≠ 2 || (s.watches src && 48 ≤ src.val && src.val ≤ 53)) →
      (s.wakeAllowed b = true → named = true → s.pwr.wake = none → s.pwr.entering = none →
        ∃ t, exec (.wakeSource b src) s = .next t ∧ t.pwr.wake = some ⟨1, b.val, src.val, s.pwr.state⟩ ∧ t.gate.wakeCause = b.val + 1) ∧
      (s.wakeAllowed b = false ∨ named = false → exec (.wakeSource b src) s = .next s)) ∧
    (s.pwr.wake = none → exec .wakeStepComplete s = .next s) ∧
    (∀ w, s.pwr.wake = some w →
      (s.pwr.entering ≠ none ∨ w.left = 4 → exec .wakeStepComplete s = .next s) ∧
      (s.pwr.entering = none → w.left ≠ 4 →
        (w.step = 1 → w.left = 3 → ¬ (s.gate.en = 15 ∧ s.gate.pg = 15) → exec .wakeStepComplete s = .next s) ∧
        (w.step = 4 → w.left = 3 → s.cel.initDone = false ∨ (∃ e ∈ s.cel.chans, e.2.keeper = true) →
          exec .wakeStepComplete s = .next s) ∧
        ((w.left = 3 → (w.step = 1 → s.gate.en = 15 ∧ s.gate.pg = 15) ∧
            (w.step = 4 → s.cel.initDone = true ∧ ∀ e ∈ s.cel.chans, e.2.keeper = false)) →
          ∃ t, exec .wakeStepComplete s = .next t ∧
          (w.step ≤ 6 → t.pwr.wake = some { w with step := if w.step = 1 ∧ w.left ≤ 2 then 4 else w.step + 1 }) ∧
          (w.step = 1 → w.left = 2 → s.pwr.clamp = false → (t.rail 2).freq = 0 ∧ (t.rail 2).volt = 0) ∧
          (w.step = 6 → t.pwr.dom = (if w.left = 1 then s.pwr.dom else s.pwr.savedDom)) ∧
          (w.step = 7 → t.pwr.wake = none ∧ t.pwr.state = 0 ∧
            (s.pwr.notify = true → w.cause ≠ 3 → 3 ≤ w.left → t.pwr.wakeN = true) ∧
            ∃ e ∈ t.porch.produced, e.evt = true ∧ e.code = 0x0110 ∧ e.r0 = low w.cause ∧ e.r2 = low w.left)))) ∧
    (s.gate.timerOn = false ∨ s.gate.timer ≠ 0 → exec .gatehouseTimerExpiry s = .next s) ∧
    (s.gate.timerOn = true → s.gate.timer = 0 → ∃ t, exec .gatehouseTimerExpiry s = .next t ∧ t.gate.timerOn = false ∧
      (s.wakeAllowed 4 = true → s.pwr.wake = none → s.pwr.entering = none → t.pwr.wake = some ⟨1, 4, 49, s.pwr.state⟩)) ∧
    (∀ a : BitVec 7, (a.toNat ≠ s.i2cAddr → exec (.i2cAddressMatch a) s = .next s) ∧
      (a.toNat = s.i2cAddr → s.wakeAllowed 5 = false → exec (.i2cAddressMatch a) s = .next (pulse s 50)) ∧
      (a.toNat = s.i2cAddr → s.wakeAllowed 5 = true → s.pwr.wake = none → s.pwr.entering = none →
        ∃ t, exec (.i2cAddressMatch a) s = .next t ∧ t.pwr.wake = some ⟨1, 5, 50, s.pwr.state⟩))

/-! ## Boot, flash, recovery and snapshots -/

/-- Each boot stage ends with the ROM's line: the straps choose the source or stop the boot, training failures and a host load's transfer
errors stop or retry it, a host load waits for GO, the image is taken from the flash or the host, one that passes every check begins stage
6, a failing one of the first SPI copy gives way to the second; stage 6 makes the device ready with every domain on (R558-R562; the line's
place is the model's choice, log entry 174). A write of GO outside that wait does nothing (R561). SMBus recovery sets its offset, gathers
and programs pages and reports its errors, and answers nothing outside stage 8 (R564).
FLASH_WRITE programs its range and answers its length once the verify holds; a failed one leaves that range undefined and no other
(R563). TELEM_SNAPSHOT copies the selected blocks to its buffer, as many bytes as LIMIT admits, and answers how many, OK_PARTIAL where that
is not all; with CLEAR the RC registers copied are cleared (R526). Both wait while host memory cannot be reached (R77, R568). -/
def Obligations.BootFlashAndSnapshots : Prop :=
  (∀ (s : State),
      (s.boot.failed = true ∨ s.boot.ready = true → ∀ r, exec (.bootStageComplete r) s = .next s) ∧
      (s.boot.failed = false → s.boot.ready = false →
        (s.boot.stage = 1 →
          (strapsOk s.gate.straps = true →
            (s.bootSrc < 2 → exec (.bootStageComplete .done) s = .next (tell 1 { s with boot := { s.boot with stage := 2 } })) ∧
            (s.bootSrc = 2 → exec (.bootStageComplete .done) s = .next (tell 1 { s with boot := { s.boot with stage := 8 } })) ∧
            (s.bootSrc = 3 → exec (.bootStageComplete .done) s =
              .next (tell 1 { s with boot := { s.boot with error := 7, failed := true } }))) ∧
          (strapsOk s.gate.straps = false → exec (.bootStageComplete .done) s =
            .next (tell 1 { s with boot := { s.boot with error := 1, failed := true }, cel := { s.cel with strapErr := true } }))) ∧
        (s.boot.stage = 2 →
          exec (.bootStageComplete .done) s =
            .next (tell 2 { s with boot := { s.boot with stage := 3 }, cel := { s.cel with trained := true } }) ∧
          ∀ ch : Fin 8, s.present ch = true → exec (.bootStageComplete (.trainFail ch)) s = .next (tell 2 { s with
            boot := { s.boot with error := 5, failed := true }
            cel := { s.cel with trainFail := s.cel.trainFail ||| BitVec.ofNat 8 (2 ^ ch.val) } })) ∧
        (s.boot.stage = 3 → exec (.bootStageComplete .done) s =
          .next (if s.cel.initDone then tell 3 { s with boot := { s.boot with stage := 4 } } else s)) ∧
        (s.boot.stage = 4 → s.bootSrc = 0 →
          (∃ t, exec (.bootStageComplete .done) s = .next t ∧ t.boot.stage = 5 ∧ t.cel.mem = (s.writeMem 0 s.flashImage).cel.mem) ∧
          (s.boot.copy = false → ∀ e, exec (.bootStageComplete (.imageError e)) s =
            .next (tell 4 { s with boot := { s.boot with stage := 4, copy := true } })) ∧
          (s.boot.copy = true → ∀ e, exec (.bootStageComplete (.imageError e)) s =
            .next (tell 4 { s with boot := { s.boot with error := e, failed := true } }))) ∧
        (s.boot.stage = 4 → s.bootSrc = 1 →
          (s.boot.loading = false → ∀ r, exec (.bootStageComplete r) s = .next s) ∧
          (s.boot.loading = true →
            (∃ t, exec (.bootStageComplete .done) s = .next t ∧ t.boot.stage = 5) ∧
            (∀ bs, ∃ t, exec (.bootStageComplete (.image bs)) s = .next t ∧ t.boot.stage = 5 ∧
              t.cel.mem = (s.writeMem 0 (bs.take s.loadLen)).cel.mem) ∧
            exec (.bootStageComplete .dmaError) s =
              .next (tell 4 { s with boot := { s.boot with stage := 4, error := 6, failed := false, loading := false } }))) ∧
        (s.boot.stage = 5 →
          (headerBad s.areaImage = false → sizesBad s.areaImage s.wantLen = false → revisionBad s.areaImage = false →
            crcBad s.areaImage = false → exec (.bootStageComplete .done) s =
              .next (tell 5 (if signatureBad s.areaImage then imageFail { s with free := s.free + 1 } 3
                else { s with boot := { s.boot with stage := 6, fw := low (imageWord s.areaImage 12) } }))) ∧
          (headerBad s.areaImage = true ∨ sizesBad s.areaImage s.wantLen = true ∨ revisionBad s.areaImage = true ∨
            crcBad s.areaImage = true → ∃ t, exec (.bootStageComplete .done) s = .next t ∧ t.boot.stage ≠ 6)) ∧
        (s.boot.stage = 6 → s.pwr.wake = none → ∃ t, exec (.bootStageComplete .done) s = .next t ∧ t.boot.ready = true ∧
          (∀ d, d < 80 → t.dom d = true) ∧ t.pan.ready = true ∧ t.cel.laid = true)) ∧
      (∀ (r : Requester) (v : Word) (s' : State), s' = hostArrives s r →
        (s'.coreOn = true → bit v 0 = true → s'.boot.stage = 4 → s'.bootSrc = 1 → s'.boot.loading = false → s'.boot.failed = false →
          exec (.loadGo r v) s = .next { s' with boot := { s'.boot with loading := true, error := 0 } }) ∧
        (s'.coreOn = false ∨ bit v 0 = false ∨ s'.boot.stage ≠ 4 ∨ s'.bootSrc ≠ 1 ∨ s'.boot.loading = true ∨ s'.boot.failed = true →
          exec (.loadGo r v) s = .next s')) ∧
      (s.boot.stage = 8 →
        (∀ off : Word, exec (.recoverySetOffset off) s = .next { s with boot := (if off.toNat % 65536 = 0 then
          { s.boot with recOffset := off.toNat, recBuf := [], recErr := false } else { s.boot with recBuf := [], recErr := true }) }) ∧
        (∀ bytes : List Byte, exec (.recoveryAppend bytes) s =
          .next { s with boot := (if bytes.length = 32 ∧ s.boot.recBuf.length + 32 ≤ 65536 then
            { s.boot with recBuf := s.boot.recBuf ++ bytes } else { s.boot with recErr := true }) }) ∧
        (33554432 < s.boot.recOffset + 65536 → exec .recoveryProgram s = .next { s with boot := { s.boot with recErr := true } }) ∧
        (s.boot.recOffset + 65536 ≤ 33554432 → ∃ t, exec .recoveryProgram s = .next t ∧ t.boot.recOffset = s.boot.recOffset + 65536 ∧
          t.boot.recBuf = [] ∧ t.boot.recPages = s.boot.recPages + 1 ∧
          t.boot.flash = (s.boot.recBuf ++ List.replicate (65536 - s.boot.recBuf.length) (0xFF : Byte)).zipIdx.foldl
            (fun m b => tset 0xFF m (s.boot.recOffset + b.2) b.1) s.boot.flash) ∧
        exec .recoveryStatus s = .next { s with
          out := Out.smbus (low ((if s.boot.recErr then 2 else 0) + s.boot.recPages % 256 * 256)) :: s.out }) ∧
      (s.boot.stage ≠ 8 → (∀ off, exec (.recoverySetOffset off) s = .next s) ∧ (∀ bytes, exec (.recoveryAppend bytes) s = .next s) ∧
        exec .recoveryProgram s = .next s ∧ exec .recoveryStatus s = .next s)) ∧
  (∀ (s : State) (c : Cmd),
      (∀ (bytes : List Byte), s.takes ⟨0x0F20, c, 1, 1⟩ → c.num = 0 → firstFail (s.flashWriteChecks c) = none →
        ((s.begun ⟨0x0F20, c, 1, 1⟩).hostReach = true →
          (∃ t, exec (.flashWrite c bytes true) s = .next t ∧ t.pwr.flashing = none ∧
            t.boot.flash = ((bytes.take (c.word 7).toNat).zipIdx.foldl (fun m b => tset 0xFF m ((c.word 6).toNat + b.2) b.1) s.boot.flash) ∧
            s.completion ⟨0x0F20, c, 1, 1⟩ stOk (low (c.word 7).toNat) 0 0 0 ∈ t.porch.produced) ∧
          (∃ t, exec (.flashWrite c bytes false) s = .next t ∧ t.pwr.flashing = none ∧
            (∀ a, a < (c.word 6).toNat ∨ (c.word 6).toNat + (c.word 7).toNat ≤ a → tget 0xFF t.boot.flash a = tget 0xFF s.boot.flash a) ∧
            s.completion ⟨0x0F20, c, 1, 1⟩ stFlashVerify 0 0 0 0 ∈ t.porch.produced)) ∧
        ((s.begun ⟨0x0F20, c, 1, 1⟩).hostReach = false → ∀ ok, exec (.flashWrite c bytes ok) s =
          .next { s.begun ⟨0x0F20, c, 1, 1⟩ with pwr := { s.pwr with flashing := some c } })) ∧
      (s.takes ⟨0x0F10, c, 1, 1⟩ → c.num = 0 → firstFail (s.telemChecks c) = none →
        ((s.begun ⟨0x0F10, c, 1, 1⟩).hostReach = true → ∃ t, exec (.telemSnapshot c) s = .next t ∧ t.pwr.telem = none ∧
          (∃ bytes, Out.hostBytes (dword (c.word 4) (c.word 5)) bytes ∈ t.out ∧
            bytes.length = Nat.min (snapSize (c.word 6)) (c.word 8).toNat) ∧
          s.completion ⟨0x0F10, c, 1, 1⟩ (if (c.word 8).toNat < snapSize (c.word 6) then stOkPartial else stOk)
            (low (Nat.min (snapSize (c.word 6)) (c.word 8).toNat)) 0 0 0 ∈ t.porch.produced) ∧
        ((s.begun ⟨0x0F10, c, 1, 1⟩).hostReach = false → exec (.telemSnapshot c) s =
          .next { s.begun ⟨0x0F10, c, 1, 1⟩ with pwr := { s.pwr with telem := some c } })) ∧
      (∀ (m : Word) (n a : Nat), isRc a = true → s.regOn a = true →
        (∃ e ∈ snapPlaces m, e.1 ≤ a ∧ a ≤ e.1 + e.2.1 ∧ e.2.2 + 16 + (a - e.1) + 4 ≤ n) → (snapClear s m n).reg a = 0))
end

