-- ==== Sys2Proof/Laws/Commands.lean ====
section
/-!
SUPPORT. What running and completing a command packet does, once for every command (R47-R52, R60).
-/
namespace Sys2Proof.Machine

/-- A packet that passes its header checks reaches its own body. -/
theorem runCmd_of_takes {s : State} {op : BitVec 16} {c : Cmd} {lo hi : Nat} {objOk powered : Bool} {body : State → State}
    (h : s.takes ⟨op, c, lo, hi⟩) (ho : objOk = true) (hp : powered = true) :
    runCmd s op c lo hi objOk powered body = body (s.begun ⟨op, c, lo, hi⟩) := by
  obtain ⟨h1, h0, h2, h3, h4, -⟩ := h
  simp only at h1 h2 h3 h4
  subst ho hp
  rw [runCmd, if_pos (by simp [h0, h1]), if_neg (by simp; omega), if_neg (by simp [h4])]
  rfl

/-- What marking a flight does to one flight. -/
theorem mem_markStarted {op : BitVec 16} {c : Cmd} {f : Flight} :
    ∀ {l : List Flight}, f ∈ markStarted op c l → ∃ g ∈ l, f.op = g.op ∧ f.c = g.c ∧ f.discard = g.discard
  | [], h => by simp [markStarted] at h
  | a :: r, h => by
    unfold markStarted at h
    split at h
    · rcases List.mem_cons.mp h with rfl | h
      · exact ⟨a, by simp⟩
      · exact ⟨f, by simp [h]⟩
    · rcases List.mem_cons.mp h with rfl | h
      · exact ⟨f, by simp⟩
      · obtain ⟨g, hg, e⟩ := mem_markStarted h
        exact ⟨g, by simp [hg], e⟩

/-- A command that no reset has overtaken: its completion is produced. -/
theorem complete_of_notOvertaken {s : State} {op : BitVec 16} {c : Cmd} {lo hi : Nat}
    (h : ∀ f ∈ s.porch.flights, f.op = op → f.c = c → f.discard = false) (st : Status) (r0 r1 r2 r3 : Word) :
    complete s op c st r0 r1 r2 r3 = s.answers ⟨op, c, lo, hi⟩ st r0 r1 r2 r3 := by
  unfold complete
  simp only [State.answers, State.produce, State.completion, State.completionQueue]
  split
  · next f hf =>
    have hm := List.mem_of_find?_eq_some hf
    have hp := List.find?_some hf
    simp at hp
    simp [h f hm hp.1.1 hp.1.2, hf]
  · next hf => simp [hf]

/-- After what a command's body does to the rest of the state its completion is produced. -/
theorem complete_of_takes {s t : State} {op : BitVec 16} {c : Cmd} {lo hi : Nat} (h : s.takes ⟨op, c, lo, hi⟩)
    (ht : t.porch.flights = (s.begun ⟨op, c, lo, hi⟩).porch.flights) (st : Status) (r0 r1 r2 r3 : Word) :
    complete t op c st r0 r1 r2 r3 = t.answers ⟨op, c, lo, hi⟩ st r0 r1 r2 r3 := by
  apply complete_of_notOvertaken
  intro f hf ho hc
  rw [ht] at hf
  obtain ⟨g, hg, e1, e2, e3⟩ := mem_markStarted hf
  rw [e3]
  exact h.2.2.2.2.2 g hg (e1 ▸ ho) (e2 ▸ hc)

/-- The completion with results 0. -/
theorem finish_of_takes {s t : State} {op : BitVec 16} {c : Cmd} {lo hi : Nat} (h : s.takes ⟨op, c, lo, hi⟩)
    (ht : t.porch.flights = (s.begun ⟨op, c, lo, hi⟩).porch.flights) (st : Status) :
    finish t op c st = t.answer ⟨op, c, lo, hi⟩ st :=
  complete_of_takes h ht st 0 0 0 0

/-- A command whose checks all pass goes on. -/
theorem checked_of_none {s : State} {op : BitVec 16} {c : Cmd} {l : List (Bool × Status)} {go : State → State}
    (h : firstFail l = none) : checked s op c l go = go s := by
  simp [checked, h]

/-- A command whose header and checks pass does what it does and completes with OK. -/
theorem runCmd_after {s : State} {op : BitVec 16} {c : Cmd} {lo hi : Nat} {objOk powered : Bool} {checks : State → List (Bool × Status)}
    {effect : State → State} (h : s.takes ⟨op, c, lo, hi⟩) (ho : objOk = true) (hp : powered = true)
    (hc : firstFail (checks (s.begun ⟨op, c, lo, hi⟩)) = none)
    (hf : (effect (s.begun ⟨op, c, lo, hi⟩)).porch.flights = (s.begun ⟨op, c, lo, hi⟩).porch.flights) :
    runCmd s op c lo hi objOk powered (fun s => checked s op c (checks s) fun s => finish (effect s) op c stOk) =
      s.after ⟨op, c, lo, hi⟩ effect := by
  rw [runCmd_of_takes h ho hp, checked_of_none hc, finish_of_takes h hf]
  rfl

end Sys2Proof.Machine
end

