-- ==== Sys2Proof/Laws/Engine.lean ====
section
/-!
SUPPORT. What issuing one DSP instruction does, once for every instruction (R188, R204-R208).
-/
namespace Sys2Proof.Machine

/-- An instruction that an engine executes acts on its run and its word, in the one way its meaning gives. -/
theorem engOp_runs {s : State} {e op : Nat} {w : Word} {go : EngRun → Word → State} (h : s.executes e op w) :
    engOp s e op go = go (s.engRun e) w := by
  obtain ⟨a, b, c, d⟩ := h
  unfold engOp
  simp only
  rw [if_pos a, b, c]
  simp [fOp, d]

/-- The same of an instruction that R204 bars from the end of a loop, where it does not stand at one. -/
theorem engCtl_runs {s : State} {e op : Nat} {w : Word} {go : EngRun → Word → State} (h : s.executesFree e op w) :
    engCtl s e op go = go (s.engRun e) w := by
  unfold engCtl
  rw [engOp_runs h.1, h.2]; rfl

end Sys2Proof.Machine
end

