-- ==== Sys2Proof/Laws/Tables.lean ====
section
/-!
SUPPORT. Tables: a read after a write, and the canonical form that every write keeps.
-/
namespace Sys2Proof.Machine

variable {α : Type}

theorem tget_tdel_self (d : α) (k : Nat) : ∀ t : Tab α, tget d (tdel t k) k = d
  | [] => rfl
  | (a, v) :: r => by
    by_cases h : a = k <;> simp [tdel, tget, h, tget_tdel_self d k r]

theorem tget_tdel_ne (d : α) {k j : Nat} (h : j ≠ k) : ∀ t : Tab α, tget d (tdel t k) j = tget d t j
  | [] => rfl
  | (a, v) :: r => by
    by_cases ha : a = k
    · subst ha
      simp [tdel, tget, tget_tdel_ne d h r, Ne.symm h]
    · simp [tdel, tget, ha, tget_tdel_ne d h r]

theorem tget_tins_ne (d : α) {k j : Nat} (v : α) (h : j ≠ k) : ∀ t : Tab α, tget d (tins t k v) j = tget d t j
  | [] => by simp [tins, tget, Ne.symm h]
  | (a, w) :: r => by
    by_cases ha : k < a
    · simp [tins, tget, ha, Ne.symm h]
    · simp [tins, tget, ha, tget_tins_ne d v h r]

theorem tget_tins_tdel (d : α) (k : Nat) (v : α) : ∀ t : Tab α, tget d (tins (tdel t k) k v) k = v
  | [] => by simp [tdel, tins, tget]
  | (a, w) :: r => by
    by_cases ha : a = k
    · simp [tdel, ha, tget_tins_tdel d k v r]
    · by_cases hk : k < a <;> simp [tdel, tins, tget, ha, hk, tget_tins_tdel d k v r]

/-- A read after a write to the same key gives the value written. -/
@[simp] theorem tget_tset_self [DecidableEq α] (d : α) (t : Tab α) (k : Nat) (v : α) : tget d (tset d t k v) k = v := by
  unfold tset
  split
  · simp_all [tget_tdel_self]
  · exact tget_tins_tdel d k v t

/-- A write leaves every other key alone. -/
theorem tget_tset_ne [DecidableEq α] (d e : α) (t : Tab α) {k j : Nat} (v : α) (h : j ≠ k) :
    tget e (tset d t k v) j = tget e t j := by
  unfold tset
  split
  · exact tget_tdel_ne e h t
  · rw [tget_tins_ne e v h, tget_tdel_ne e h]

/-- A read after a write, whatever the keys. -/
theorem tget_tset [DecidableEq α] (d : α) (t : Tab α) (k j : Nat) (v : α) :
    tget d (tset d t k v) j = if j = k then v else tget d t j := by
  by_cases h : j = k
  · simp [h]
  · simp [h, tget_tset_ne d d t v h]

/-! ## Canonical form -/

/-- Every key of a table is above a bound. -/
def above (b : Nat) (t : Tab α) : Prop := ∀ e ∈ t, b < e.1

theorem keysRise_cons {a : Nat} {v : α} {r : Tab α} : keysRise ((a, v) :: r) = true ↔ above a r ∧ keysRise r = true := by
  induction r generalizing a v with
  | nil => simp [keysRise, above]
  | cons e r ih =>
    obtain ⟨b, w⟩ := e
    simp only [keysRise, Bool.and_eq_true, decide_eq_true_eq]
    constructor
    · rintro ⟨h, hr⟩
      refine ⟨?_, hr⟩
      intro x hx
      rcases List.mem_cons.mp hx with rfl | hx
      · exact h
      · exact Nat.lt_trans h ((ih.mp hr).1 x hx)
    · rintro ⟨h, hr⟩
      exact ⟨h (b, w) (by simp), hr⟩

theorem mem_tdel {k : Nat} {e : Nat × α} : ∀ {t : Tab α}, e ∈ tdel t k → e ∈ t ∧ e.1 ≠ k
  | [], h => by simp [tdel] at h
  | (a, v) :: r, h => by
    by_cases ha : a = k
    · simp only [tdel, ha, if_true] at h
      exact ⟨by simp [(mem_tdel h).1], (mem_tdel h).2⟩
    · simp only [tdel, ha, if_false, List.mem_cons] at h
      rcases h with rfl | h
      · exact ⟨by simp, ha⟩
      · exact ⟨by simp [(mem_tdel h).1], (mem_tdel h).2⟩

theorem keysRise_tdel {k : Nat} : ∀ {t : Tab α}, keysRise t = true → keysRise (tdel t k) = true
  | [], _ => rfl
  | (a, v) :: r, h => by
    obtain ⟨h1, h2⟩ := keysRise_cons.mp h
    by_cases ha : a = k
    · simpa [tdel, ha] using keysRise_tdel h2
    · simp only [tdel, ha, if_false]
      exact keysRise_cons.mpr ⟨fun e he => h1 e (mem_tdel he).1, keysRise_tdel h2⟩

theorem mem_tins {k : Nat} {v : α} {e : Nat × α} : ∀ {t : Tab α}, e ∈ tins t k v → e = (k, v) ∨ e ∈ t
  | [], h => by simpa [tins] using h
  | (a, w) :: r, h => by
    by_cases ha : k < a
    · simp only [tins, ha, if_true, List.mem_cons] at h ⊢
      exact h.imp id id
    · simp only [tins, ha, if_false, List.mem_cons] at h ⊢
      rcases h with h | h
      · exact .inr (.inl h)
      · rcases mem_tins h with h | h
        · exact .inl h
        · exact .inr (.inr h)

theorem keysRise_tins {k : Nat} {v : α} : ∀ {t : Tab α}, keysRise t = true → (∀ e ∈ t, e.1 ≠ k) → keysRise (tins t k v) = true
  | [], _, _ => rfl
  | (a, w) :: r, h, hk => by
    obtain ⟨h1, h2⟩ := keysRise_cons.mp h
    by_cases ha : k < a
    · simp only [tins, ha, if_true]
      refine keysRise_cons.mpr ⟨fun e he => ?_, h⟩
      rcases List.mem_cons.mp he with rfl | he
      · exact ha
      · exact Nat.lt_trans ha (h1 e he)
    · simp only [tins, ha, if_false]
      have hak : a < k := by
        have := hk (a, w) (by simp)
        simp only at this
        omega
      refine keysRise_cons.mpr ⟨fun e he => ?_, keysRise_tins h2 fun e he => hk e (by simp [he])⟩
      rcases mem_tins he with rfl | he
      · exact hak
      · exact h1 e he

/-- A write keeps the canonical form of a table. -/
theorem tabWf_tset [DecidableEq α] (d : α) {t : Tab α} (k : Nat) (v : α) (h : tabWf d t = true) :
    tabWf d (tset d t k v) = true := by
  simp only [tabWf, Bool.and_eq_true, List.all_eq_true, decide_eq_true_eq] at h ⊢
  unfold tset
  split
  · exact ⟨keysRise_tdel h.1, fun e he => h.2 e (mem_tdel he).1⟩
  · next hv =>
    refine ⟨keysRise_tins (keysRise_tdel h.1) fun e he => (mem_tdel he).2, fun e he => ?_⟩
    rcases mem_tins he with rfl | he
    · exact hv
    · exact h.2 e (mem_tdel he).1

/-- Writing bytes of main memory keeps its canonical form. -/
theorem writeMem_wf (s : State) (pa : Nat) (bs : List Byte) (h : tabWf 0 s.cel.mem = true) :
    tabWf 0 (s.writeMem pa bs).cel.mem = true := by
  have key : ∀ (l : List (Byte × Nat)) (m : Tab Byte), tabWf 0 m = true →
      tabWf 0 (l.foldl (fun m b => tset 0 m (pa + b.2) b.1) m) = true := by
    intro l
    induction l with
    | nil => exact fun m hm => hm
    | cons b l ih => exact fun m hm => ih _ (tabWf_tset 0 _ _ hm)
  exact key _ _ h

end Sys2Proof.Machine
end

