-- ==== Sys2Proof/Laws/Memory.lean ====
section
/-!
SUPPORT. Main memory: every operation that writes it keeps its canonical form, and a byte outside a write reads as before
(R437, R441, R449).
-/
namespace Sys2Proof.Machine

/-- A run of single writes keeps the canonical form. -/
theorem tabWf_foldl_tset {β : Type} (f : β → Nat × Byte) :
    ∀ (l : List β) (m : Tab Byte), tabWf 0 m = true → tabWf 0 (l.foldl (fun m b => tset 0 m (f b).1 (f b).2) m) = true
  | [], _, h => h
  | b :: l, _, h => tabWf_foldl_tset f l _ (tabWf_tset 0 (f b).1 (f b).2 h)

/-- A byte that none of the writes names reads as before. -/
theorem tget_foldl_tset_of_forall_ne {β : Type} (f : β → Nat × Byte) (a : Nat) :
    ∀ (l : List β) (m : Tab Byte), (∀ b ∈ l, a ≠ (f b).1) →
      tget 0 (l.foldl (fun m b => tset 0 m (f b).1 (f b).2) m) a = tget 0 m a
  | [], _, _ => rfl
  | b :: l, m, h => by
    rw [List.foldl_cons, tget_foldl_tset_of_forall_ne f a l _ fun c hc => h c (List.mem_cons_of_mem _ hc)]
    exact tget_tset_ne 0 0 m (f b).2 (h b List.mem_cons_self)

/-- Writing bytes of one line keeps the canonical form. -/
theorem writeBytes_wf (s : State) (line : Nat) (data : List (Fin 64 × Byte)) (h : Memory.wf s.cel.mem) :
    Memory.wf (writeBytes s line data).cel.mem :=
  tabWf_foldl_tset (fun d : Fin 64 × Byte => (line + d.1.val, d.2)) data _ h

/-- Writing bytes of one line leaves every byte of every other line alone. -/
theorem memByte_writeBytes (s : State) (line a : Nat) (data : List (Fin 64 × Byte)) (h : a < line ∨ line + 64 ≤ a) :
    (writeBytes s line data).memByte a = s.memByte a :=
  tget_foldl_tset_of_forall_ne (fun d : Fin 64 × Byte => (line + d.1.val, d.2)) a data _ fun d _ => by
    have := d.1.isLt
    simp only
    omega

/-- Dropping entries keeps the order of the keys. -/
theorem keysRise_filter (p : Nat × Byte → Bool) : ∀ {m : Tab Byte}, keysRise m = true → keysRise (m.filter p) = true
  | [], _ => rfl
  | (a, v) :: r, h => by
    obtain ⟨ha, hr⟩ := keysRise_cons.mp h
    have ih := keysRise_filter p hr
    rw [List.filter_cons]
    split
    · exact keysRise_cons.mpr ⟨fun e he => ha e (List.mem_filter.mp he).1, ih⟩
    · exact ih

/-- Dropping the bytes of banks that are not kept keeps the canonical form. -/
theorem tabWf_filter (p : Nat × Byte → Bool) {m : Tab Byte} (h : tabWf 0 m = true) : tabWf 0 (m.filter p) = true := by
  simp only [tabWf, Bool.and_eq_true, List.all_eq_true] at h ⊢
  exact ⟨keysRise_filter p h.1, fun e he => h.2 e (List.mem_filter.mp he).1⟩

/-- Losing the supplies keeps the canonical form: memory is empty, or holds the banks the keepers kept. -/
theorem mainDieDown_wf (s : State) (keep : Bool) (h : Memory.wf s.cel.mem) : Memory.wf (mainDieDown s keep).cel.mem := by
  unfold mainDieDown
  cases keep
  · rfl
  · simp only [Bool.not_true, Bool.false_eq_true, if_false]
    split <;> exact tabWf_filter _ h

end Sys2Proof.Machine
end

