-- ==== Sys2Proof/Laws/State.lean ====
section
/-!
SUPPORT. What each named update of the state leaves alone, field by field, and what it writes.
-/
namespace Sys2Proof.Machine

@[simp] theorem setReg_keeps (s : State) (a : Nat) (v : Word) :
    (s.setReg a v).pending = s.pending ∧ (s.setReg a v).out = s.out ∧ (s.setReg a v).free = s.free ∧
    (s.setReg a v).cyc = s.cyc ∧ (s.setReg a v).cnt = s.cnt ∧ (s.setReg a v).hi = s.hi ∧
    (s.setReg a v).objs = s.objs ∧ (s.setReg a v).limits = s.limits ∧ (s.setReg a v).porch = s.porch ∧
    (s.setReg a v).bell = s.bell ∧ (s.setReg a v).blv = s.blv ∧ (s.setReg a v).pwr = s.pwr ∧
    (s.setReg a v).gate = s.gate ∧ (s.setReg a v).boot = s.boot ∧ (s.setReg a v).cel = s.cel ∧
    (s.setReg a v).pan = s.pan ∧ (s.setReg a v).hall = s.hall ∧ (s.setReg a v).prg = s.prg ∧
    (s.setReg a v).net = s.net ∧ (s.setReg a v).ftb = s.ftb ∧ (s.setReg a v).ice = s.ice ∧
    (s.setReg a v).hat = s.hat ∧ (s.setReg a v).bnd = s.bnd ∧ (s.setReg a v).par = s.par ∧
    (s.setReg a v).dec = s.dec ∧ (s.setReg a v).org = s.org ∧ (s.setReg a v).enc = s.enc ∧
    (s.setReg a v).dmb = s.dmb := by and_intros <;> rfl

@[simp] theorem bump64_keeps (s : State) (a n : Nat) :
    (s.bump64 a n).pending = s.pending ∧ (s.bump64 a n).out = s.out ∧ (s.bump64 a n).free = s.free ∧
    (s.bump64 a n).cyc = s.cyc ∧ (s.bump64 a n).regs = s.regs ∧ (s.bump64 a n).hi = s.hi ∧
    (s.bump64 a n).objs = s.objs ∧ (s.bump64 a n).limits = s.limits ∧ (s.bump64 a n).porch = s.porch ∧
    (s.bump64 a n).bell = s.bell ∧ (s.bump64 a n).blv = s.blv ∧ (s.bump64 a n).pwr = s.pwr ∧
    (s.bump64 a n).gate = s.gate ∧ (s.bump64 a n).boot = s.boot ∧ (s.bump64 a n).cel = s.cel ∧
    (s.bump64 a n).pan = s.pan ∧ (s.bump64 a n).hall = s.hall ∧ (s.bump64 a n).prg = s.prg ∧
    (s.bump64 a n).net = s.net ∧ (s.bump64 a n).ftb = s.ftb ∧ (s.bump64 a n).ice = s.ice ∧
    (s.bump64 a n).hat = s.hat ∧ (s.bump64 a n).bnd = s.bnd ∧ (s.bump64 a n).par = s.par ∧
    (s.bump64 a n).dec = s.dec ∧ (s.bump64 a n).org = s.org ∧ (s.bump64 a n).enc = s.enc ∧
    (s.bump64 a n).dmb = s.dmb := by and_intros <;> rfl

@[simp] theorem setObj_keeps (s : State) (k : Nat) (o : ObjRec) :
    (s.setObj k o).pending = s.pending ∧ (s.setObj k o).out = s.out ∧ (s.setObj k o).free = s.free ∧
    (s.setObj k o).cyc = s.cyc ∧ (s.setObj k o).regs = s.regs ∧ (s.setObj k o).cnt = s.cnt ∧
    (s.setObj k o).hi = s.hi ∧ (s.setObj k o).limits = s.limits ∧ (s.setObj k o).porch = s.porch ∧
    (s.setObj k o).bell = s.bell ∧ (s.setObj k o).blv = s.blv ∧ (s.setObj k o).pwr = s.pwr ∧
    (s.setObj k o).gate = s.gate ∧ (s.setObj k o).boot = s.boot ∧ (s.setObj k o).cel = s.cel ∧
    (s.setObj k o).pan = s.pan ∧ (s.setObj k o).hall = s.hall ∧ (s.setObj k o).prg = s.prg ∧
    (s.setObj k o).net = s.net ∧ (s.setObj k o).ftb = s.ftb ∧ (s.setObj k o).ice = s.ice ∧
    (s.setObj k o).hat = s.hat ∧ (s.setObj k o).bnd = s.bnd ∧ (s.setObj k o).par = s.par ∧
    (s.setObj k o).dec = s.dec ∧ (s.setObj k o).org = s.org ∧ (s.setObj k o).enc = s.enc ∧
    (s.setObj k o).dmb = s.dmb := by and_intros <;> rfl

@[simp] theorem setSq_keeps (s : State) (n : Nat) (q : Sq) :
    (s.setSq n q).pending = s.pending ∧ (s.setSq n q).out = s.out ∧ (s.setSq n q).free = s.free ∧
    (s.setSq n q).cyc = s.cyc ∧ (s.setSq n q).regs = s.regs ∧ (s.setSq n q).cnt = s.cnt ∧
    (s.setSq n q).hi = s.hi ∧ (s.setSq n q).objs = s.objs ∧ (s.setSq n q).limits = s.limits ∧
    (s.setSq n q).bell = s.bell ∧ (s.setSq n q).blv = s.blv ∧ (s.setSq n q).pwr = s.pwr ∧
    (s.setSq n q).gate = s.gate ∧ (s.setSq n q).boot = s.boot ∧ (s.setSq n q).cel = s.cel ∧
    (s.setSq n q).pan = s.pan ∧ (s.setSq n q).hall = s.hall ∧ (s.setSq n q).prg = s.prg ∧
    (s.setSq n q).net = s.net ∧ (s.setSq n q).ftb = s.ftb ∧ (s.setSq n q).ice = s.ice ∧
    (s.setSq n q).hat = s.hat ∧ (s.setSq n q).bnd = s.bnd ∧ (s.setSq n q).par = s.par ∧
    (s.setSq n q).dec = s.dec ∧ (s.setSq n q).org = s.org ∧ (s.setSq n q).enc = s.enc ∧
    (s.setSq n q).dmb = s.dmb ∧ (s.setSq n q).porch.link = s.porch.link ∧ (s.setSq n q).porch.width = s.porch.width ∧
    (s.setSq n q).porch.gen = s.porch.gen ∧ (s.setSq n q).porch.d3hot = s.porch.d3hot ∧ (s.setSq n q).porch.pmeEn = s.porch.pmeEn ∧
    (s.setSq n q).porch.pmeStatus = s.porch.pmeStatus ∧ (s.setSq n q).porch.wakeActive = s.porch.wakeActive ∧ (s.setSq n q).porch.wakeN = s.porch.wakeN ∧
    (s.setSq n q).porch.perst = s.porch.perst ∧ (s.setSq n q).porch.cq = s.porch.cq ∧ (s.setSq n q).porch.produced = s.porch.produced ∧
    (s.setSq n q).porch.held = s.porch.held ∧ (s.setSq n q).porch.flights = s.porch.flights ∧ (s.setSq n q).porch.turn = s.porch.turn ∧
    (s.setSq n q).porch.credit = s.porch.credit ∧ (s.setSq n q).porch.pba = s.porch.pba := by and_intros <;> rfl

@[simp] theorem setCq_keeps (s : State) (n : Nat) (q : Cq) :
    (s.setCq n q).pending = s.pending ∧ (s.setCq n q).out = s.out ∧ (s.setCq n q).free = s.free ∧
    (s.setCq n q).cyc = s.cyc ∧ (s.setCq n q).regs = s.regs ∧ (s.setCq n q).cnt = s.cnt ∧
    (s.setCq n q).hi = s.hi ∧ (s.setCq n q).objs = s.objs ∧ (s.setCq n q).limits = s.limits ∧
    (s.setCq n q).bell = s.bell ∧ (s.setCq n q).blv = s.blv ∧ (s.setCq n q).pwr = s.pwr ∧
    (s.setCq n q).gate = s.gate ∧ (s.setCq n q).boot = s.boot ∧ (s.setCq n q).cel = s.cel ∧
    (s.setCq n q).pan = s.pan ∧ (s.setCq n q).hall = s.hall ∧ (s.setCq n q).prg = s.prg ∧
    (s.setCq n q).net = s.net ∧ (s.setCq n q).ftb = s.ftb ∧ (s.setCq n q).ice = s.ice ∧
    (s.setCq n q).hat = s.hat ∧ (s.setCq n q).bnd = s.bnd ∧ (s.setCq n q).par = s.par ∧
    (s.setCq n q).dec = s.dec ∧ (s.setCq n q).org = s.org ∧ (s.setCq n q).enc = s.enc ∧
    (s.setCq n q).dmb = s.dmb ∧ (s.setCq n q).porch.link = s.porch.link ∧ (s.setCq n q).porch.width = s.porch.width ∧
    (s.setCq n q).porch.gen = s.porch.gen ∧ (s.setCq n q).porch.d3hot = s.porch.d3hot ∧ (s.setCq n q).porch.pmeEn = s.porch.pmeEn ∧
    (s.setCq n q).porch.pmeStatus = s.porch.pmeStatus ∧ (s.setCq n q).porch.wakeActive = s.porch.wakeActive ∧ (s.setCq n q).porch.wakeN = s.porch.wakeN ∧
    (s.setCq n q).porch.perst = s.porch.perst ∧ (s.setCq n q).porch.sq = s.porch.sq ∧ (s.setCq n q).porch.produced = s.porch.produced ∧
    (s.setCq n q).porch.held = s.porch.held ∧ (s.setCq n q).porch.flights = s.porch.flights ∧ (s.setCq n q).porch.turn = s.porch.turn ∧
    (s.setCq n q).porch.credit = s.porch.credit ∧ (s.setCq n q).porch.pba = s.porch.pba := by and_intros <;> rfl

@[simp] theorem setNetPort_keeps (s : State) (p : Nat) (x : NetPort) :
    (s.setNetPort p x).pending = s.pending ∧ (s.setNetPort p x).out = s.out ∧ (s.setNetPort p x).free = s.free ∧
    (s.setNetPort p x).cyc = s.cyc ∧ (s.setNetPort p x).regs = s.regs ∧ (s.setNetPort p x).cnt = s.cnt ∧
    (s.setNetPort p x).hi = s.hi ∧ (s.setNetPort p x).objs = s.objs ∧ (s.setNetPort p x).limits = s.limits ∧
    (s.setNetPort p x).porch = s.porch ∧ (s.setNetPort p x).bell = s.bell ∧ (s.setNetPort p x).blv = s.blv ∧
    (s.setNetPort p x).pwr = s.pwr ∧ (s.setNetPort p x).gate = s.gate ∧ (s.setNetPort p x).boot = s.boot ∧
    (s.setNetPort p x).cel = s.cel ∧ (s.setNetPort p x).pan = s.pan ∧ (s.setNetPort p x).hall = s.hall ∧
    (s.setNetPort p x).prg = s.prg ∧ (s.setNetPort p x).ftb = s.ftb ∧ (s.setNetPort p x).ice = s.ice ∧
    (s.setNetPort p x).hat = s.hat ∧ (s.setNetPort p x).bnd = s.bnd ∧ (s.setNetPort p x).par = s.par ∧
    (s.setNetPort p x).dec = s.dec ∧ (s.setNetPort p x).org = s.org ∧ (s.setNetPort p x).enc = s.enc ∧
    (s.setNetPort p x).dmb = s.dmb ∧ (s.setNetPort p x).net.punt = s.net.punt ∧ (s.setNetPort p x).net.sets = s.net.sets ∧
    (s.setNetPort p x).net.runs = s.net.runs ∧ (s.setNetPort p x).net.unknown = s.net.unknown := by and_intros <;> rfl

@[simp] theorem setLegSet_keeps (s : State) (l : Nat) (x : LegSet) :
    (s.setLegSet l x).pending = s.pending ∧ (s.setLegSet l x).out = s.out ∧ (s.setLegSet l x).free = s.free ∧
    (s.setLegSet l x).cyc = s.cyc ∧ (s.setLegSet l x).regs = s.regs ∧ (s.setLegSet l x).cnt = s.cnt ∧
    (s.setLegSet l x).hi = s.hi ∧ (s.setLegSet l x).objs = s.objs ∧ (s.setLegSet l x).limits = s.limits ∧
    (s.setLegSet l x).porch = s.porch ∧ (s.setLegSet l x).bell = s.bell ∧ (s.setLegSet l x).blv = s.blv ∧
    (s.setLegSet l x).pwr = s.pwr ∧ (s.setLegSet l x).gate = s.gate ∧ (s.setLegSet l x).boot = s.boot ∧
    (s.setLegSet l x).cel = s.cel ∧ (s.setLegSet l x).pan = s.pan ∧ (s.setLegSet l x).hall = s.hall ∧
    (s.setLegSet l x).prg = s.prg ∧ (s.setLegSet l x).ftb = s.ftb ∧ (s.setLegSet l x).ice = s.ice ∧
    (s.setLegSet l x).hat = s.hat ∧ (s.setLegSet l x).bnd = s.bnd ∧ (s.setLegSet l x).par = s.par ∧
    (s.setLegSet l x).dec = s.dec ∧ (s.setLegSet l x).org = s.org ∧ (s.setLegSet l x).enc = s.enc ∧
    (s.setLegSet l x).dmb = s.dmb ∧ (s.setLegSet l x).net.ports = s.net.ports ∧ (s.setLegSet l x).net.punt = s.net.punt ∧
    (s.setLegSet l x).net.runs = s.net.runs ∧ (s.setLegSet l x).net.unknown = s.net.unknown := by and_intros <;> rfl

@[simp] theorem setLegRun_keeps (s : State) (l : Nat) (x : LegRun) :
    (s.setLegRun l x).pending = s.pending ∧ (s.setLegRun l x).out = s.out ∧ (s.setLegRun l x).free = s.free ∧
    (s.setLegRun l x).cyc = s.cyc ∧ (s.setLegRun l x).regs = s.regs ∧ (s.setLegRun l x).cnt = s.cnt ∧
    (s.setLegRun l x).hi = s.hi ∧ (s.setLegRun l x).objs = s.objs ∧ (s.setLegRun l x).limits = s.limits ∧
    (s.setLegRun l x).porch = s.porch ∧ (s.setLegRun l x).bell = s.bell ∧ (s.setLegRun l x).blv = s.blv ∧
    (s.setLegRun l x).pwr = s.pwr ∧ (s.setLegRun l x).gate = s.gate ∧ (s.setLegRun l x).boot = s.boot ∧
    (s.setLegRun l x).cel = s.cel ∧ (s.setLegRun l x).pan = s.pan ∧ (s.setLegRun l x).hall = s.hall ∧
    (s.setLegRun l x).prg = s.prg ∧ (s.setLegRun l x).ftb = s.ftb ∧ (s.setLegRun l x).ice = s.ice ∧
    (s.setLegRun l x).hat = s.hat ∧ (s.setLegRun l x).bnd = s.bnd ∧ (s.setLegRun l x).par = s.par ∧
    (s.setLegRun l x).dec = s.dec ∧ (s.setLegRun l x).org = s.org ∧ (s.setLegRun l x).enc = s.enc ∧
    (s.setLegRun l x).dmb = s.dmb ∧ (s.setLegRun l x).net.ports = s.net.ports ∧ (s.setLegRun l x).net.punt = s.net.punt ∧
    (s.setLegRun l x).net.sets = s.net.sets ∧ (s.setLegRun l x).net.unknown = s.net.unknown := by and_intros <;> rfl

@[simp] theorem setConfSet_keeps (s : State) (c : Nat) (x : ConfSet) :
    (s.setConfSet c x).pending = s.pending ∧ (s.setConfSet c x).out = s.out ∧ (s.setConfSet c x).free = s.free ∧
    (s.setConfSet c x).cyc = s.cyc ∧ (s.setConfSet c x).regs = s.regs ∧ (s.setConfSet c x).cnt = s.cnt ∧
    (s.setConfSet c x).hi = s.hi ∧ (s.setConfSet c x).objs = s.objs ∧ (s.setConfSet c x).limits = s.limits ∧
    (s.setConfSet c x).porch = s.porch ∧ (s.setConfSet c x).bell = s.bell ∧ (s.setConfSet c x).blv = s.blv ∧
    (s.setConfSet c x).pwr = s.pwr ∧ (s.setConfSet c x).gate = s.gate ∧ (s.setConfSet c x).boot = s.boot ∧
    (s.setConfSet c x).cel = s.cel ∧ (s.setConfSet c x).pan = s.pan ∧ (s.setConfSet c x).hall = s.hall ∧
    (s.setConfSet c x).prg = s.prg ∧ (s.setConfSet c x).net = s.net ∧ (s.setConfSet c x).ftb = s.ftb ∧
    (s.setConfSet c x).ice = s.ice ∧ (s.setConfSet c x).hat = s.hat ∧ (s.setConfSet c x).par = s.par ∧
    (s.setConfSet c x).dec = s.dec ∧ (s.setConfSet c x).org = s.org ∧ (s.setConfSet c x).enc = s.enc ∧
    (s.setConfSet c x).dmb = s.dmb := by and_intros <;> rfl

@[simp] theorem setConfRun_keeps (s : State) (c : Nat) (x : ConfRun) :
    (s.setConfRun c x).pending = s.pending ∧ (s.setConfRun c x).out = s.out ∧ (s.setConfRun c x).free = s.free ∧
    (s.setConfRun c x).cyc = s.cyc ∧ (s.setConfRun c x).regs = s.regs ∧ (s.setConfRun c x).cnt = s.cnt ∧
    (s.setConfRun c x).hi = s.hi ∧ (s.setConfRun c x).objs = s.objs ∧ (s.setConfRun c x).limits = s.limits ∧
    (s.setConfRun c x).porch = s.porch ∧ (s.setConfRun c x).bell = s.bell ∧ (s.setConfRun c x).blv = s.blv ∧
    (s.setConfRun c x).pwr = s.pwr ∧ (s.setConfRun c x).gate = s.gate ∧ (s.setConfRun c x).boot = s.boot ∧
    (s.setConfRun c x).cel = s.cel ∧ (s.setConfRun c x).pan = s.pan ∧ (s.setConfRun c x).hall = s.hall ∧
    (s.setConfRun c x).prg = s.prg ∧ (s.setConfRun c x).net = s.net ∧ (s.setConfRun c x).ftb = s.ftb ∧
    (s.setConfRun c x).ice = s.ice ∧ (s.setConfRun c x).hat = s.hat ∧ (s.setConfRun c x).par = s.par ∧
    (s.setConfRun c x).dec = s.dec ∧ (s.setConfRun c x).org = s.org ∧ (s.setConfRun c x).enc = s.enc ∧
    (s.setConfRun c x).dmb = s.dmb := by and_intros <;> rfl

@[simp] theorem setLegAudio_keeps (s : State) (l : Nat) (x : LegAudio) :
    (s.setLegAudio l x).pending = s.pending ∧ (s.setLegAudio l x).out = s.out ∧ (s.setLegAudio l x).free = s.free ∧
    (s.setLegAudio l x).cyc = s.cyc ∧ (s.setLegAudio l x).regs = s.regs ∧ (s.setLegAudio l x).cnt = s.cnt ∧
    (s.setLegAudio l x).hi = s.hi ∧ (s.setLegAudio l x).objs = s.objs ∧ (s.setLegAudio l x).limits = s.limits ∧
    (s.setLegAudio l x).porch = s.porch ∧ (s.setLegAudio l x).bell = s.bell ∧ (s.setLegAudio l x).blv = s.blv ∧
    (s.setLegAudio l x).pwr = s.pwr ∧ (s.setLegAudio l x).gate = s.gate ∧ (s.setLegAudio l x).boot = s.boot ∧
    (s.setLegAudio l x).cel = s.cel ∧ (s.setLegAudio l x).pan = s.pan ∧ (s.setLegAudio l x).hall = s.hall ∧
    (s.setLegAudio l x).prg = s.prg ∧ (s.setLegAudio l x).net = s.net ∧ (s.setLegAudio l x).ftb = s.ftb ∧
    (s.setLegAudio l x).ice = s.ice ∧ (s.setLegAudio l x).hat = s.hat ∧ (s.setLegAudio l x).par = s.par ∧
    (s.setLegAudio l x).dec = s.dec ∧ (s.setLegAudio l x).org = s.org ∧ (s.setLegAudio l x).enc = s.enc ∧
    (s.setLegAudio l x).dmb = s.dmb := by and_intros <;> rfl

@[simp] theorem setPeer_keeps (s : State) (p : Nat) (x : Peer) :
    (s.setPeer p x).pending = s.pending ∧ (s.setPeer p x).out = s.out ∧ (s.setPeer p x).free = s.free ∧
    (s.setPeer p x).cyc = s.cyc ∧ (s.setPeer p x).regs = s.regs ∧ (s.setPeer p x).cnt = s.cnt ∧
    (s.setPeer p x).hi = s.hi ∧ (s.setPeer p x).objs = s.objs ∧ (s.setPeer p x).limits = s.limits ∧
    (s.setPeer p x).porch = s.porch ∧ (s.setPeer p x).bell = s.bell ∧ (s.setPeer p x).blv = s.blv ∧
    (s.setPeer p x).pwr = s.pwr ∧ (s.setPeer p x).gate = s.gate ∧ (s.setPeer p x).boot = s.boot ∧
    (s.setPeer p x).cel = s.cel ∧ (s.setPeer p x).pan = s.pan ∧ (s.setPeer p x).hall = s.hall ∧
    (s.setPeer p x).prg = s.prg ∧ (s.setPeer p x).net = s.net ∧ (s.setPeer p x).ice = s.ice ∧
    (s.setPeer p x).hat = s.hat ∧ (s.setPeer p x).bnd = s.bnd ∧ (s.setPeer p x).par = s.par ∧
    (s.setPeer p x).dec = s.dec ∧ (s.setPeer p x).org = s.org ∧ (s.setPeer p x).enc = s.enc ∧
    (s.setPeer p x).dmb = s.dmb := by and_intros <;> rfl

@[simp] theorem setPin_keeps (s : State) (k : Nat) (p : Pin) :
    (s.setPin k p).pending = s.pending ∧ (s.setPin k p).out = s.out ∧ (s.setPin k p).free = s.free ∧
    (s.setPin k p).cyc = s.cyc ∧ (s.setPin k p).regs = s.regs ∧ (s.setPin k p).cnt = s.cnt ∧
    (s.setPin k p).hi = s.hi ∧ (s.setPin k p).objs = s.objs ∧ (s.setPin k p).limits = s.limits ∧
    (s.setPin k p).porch = s.porch ∧ (s.setPin k p).bell = s.bell ∧ (s.setPin k p).pwr = s.pwr ∧
    (s.setPin k p).gate = s.gate ∧ (s.setPin k p).boot = s.boot ∧ (s.setPin k p).cel = s.cel ∧
    (s.setPin k p).pan = s.pan ∧ (s.setPin k p).hall = s.hall ∧ (s.setPin k p).prg = s.prg ∧
    (s.setPin k p).net = s.net ∧ (s.setPin k p).ftb = s.ftb ∧ (s.setPin k p).ice = s.ice ∧
    (s.setPin k p).hat = s.hat ∧ (s.setPin k p).bnd = s.bnd ∧ (s.setPin k p).par = s.par ∧
    (s.setPin k p).dec = s.dec ∧ (s.setPin k p).org = s.org ∧ (s.setPin k p).enc = s.enc ∧
    (s.setPin k p).dmb = s.dmb := by and_intros <;> rfl

@[simp] theorem setStampPort_keeps (s : State) (n : Nat) (p : StampPort) :
    (s.setStampPort n p).pending = s.pending ∧ (s.setStampPort n p).out = s.out ∧ (s.setStampPort n p).free = s.free ∧
    (s.setStampPort n p).cyc = s.cyc ∧ (s.setStampPort n p).regs = s.regs ∧ (s.setStampPort n p).cnt = s.cnt ∧
    (s.setStampPort n p).hi = s.hi ∧ (s.setStampPort n p).objs = s.objs ∧ (s.setStampPort n p).limits = s.limits ∧
    (s.setStampPort n p).porch = s.porch ∧ (s.setStampPort n p).bell = s.bell ∧ (s.setStampPort n p).pwr = s.pwr ∧
    (s.setStampPort n p).gate = s.gate ∧ (s.setStampPort n p).boot = s.boot ∧ (s.setStampPort n p).cel = s.cel ∧
    (s.setStampPort n p).pan = s.pan ∧ (s.setStampPort n p).hall = s.hall ∧ (s.setStampPort n p).prg = s.prg ∧
    (s.setStampPort n p).net = s.net ∧ (s.setStampPort n p).ftb = s.ftb ∧ (s.setStampPort n p).ice = s.ice ∧
    (s.setStampPort n p).hat = s.hat ∧ (s.setStampPort n p).bnd = s.bnd ∧ (s.setStampPort n p).par = s.par ∧
    (s.setStampPort n p).dec = s.dec ∧ (s.setStampPort n p).org = s.org ∧ (s.setStampPort n p).enc = s.enc ∧
    (s.setStampPort n p).dmb = s.dmb := by and_intros <;> rfl

@[simp] theorem setChan_keeps (s : State) (n : Nat) (c : Chan) :
    (s.setChan n c).pending = s.pending ∧ (s.setChan n c).out = s.out ∧ (s.setChan n c).free = s.free ∧
    (s.setChan n c).cyc = s.cyc ∧ (s.setChan n c).regs = s.regs ∧ (s.setChan n c).cnt = s.cnt ∧
    (s.setChan n c).hi = s.hi ∧ (s.setChan n c).objs = s.objs ∧ (s.setChan n c).limits = s.limits ∧
    (s.setChan n c).porch = s.porch ∧ (s.setChan n c).bell = s.bell ∧ (s.setChan n c).blv = s.blv ∧
    (s.setChan n c).pwr = s.pwr ∧ (s.setChan n c).gate = s.gate ∧ (s.setChan n c).boot = s.boot ∧
    (s.setChan n c).pan = s.pan ∧ (s.setChan n c).hall = s.hall ∧ (s.setChan n c).prg = s.prg ∧
    (s.setChan n c).net = s.net ∧ (s.setChan n c).ftb = s.ftb ∧ (s.setChan n c).ice = s.ice ∧
    (s.setChan n c).hat = s.hat ∧ (s.setChan n c).bnd = s.bnd ∧ (s.setChan n c).par = s.par ∧
    (s.setChan n c).dec = s.dec ∧ (s.setChan n c).org = s.org ∧ (s.setChan n c).enc = s.enc ∧
    (s.setChan n c).dmb = s.dmb := by and_intros <;> rfl

@[simp] theorem setSubCfg_keeps (s : State) (n : Nat) (x : SubCfg) :
    (s.setSubCfg n x).pending = s.pending ∧ (s.setSubCfg n x).out = s.out ∧ (s.setSubCfg n x).free = s.free ∧
    (s.setSubCfg n x).cyc = s.cyc ∧ (s.setSubCfg n x).regs = s.regs ∧ (s.setSubCfg n x).cnt = s.cnt ∧
    (s.setSubCfg n x).hi = s.hi ∧ (s.setSubCfg n x).objs = s.objs ∧ (s.setSubCfg n x).limits = s.limits ∧
    (s.setSubCfg n x).porch = s.porch ∧ (s.setSubCfg n x).bell = s.bell ∧ (s.setSubCfg n x).blv = s.blv ∧
    (s.setSubCfg n x).pwr = s.pwr ∧ (s.setSubCfg n x).gate = s.gate ∧ (s.setSubCfg n x).boot = s.boot ∧
    (s.setSubCfg n x).cel = s.cel ∧ (s.setSubCfg n x).pan = s.pan ∧ (s.setSubCfg n x).hall = s.hall ∧
    (s.setSubCfg n x).prg = s.prg ∧ (s.setSubCfg n x).net = s.net ∧ (s.setSubCfg n x).ftb = s.ftb ∧
    (s.setSubCfg n x).ice = s.ice ∧ (s.setSubCfg n x).hat = s.hat ∧ (s.setSubCfg n x).bnd = s.bnd ∧
    (s.setSubCfg n x).par = s.par ∧ (s.setSubCfg n x).dec = s.dec ∧ (s.setSubCfg n x).org = s.org ∧
    (s.setSubCfg n x).enc = s.enc := by and_intros <;> rfl

@[simp] theorem setSub_keeps (s : State) (n : Nat) (x : SubRun) :
    (s.setSub n x).pending = s.pending ∧ (s.setSub n x).out = s.out ∧ (s.setSub n x).free = s.free ∧
    (s.setSub n x).cyc = s.cyc ∧ (s.setSub n x).regs = s.regs ∧ (s.setSub n x).cnt = s.cnt ∧
    (s.setSub n x).hi = s.hi ∧ (s.setSub n x).objs = s.objs ∧ (s.setSub n x).limits = s.limits ∧
    (s.setSub n x).porch = s.porch ∧ (s.setSub n x).bell = s.bell ∧ (s.setSub n x).blv = s.blv ∧
    (s.setSub n x).pwr = s.pwr ∧ (s.setSub n x).gate = s.gate ∧ (s.setSub n x).boot = s.boot ∧
    (s.setSub n x).cel = s.cel ∧ (s.setSub n x).pan = s.pan ∧ (s.setSub n x).hall = s.hall ∧
    (s.setSub n x).prg = s.prg ∧ (s.setSub n x).net = s.net ∧ (s.setSub n x).ftb = s.ftb ∧
    (s.setSub n x).ice = s.ice ∧ (s.setSub n x).hat = s.hat ∧ (s.setSub n x).bnd = s.bnd ∧
    (s.setSub n x).par = s.par ∧ (s.setSub n x).dec = s.dec ∧ (s.setSub n x).org = s.org ∧
    (s.setSub n x).enc = s.enc := by and_intros <;> rfl

@[simp] theorem setSrc_keeps (s : State) (k : Nat) (x : SrcRun) :
    (s.setSrc k x).pending = s.pending ∧ (s.setSrc k x).out = s.out ∧ (s.setSrc k x).free = s.free ∧
    (s.setSrc k x).cyc = s.cyc ∧ (s.setSrc k x).regs = s.regs ∧ (s.setSrc k x).cnt = s.cnt ∧
    (s.setSrc k x).hi = s.hi ∧ (s.setSrc k x).objs = s.objs ∧ (s.setSrc k x).limits = s.limits ∧
    (s.setSrc k x).porch = s.porch ∧ (s.setSrc k x).bell = s.bell ∧ (s.setSrc k x).blv = s.blv ∧
    (s.setSrc k x).pwr = s.pwr ∧ (s.setSrc k x).gate = s.gate ∧ (s.setSrc k x).boot = s.boot ∧
    (s.setSrc k x).cel = s.cel ∧ (s.setSrc k x).pan = s.pan ∧ (s.setSrc k x).hall = s.hall ∧
    (s.setSrc k x).prg = s.prg ∧ (s.setSrc k x).net = s.net ∧ (s.setSrc k x).ftb = s.ftb ∧
    (s.setSrc k x).ice = s.ice ∧ (s.setSrc k x).hat = s.hat ∧ (s.setSrc k x).bnd = s.bnd ∧
    (s.setSrc k x).par = s.par ∧ (s.setSrc k x).dec = s.dec ∧ (s.setSrc k x).org = s.org ∧
    (s.setSrc k x).enc = s.enc := by and_intros <;> rfl

@[simp] theorem setSend_keeps (s : State) (l i : Nat) (x : SendRun) :
    (s.setSend l i x).pending = s.pending ∧ (s.setSend l i x).out = s.out ∧ (s.setSend l i x).free = s.free ∧
    (s.setSend l i x).cyc = s.cyc ∧ (s.setSend l i x).regs = s.regs ∧ (s.setSend l i x).cnt = s.cnt ∧
    (s.setSend l i x).hi = s.hi ∧ (s.setSend l i x).objs = s.objs ∧ (s.setSend l i x).limits = s.limits ∧
    (s.setSend l i x).porch = s.porch ∧ (s.setSend l i x).bell = s.bell ∧ (s.setSend l i x).blv = s.blv ∧
    (s.setSend l i x).pwr = s.pwr ∧ (s.setSend l i x).gate = s.gate ∧ (s.setSend l i x).boot = s.boot ∧
    (s.setSend l i x).cel = s.cel ∧ (s.setSend l i x).pan = s.pan ∧ (s.setSend l i x).hall = s.hall ∧
    (s.setSend l i x).prg = s.prg ∧ (s.setSend l i x).net = s.net ∧ (s.setSend l i x).ftb = s.ftb ∧
    (s.setSend l i x).ice = s.ice ∧ (s.setSend l i x).hat = s.hat ∧ (s.setSend l i x).bnd = s.bnd ∧
    (s.setSend l i x).par = s.par ∧ (s.setSend l i x).dec = s.dec ∧ (s.setSend l i x).org = s.org ∧
    (s.setSend l i x).enc = s.enc := by and_intros <;> rfl

@[simp] theorem setSlotRun_keeps (s : State) (k : Nat) (x : SlotRun) :
    (s.setSlotRun k x).pending = s.pending ∧ (s.setSlotRun k x).out = s.out ∧ (s.setSlotRun k x).free = s.free ∧
    (s.setSlotRun k x).cyc = s.cyc ∧ (s.setSlotRun k x).regs = s.regs ∧ (s.setSlotRun k x).cnt = s.cnt ∧
    (s.setSlotRun k x).hi = s.hi ∧ (s.setSlotRun k x).objs = s.objs ∧ (s.setSlotRun k x).limits = s.limits ∧
    (s.setSlotRun k x).porch = s.porch ∧ (s.setSlotRun k x).bell = s.bell ∧ (s.setSlotRun k x).blv = s.blv ∧
    (s.setSlotRun k x).pwr = s.pwr ∧ (s.setSlotRun k x).gate = s.gate ∧ (s.setSlotRun k x).boot = s.boot ∧
    (s.setSlotRun k x).cel = s.cel ∧ (s.setSlotRun k x).pan = s.pan ∧ (s.setSlotRun k x).hall = s.hall ∧
    (s.setSlotRun k x).prg = s.prg ∧ (s.setSlotRun k x).net = s.net ∧ (s.setSlotRun k x).ftb = s.ftb ∧
    (s.setSlotRun k x).ice = s.ice ∧ (s.setSlotRun k x).hat = s.hat ∧ (s.setSlotRun k x).bnd = s.bnd ∧
    (s.setSlotRun k x).par = s.par ∧ (s.setSlotRun k x).org = s.org ∧ (s.setSlotRun k x).enc = s.enc ∧
    (s.setSlotRun k x).dmb = s.dmb := by and_intros <;> rfl

@[simp] theorem setEncSet_keeps (s : State) (c : Nat) (x : EncSet) :
    (s.setEncSet c x).pending = s.pending ∧ (s.setEncSet c x).out = s.out ∧ (s.setEncSet c x).free = s.free ∧
    (s.setEncSet c x).cyc = s.cyc ∧ (s.setEncSet c x).regs = s.regs ∧ (s.setEncSet c x).cnt = s.cnt ∧
    (s.setEncSet c x).hi = s.hi ∧ (s.setEncSet c x).objs = s.objs ∧ (s.setEncSet c x).limits = s.limits ∧
    (s.setEncSet c x).porch = s.porch ∧ (s.setEncSet c x).bell = s.bell ∧ (s.setEncSet c x).blv = s.blv ∧
    (s.setEncSet c x).pwr = s.pwr ∧ (s.setEncSet c x).gate = s.gate ∧ (s.setEncSet c x).boot = s.boot ∧
    (s.setEncSet c x).cel = s.cel ∧ (s.setEncSet c x).pan = s.pan ∧ (s.setEncSet c x).hall = s.hall ∧
    (s.setEncSet c x).prg = s.prg ∧ (s.setEncSet c x).net = s.net ∧ (s.setEncSet c x).ftb = s.ftb ∧
    (s.setEncSet c x).ice = s.ice ∧ (s.setEncSet c x).hat = s.hat ∧ (s.setEncSet c x).bnd = s.bnd ∧
    (s.setEncSet c x).par = s.par ∧ (s.setEncSet c x).dec = s.dec ∧ (s.setEncSet c x).org = s.org ∧
    (s.setEncSet c x).dmb = s.dmb := by and_intros <;> rfl

@[simp] theorem setEncRun_keeps (s : State) (c : Nat) (x : EncRun) :
    (s.setEncRun c x).pending = s.pending ∧ (s.setEncRun c x).out = s.out ∧ (s.setEncRun c x).free = s.free ∧
    (s.setEncRun c x).cyc = s.cyc ∧ (s.setEncRun c x).regs = s.regs ∧ (s.setEncRun c x).cnt = s.cnt ∧
    (s.setEncRun c x).hi = s.hi ∧ (s.setEncRun c x).objs = s.objs ∧ (s.setEncRun c x).limits = s.limits ∧
    (s.setEncRun c x).porch = s.porch ∧ (s.setEncRun c x).bell = s.bell ∧ (s.setEncRun c x).blv = s.blv ∧
    (s.setEncRun c x).pwr = s.pwr ∧ (s.setEncRun c x).gate = s.gate ∧ (s.setEncRun c x).boot = s.boot ∧
    (s.setEncRun c x).cel = s.cel ∧ (s.setEncRun c x).pan = s.pan ∧ (s.setEncRun c x).hall = s.hall ∧
    (s.setEncRun c x).prg = s.prg ∧ (s.setEncRun c x).net = s.net ∧ (s.setEncRun c x).ftb = s.ftb ∧
    (s.setEncRun c x).ice = s.ice ∧ (s.setEncRun c x).hat = s.hat ∧ (s.setEncRun c x).bnd = s.bnd ∧
    (s.setEncRun c x).par = s.par ∧ (s.setEncRun c x).dec = s.dec ∧ (s.setEncRun c x).org = s.org ∧
    (s.setEncRun c x).dmb = s.dmb := by and_intros <;> rfl

@[simp] theorem setFlow_keeps (s : State) (f : Nat) (x : Flow) :
    (s.setFlow f x).pending = s.pending ∧ (s.setFlow f x).out = s.out ∧ (s.setFlow f x).free = s.free ∧
    (s.setFlow f x).cyc = s.cyc ∧ (s.setFlow f x).regs = s.regs ∧ (s.setFlow f x).cnt = s.cnt ∧
    (s.setFlow f x).hi = s.hi ∧ (s.setFlow f x).objs = s.objs ∧ (s.setFlow f x).limits = s.limits ∧
    (s.setFlow f x).porch = s.porch ∧ (s.setFlow f x).bell = s.bell ∧ (s.setFlow f x).blv = s.blv ∧
    (s.setFlow f x).pwr = s.pwr ∧ (s.setFlow f x).gate = s.gate ∧ (s.setFlow f x).boot = s.boot ∧
    (s.setFlow f x).cel = s.cel ∧ (s.setFlow f x).pan = s.pan ∧ (s.setFlow f x).prg = s.prg ∧
    (s.setFlow f x).net = s.net ∧ (s.setFlow f x).ftb = s.ftb ∧ (s.setFlow f x).ice = s.ice ∧
    (s.setFlow f x).hat = s.hat ∧ (s.setFlow f x).bnd = s.bnd ∧ (s.setFlow f x).par = s.par ∧
    (s.setFlow f x).dec = s.dec ∧ (s.setFlow f x).org = s.org ∧ (s.setFlow f x).enc = s.enc ∧
    (s.setFlow f x).dmb = s.dmb := by and_intros <;> rfl

@[simp] theorem setBankRun_keeps (s : State) (b : Nat) (x : BankRun) :
    (s.setBankRun b x).pending = s.pending ∧ (s.setBankRun b x).out = s.out ∧ (s.setBankRun b x).free = s.free ∧
    (s.setBankRun b x).cyc = s.cyc ∧ (s.setBankRun b x).regs = s.regs ∧ (s.setBankRun b x).cnt = s.cnt ∧
    (s.setBankRun b x).hi = s.hi ∧ (s.setBankRun b x).objs = s.objs ∧ (s.setBankRun b x).limits = s.limits ∧
    (s.setBankRun b x).porch = s.porch ∧ (s.setBankRun b x).bell = s.bell ∧ (s.setBankRun b x).blv = s.blv ∧
    (s.setBankRun b x).pwr = s.pwr ∧ (s.setBankRun b x).gate = s.gate ∧ (s.setBankRun b x).boot = s.boot ∧
    (s.setBankRun b x).cel = s.cel ∧ (s.setBankRun b x).pan = s.pan ∧ (s.setBankRun b x).hall = s.hall ∧
    (s.setBankRun b x).prg = s.prg ∧ (s.setBankRun b x).net = s.net ∧ (s.setBankRun b x).ftb = s.ftb ∧
    (s.setBankRun b x).ice = s.ice ∧ (s.setBankRun b x).bnd = s.bnd ∧ (s.setBankRun b x).par = s.par ∧
    (s.setBankRun b x).dec = s.dec ∧ (s.setBankRun b x).org = s.org ∧ (s.setBankRun b x).enc = s.enc ∧
    (s.setBankRun b x).dmb = s.dmb := by and_intros <;> rfl

@[simp] theorem setHatch_keeps (s : State) (h : Nat) (x : Hatch) :
    (s.setHatch h x).pending = s.pending ∧ (s.setHatch h x).out = s.out ∧ (s.setHatch h x).free = s.free ∧
    (s.setHatch h x).cyc = s.cyc ∧ (s.setHatch h x).regs = s.regs ∧ (s.setHatch h x).cnt = s.cnt ∧
    (s.setHatch h x).hi = s.hi ∧ (s.setHatch h x).objs = s.objs ∧ (s.setHatch h x).limits = s.limits ∧
    (s.setHatch h x).porch = s.porch ∧ (s.setHatch h x).bell = s.bell ∧ (s.setHatch h x).blv = s.blv ∧
    (s.setHatch h x).pwr = s.pwr ∧ (s.setHatch h x).gate = s.gate ∧ (s.setHatch h x).boot = s.boot ∧
    (s.setHatch h x).cel = s.cel ∧ (s.setHatch h x).pan = s.pan ∧ (s.setHatch h x).hall = s.hall ∧
    (s.setHatch h x).prg = s.prg ∧ (s.setHatch h x).net = s.net ∧ (s.setHatch h x).ftb = s.ftb ∧
    (s.setHatch h x).ice = s.ice ∧ (s.setHatch h x).bnd = s.bnd ∧ (s.setHatch h x).par = s.par ∧
    (s.setHatch h x).dec = s.dec ∧ (s.setHatch h x).org = s.org ∧ (s.setHatch h x).enc = s.enc ∧
    (s.setHatch h x).dmb = s.dmb := by and_intros <;> rfl

@[simp] theorem setSlot_keeps (s : State) (n : Nat) (k : KeySlot) :
    (s.setSlot n k).pending = s.pending ∧ (s.setSlot n k).out = s.out ∧ (s.setSlot n k).free = s.free ∧
    (s.setSlot n k).cyc = s.cyc ∧ (s.setSlot n k).regs = s.regs ∧ (s.setSlot n k).cnt = s.cnt ∧
    (s.setSlot n k).hi = s.hi ∧ (s.setSlot n k).objs = s.objs ∧ (s.setSlot n k).limits = s.limits ∧
    (s.setSlot n k).porch = s.porch ∧ (s.setSlot n k).bell = s.bell ∧ (s.setSlot n k).blv = s.blv ∧
    (s.setSlot n k).pwr = s.pwr ∧ (s.setSlot n k).gate = s.gate ∧ (s.setSlot n k).boot = s.boot ∧
    (s.setSlot n k).cel = s.cel ∧ (s.setSlot n k).pan = s.pan ∧ (s.setSlot n k).hall = s.hall ∧
    (s.setSlot n k).prg = s.prg ∧ (s.setSlot n k).net = s.net ∧ (s.setSlot n k).ftb = s.ftb ∧
    (s.setSlot n k).hat = s.hat ∧ (s.setSlot n k).bnd = s.bnd ∧ (s.setSlot n k).par = s.par ∧
    (s.setSlot n k).dec = s.dec ∧ (s.setSlot n k).org = s.org ∧ (s.setSlot n k).enc = s.enc ∧
    (s.setSlot n k).dmb = s.dmb := by and_intros <;> rfl

@[simp] theorem setEng_keeps (s : State) (e : Nat) (x : Engine) :
    (s.setEng e x).pending = s.pending ∧ (s.setEng e x).out = s.out ∧ (s.setEng e x).free = s.free ∧
    (s.setEng e x).cyc = s.cyc ∧ (s.setEng e x).regs = s.regs ∧ (s.setEng e x).cnt = s.cnt ∧
    (s.setEng e x).hi = s.hi ∧ (s.setEng e x).objs = s.objs ∧ (s.setEng e x).limits = s.limits ∧
    (s.setEng e x).porch = s.porch ∧ (s.setEng e x).bell = s.bell ∧ (s.setEng e x).blv = s.blv ∧
    (s.setEng e x).pwr = s.pwr ∧ (s.setEng e x).gate = s.gate ∧ (s.setEng e x).boot = s.boot ∧
    (s.setEng e x).cel = s.cel ∧ (s.setEng e x).pan = s.pan ∧ (s.setEng e x).hall = s.hall ∧
    (s.setEng e x).prg = s.prg ∧ (s.setEng e x).net = s.net ∧ (s.setEng e x).ftb = s.ftb ∧
    (s.setEng e x).ice = s.ice ∧ (s.setEng e x).hat = s.hat ∧ (s.setEng e x).bnd = s.bnd ∧
    (s.setEng e x).dec = s.dec ∧ (s.setEng e x).org = s.org ∧ (s.setEng e x).enc = s.enc ∧
    (s.setEng e x).dmb = s.dmb ∧ (s.setEng e x).par.cfgs = s.par.cfgs ∧ (s.setEng e x).par.prog = s.par.prog ∧
    (s.setEng e x).par.data = s.par.data ∧ (s.setEng e x).par.shared = s.par.shared ∧ (s.setEng e x).par.turns = s.par.turns := by and_intros <;> rfl

@[simp] theorem setRun_keeps (s : State) (e : Nat) (r : EngRun) :
    (s.setRun e r).pending = s.pending ∧ (s.setRun e r).out = s.out ∧ (s.setRun e r).free = s.free ∧
    (s.setRun e r).cyc = s.cyc ∧ (s.setRun e r).regs = s.regs ∧ (s.setRun e r).cnt = s.cnt ∧
    (s.setRun e r).hi = s.hi ∧ (s.setRun e r).objs = s.objs ∧ (s.setRun e r).limits = s.limits ∧
    (s.setRun e r).porch = s.porch ∧ (s.setRun e r).bell = s.bell ∧ (s.setRun e r).blv = s.blv ∧
    (s.setRun e r).pwr = s.pwr ∧ (s.setRun e r).gate = s.gate ∧ (s.setRun e r).boot = s.boot ∧
    (s.setRun e r).cel = s.cel ∧ (s.setRun e r).pan = s.pan ∧ (s.setRun e r).hall = s.hall ∧
    (s.setRun e r).prg = s.prg ∧ (s.setRun e r).net = s.net ∧ (s.setRun e r).ftb = s.ftb ∧
    (s.setRun e r).ice = s.ice ∧ (s.setRun e r).hat = s.hat ∧ (s.setRun e r).bnd = s.bnd ∧
    (s.setRun e r).dec = s.dec ∧ (s.setRun e r).org = s.org ∧ (s.setRun e r).enc = s.enc ∧
    (s.setRun e r).dmb = s.dmb ∧ (s.setRun e r).par.cfgs = s.par.cfgs ∧ (s.setRun e r).par.prog = s.par.prog ∧
    (s.setRun e r).par.data = s.par.data ∧ (s.setRun e r).par.shared = s.par.shared ∧ (s.setRun e r).par.turns = s.par.turns := by and_intros <;> rfl

@[simp] theorem setProg_keeps (s : State) (e a : Nat) (v : Word) :
    (s.setProg e a v).pending = s.pending ∧ (s.setProg e a v).out = s.out ∧ (s.setProg e a v).free = s.free ∧
    (s.setProg e a v).cyc = s.cyc ∧ (s.setProg e a v).regs = s.regs ∧ (s.setProg e a v).cnt = s.cnt ∧
    (s.setProg e a v).hi = s.hi ∧ (s.setProg e a v).objs = s.objs ∧ (s.setProg e a v).limits = s.limits ∧
    (s.setProg e a v).porch = s.porch ∧ (s.setProg e a v).bell = s.bell ∧ (s.setProg e a v).blv = s.blv ∧
    (s.setProg e a v).pwr = s.pwr ∧ (s.setProg e a v).gate = s.gate ∧ (s.setProg e a v).boot = s.boot ∧
    (s.setProg e a v).cel = s.cel ∧ (s.setProg e a v).pan = s.pan ∧ (s.setProg e a v).hall = s.hall ∧
    (s.setProg e a v).prg = s.prg ∧ (s.setProg e a v).net = s.net ∧ (s.setProg e a v).ftb = s.ftb ∧
    (s.setProg e a v).ice = s.ice ∧ (s.setProg e a v).hat = s.hat ∧ (s.setProg e a v).bnd = s.bnd ∧
    (s.setProg e a v).dec = s.dec ∧ (s.setProg e a v).org = s.org ∧ (s.setProg e a v).enc = s.enc ∧
    (s.setProg e a v).dmb = s.dmb ∧ (s.setProg e a v).par.engines = s.par.engines ∧ (s.setProg e a v).par.cfgs = s.par.cfgs ∧
    (s.setProg e a v).par.data = s.par.data ∧ (s.setProg e a v).par.shared = s.par.shared ∧ (s.setProg e a v).par.turns = s.par.turns := by and_intros <;> rfl

@[simp] theorem setData_keeps (s : State) (e a : Nat) (v : Word) :
    (s.setData e a v).pending = s.pending ∧ (s.setData e a v).out = s.out ∧ (s.setData e a v).free = s.free ∧
    (s.setData e a v).cyc = s.cyc ∧ (s.setData e a v).regs = s.regs ∧ (s.setData e a v).cnt = s.cnt ∧
    (s.setData e a v).hi = s.hi ∧ (s.setData e a v).objs = s.objs ∧ (s.setData e a v).limits = s.limits ∧
    (s.setData e a v).porch = s.porch ∧ (s.setData e a v).bell = s.bell ∧ (s.setData e a v).blv = s.blv ∧
    (s.setData e a v).pwr = s.pwr ∧ (s.setData e a v).gate = s.gate ∧ (s.setData e a v).boot = s.boot ∧
    (s.setData e a v).cel = s.cel ∧ (s.setData e a v).pan = s.pan ∧ (s.setData e a v).hall = s.hall ∧
    (s.setData e a v).prg = s.prg ∧ (s.setData e a v).net = s.net ∧ (s.setData e a v).ftb = s.ftb ∧
    (s.setData e a v).ice = s.ice ∧ (s.setData e a v).hat = s.hat ∧ (s.setData e a v).bnd = s.bnd ∧
    (s.setData e a v).dec = s.dec ∧ (s.setData e a v).org = s.org ∧ (s.setData e a v).enc = s.enc ∧
    (s.setData e a v).dmb = s.dmb ∧ (s.setData e a v).par.engines = s.par.engines ∧ (s.setData e a v).par.cfgs = s.par.cfgs ∧
    (s.setData e a v).par.prog = s.par.prog ∧ (s.setData e a v).par.shared = s.par.shared ∧ (s.setData e a v).par.turns = s.par.turns := by and_intros <;> rfl

@[simp] theorem setShared_keeps (s : State) (e a : Nat) (v : Word) :
    (s.setShared e a v).pending = s.pending ∧ (s.setShared e a v).out = s.out ∧ (s.setShared e a v).free = s.free ∧
    (s.setShared e a v).cyc = s.cyc ∧ (s.setShared e a v).regs = s.regs ∧ (s.setShared e a v).cnt = s.cnt ∧
    (s.setShared e a v).hi = s.hi ∧ (s.setShared e a v).objs = s.objs ∧ (s.setShared e a v).limits = s.limits ∧
    (s.setShared e a v).porch = s.porch ∧ (s.setShared e a v).bell = s.bell ∧ (s.setShared e a v).blv = s.blv ∧
    (s.setShared e a v).pwr = s.pwr ∧ (s.setShared e a v).gate = s.gate ∧ (s.setShared e a v).boot = s.boot ∧
    (s.setShared e a v).cel = s.cel ∧ (s.setShared e a v).pan = s.pan ∧ (s.setShared e a v).hall = s.hall ∧
    (s.setShared e a v).prg = s.prg ∧ (s.setShared e a v).net = s.net ∧ (s.setShared e a v).ftb = s.ftb ∧
    (s.setShared e a v).ice = s.ice ∧ (s.setShared e a v).hat = s.hat ∧ (s.setShared e a v).bnd = s.bnd ∧
    (s.setShared e a v).dec = s.dec ∧ (s.setShared e a v).org = s.org ∧ (s.setShared e a v).enc = s.enc ∧
    (s.setShared e a v).dmb = s.dmb ∧ (s.setShared e a v).par.engines = s.par.engines ∧ (s.setShared e a v).par.cfgs = s.par.cfgs ∧
    (s.setShared e a v).par.prog = s.par.prog ∧ (s.setShared e a v).par.data = s.par.data ∧ (s.setShared e a v).par.turns = s.par.turns := by and_intros <;> rfl

@[simp] theorem write24_keeps (s : State) (e a : Nat) (v : BitVec 24) :
    (s.write24 e a v).pending = s.pending ∧ (s.write24 e a v).out = s.out ∧ (s.write24 e a v).free = s.free ∧
    (s.write24 e a v).cyc = s.cyc ∧ (s.write24 e a v).regs = s.regs ∧ (s.write24 e a v).cnt = s.cnt ∧
    (s.write24 e a v).hi = s.hi ∧ (s.write24 e a v).objs = s.objs ∧ (s.write24 e a v).limits = s.limits ∧
    (s.write24 e a v).porch = s.porch ∧ (s.write24 e a v).bell = s.bell ∧ (s.write24 e a v).blv = s.blv ∧
    (s.write24 e a v).pwr = s.pwr ∧ (s.write24 e a v).gate = s.gate ∧ (s.write24 e a v).boot = s.boot ∧
    (s.write24 e a v).cel = s.cel ∧ (s.write24 e a v).pan = s.pan ∧ (s.write24 e a v).hall = s.hall ∧
    (s.write24 e a v).prg = s.prg ∧ (s.write24 e a v).net = s.net ∧ (s.write24 e a v).ftb = s.ftb ∧
    (s.write24 e a v).ice = s.ice ∧ (s.write24 e a v).hat = s.hat ∧ (s.write24 e a v).bnd = s.bnd ∧
    (s.write24 e a v).dec = s.dec ∧ (s.write24 e a v).org = s.org ∧ (s.write24 e a v).enc = s.enc ∧
    (s.write24 e a v).dmb = s.dmb ∧ (s.write24 e a v).par.engines = s.par.engines ∧ (s.write24 e a v).par.cfgs = s.par.cfgs ∧
    (s.write24 e a v).par.prog = s.par.prog ∧ (s.write24 e a v).par.shared = s.par.shared ∧ (s.write24 e a v).par.turns = s.par.turns := by and_intros <;> rfl

@[simp] theorem writeMem_keeps (s : State) (pa : Nat) (bs : List Byte) :
    (s.writeMem pa bs).pending = s.pending ∧ (s.writeMem pa bs).out = s.out ∧ (s.writeMem pa bs).free = s.free ∧
    (s.writeMem pa bs).cyc = s.cyc ∧ (s.writeMem pa bs).regs = s.regs ∧ (s.writeMem pa bs).cnt = s.cnt ∧
    (s.writeMem pa bs).hi = s.hi ∧ (s.writeMem pa bs).objs = s.objs ∧ (s.writeMem pa bs).limits = s.limits ∧
    (s.writeMem pa bs).porch = s.porch ∧ (s.writeMem pa bs).bell = s.bell ∧ (s.writeMem pa bs).blv = s.blv ∧
    (s.writeMem pa bs).pwr = s.pwr ∧ (s.writeMem pa bs).gate = s.gate ∧ (s.writeMem pa bs).boot = s.boot ∧
    (s.writeMem pa bs).pan = s.pan ∧ (s.writeMem pa bs).hall = s.hall ∧ (s.writeMem pa bs).prg = s.prg ∧
    (s.writeMem pa bs).net = s.net ∧ (s.writeMem pa bs).ftb = s.ftb ∧ (s.writeMem pa bs).ice = s.ice ∧
    (s.writeMem pa bs).hat = s.hat ∧ (s.writeMem pa bs).bnd = s.bnd ∧ (s.writeMem pa bs).par = s.par ∧
    (s.writeMem pa bs).dec = s.dec ∧ (s.writeMem pa bs).org = s.org ∧ (s.writeMem pa bs).enc = s.enc ∧
    (s.writeMem pa bs).dmb = s.dmb := by and_intros <;> rfl

@[simp] theorem setCanvas_keeps (s : State) (c : Nat) (x : CanvasRun) :
    (s.setCanvas c x).pending = s.pending ∧ (s.setCanvas c x).out = s.out ∧ (s.setCanvas c x).free = s.free ∧
    (s.setCanvas c x).cyc = s.cyc ∧ (s.setCanvas c x).regs = s.regs ∧ (s.setCanvas c x).cnt = s.cnt ∧
    (s.setCanvas c x).hi = s.hi ∧ (s.setCanvas c x).objs = s.objs ∧ (s.setCanvas c x).limits = s.limits ∧
    (s.setCanvas c x).porch = s.porch ∧ (s.setCanvas c x).bell = s.bell ∧ (s.setCanvas c x).blv = s.blv ∧
    (s.setCanvas c x).pwr = s.pwr ∧ (s.setCanvas c x).gate = s.gate ∧ (s.setCanvas c x).boot = s.boot ∧
    (s.setCanvas c x).cel = s.cel ∧ (s.setCanvas c x).pan = s.pan ∧ (s.setCanvas c x).hall = s.hall ∧
    (s.setCanvas c x).prg = s.prg ∧ (s.setCanvas c x).net = s.net ∧ (s.setCanvas c x).ftb = s.ftb ∧
    (s.setCanvas c x).ice = s.ice ∧ (s.setCanvas c x).hat = s.hat ∧ (s.setCanvas c x).bnd = s.bnd ∧
    (s.setCanvas c x).par = s.par ∧ (s.setCanvas c x).dec = s.dec ∧ (s.setCanvas c x).enc = s.enc ∧
    (s.setCanvas c x).dmb = s.dmb := by and_intros <;> rfl

@[simp] theorem setStream_keeps (s : State) (l i : Nat) (x : StreamRun) :
    (s.setStream l i x).pending = s.pending ∧ (s.setStream l i x).out = s.out ∧ (s.setStream l i x).free = s.free ∧
    (s.setStream l i x).cyc = s.cyc ∧ (s.setStream l i x).regs = s.regs ∧ (s.setStream l i x).cnt = s.cnt ∧
    (s.setStream l i x).hi = s.hi ∧ (s.setStream l i x).objs = s.objs ∧ (s.setStream l i x).limits = s.limits ∧
    (s.setStream l i x).porch = s.porch ∧ (s.setStream l i x).bell = s.bell ∧ (s.setStream l i x).blv = s.blv ∧
    (s.setStream l i x).pwr = s.pwr ∧ (s.setStream l i x).gate = s.gate ∧ (s.setStream l i x).boot = s.boot ∧
    (s.setStream l i x).cel = s.cel ∧ (s.setStream l i x).pan = s.pan ∧ (s.setStream l i x).hall = s.hall ∧
    (s.setStream l i x).prg = s.prg ∧ (s.setStream l i x).ftb = s.ftb ∧ (s.setStream l i x).ice = s.ice ∧
    (s.setStream l i x).hat = s.hat ∧ (s.setStream l i x).bnd = s.bnd ∧ (s.setStream l i x).par = s.par ∧
    (s.setStream l i x).dec = s.dec ∧ (s.setStream l i x).org = s.org ∧ (s.setStream l i x).enc = s.enc ∧
    (s.setStream l i x).dmb = s.dmb ∧ (s.setStream l i x).net.ports = s.net.ports ∧ (s.setStream l i x).net.punt = s.net.punt ∧
    (s.setStream l i x).net.sets = s.net.sets ∧ (s.setStream l i x).net.unknown = s.net.unknown := by and_intros <;> rfl

@[simp] theorem setPool_keeps (s : State) (far : Bool) (p : Pool) :
    (s.setPool far p).pending = s.pending ∧ (s.setPool far p).out = s.out ∧ (s.setPool far p).free = s.free ∧
    (s.setPool far p).cyc = s.cyc ∧ (s.setPool far p).regs = s.regs ∧ (s.setPool far p).cnt = s.cnt ∧
    (s.setPool far p).hi = s.hi ∧ (s.setPool far p).objs = s.objs ∧ (s.setPool far p).limits = s.limits ∧
    (s.setPool far p).porch = s.porch ∧ (s.setPool far p).bell = s.bell ∧ (s.setPool far p).blv = s.blv ∧
    (s.setPool far p).pwr = s.pwr ∧ (s.setPool far p).gate = s.gate ∧ (s.setPool far p).boot = s.boot ∧
    (s.setPool far p).cel = s.cel ∧ (s.setPool far p).hall = s.hall ∧ (s.setPool far p).prg = s.prg ∧
    (s.setPool far p).net = s.net ∧ (s.setPool far p).ftb = s.ftb ∧ (s.setPool far p).ice = s.ice ∧
    (s.setPool far p).hat = s.hat ∧ (s.setPool far p).bnd = s.bnd ∧ (s.setPool far p).par = s.par ∧
    (s.setPool far p).dec = s.dec ∧ (s.setPool far p).org = s.org ∧ (s.setPool far p).enc = s.enc ∧
    (s.setPool far p).dmb = s.dmb := by cases far <;> simp [State.setPool]

@[simp] theorem setQueue_keeps (s : State) (q : Nat) (p : PQueue) :
    (s.setQueue q p).pending = s.pending ∧ (s.setQueue q p).out = s.out ∧ (s.setQueue q p).free = s.free ∧
    (s.setQueue q p).cyc = s.cyc ∧ (s.setQueue q p).regs = s.regs ∧ (s.setQueue q p).cnt = s.cnt ∧
    (s.setQueue q p).hi = s.hi ∧ (s.setQueue q p).objs = s.objs ∧ (s.setQueue q p).limits = s.limits ∧
    (s.setQueue q p).porch = s.porch ∧ (s.setQueue q p).bell = s.bell ∧ (s.setQueue q p).blv = s.blv ∧
    (s.setQueue q p).pwr = s.pwr ∧ (s.setQueue q p).gate = s.gate ∧ (s.setQueue q p).boot = s.boot ∧
    (s.setQueue q p).cel = s.cel ∧ (s.setQueue q p).hall = s.hall ∧ (s.setQueue q p).prg = s.prg ∧
    (s.setQueue q p).net = s.net ∧ (s.setQueue q p).ftb = s.ftb ∧ (s.setQueue q p).ice = s.ice ∧
    (s.setQueue q p).hat = s.hat ∧ (s.setQueue q p).bnd = s.bnd ∧ (s.setQueue q p).par = s.par ∧
    (s.setQueue q p).dec = s.dec ∧ (s.setQueue q p).org = s.org ∧ (s.setQueue q p).enc = s.enc ∧
    (s.setQueue q p).dmb = s.dmb := by and_intros <;> rfl

@[simp] theorem setOpen_keeps (s : State) (p : Producer) (o : OpenPkt) :
    (s.setOpen p o).pending = s.pending ∧ (s.setOpen p o).out = s.out ∧ (s.setOpen p o).free = s.free ∧
    (s.setOpen p o).cyc = s.cyc ∧ (s.setOpen p o).regs = s.regs ∧ (s.setOpen p o).cnt = s.cnt ∧
    (s.setOpen p o).hi = s.hi ∧ (s.setOpen p o).objs = s.objs ∧ (s.setOpen p o).limits = s.limits ∧
    (s.setOpen p o).porch = s.porch ∧ (s.setOpen p o).bell = s.bell ∧ (s.setOpen p o).blv = s.blv ∧
    (s.setOpen p o).pwr = s.pwr ∧ (s.setOpen p o).gate = s.gate ∧ (s.setOpen p o).boot = s.boot ∧
    (s.setOpen p o).cel = s.cel ∧ (s.setOpen p o).hall = s.hall ∧ (s.setOpen p o).prg = s.prg ∧
    (s.setOpen p o).net = s.net ∧ (s.setOpen p o).ftb = s.ftb ∧ (s.setOpen p o).ice = s.ice ∧
    (s.setOpen p o).hat = s.hat ∧ (s.setOpen p o).bnd = s.bnd ∧ (s.setOpen p o).par = s.par ∧
    (s.setOpen p o).dec = s.dec ∧ (s.setOpen p o).org = s.org ∧ (s.setOpen p o).enc = s.enc ∧
    (s.setOpen p o).dmb = s.dmb := by and_intros <;> rfl

@[simp] theorem setLegPrg_keeps (s : State) (l : Nat) (x : LegPrg) :
    (s.setLegPrg l x).pending = s.pending ∧ (s.setLegPrg l x).out = s.out ∧ (s.setLegPrg l x).free = s.free ∧
    (s.setLegPrg l x).cyc = s.cyc ∧ (s.setLegPrg l x).regs = s.regs ∧ (s.setLegPrg l x).cnt = s.cnt ∧
    (s.setLegPrg l x).hi = s.hi ∧ (s.setLegPrg l x).objs = s.objs ∧ (s.setLegPrg l x).limits = s.limits ∧
    (s.setLegPrg l x).porch = s.porch ∧ (s.setLegPrg l x).bell = s.bell ∧ (s.setLegPrg l x).blv = s.blv ∧
    (s.setLegPrg l x).pwr = s.pwr ∧ (s.setLegPrg l x).gate = s.gate ∧ (s.setLegPrg l x).boot = s.boot ∧
    (s.setLegPrg l x).cel = s.cel ∧ (s.setLegPrg l x).pan = s.pan ∧ (s.setLegPrg l x).hall = s.hall ∧
    (s.setLegPrg l x).net = s.net ∧ (s.setLegPrg l x).ftb = s.ftb ∧ (s.setLegPrg l x).ice = s.ice ∧
    (s.setLegPrg l x).hat = s.hat ∧ (s.setLegPrg l x).bnd = s.bnd ∧ (s.setLegPrg l x).par = s.par ∧
    (s.setLegPrg l x).dec = s.dec ∧ (s.setLegPrg l x).org = s.org ∧ (s.setLegPrg l x).enc = s.enc ∧
    (s.setLegPrg l x).dmb = s.dmb := by and_intros <;> rfl

@[simp] theorem setPortPrg_keeps (s : State) (p : Nat) (x : PortPrg) :
    (s.setPortPrg p x).pending = s.pending ∧ (s.setPortPrg p x).out = s.out ∧ (s.setPortPrg p x).free = s.free ∧
    (s.setPortPrg p x).cyc = s.cyc ∧ (s.setPortPrg p x).regs = s.regs ∧ (s.setPortPrg p x).cnt = s.cnt ∧
    (s.setPortPrg p x).hi = s.hi ∧ (s.setPortPrg p x).objs = s.objs ∧ (s.setPortPrg p x).limits = s.limits ∧
    (s.setPortPrg p x).porch = s.porch ∧ (s.setPortPrg p x).bell = s.bell ∧ (s.setPortPrg p x).blv = s.blv ∧
    (s.setPortPrg p x).pwr = s.pwr ∧ (s.setPortPrg p x).gate = s.gate ∧ (s.setPortPrg p x).boot = s.boot ∧
    (s.setPortPrg p x).cel = s.cel ∧ (s.setPortPrg p x).pan = s.pan ∧ (s.setPortPrg p x).hall = s.hall ∧
    (s.setPortPrg p x).net = s.net ∧ (s.setPortPrg p x).ftb = s.ftb ∧ (s.setPortPrg p x).ice = s.ice ∧
    (s.setPortPrg p x).hat = s.hat ∧ (s.setPortPrg p x).bnd = s.bnd ∧ (s.setPortPrg p x).par = s.par ∧
    (s.setPortPrg p x).dec = s.dec ∧ (s.setPortPrg p x).org = s.org ∧ (s.setPortPrg p x).enc = s.enc ∧
    (s.setPortPrg p x).dmb = s.dmb := by and_intros <;> rfl

@[simp] theorem setRail_keeps (s : State) (r : Nat) (x : Rail) :
    (s.setRail r x).pending = s.pending ∧ (s.setRail r x).out = s.out ∧ (s.setRail r x).free = s.free ∧
    (s.setRail r x).cyc = s.cyc ∧ (s.setRail r x).regs = s.regs ∧ (s.setRail r x).cnt = s.cnt ∧
    (s.setRail r x).hi = s.hi ∧ (s.setRail r x).objs = s.objs ∧ (s.setRail r x).limits = s.limits ∧
    (s.setRail r x).porch = s.porch ∧ (s.setRail r x).bell = s.bell ∧ (s.setRail r x).blv = s.blv ∧
    (s.setRail r x).gate = s.gate ∧ (s.setRail r x).boot = s.boot ∧ (s.setRail r x).cel = s.cel ∧
    (s.setRail r x).pan = s.pan ∧ (s.setRail r x).hall = s.hall ∧ (s.setRail r x).prg = s.prg ∧
    (s.setRail r x).net = s.net ∧ (s.setRail r x).ftb = s.ftb ∧ (s.setRail r x).ice = s.ice ∧
    (s.setRail r x).hat = s.hat ∧ (s.setRail r x).bnd = s.bnd ∧ (s.setRail r x).par = s.par ∧
    (s.setRail r x).dec = s.dec ∧ (s.setRail r x).org = s.org ∧ (s.setRail r x).enc = s.enc ∧
    (s.setRail r x).dmb = s.dmb ∧ (s.setRail r x).pwr.state = s.pwr.state ∧ (s.setRail r x).pwr.dom = s.pwr.dom ∧
    (s.setRail r x).pwr.rising = s.pwr.rising ∧ (s.setRail r x).pwr.clamp = s.pwr.clamp ∧ (s.setRail r x).pwr.coolSince = s.pwr.coolSince ∧
    (s.setRail r x).pwr.temps = s.pwr.temps ∧ (s.setRail r x).pwr.railMv = s.pwr.railMv ∧ (s.setRail r x).pwr.railMa = s.pwr.railMa ∧
    (s.setRail r x).pwr.job = s.pwr.job ∧ (s.setRail r x).pwr.waiting = s.pwr.waiting ∧ (s.setRail r x).pwr.entering = s.pwr.entering ∧
    (s.setRail r x).pwr.wakeEn = s.pwr.wakeEn ∧ (s.setRail r x).pwr.notify = s.pwr.notify ∧ (s.setRail r x).pwr.savedDom = s.pwr.savedDom ∧
    (s.setRail r x).pwr.savedRails = s.pwr.savedRails ∧ (s.setRail r x).pwr.wake = s.pwr.wake ∧ (s.setRail r x).pwr.wakeN = s.pwr.wakeN ∧
    (s.setRail r x).pwr.telem = s.pwr.telem ∧ (s.setRail r x).pwr.flashing = s.pwr.flashing := by and_intros <;> rfl

@[simp] theorem produce_keeps (s : State) (e : Entry) :
    (s.produce e).pending = s.pending ∧ (s.produce e).out = s.out ∧ (s.produce e).free = s.free ∧
    (s.produce e).cyc = s.cyc ∧ (s.produce e).regs = s.regs ∧ (s.produce e).cnt = s.cnt ∧
    (s.produce e).hi = s.hi ∧ (s.produce e).objs = s.objs ∧ (s.produce e).limits = s.limits ∧
    (s.produce e).bell = s.bell ∧ (s.produce e).blv = s.blv ∧ (s.produce e).pwr = s.pwr ∧
    (s.produce e).gate = s.gate ∧ (s.produce e).boot = s.boot ∧ (s.produce e).cel = s.cel ∧
    (s.produce e).pan = s.pan ∧ (s.produce e).hall = s.hall ∧ (s.produce e).prg = s.prg ∧
    (s.produce e).net = s.net ∧ (s.produce e).ftb = s.ftb ∧ (s.produce e).ice = s.ice ∧
    (s.produce e).hat = s.hat ∧ (s.produce e).bnd = s.bnd ∧ (s.produce e).par = s.par ∧
    (s.produce e).dec = s.dec ∧ (s.produce e).org = s.org ∧ (s.produce e).enc = s.enc ∧
    (s.produce e).dmb = s.dmb ∧ (s.produce e).porch.link = s.porch.link ∧ (s.produce e).porch.width = s.porch.width ∧
    (s.produce e).porch.gen = s.porch.gen ∧ (s.produce e).porch.d3hot = s.porch.d3hot ∧ (s.produce e).porch.pmeEn = s.porch.pmeEn ∧
    (s.produce e).porch.pmeStatus = s.porch.pmeStatus ∧ (s.produce e).porch.wakeActive = s.porch.wakeActive ∧ (s.produce e).porch.wakeN = s.porch.wakeN ∧
    (s.produce e).porch.perst = s.porch.perst ∧ (s.produce e).porch.sq = s.porch.sq ∧ (s.produce e).porch.cq = s.porch.cq ∧
    (s.produce e).porch.held = s.porch.held ∧ (s.produce e).porch.flights = s.porch.flights ∧ (s.produce e).porch.turn = s.porch.turn ∧
    (s.produce e).porch.credit = s.porch.credit ∧ (s.produce e).porch.pba = s.porch.pba := by and_intros <;> rfl

@[simp] theorem answers_keeps (s : State) (p : Packet) (st : Status) (r0 r1 r2 r3 : Word) :
    (s.answers p st r0 r1 r2 r3).pending = s.pending ∧ (s.answers p st r0 r1 r2 r3).out = s.out ∧ (s.answers p st r0 r1 r2 r3).free = s.free ∧
    (s.answers p st r0 r1 r2 r3).cyc = s.cyc ∧ (s.answers p st r0 r1 r2 r3).regs = s.regs ∧ (s.answers p st r0 r1 r2 r3).cnt = s.cnt ∧
    (s.answers p st r0 r1 r2 r3).hi = s.hi ∧ (s.answers p st r0 r1 r2 r3).objs = s.objs ∧ (s.answers p st r0 r1 r2 r3).limits = s.limits ∧
    (s.answers p st r0 r1 r2 r3).bell = s.bell ∧ (s.answers p st r0 r1 r2 r3).blv = s.blv ∧ (s.answers p st r0 r1 r2 r3).pwr = s.pwr ∧
    (s.answers p st r0 r1 r2 r3).gate = s.gate ∧ (s.answers p st r0 r1 r2 r3).boot = s.boot ∧ (s.answers p st r0 r1 r2 r3).cel = s.cel ∧
    (s.answers p st r0 r1 r2 r3).pan = s.pan ∧ (s.answers p st r0 r1 r2 r3).hall = s.hall ∧ (s.answers p st r0 r1 r2 r3).prg = s.prg ∧
    (s.answers p st r0 r1 r2 r3).net = s.net ∧ (s.answers p st r0 r1 r2 r3).ftb = s.ftb ∧ (s.answers p st r0 r1 r2 r3).ice = s.ice ∧
    (s.answers p st r0 r1 r2 r3).hat = s.hat ∧ (s.answers p st r0 r1 r2 r3).bnd = s.bnd ∧ (s.answers p st r0 r1 r2 r3).par = s.par ∧
    (s.answers p st r0 r1 r2 r3).dec = s.dec ∧ (s.answers p st r0 r1 r2 r3).org = s.org ∧ (s.answers p st r0 r1 r2 r3).enc = s.enc ∧
    (s.answers p st r0 r1 r2 r3).dmb = s.dmb ∧ (s.answers p st r0 r1 r2 r3).porch.link = s.porch.link ∧ (s.answers p st r0 r1 r2 r3).porch.width = s.porch.width ∧
    (s.answers p st r0 r1 r2 r3).porch.gen = s.porch.gen ∧ (s.answers p st r0 r1 r2 r3).porch.d3hot = s.porch.d3hot ∧ (s.answers p st r0 r1 r2 r3).porch.pmeEn = s.porch.pmeEn ∧
    (s.answers p st r0 r1 r2 r3).porch.pmeStatus = s.porch.pmeStatus ∧ (s.answers p st r0 r1 r2 r3).porch.wakeActive = s.porch.wakeActive ∧ (s.answers p st r0 r1 r2 r3).porch.wakeN = s.porch.wakeN ∧
    (s.answers p st r0 r1 r2 r3).porch.perst = s.porch.perst ∧ (s.answers p st r0 r1 r2 r3).porch.sq = s.porch.sq ∧ (s.answers p st r0 r1 r2 r3).porch.cq = s.porch.cq ∧
    (s.answers p st r0 r1 r2 r3).porch.held = s.porch.held ∧ (s.answers p st r0 r1 r2 r3).porch.flights = s.porch.flights ∧ (s.answers p st r0 r1 r2 r3).porch.turn = s.porch.turn ∧
    (s.answers p st r0 r1 r2 r3).porch.credit = s.porch.credit ∧ (s.answers p st r0 r1 r2 r3).porch.pba = s.porch.pba := by and_intros <;> rfl

@[simp] theorem answer_keeps (s : State) (p : Packet) (st : Status) :
    (s.answer p st).pending = s.pending ∧ (s.answer p st).out = s.out ∧ (s.answer p st).free = s.free ∧
    (s.answer p st).cyc = s.cyc ∧ (s.answer p st).regs = s.regs ∧ (s.answer p st).cnt = s.cnt ∧
    (s.answer p st).hi = s.hi ∧ (s.answer p st).objs = s.objs ∧ (s.answer p st).limits = s.limits ∧
    (s.answer p st).bell = s.bell ∧ (s.answer p st).blv = s.blv ∧ (s.answer p st).pwr = s.pwr ∧
    (s.answer p st).gate = s.gate ∧ (s.answer p st).boot = s.boot ∧ (s.answer p st).cel = s.cel ∧
    (s.answer p st).pan = s.pan ∧ (s.answer p st).hall = s.hall ∧ (s.answer p st).prg = s.prg ∧
    (s.answer p st).net = s.net ∧ (s.answer p st).ftb = s.ftb ∧ (s.answer p st).ice = s.ice ∧
    (s.answer p st).hat = s.hat ∧ (s.answer p st).bnd = s.bnd ∧ (s.answer p st).par = s.par ∧
    (s.answer p st).dec = s.dec ∧ (s.answer p st).org = s.org ∧ (s.answer p st).enc = s.enc ∧
    (s.answer p st).dmb = s.dmb ∧ (s.answer p st).porch.link = s.porch.link ∧ (s.answer p st).porch.width = s.porch.width ∧
    (s.answer p st).porch.gen = s.porch.gen ∧ (s.answer p st).porch.d3hot = s.porch.d3hot ∧ (s.answer p st).porch.pmeEn = s.porch.pmeEn ∧
    (s.answer p st).porch.pmeStatus = s.porch.pmeStatus ∧ (s.answer p st).porch.wakeActive = s.porch.wakeActive ∧ (s.answer p st).porch.wakeN = s.porch.wakeN ∧
    (s.answer p st).porch.perst = s.porch.perst ∧ (s.answer p st).porch.sq = s.porch.sq ∧ (s.answer p st).porch.cq = s.porch.cq ∧
    (s.answer p st).porch.held = s.porch.held ∧ (s.answer p st).porch.flights = s.porch.flights ∧ (s.answer p st).porch.turn = s.porch.turn ∧
    (s.answer p st).porch.credit = s.porch.credit ∧ (s.answer p st).porch.pba = s.porch.pba := by and_intros <;> rfl

@[simp] theorem begun_keeps (s : State) (p : Packet) :
    (s.begun p).pending = s.pending ∧ (s.begun p).out = s.out ∧ (s.begun p).free = s.free ∧
    (s.begun p).cyc = s.cyc ∧ (s.begun p).regs = s.regs ∧ (s.begun p).cnt = s.cnt ∧
    (s.begun p).hi = s.hi ∧ (s.begun p).objs = s.objs ∧ (s.begun p).limits = s.limits ∧
    (s.begun p).bell = s.bell ∧ (s.begun p).blv = s.blv ∧ (s.begun p).pwr = s.pwr ∧
    (s.begun p).gate = s.gate ∧ (s.begun p).boot = s.boot ∧ (s.begun p).cel = s.cel ∧
    (s.begun p).pan = s.pan ∧ (s.begun p).hall = s.hall ∧ (s.begun p).prg = s.prg ∧
    (s.begun p).net = s.net ∧ (s.begun p).ftb = s.ftb ∧ (s.begun p).ice = s.ice ∧
    (s.begun p).hat = s.hat ∧ (s.begun p).bnd = s.bnd ∧ (s.begun p).par = s.par ∧
    (s.begun p).dec = s.dec ∧ (s.begun p).org = s.org ∧ (s.begun p).enc = s.enc ∧
    (s.begun p).dmb = s.dmb ∧ (s.begun p).porch.link = s.porch.link ∧ (s.begun p).porch.width = s.porch.width ∧
    (s.begun p).porch.gen = s.porch.gen ∧ (s.begun p).porch.d3hot = s.porch.d3hot ∧ (s.begun p).porch.pmeEn = s.porch.pmeEn ∧
    (s.begun p).porch.pmeStatus = s.porch.pmeStatus ∧ (s.begun p).porch.wakeActive = s.porch.wakeActive ∧ (s.begun p).porch.wakeN = s.porch.wakeN ∧
    (s.begun p).porch.perst = s.porch.perst ∧ (s.begun p).porch.sq = s.porch.sq ∧ (s.begun p).porch.cq = s.porch.cq ∧
    (s.begun p).porch.produced = s.porch.produced ∧ (s.begun p).porch.held = s.porch.held ∧ (s.begun p).porch.turn = s.porch.turn ∧
    (s.begun p).porch.credit = s.porch.credit ∧ (s.begun p).porch.pba = s.porch.pba := by and_intros <;> rfl

@[simp] theorem withPending_keeps (s : State) (q : List Instr) :
    (s.withPending q).out = s.out ∧ (s.withPending q).free = s.free ∧ (s.withPending q).cyc = s.cyc ∧
    (s.withPending q).regs = s.regs ∧ (s.withPending q).cnt = s.cnt ∧ (s.withPending q).hi = s.hi ∧
    (s.withPending q).objs = s.objs ∧ (s.withPending q).limits = s.limits ∧ (s.withPending q).porch = s.porch ∧
    (s.withPending q).bell = s.bell ∧ (s.withPending q).blv = s.blv ∧ (s.withPending q).pwr = s.pwr ∧
    (s.withPending q).gate = s.gate ∧ (s.withPending q).boot = s.boot ∧ (s.withPending q).cel = s.cel ∧
    (s.withPending q).pan = s.pan ∧ (s.withPending q).hall = s.hall ∧ (s.withPending q).prg = s.prg ∧
    (s.withPending q).net = s.net ∧ (s.withPending q).ftb = s.ftb ∧ (s.withPending q).ice = s.ice ∧
    (s.withPending q).hat = s.hat ∧ (s.withPending q).bnd = s.bnd ∧ (s.withPending q).par = s.par ∧
    (s.withPending q).dec = s.dec ∧ (s.withPending q).org = s.org ∧ (s.withPending q).enc = s.enc ∧
    (s.withPending q).dmb = s.dmb := by and_intros <;> rfl

@[simp] theorem reg_setReg (s : State) (k j : Nat) (v : Word) :
    (s.setReg k v).reg j = if j = k then v else s.reg j := by
  by_cases h : j = k
  · subst h; simp [State.reg, State.setReg]
  · simp [State.reg, State.setReg, tget_tset_ne _ _ _ _ h, h]

@[simp] theorem obj_setObj (s : State) (k j : Nat) (v : ObjRec) :
    (s.setObj k v).obj j = if j = k then v else s.obj j := by
  by_cases h : j = k
  · subst h; simp [State.obj, State.setObj]
  · simp [State.obj, State.setObj, tget_tset_ne _ _ _ _ h, h]

@[simp] theorem sq_setSq (s : State) (k j : Nat) (v : Sq) :
    (s.setSq k v).sq j = if j = k then v else s.sq j := by
  by_cases h : j = k
  · subst h; simp [State.sq, State.setSq]
  · simp [State.sq, State.setSq, tget_tset_ne _ _ _ _ h, h]

@[simp] theorem cq_setCq (s : State) (k j : Nat) (v : Cq) :
    (s.setCq k v).cq j = if j = k then v else s.cq j := by
  by_cases h : j = k
  · subst h; simp [State.cq, State.setCq]
  · simp [State.cq, State.setCq, tget_tset_ne _ _ _ _ h, h]

@[simp] theorem netPort_setNetPort (s : State) (k j : Nat) (v : NetPort) :
    (s.setNetPort k v).netPort j = if j = k then v else s.netPort j := by
  by_cases h : j = k
  · subst h; simp [State.netPort, State.setNetPort]
  · simp [State.netPort, State.setNetPort, tget_tset_ne _ _ _ _ h, h]

@[simp] theorem legSet_setLegSet (s : State) (k j : Nat) (v : LegSet) :
    (s.setLegSet k v).legSet j = if j = k then v else s.legSet j := by
  by_cases h : j = k
  · subst h; simp [State.legSet, State.setLegSet]
  · simp [State.legSet, State.setLegSet, tget_tset_ne _ _ _ _ h, h]

@[simp] theorem legRun_setLegRun (s : State) (k j : Nat) (v : LegRun) :
    (s.setLegRun k v).legRun j = if j = k then v else s.legRun j := by
  by_cases h : j = k
  · subst h; simp [State.legRun, State.setLegRun]
  · simp [State.legRun, State.setLegRun, tget_tset_ne _ _ _ _ h, h]

@[simp] theorem confSet_setConfSet (s : State) (k j : Nat) (v : ConfSet) :
    (s.setConfSet k v).confSet j = if j = k then v else s.confSet j := by
  by_cases h : j = k
  · subst h; simp [State.confSet, State.setConfSet]
  · simp [State.confSet, State.setConfSet, tget_tset_ne _ _ _ _ h, h]

@[simp] theorem confRun_setConfRun (s : State) (k j : Nat) (v : ConfRun) :
    (s.setConfRun k v).confRun j = if j = k then v else s.confRun j := by
  by_cases h : j = k
  · subst h; simp [State.confRun, State.setConfRun]
  · simp [State.confRun, State.setConfRun, tget_tset_ne _ _ _ _ h, h]

@[simp] theorem legAudio_setLegAudio (s : State) (k j : Nat) (v : LegAudio) :
    (s.setLegAudio k v).legAudio j = if j = k then v else s.legAudio j := by
  by_cases h : j = k
  · subst h; simp [State.legAudio, State.setLegAudio]
  · simp [State.legAudio, State.setLegAudio, tget_tset_ne _ _ _ _ h, h]

@[simp] theorem peer_setPeer (s : State) (k j : Nat) (v : Peer) :
    (s.setPeer k v).peer j = if j = k then v else s.peer j := by
  by_cases h : j = k
  · subst h; simp [State.peer, State.setPeer]
  · simp [State.peer, State.setPeer, tget_tset_ne _ _ _ _ h, h]

@[simp] theorem pin_setPin (s : State) (k j : Nat) (v : Pin) :
    (s.setPin k v).pin j = if j = k then v else s.pin j := by
  by_cases h : j = k
  · subst h; simp [State.pin, State.setPin]
  · simp [State.pin, State.setPin, tget_tset_ne _ _ _ _ h, h]

@[simp] theorem chan_setChan (s : State) (k j : Nat) (v : Chan) :
    (s.setChan k v).chan j = if j = k then v else s.chan j := by
  by_cases h : j = k
  · subst h; simp [State.chan, State.setChan]
  · simp [State.chan, State.setChan, tget_tset_ne _ _ _ _ h, h]

@[simp] theorem subCfg_setSubCfg (s : State) (k j : Nat) (v : SubCfg) :
    (s.setSubCfg k v).subCfg j = if j = k then v else s.subCfg j := by
  by_cases h : j = k
  · subst h; simp [State.subCfg, State.setSubCfg]
  · simp [State.subCfg, State.setSubCfg, tget_tset_ne _ _ _ _ h, h]

@[simp] theorem sub_setSub (s : State) (k j : Nat) (v : SubRun) :
    (s.setSub k v).sub j = if j = k then v else s.sub j := by
  by_cases h : j = k
  · subst h; simp [State.sub, State.setSub]
  · simp [State.sub, State.setSub, tget_tset_ne _ _ _ _ h, h]

@[simp] theorem src_setSrc (s : State) (k j : Nat) (v : SrcRun) :
    (s.setSrc k v).src j = if j = k then v else s.src j := by
  by_cases h : j = k
  · subst h; simp [State.src, State.setSrc]
  · simp [State.src, State.setSrc, tget_tset_ne _ _ _ _ h, h]

@[simp] theorem slotRun_setSlotRun (s : State) (k j : Nat) (v : SlotRun) :
    (s.setSlotRun k v).slotRun j = if j = k then v else s.slotRun j := by
  by_cases h : j = k
  · subst h; simp [State.slotRun, State.setSlotRun]
  · simp [State.slotRun, State.setSlotRun, tget_tset_ne _ _ _ _ h, h]

@[simp] theorem encSet_setEncSet (s : State) (k j : Nat) (v : EncSet) :
    (s.setEncSet k v).encSet j = if j = k then v else s.encSet j := by
  by_cases h : j = k
  · subst h; simp [State.encSet, State.setEncSet]
  · simp [State.encSet, State.setEncSet, tget_tset_ne _ _ _ _ h, h]

@[simp] theorem encRun_setEncRun (s : State) (k j : Nat) (v : EncRun) :
    (s.setEncRun k v).encRun j = if j = k then v else s.encRun j := by
  by_cases h : j = k
  · subst h; simp [State.encRun, State.setEncRun]
  · simp [State.encRun, State.setEncRun, tget_tset_ne _ _ _ _ h, h]

@[simp] theorem bankRun_setBankRun (s : State) (k j : Nat) (v : BankRun) :
    (s.setBankRun k v).bankRun j = if j = k then v else s.bankRun j := by
  by_cases h : j = k
  · subst h; simp [State.bankRun, State.setBankRun]
  · simp [State.bankRun, State.setBankRun, tget_tset_ne _ _ _ _ h, h]

@[simp] theorem hatch_setHatch (s : State) (k j : Nat) (v : Hatch) :
    (s.setHatch k v).hatch j = if j = k then v else s.hatch j := by
  by_cases h : j = k
  · subst h; simp [State.hatch, State.setHatch]
  · simp [State.hatch, State.setHatch, tget_tset_ne _ _ _ _ h, h]

@[simp] theorem slot_setSlot (s : State) (k j : Nat) (v : KeySlot) :
    (s.setSlot k v).slot j = if j = k then v else s.slot j := by
  by_cases h : j = k
  · subst h; simp [State.slot, State.setSlot]
  · simp [State.slot, State.setSlot, tget_tset_ne _ _ _ _ h, h]

@[simp] theorem eng_setEng (s : State) (k j : Nat) (v : Engine) :
    (s.setEng k v).eng j = if j = k then v else s.eng j := by
  by_cases h : j = k
  · subst h; simp [State.eng, State.setEng]
  · simp [State.eng, State.setEng, tget_tset_ne _ _ _ _ h, h]

@[simp] theorem canvas_setCanvas (s : State) (k j : Nat) (v : CanvasRun) :
    (s.setCanvas k v).canvas j = if j = k then v else s.canvas j := by
  by_cases h : j = k
  · subst h; simp [State.canvas, State.setCanvas]
  · simp [State.canvas, State.setCanvas, tget_tset_ne _ _ _ _ h, h]

@[simp] theorem queue_setQueue (s : State) (k j : Nat) (v : PQueue) :
    (s.setQueue k v).queue j = if j = k then v else s.queue j := by
  by_cases h : j = k
  · subst h; simp [State.queue, State.setQueue]
  · simp [State.queue, State.setQueue, tget_tset_ne _ _ _ _ h, h]

@[simp] theorem legPrg_setLegPrg (s : State) (k j : Nat) (v : LegPrg) :
    (s.setLegPrg k v).legPrg j = if j = k then v else s.legPrg j := by
  by_cases h : j = k
  · subst h; simp [State.legPrg, State.setLegPrg]
  · simp [State.legPrg, State.setLegPrg, tget_tset_ne _ _ _ _ h, h]

@[simp] theorem portPrg_setPortPrg (s : State) (k j : Nat) (v : PortPrg) :
    (s.setPortPrg k v).portPrg j = if j = k then v else s.portPrg j := by
  by_cases h : j = k
  · subst h; simp [State.portPrg, State.setPortPrg]
  · simp [State.portPrg, State.setPortPrg, tget_tset_ne _ _ _ _ h, h]

@[simp] theorem withPending_pending (s : State) (q : List Instr) : (s.withPending q).pending = q := rfl

/-- Putting a queue back that the state holds changes nothing. -/
@[simp] theorem withPending_self (s : State) : s.withPending s.pending = s := rfl

@[simp] theorem withPending_withPending (s : State) (q r : List Instr) : (s.withPending q).withPending r = s.withPending r := rfl

end Sys2Proof.Machine
end

