-- ==== Sys2Proof/Laws/Objects.lean ====
section
/-!
SUPPORT. What START, STOP and GET_STATE do to an object, once for every range (R65, R66).
-/
namespace Sys2Proof.Machine

theorem firstFail_append {a b : List (Bool × Status)} (ha : firstFail a = none) (hb : firstFail b = none) :
    firstFail (a ++ b) = none := by
  induction a with
  | nil => exact hb
  | cons x a ih =>
    obtain ⟨x, y⟩ := x
    cases x <;> simp [firstFail] at ha ⊢
    exact ih ha

/-- START of a STOPPED object whose checks pass. -/
theorem startCmd_starts {s : State} {range : Nat} {c : Cmd} {objOk powered : Bool} {g1 g3 : State → List (Bool × Status)}
    {note begun : State → State} (h : s.takes ⟨startOp range, c, 1, 1⟩) (ho : objOk = true) (hp : powered = true)
    (h4 : c.word 4 = 0) (hs : s.stopped (objKey range c.num) = true)
    (h1 : firstFail (g1 (s.begun ⟨startOp range, c, 1, 1⟩)) = none)
    (h3 : firstFail (g3 (s.begun ⟨startOp range, c, 1, 1⟩)) = none) :
    startCmd s range c objOk powered g1 g3 note begun =
      begun ((s.begun ⟨startOp range, c, 1, 1⟩).toStarting (objKey range c.num) c) := by
  unfold startCmd
  simp only
  rw [runCmd_of_takes h ho hp, checked_of_none]
  · rw [h3]
    rfl
  · apply firstFail_append h1
    have : (s.begun ⟨startOp range, c, 1, 1⟩).stopped (objKey range c.num) = true := hs
    simp [firstFail, this, h4]

/-- STOP of an object that is not STARTING, its checks passed. -/
theorem stopCmd_passes {s : State} {range : Nat} {c : Cmd} {objOk powered : Bool} {g1 : State → List (Bool × Status)}
    {undo : State → State} {drain : State → Bool → State} (h : s.takes ⟨stopOp range, c, 1, 1⟩) (ho : objOk = true)
    (hp : powered = true) (h4 : bits (c.word 4) 31 1 = 0)
    (h1 : firstFail (g1 (s.begun ⟨stopOp range, c, 1, 1⟩)) = none) :
    (s.stopped (objKey range c.num) = true → stopCmd s range c objOk powered g1 undo drain =
      (s.begun ⟨stopOp range, c, 1, 1⟩).answer ⟨stopOp range, c, 1, 1⟩ stOk) ∧
    (s.isRunning (objKey range c.num) = true → stopCmd s range c objOk powered g1 undo drain =
      drain ((s.begun ⟨stopOp range, c, 1, 1⟩).toDraining (objKey range c.num) c) (bit (c.word 4) 0)) := by
  have pass : s.starting (objKey range c.num) = false → firstFail (g1 (s.begun ⟨stopOp range, c, 1, 1⟩) ++
      [((s.begun ⟨stopOp range, c, 1, 1⟩).starting (objKey range c.num) && !bit (c.word 4) 0, stWrongState),
        (bits (c.word 4) 31 1 != 0, stBadField)]) = none := by
    intro hs
    apply firstFail_append h1
    have : (s.begun ⟨stopOp range, c, 1, 1⟩).starting (objKey range c.num) = false := hs
    simp [firstFail, this, h4]
  constructor
  · intro hs
    have hs' : (s.obj (objKey range c.num)).st = .stopped := by simpa [State.stopped] using hs
    unfold stopCmd
    simp only
    rw [runCmd_of_takes h ho hp, checked_of_none (pass (by simp [State.starting, hs']))]
    rw [show ((s.begun ⟨stopOp range, c, 1, 1⟩).obj (objKey range c.num)).st = .stopped from hs', finish_of_takes h rfl]
  · intro hs
    have hs' : (s.obj (objKey range c.num)).st = .running := by simpa [State.isRunning] using hs
    unfold stopCmd
    simp only
    rw [runCmd_of_takes h ho hp, checked_of_none (pass (by simp [State.starting, hs']))]
    rw [show ((s.begun ⟨stopOp range, c, 1, 1⟩).obj (objKey range c.num)).st = .running from hs']
    rfl

/-- GET_STATE answers and changes nothing. -/
theorem getStateCmd_answers {s : State} {range : Nat} {c : Cmd} {objOk powered : Bool} {r2 : State → Word}
    (h : s.takes ⟨BitVec.ofNat 16 (range * 256 + 3), c, 1, 1⟩) (ho : objOk = true) (h4 : c.word 4 = 0) :
    getStateCmd s range c objOk powered r2 =
      (s.begun ⟨BitVec.ofNat 16 (range * 256 + 3), c, 1, 1⟩).answers ⟨BitVec.ofNat 16 (range * 256 + 3), c, 1, 1⟩ stOk
        (low (if powered then objStateNum (s.obj (objKey range c.num)).st else 0)) (s.obj (objKey range c.num)).gen
        (r2 (s.begun ⟨BitVec.ofNat 16 (range * 256 + 3), c, 1, 1⟩)) 0 := by
  unfold getStateCmd
  simp only
  rw [runCmd_of_takes h ho rfl, checked_of_none (by simp [firstFail, h4]), complete_of_takes h rfl]
  rfl

/-- A grant whose checks pass: RUNNING, with START completed. -/
theorem grant_passes {s : State} {range num : Nat} {c : Cmd} {checks : List (Bool × Status)} {begins undo : State → State}
    (hs : s.starting (objKey range num) = true) (hc : (s.obj (objKey range num)).starter = some c)
    (hp : s.paused = false)
    (hf : ∀ f ∈ s.porch.flights, f.op = startOp range → f.c = c → f.discard = false) (h : firstFail checks = none) :
    grant s range num checks begins undo =
      begins ((s.toRunning (objKey range num)).answer ⟨startOp range, c, 1, 1⟩ stOk) := by
  unfold grant
  rw [if_pos (by simp [hs, hp]), h]
  simp only [settleStart, hc]
  have hf' : ∀ f ∈ (s.toRunning (objKey range num)).porch.flights, f.op = startOp range → f.c = c → f.discard = false := hf
  exact congrArg begins (complete_of_notOvertaken hf' stOk 0 0 0 0)

end Sys2Proof.Machine
end

