-- ==== Sys2Proof/Laws/Porch.lean ====
section
/-!
SUPPORT. What the shared operations of the Porch and the Bellboard leave alone, field by field.
-/
namespace Sys2Proof.Machine

/-- Writing an entry moves its ring and sends. -/
@[simp] theorem hostWrite_keeps (s : State) (n : Nat) (e : Entry) (q : BitVec 16) :
    (hostWrite s n e q).pending = s.pending ∧ (hostWrite s n e q).free = s.free ∧ (hostWrite s n e q).cyc = s.cyc ∧
    (hostWrite s n e q).regs = s.regs ∧ (hostWrite s n e q).cnt = s.cnt ∧ (hostWrite s n e q).hi = s.hi ∧
    (hostWrite s n e q).objs = s.objs ∧ (hostWrite s n e q).limits = s.limits ∧
    (hostWrite s n e q).porch.link = s.porch.link ∧ (hostWrite s n e q).porch.width = s.porch.width ∧
    (hostWrite s n e q).porch.gen = s.porch.gen ∧ (hostWrite s n e q).porch.d3hot = s.porch.d3hot ∧
    (hostWrite s n e q).porch.pmeEn = s.porch.pmeEn ∧ (hostWrite s n e q).porch.pmeStatus = s.porch.pmeStatus ∧
    (hostWrite s n e q).porch.wakeActive = s.porch.wakeActive ∧ (hostWrite s n e q).porch.wakeN = s.porch.wakeN ∧
    (hostWrite s n e q).porch.perst = s.porch.perst ∧ (hostWrite s n e q).porch.sq = s.porch.sq ∧
    (hostWrite s n e q).porch.produced = s.porch.produced ∧ (hostWrite s n e q).porch.held = s.porch.held ∧
    (hostWrite s n e q).porch.flights = s.porch.flights ∧ (hostWrite s n e q).porch.turn = s.porch.turn ∧
    (hostWrite s n e q).porch.credit = s.porch.credit ∧ (hostWrite s n e q).porch.pba = s.porch.pba ∧
    (hostWrite s n e q).bell = s.bell ∧ (hostWrite s n e q).blv = s.blv ∧ (hostWrite s n e q).pwr = s.pwr ∧
    (hostWrite s n e q).gate = s.gate ∧ (hostWrite s n e q).boot = s.boot ∧ (hostWrite s n e q).cel = s.cel ∧
    (hostWrite s n e q).pan = s.pan ∧ (hostWrite s n e q).hall = s.hall ∧ (hostWrite s n e q).prg = s.prg ∧
    (hostWrite s n e q).net = s.net ∧ (hostWrite s n e q).ftb = s.ftb ∧ (hostWrite s n e q).ice = s.ice ∧
    (hostWrite s n e q).hat = s.hat ∧ (hostWrite s n e q).bnd = s.bnd ∧ (hostWrite s n e q).par = s.par ∧
    (hostWrite s n e q).dec = s.dec ∧ (hostWrite s n e q).org = s.org ∧ (hostWrite s n e q).enc = s.enc ∧
    (hostWrite s n e q).dmb = s.dmb := by
  simp [hostWrite]

/-- Making a source pending. -/
@[simp] theorem pendSource_keeps (s : State) (n : Nat) :
    (pendSource s n).pending = s.pending ∧ (pendSource s n).out = s.out ∧ (pendSource s n).free = s.free ∧
    (pendSource s n).cyc = s.cyc ∧ (pendSource s n).regs = s.regs ∧ (pendSource s n).cnt = s.cnt ∧
    (pendSource s n).hi = s.hi ∧ (pendSource s n).objs = s.objs ∧ (pendSource s n).limits = s.limits ∧
    (pendSource s n).porch = s.porch ∧ (pendSource s n).bell.levelStacks = s.bell.levelStacks ∧
    (pendSource s n).bell.eoiEmpty = s.bell.eoiEmpty ∧ (pendSource s n).bell.cfgErr = s.bell.cfgErr ∧
    (pendSource s n).bell.doneDenied = s.bell.doneDenied ∧ (pendSource s n).bell.double = s.bell.double ∧
    (pendSource s n).bell.levels = s.bell.levels ∧ (pendSource s n).bell.log = s.bell.log ∧
    (pendSource s n).bell.fullSaid = s.bell.fullSaid ∧ (pendSource s n).bell.hostSent = s.bell.hostSent ∧
    (pendSource s n).bell.watched = s.bell.watched ∧ (pendSource s n).bell.fullHeld = s.bell.fullHeld ∧
    (pendSource s n).bell.alertWait = s.bell.alertWait ∧ (pendSource s n).blv = s.blv ∧ (pendSource s n).pwr = s.pwr ∧
    (pendSource s n).gate = s.gate ∧ (pendSource s n).boot = s.boot ∧ (pendSource s n).cel = s.cel ∧
    (pendSource s n).pan = s.pan ∧ (pendSource s n).hall = s.hall ∧ (pendSource s n).prg = s.prg ∧
    (pendSource s n).net = s.net ∧ (pendSource s n).ftb = s.ftb ∧ (pendSource s n).ice = s.ice ∧
    (pendSource s n).hat = s.hat ∧ (pendSource s n).bnd = s.bnd ∧ (pendSource s n).par = s.par ∧
    (pendSource s n).dec = s.dec ∧ (pendSource s n).org = s.org ∧ (pendSource s n).enc = s.enc ∧
    (pendSource s n).dmb = s.dmb := by
  unfold pendSource
  repeat' split
  all_goals simp

@[simp] theorem bump_keeps (s : State) (a n : Nat) :
    (State.bump s a n).pending = s.pending ∧ (State.bump s a n).out = s.out ∧ (State.bump s a n).free = s.free ∧
    (State.bump s a n).cyc = s.cyc ∧ (State.bump s a n).cnt = s.cnt ∧ (State.bump s a n).hi = s.hi ∧
    (State.bump s a n).objs = s.objs ∧ (State.bump s a n).limits = s.limits ∧ (State.bump s a n).porch = s.porch ∧
    (State.bump s a n).bell = s.bell ∧ (State.bump s a n).blv = s.blv ∧ (State.bump s a n).pwr = s.pwr ∧
    (State.bump s a n).gate = s.gate ∧ (State.bump s a n).boot = s.boot ∧ (State.bump s a n).cel = s.cel ∧
    (State.bump s a n).pan = s.pan ∧ (State.bump s a n).hall = s.hall ∧ (State.bump s a n).prg = s.prg ∧
    (State.bump s a n).net = s.net ∧ (State.bump s a n).ftb = s.ftb ∧ (State.bump s a n).ice = s.ice ∧
    (State.bump s a n).hat = s.hat ∧ (State.bump s a n).bnd = s.bnd ∧ (State.bump s a n).par = s.par ∧
    (State.bump s a n).dec = s.dec ∧ (State.bump s a n).org = s.org ∧ (State.bump s a n).enc = s.enc ∧
    (State.bump s a n).dmb = s.dmb := by
  unfold State.bump
  simp only
  split <;> simp

/-- A DMA error on a queue. -/
@[simp] theorem queueFails_keeps (s : State) (q : Bool) (n : Nat) (e : PcieErr) :
    (queueFails s q n e).pending = s.pending ∧ (queueFails s q n e).out = s.out ∧ (queueFails s q n e).free = s.free ∧
    (queueFails s q n e).cyc = s.cyc ∧ (queueFails s q n e).cnt = s.cnt ∧ (queueFails s q n e).hi = s.hi ∧
    (queueFails s q n e).objs = s.objs ∧ (queueFails s q n e).limits = s.limits ∧
    (queueFails s q n e).porch.link = s.porch.link ∧ (queueFails s q n e).porch.width = s.porch.width ∧
    (queueFails s q n e).porch.gen = s.porch.gen ∧ (queueFails s q n e).porch.d3hot = s.porch.d3hot ∧
    (queueFails s q n e).porch.pmeEn = s.porch.pmeEn ∧ (queueFails s q n e).porch.pmeStatus = s.porch.pmeStatus ∧
    (queueFails s q n e).porch.wakeActive = s.porch.wakeActive ∧ (queueFails s q n e).porch.wakeN = s.porch.wakeN ∧
    (queueFails s q n e).porch.perst = s.porch.perst ∧ (queueFails s q n e).porch.held = s.porch.held ∧
    (queueFails s q n e).porch.flights = s.porch.flights ∧ (queueFails s q n e).porch.turn = s.porch.turn ∧
    (queueFails s q n e).porch.credit = s.porch.credit ∧ (queueFails s q n e).porch.pba = s.porch.pba ∧
    (queueFails s q n e).bell.levelStacks = s.bell.levelStacks ∧ (queueFails s q n e).bell.eoiEmpty = s.bell.eoiEmpty ∧
    (queueFails s q n e).bell.cfgErr = s.bell.cfgErr ∧ (queueFails s q n e).bell.doneDenied = s.bell.doneDenied ∧
    (queueFails s q n e).bell.double = s.bell.double ∧ (queueFails s q n e).bell.levels = s.bell.levels ∧
    (queueFails s q n e).bell.log = s.bell.log ∧ (queueFails s q n e).bell.fullSaid = s.bell.fullSaid ∧
    (queueFails s q n e).bell.hostSent = s.bell.hostSent ∧ (queueFails s q n e).bell.watched = s.bell.watched ∧
    (queueFails s q n e).bell.fullHeld = s.bell.fullHeld ∧ (queueFails s q n e).bell.alertWait = s.bell.alertWait ∧
    (queueFails s q n e).blv = s.blv ∧ (queueFails s q n e).pwr = s.pwr ∧ (queueFails s q n e).gate = s.gate ∧
    (queueFails s q n e).boot = s.boot ∧ (queueFails s q n e).cel = s.cel ∧ (queueFails s q n e).pan = s.pan ∧
    (queueFails s q n e).hall = s.hall ∧ (queueFails s q n e).prg = s.prg ∧ (queueFails s q n e).net = s.net ∧
    (queueFails s q n e).ftb = s.ftb ∧ (queueFails s q n e).ice = s.ice ∧ (queueFails s q n e).hat = s.hat ∧
    (queueFails s q n e).bnd = s.bnd ∧ (queueFails s q n e).par = s.par ∧ (queueFails s q n e).dec = s.dec ∧
    (queueFails s q n e).org = s.org ∧ (queueFails s q n e).enc = s.enc ∧ (queueFails s q n e).dmb = s.dmb := by
  cases q <;> simp [queueFails]

/-- Losing an entry that waited. -/
@[simp] theorem loseWaited_keeps (s : State) (n : Nat) (e : Entry) :
    (loseWaited s n e).pending = s.pending ∧ (loseWaited s n e).out = s.out ∧ (loseWaited s n e).free = s.free ∧
    (loseWaited s n e).cyc = s.cyc ∧ (loseWaited s n e).cnt = s.cnt ∧ (loseWaited s n e).hi = s.hi ∧
    (loseWaited s n e).objs = s.objs ∧ (loseWaited s n e).limits = s.limits ∧ (loseWaited s n e).porch.link = s.porch.link ∧
    (loseWaited s n e).porch.width = s.porch.width ∧ (loseWaited s n e).porch.gen = s.porch.gen ∧
    (loseWaited s n e).porch.d3hot = s.porch.d3hot ∧ (loseWaited s n e).porch.pmeEn = s.porch.pmeEn ∧
    (loseWaited s n e).porch.pmeStatus = s.porch.pmeStatus ∧ (loseWaited s n e).porch.wakeActive = s.porch.wakeActive ∧
    (loseWaited s n e).porch.wakeN = s.porch.wakeN ∧ (loseWaited s n e).porch.perst = s.porch.perst ∧
    (loseWaited s n e).porch.sq = s.porch.sq ∧ (loseWaited s n e).porch.produced = s.porch.produced ∧
    (loseWaited s n e).porch.held = s.porch.held ∧ (loseWaited s n e).porch.flights = s.porch.flights ∧
    (loseWaited s n e).porch.turn = s.porch.turn ∧ (loseWaited s n e).porch.credit = s.porch.credit ∧
    (loseWaited s n e).porch.pba = s.porch.pba ∧ (loseWaited s n e).bell = s.bell ∧ (loseWaited s n e).blv = s.blv ∧
    (loseWaited s n e).pwr = s.pwr ∧ (loseWaited s n e).gate = s.gate ∧ (loseWaited s n e).boot = s.boot ∧
    (loseWaited s n e).cel = s.cel ∧ (loseWaited s n e).pan = s.pan ∧ (loseWaited s n e).hall = s.hall ∧
    (loseWaited s n e).prg = s.prg ∧ (loseWaited s n e).net = s.net ∧ (loseWaited s n e).ftb = s.ftb ∧
    (loseWaited s n e).ice = s.ice ∧ (loseWaited s n e).hat = s.hat ∧ (loseWaited s n e).bnd = s.bnd ∧
    (loseWaited s n e).par = s.par ∧ (loseWaited s n e).dec = s.dec ∧ (loseWaited s n e).org = s.org ∧
    (loseWaited s n e).enc = s.enc ∧ (loseWaited s n e).dmb = s.dmb := by
  unfold loseWaited
  simp only
  split <;> simp

/-- Writing an entry that waited. -/
@[simp] theorem writeWaited_keeps (s : State) (n : Nat) (e : Entry) (q : BitVec 16) :
    (writeWaited s n e q).pending = s.pending ∧ (writeWaited s n e q).cyc = s.cyc ∧ (writeWaited s n e q).cnt = s.cnt ∧
    (writeWaited s n e q).hi = s.hi ∧ (writeWaited s n e q).objs = s.objs ∧ (writeWaited s n e q).limits = s.limits ∧
    (writeWaited s n e q).porch.link = s.porch.link ∧ (writeWaited s n e q).porch.width = s.porch.width ∧
    (writeWaited s n e q).porch.gen = s.porch.gen ∧ (writeWaited s n e q).porch.d3hot = s.porch.d3hot ∧
    (writeWaited s n e q).porch.pmeEn = s.porch.pmeEn ∧ (writeWaited s n e q).porch.pmeStatus = s.porch.pmeStatus ∧
    (writeWaited s n e q).porch.wakeActive = s.porch.wakeActive ∧ (writeWaited s n e q).porch.wakeN = s.porch.wakeN ∧
    (writeWaited s n e q).porch.perst = s.porch.perst ∧ (writeWaited s n e q).porch.sq = s.porch.sq ∧
    (writeWaited s n e q).porch.held = s.porch.held ∧ (writeWaited s n e q).porch.flights = s.porch.flights ∧
    (writeWaited s n e q).porch.turn = s.porch.turn ∧ (writeWaited s n e q).porch.credit = s.porch.credit ∧
    (writeWaited s n e q).porch.pba = s.porch.pba ∧ (writeWaited s n e q).bell.levelStacks = s.bell.levelStacks ∧
    (writeWaited s n e q).bell.eoiEmpty = s.bell.eoiEmpty ∧ (writeWaited s n e q).bell.cfgErr = s.bell.cfgErr ∧
    (writeWaited s n e q).bell.doneDenied = s.bell.doneDenied ∧ (writeWaited s n e q).bell.double = s.bell.double ∧
    (writeWaited s n e q).bell.levels = s.bell.levels ∧ (writeWaited s n e q).bell.log = s.bell.log ∧
    (writeWaited s n e q).bell.fullSaid = s.bell.fullSaid ∧ (writeWaited s n e q).bell.hostSent = s.bell.hostSent ∧
    (writeWaited s n e q).bell.watched = s.bell.watched ∧ (writeWaited s n e q).bell.fullHeld = s.bell.fullHeld ∧
    (writeWaited s n e q).bell.alertWait = s.bell.alertWait ∧ (writeWaited s n e q).blv = s.blv ∧
    (writeWaited s n e q).pwr = s.pwr ∧ (writeWaited s n e q).gate = s.gate ∧ (writeWaited s n e q).boot = s.boot ∧
    (writeWaited s n e q).cel = s.cel ∧ (writeWaited s n e q).pan = s.pan ∧ (writeWaited s n e q).hall = s.hall ∧
    (writeWaited s n e q).prg = s.prg ∧ (writeWaited s n e q).net = s.net ∧ (writeWaited s n e q).ftb = s.ftb ∧
    (writeWaited s n e q).ice = s.ice ∧ (writeWaited s n e q).hat = s.hat ∧ (writeWaited s n e q).bnd = s.bnd ∧
    (writeWaited s n e q).par = s.par ∧ (writeWaited s n e q).dec = s.dec ∧ (writeWaited s n e q).org = s.org ∧
    (writeWaited s n e q).enc = s.enc ∧ (writeWaited s n e q).dmb = s.dmb := by
  unfold writeWaited
  simp only [State.fresh]
  repeat' split
  all_goals simp [queueFails]

theorem writeHeldFold_keeps (l : List Held) (s : State) :
    (l.foldl (fun s h => writeWaited s h.cq h.entry h.seq) s).pending = s.pending ∧
    (l.foldl (fun s h => writeWaited s h.cq h.entry h.seq) s).cyc = s.cyc ∧
    (l.foldl (fun s h => writeWaited s h.cq h.entry h.seq) s).cnt = s.cnt ∧
    (l.foldl (fun s h => writeWaited s h.cq h.entry h.seq) s).hi = s.hi ∧
    (l.foldl (fun s h => writeWaited s h.cq h.entry h.seq) s).objs = s.objs ∧
    (l.foldl (fun s h => writeWaited s h.cq h.entry h.seq) s).limits = s.limits ∧
    (l.foldl (fun s h => writeWaited s h.cq h.entry h.seq) s).porch.link = s.porch.link ∧
    (l.foldl (fun s h => writeWaited s h.cq h.entry h.seq) s).porch.width = s.porch.width ∧
    (l.foldl (fun s h => writeWaited s h.cq h.entry h.seq) s).porch.gen = s.porch.gen ∧
    (l.foldl (fun s h => writeWaited s h.cq h.entry h.seq) s).porch.d3hot = s.porch.d3hot ∧
    (l.foldl (fun s h => writeWaited s h.cq h.entry h.seq) s).porch.pmeEn = s.porch.pmeEn ∧
    (l.foldl (fun s h => writeWaited s h.cq h.entry h.seq) s).porch.pmeStatus = s.porch.pmeStatus ∧
    (l.foldl (fun s h => writeWaited s h.cq h.entry h.seq) s).porch.wakeActive = s.porch.wakeActive ∧
    (l.foldl (fun s h => writeWaited s h.cq h.entry h.seq) s).porch.wakeN = s.porch.wakeN ∧
    (l.foldl (fun s h => writeWaited s h.cq h.entry h.seq) s).porch.perst = s.porch.perst ∧
    (l.foldl (fun s h => writeWaited s h.cq h.entry h.seq) s).porch.sq = s.porch.sq ∧
    (l.foldl (fun s h => writeWaited s h.cq h.entry h.seq) s).porch.held = s.porch.held ∧
    (l.foldl (fun s h => writeWaited s h.cq h.entry h.seq) s).porch.flights = s.porch.flights ∧
    (l.foldl (fun s h => writeWaited s h.cq h.entry h.seq) s).porch.turn = s.porch.turn ∧
    (l.foldl (fun s h => writeWaited s h.cq h.entry h.seq) s).porch.credit = s.porch.credit ∧
    (l.foldl (fun s h => writeWaited s h.cq h.entry h.seq) s).porch.pba = s.porch.pba ∧
    (l.foldl (fun s h => writeWaited s h.cq h.entry h.seq) s).bell.levelStacks = s.bell.levelStacks ∧
    (l.foldl (fun s h => writeWaited s h.cq h.entry h.seq) s).bell.eoiEmpty = s.bell.eoiEmpty ∧
    (l.foldl (fun s h => writeWaited s h.cq h.entry h.seq) s).bell.cfgErr = s.bell.cfgErr ∧
    (l.foldl (fun s h => writeWaited s h.cq h.entry h.seq) s).bell.doneDenied = s.bell.doneDenied ∧
    (l.foldl (fun s h => writeWaited s h.cq h.entry h.seq) s).bell.double = s.bell.double ∧
    (l.foldl (fun s h => writeWaited s h.cq h.entry h.seq) s).bell.levels = s.bell.levels ∧
    (l.foldl (fun s h => writeWaited s h.cq h.entry h.seq) s).bell.log = s.bell.log ∧
    (l.foldl (fun s h => writeWaited s h.cq h.entry h.seq) s).bell.fullSaid = s.bell.fullSaid ∧
    (l.foldl (fun s h => writeWaited s h.cq h.entry h.seq) s).bell.hostSent = s.bell.hostSent ∧
    (l.foldl (fun s h => writeWaited s h.cq h.entry h.seq) s).bell.watched = s.bell.watched ∧
    (l.foldl (fun s h => writeWaited s h.cq h.entry h.seq) s).bell.fullHeld = s.bell.fullHeld ∧
    (l.foldl (fun s h => writeWaited s h.cq h.entry h.seq) s).bell.alertWait = s.bell.alertWait ∧
    (l.foldl (fun s h => writeWaited s h.cq h.entry h.seq) s).blv = s.blv ∧
    (l.foldl (fun s h => writeWaited s h.cq h.entry h.seq) s).pwr = s.pwr ∧
    (l.foldl (fun s h => writeWaited s h.cq h.entry h.seq) s).gate = s.gate ∧
    (l.foldl (fun s h => writeWaited s h.cq h.entry h.seq) s).boot = s.boot ∧
    (l.foldl (fun s h => writeWaited s h.cq h.entry h.seq) s).cel = s.cel ∧
    (l.foldl (fun s h => writeWaited s h.cq h.entry h.seq) s).pan = s.pan ∧
    (l.foldl (fun s h => writeWaited s h.cq h.entry h.seq) s).hall = s.hall ∧
    (l.foldl (fun s h => writeWaited s h.cq h.entry h.seq) s).prg = s.prg ∧
    (l.foldl (fun s h => writeWaited s h.cq h.entry h.seq) s).net = s.net ∧
    (l.foldl (fun s h => writeWaited s h.cq h.entry h.seq) s).ftb = s.ftb ∧
    (l.foldl (fun s h => writeWaited s h.cq h.entry h.seq) s).ice = s.ice ∧
    (l.foldl (fun s h => writeWaited s h.cq h.entry h.seq) s).hat = s.hat ∧
    (l.foldl (fun s h => writeWaited s h.cq h.entry h.seq) s).bnd = s.bnd ∧
    (l.foldl (fun s h => writeWaited s h.cq h.entry h.seq) s).par = s.par ∧
    (l.foldl (fun s h => writeWaited s h.cq h.entry h.seq) s).dec = s.dec ∧
    (l.foldl (fun s h => writeWaited s h.cq h.entry h.seq) s).org = s.org ∧
    (l.foldl (fun s h => writeWaited s h.cq h.entry h.seq) s).enc = s.enc ∧
    (l.foldl (fun s h => writeWaited s h.cq h.entry h.seq) s).dmb = s.dmb := by
  induction l generalizing s with
  | nil => simp
  | cons h l ih => simpa using ih (writeWaited s h.cq h.entry h.seq)

/-- Writing the held entries. -/
@[simp] theorem writeHeld_keeps (s : State) :
    (writeHeld s).pending = s.pending ∧ (writeHeld s).cyc = s.cyc ∧ (writeHeld s).cnt = s.cnt ∧ (writeHeld s).hi = s.hi ∧
    (writeHeld s).objs = s.objs ∧ (writeHeld s).limits = s.limits ∧ (writeHeld s).porch.link = s.porch.link ∧
    (writeHeld s).porch.width = s.porch.width ∧ (writeHeld s).porch.gen = s.porch.gen ∧
    (writeHeld s).porch.d3hot = s.porch.d3hot ∧ (writeHeld s).porch.pmeEn = s.porch.pmeEn ∧
    (writeHeld s).porch.pmeStatus = s.porch.pmeStatus ∧ (writeHeld s).porch.wakeActive = s.porch.wakeActive ∧
    (writeHeld s).porch.wakeN = s.porch.wakeN ∧ (writeHeld s).porch.perst = s.porch.perst ∧
    (writeHeld s).porch.sq = s.porch.sq ∧ (writeHeld s).porch.flights = s.porch.flights ∧
    (writeHeld s).porch.turn = s.porch.turn ∧ (writeHeld s).porch.credit = s.porch.credit ∧
    (writeHeld s).porch.pba = s.porch.pba ∧ (writeHeld s).bell.levelStacks = s.bell.levelStacks ∧
    (writeHeld s).bell.eoiEmpty = s.bell.eoiEmpty ∧ (writeHeld s).bell.cfgErr = s.bell.cfgErr ∧
    (writeHeld s).bell.doneDenied = s.bell.doneDenied ∧ (writeHeld s).bell.double = s.bell.double ∧
    (writeHeld s).bell.levels = s.bell.levels ∧ (writeHeld s).bell.log = s.bell.log ∧
    (writeHeld s).bell.fullSaid = s.bell.fullSaid ∧ (writeHeld s).bell.hostSent = s.bell.hostSent ∧
    (writeHeld s).bell.watched = s.bell.watched ∧ (writeHeld s).bell.fullHeld = s.bell.fullHeld ∧
    (writeHeld s).bell.alertWait = s.bell.alertWait ∧ (writeHeld s).blv = s.blv ∧ (writeHeld s).pwr = s.pwr ∧
    (writeHeld s).gate = s.gate ∧ (writeHeld s).boot = s.boot ∧ (writeHeld s).cel = s.cel ∧ (writeHeld s).pan = s.pan ∧
    (writeHeld s).hall = s.hall ∧ (writeHeld s).prg = s.prg ∧ (writeHeld s).net = s.net ∧ (writeHeld s).ftb = s.ftb ∧
    (writeHeld s).ice = s.ice ∧ (writeHeld s).hat = s.hat ∧ (writeHeld s).bnd = s.bnd ∧ (writeHeld s).par = s.par ∧
    (writeHeld s).dec = s.dec ∧ (writeHeld s).org = s.org ∧ (writeHeld s).enc = s.enc ∧ (writeHeld s).dmb = s.dmb := by
  simp [writeHeld, writeHeldFold_keeps]

/-- Leaving L1. -/
@[simp] theorem leaveL1_keeps (s : State) :
    (leaveL1 s).pending = s.pending ∧ (leaveL1 s).cyc = s.cyc ∧ (leaveL1 s).cnt = s.cnt ∧ (leaveL1 s).hi = s.hi ∧
    (leaveL1 s).objs = s.objs ∧ (leaveL1 s).limits = s.limits ∧ (leaveL1 s).porch.width = s.porch.width ∧
    (leaveL1 s).porch.gen = s.porch.gen ∧ (leaveL1 s).porch.d3hot = s.porch.d3hot ∧ (leaveL1 s).porch.pmeEn = s.porch.pmeEn ∧
    (leaveL1 s).porch.pmeStatus = s.porch.pmeStatus ∧ (leaveL1 s).porch.wakeActive = s.porch.wakeActive ∧
    (leaveL1 s).porch.wakeN = s.porch.wakeN ∧ (leaveL1 s).porch.perst = s.porch.perst ∧ (leaveL1 s).porch.sq = s.porch.sq ∧
    (leaveL1 s).porch.flights = s.porch.flights ∧ (leaveL1 s).porch.turn = s.porch.turn ∧
    (leaveL1 s).porch.credit = s.porch.credit ∧ (leaveL1 s).porch.pba = s.porch.pba ∧
    (leaveL1 s).bell.levelStacks = s.bell.levelStacks ∧ (leaveL1 s).bell.eoiEmpty = s.bell.eoiEmpty ∧
    (leaveL1 s).bell.cfgErr = s.bell.cfgErr ∧ (leaveL1 s).bell.doneDenied = s.bell.doneDenied ∧
    (leaveL1 s).bell.double = s.bell.double ∧ (leaveL1 s).bell.levels = s.bell.levels ∧ (leaveL1 s).bell.log = s.bell.log ∧
    (leaveL1 s).bell.fullSaid = s.bell.fullSaid ∧ (leaveL1 s).bell.hostSent = s.bell.hostSent ∧
    (leaveL1 s).bell.watched = s.bell.watched ∧ (leaveL1 s).bell.fullHeld = s.bell.fullHeld ∧
    (leaveL1 s).bell.alertWait = s.bell.alertWait ∧ (leaveL1 s).blv = s.blv ∧ (leaveL1 s).pwr = s.pwr ∧
    (leaveL1 s).gate = s.gate ∧ (leaveL1 s).boot = s.boot ∧ (leaveL1 s).cel = s.cel ∧ (leaveL1 s).pan = s.pan ∧
    (leaveL1 s).hall = s.hall ∧ (leaveL1 s).prg = s.prg ∧ (leaveL1 s).net = s.net ∧ (leaveL1 s).ftb = s.ftb ∧
    (leaveL1 s).ice = s.ice ∧ (leaveL1 s).hat = s.hat ∧ (leaveL1 s).bnd = s.bnd ∧ (leaveL1 s).par = s.par ∧
    (leaveL1 s).dec = s.dec ∧ (leaveL1 s).org = s.org ∧ (leaveL1 s).enc = s.enc ∧ (leaveL1 s).dmb = s.dmb := by
  unfold leaveL1
  repeat' split
  all_goals simp

@[simp] theorem sendMsix_keeps (s : State) (v : Nat) :
    (sendMsix s v).pending = s.pending ∧ (sendMsix s v).free = s.free ∧ (sendMsix s v).cyc = s.cyc ∧
    (sendMsix s v).regs = s.regs ∧ (sendMsix s v).cnt = s.cnt ∧ (sendMsix s v).hi = s.hi ∧ (sendMsix s v).objs = s.objs ∧
    (sendMsix s v).limits = s.limits ∧ (sendMsix s v).porch.link = s.porch.link ∧ (sendMsix s v).porch.width = s.porch.width ∧
    (sendMsix s v).porch.gen = s.porch.gen ∧ (sendMsix s v).porch.d3hot = s.porch.d3hot ∧
    (sendMsix s v).porch.pmeEn = s.porch.pmeEn ∧ (sendMsix s v).porch.pmeStatus = s.porch.pmeStatus ∧
    (sendMsix s v).porch.wakeActive = s.porch.wakeActive ∧ (sendMsix s v).porch.wakeN = s.porch.wakeN ∧
    (sendMsix s v).porch.perst = s.porch.perst ∧ (sendMsix s v).porch.sq = s.porch.sq ∧ (sendMsix s v).porch.cq = s.porch.cq ∧
    (sendMsix s v).porch.produced = s.porch.produced ∧ (sendMsix s v).porch.held = s.porch.held ∧
    (sendMsix s v).porch.flights = s.porch.flights ∧ (sendMsix s v).porch.turn = s.porch.turn ∧
    (sendMsix s v).porch.credit = s.porch.credit ∧ (sendMsix s v).bell = s.bell ∧ (sendMsix s v).blv = s.blv ∧
    (sendMsix s v).pwr = s.pwr ∧ (sendMsix s v).gate = s.gate ∧ (sendMsix s v).boot = s.boot ∧ (sendMsix s v).cel = s.cel ∧
    (sendMsix s v).pan = s.pan ∧ (sendMsix s v).hall = s.hall ∧ (sendMsix s v).prg = s.prg ∧ (sendMsix s v).net = s.net ∧
    (sendMsix s v).ftb = s.ftb ∧ (sendMsix s v).ice = s.ice ∧ (sendMsix s v).hat = s.hat ∧ (sendMsix s v).bnd = s.bnd ∧
    (sendMsix s v).par = s.par ∧ (sendMsix s v).dec = s.dec ∧ (sendMsix s v).org = s.org ∧ (sendMsix s v).enc = s.enc ∧
    (sendMsix s v).dmb = s.dmb := by
  unfold sendMsix
  repeat' split
  all_goals simp

@[simp] theorem sendUnmasked_keeps (s : State) :
    (sendUnmasked s).pending = s.pending ∧ (sendUnmasked s).free = s.free ∧ (sendUnmasked s).cyc = s.cyc ∧
    (sendUnmasked s).regs = s.regs ∧ (sendUnmasked s).cnt = s.cnt ∧ (sendUnmasked s).hi = s.hi ∧
    (sendUnmasked s).objs = s.objs ∧ (sendUnmasked s).limits = s.limits ∧ (sendUnmasked s).porch.link = s.porch.link ∧
    (sendUnmasked s).porch.width = s.porch.width ∧ (sendUnmasked s).porch.gen = s.porch.gen ∧
    (sendUnmasked s).porch.d3hot = s.porch.d3hot ∧ (sendUnmasked s).porch.pmeEn = s.porch.pmeEn ∧
    (sendUnmasked s).porch.pmeStatus = s.porch.pmeStatus ∧ (sendUnmasked s).porch.wakeActive = s.porch.wakeActive ∧
    (sendUnmasked s).porch.wakeN = s.porch.wakeN ∧ (sendUnmasked s).porch.perst = s.porch.perst ∧
    (sendUnmasked s).porch.sq = s.porch.sq ∧ (sendUnmasked s).porch.cq = s.porch.cq ∧
    (sendUnmasked s).porch.produced = s.porch.produced ∧ (sendUnmasked s).porch.held = s.porch.held ∧
    (sendUnmasked s).porch.flights = s.porch.flights ∧ (sendUnmasked s).porch.turn = s.porch.turn ∧
    (sendUnmasked s).porch.credit = s.porch.credit ∧ (sendUnmasked s).bell = s.bell ∧ (sendUnmasked s).blv = s.blv ∧
    (sendUnmasked s).pwr = s.pwr ∧ (sendUnmasked s).gate = s.gate ∧ (sendUnmasked s).boot = s.boot ∧
    (sendUnmasked s).cel = s.cel ∧ (sendUnmasked s).pan = s.pan ∧ (sendUnmasked s).hall = s.hall ∧
    (sendUnmasked s).prg = s.prg ∧ (sendUnmasked s).net = s.net ∧ (sendUnmasked s).ftb = s.ftb ∧
    (sendUnmasked s).ice = s.ice ∧ (sendUnmasked s).hat = s.hat ∧ (sendUnmasked s).bnd = s.bnd ∧
    (sendUnmasked s).par = s.par ∧ (sendUnmasked s).dec = s.dec ∧ (sendUnmasked s).org = s.org ∧
    (sendUnmasked s).enc = s.enc ∧ (sendUnmasked s).dmb = s.dmb := by
  unfold sendUnmasked
  repeat' split
  all_goals simp

/-- Signalling the host target. -/
@[simp] theorem belSignal_keeps (s : State) :
    (belSignal s).pending = s.pending ∧ (belSignal s).cyc = s.cyc ∧ (belSignal s).cnt = s.cnt ∧ (belSignal s).hi = s.hi ∧
    (belSignal s).objs = s.objs ∧ (belSignal s).limits = s.limits ∧ (belSignal s).porch.width = s.porch.width ∧
    (belSignal s).porch.gen = s.porch.gen ∧ (belSignal s).porch.d3hot = s.porch.d3hot ∧
    (belSignal s).porch.pmeEn = s.porch.pmeEn ∧ (belSignal s).porch.pmeStatus = s.porch.pmeStatus ∧
    (belSignal s).porch.wakeActive = s.porch.wakeActive ∧ (belSignal s).porch.wakeN = s.porch.wakeN ∧
    (belSignal s).porch.perst = s.porch.perst ∧ (belSignal s).porch.sq = s.porch.sq ∧
    (belSignal s).porch.flights = s.porch.flights ∧ (belSignal s).porch.turn = s.porch.turn ∧
    (belSignal s).porch.credit = s.porch.credit ∧ (belSignal s).bell.levelStacks = s.bell.levelStacks ∧
    (belSignal s).bell.eoiEmpty = s.bell.eoiEmpty ∧ (belSignal s).bell.cfgErr = s.bell.cfgErr ∧
    (belSignal s).bell.doneDenied = s.bell.doneDenied ∧ (belSignal s).bell.double = s.bell.double ∧
    (belSignal s).bell.levels = s.bell.levels ∧ (belSignal s).bell.log = s.bell.log ∧
    (belSignal s).bell.fullSaid = s.bell.fullSaid ∧ (belSignal s).bell.watched = s.bell.watched ∧
    (belSignal s).bell.fullHeld = s.bell.fullHeld ∧ (belSignal s).bell.alertWait = s.bell.alertWait ∧
    (belSignal s).blv = s.blv ∧ (belSignal s).pwr = s.pwr ∧ (belSignal s).gate = s.gate ∧ (belSignal s).boot = s.boot ∧
    (belSignal s).cel = s.cel ∧ (belSignal s).pan = s.pan ∧ (belSignal s).hall = s.hall ∧ (belSignal s).prg = s.prg ∧
    (belSignal s).net = s.net ∧ (belSignal s).ftb = s.ftb ∧ (belSignal s).ice = s.ice ∧ (belSignal s).hat = s.hat ∧
    (belSignal s).bnd = s.bnd ∧ (belSignal s).par = s.par ∧ (belSignal s).dec = s.dec ∧ (belSignal s).org = s.org ∧
    (belSignal s).enc = s.enc ∧ (belSignal s).dmb = s.dmb := by
  unfold belSignal
  split
  · simp
  · split
    · simp
    · simp only
      split <;> simp

/-- A TLP of a requester arrives. -/
@[simp] theorem hostArrives_keeps (s : State) (r : Requester) :
    (hostArrives s r).pending = s.pending ∧ (hostArrives s r).cyc = s.cyc ∧ (hostArrives s r).cnt = s.cnt ∧
    (hostArrives s r).hi = s.hi ∧ (hostArrives s r).objs = s.objs ∧ (hostArrives s r).limits = s.limits ∧
    (hostArrives s r).porch.width = s.porch.width ∧ (hostArrives s r).porch.gen = s.porch.gen ∧
    (hostArrives s r).porch.d3hot = s.porch.d3hot ∧ (hostArrives s r).porch.pmeEn = s.porch.pmeEn ∧
    (hostArrives s r).porch.pmeStatus = s.porch.pmeStatus ∧ (hostArrives s r).porch.wakeActive = s.porch.wakeActive ∧
    (hostArrives s r).porch.wakeN = s.porch.wakeN ∧ (hostArrives s r).porch.perst = s.porch.perst ∧
    (hostArrives s r).porch.sq = s.porch.sq ∧ (hostArrives s r).porch.flights = s.porch.flights ∧
    (hostArrives s r).porch.turn = s.porch.turn ∧ (hostArrives s r).porch.credit = s.porch.credit ∧
    (hostArrives s r).bell.levelStacks = s.bell.levelStacks ∧ (hostArrives s r).bell.eoiEmpty = s.bell.eoiEmpty ∧
    (hostArrives s r).bell.cfgErr = s.bell.cfgErr ∧ (hostArrives s r).bell.doneDenied = s.bell.doneDenied ∧
    (hostArrives s r).bell.double = s.bell.double ∧ (hostArrives s r).bell.levels = s.bell.levels ∧
    (hostArrives s r).bell.log = s.bell.log ∧ (hostArrives s r).bell.fullSaid = s.bell.fullSaid ∧
    (hostArrives s r).bell.watched = s.bell.watched ∧ (hostArrives s r).bell.fullHeld = s.bell.fullHeld ∧
    (hostArrives s r).bell.alertWait = s.bell.alertWait ∧ (hostArrives s r).blv = s.blv ∧ (hostArrives s r).pwr = s.pwr ∧
    (hostArrives s r).gate = s.gate ∧ (hostArrives s r).boot = s.boot ∧ (hostArrives s r).cel = s.cel ∧
    (hostArrives s r).pan = s.pan ∧ (hostArrives s r).hall = s.hall ∧ (hostArrives s r).prg = s.prg ∧
    (hostArrives s r).net = s.net ∧ (hostArrives s r).ftb = s.ftb ∧ (hostArrives s r).ice = s.ice ∧
    (hostArrives s r).hat = s.hat ∧ (hostArrives s r).bnd = s.bnd ∧ (hostArrives s r).par = s.par ∧
    (hostArrives s r).dec = s.dec ∧ (hostArrives s r).org = s.org ∧ (hostArrives s r).enc = s.enc ∧
    (hostArrives s r).dmb = s.dmb := by
  unfold hostArrives
  repeat' split
  all_goals simp

/-- Asking the host to wake. -/
@[simp] theorem wakeHost_keeps (s : State) :
    (wakeHost s).pending = s.pending ∧ (wakeHost s).free = s.free ∧ (wakeHost s).cyc = s.cyc ∧ (wakeHost s).regs = s.regs ∧
    (wakeHost s).cnt = s.cnt ∧ (wakeHost s).hi = s.hi ∧ (wakeHost s).objs = s.objs ∧ (wakeHost s).limits = s.limits ∧
    (wakeHost s).porch.link = s.porch.link ∧ (wakeHost s).porch.width = s.porch.width ∧ (wakeHost s).porch.gen = s.porch.gen ∧
    (wakeHost s).porch.d3hot = s.porch.d3hot ∧ (wakeHost s).porch.pmeEn = s.porch.pmeEn ∧
    (wakeHost s).porch.perst = s.porch.perst ∧ (wakeHost s).porch.sq = s.porch.sq ∧ (wakeHost s).porch.cq = s.porch.cq ∧
    (wakeHost s).porch.produced = s.porch.produced ∧ (wakeHost s).porch.held = s.porch.held ∧
    (wakeHost s).porch.flights = s.porch.flights ∧ (wakeHost s).porch.turn = s.porch.turn ∧
    (wakeHost s).porch.credit = s.porch.credit ∧ (wakeHost s).porch.pba = s.porch.pba ∧ (wakeHost s).bell = s.bell ∧
    (wakeHost s).blv = s.blv ∧ (wakeHost s).pwr = s.pwr ∧ (wakeHost s).gate = s.gate ∧ (wakeHost s).boot = s.boot ∧
    (wakeHost s).cel = s.cel ∧ (wakeHost s).pan = s.pan ∧ (wakeHost s).hall = s.hall ∧ (wakeHost s).prg = s.prg ∧
    (wakeHost s).net = s.net ∧ (wakeHost s).ftb = s.ftb ∧ (wakeHost s).ice = s.ice ∧ (wakeHost s).hat = s.hat ∧
    (wakeHost s).bnd = s.bnd ∧ (wakeHost s).par = s.par ∧ (wakeHost s).dec = s.dec ∧ (wakeHost s).org = s.org ∧
    (wakeHost s).enc = s.enc ∧ (wakeHost s).dmb = s.dmb := by
  unfold wakeHost
  repeat' split
  all_goals simp

@[simp] theorem checkWake_keeps (s : State) :
    (checkWake s).pending = s.pending ∧ (checkWake s).free = s.free ∧ (checkWake s).cyc = s.cyc ∧
    (checkWake s).regs = s.regs ∧ (checkWake s).cnt = s.cnt ∧ (checkWake s).hi = s.hi ∧ (checkWake s).objs = s.objs ∧
    (checkWake s).limits = s.limits ∧ (checkWake s).porch.link = s.porch.link ∧ (checkWake s).porch.width = s.porch.width ∧
    (checkWake s).porch.gen = s.porch.gen ∧ (checkWake s).porch.d3hot = s.porch.d3hot ∧
    (checkWake s).porch.pmeEn = s.porch.pmeEn ∧ (checkWake s).porch.perst = s.porch.perst ∧
    (checkWake s).porch.sq = s.porch.sq ∧ (checkWake s).porch.cq = s.porch.cq ∧
    (checkWake s).porch.produced = s.porch.produced ∧ (checkWake s).porch.held = s.porch.held ∧
    (checkWake s).porch.flights = s.porch.flights ∧ (checkWake s).porch.turn = s.porch.turn ∧
    (checkWake s).porch.credit = s.porch.credit ∧ (checkWake s).porch.pba = s.porch.pba ∧ (checkWake s).bell = s.bell ∧
    (checkWake s).blv = s.blv ∧ (checkWake s).pwr = s.pwr ∧ (checkWake s).gate = s.gate ∧ (checkWake s).boot = s.boot ∧
    (checkWake s).cel = s.cel ∧ (checkWake s).pan = s.pan ∧ (checkWake s).hall = s.hall ∧ (checkWake s).prg = s.prg ∧
    (checkWake s).net = s.net ∧ (checkWake s).ftb = s.ftb ∧ (checkWake s).ice = s.ice ∧ (checkWake s).hat = s.hat ∧
    (checkWake s).bnd = s.bnd ∧ (checkWake s).par = s.par ∧ (checkWake s).dec = s.dec ∧ (checkWake s).org = s.org ∧
    (checkWake s).enc = s.enc ∧ (checkWake s).dmb = s.dmb := by
  unfold checkWake
  repeat' split
  all_goals simp

/-- Starting the wake of the device. -/
@[simp] theorem beginWake_keeps (s : State) (cause src : Nat) :
    (beginWake s cause src).pending = s.pending ∧ (beginWake s cause src).out = s.out ∧
    (beginWake s cause src).free = s.free ∧ (beginWake s cause src).cyc = s.cyc ∧ (beginWake s cause src).regs = s.regs ∧
    (beginWake s cause src).cnt = s.cnt ∧ (beginWake s cause src).hi = s.hi ∧ (beginWake s cause src).objs = s.objs ∧
    (beginWake s cause src).limits = s.limits ∧ (beginWake s cause src).porch = s.porch ∧
    (beginWake s cause src).bell = s.bell ∧ (beginWake s cause src).blv = s.blv ∧
    (beginWake s cause src).pwr.state = s.pwr.state ∧ (beginWake s cause src).pwr.dom = s.pwr.dom ∧
    (beginWake s cause src).pwr.rising = s.pwr.rising ∧ (beginWake s cause src).pwr.rails = s.pwr.rails ∧
    (beginWake s cause src).pwr.clamp = s.pwr.clamp ∧ (beginWake s cause src).pwr.coolSince = s.pwr.coolSince ∧
    (beginWake s cause src).pwr.temps = s.pwr.temps ∧ (beginWake s cause src).pwr.railMv = s.pwr.railMv ∧
    (beginWake s cause src).pwr.railMa = s.pwr.railMa ∧ (beginWake s cause src).pwr.job = s.pwr.job ∧
    (beginWake s cause src).pwr.waiting = s.pwr.waiting ∧ (beginWake s cause src).pwr.entering = s.pwr.entering ∧
    (beginWake s cause src).pwr.wakeEn = s.pwr.wakeEn ∧ (beginWake s cause src).pwr.notify = s.pwr.notify ∧
    (beginWake s cause src).pwr.savedDom = s.pwr.savedDom ∧ (beginWake s cause src).pwr.savedRails = s.pwr.savedRails ∧
    (beginWake s cause src).pwr.wakeN = s.pwr.wakeN ∧ (beginWake s cause src).pwr.telem = s.pwr.telem ∧
    (beginWake s cause src).pwr.flashing = s.pwr.flashing ∧ (beginWake s cause src).gate.vdd = s.gate.vdd ∧
    (beginWake s cause src).gate.vddSince = s.gate.vddSince ∧ (beginWake s cause src).gate.porst = s.gate.porst ∧
    (beginWake s cause src).gate.straps = s.gate.straps ∧ (beginWake s cause src).gate.en = s.gate.en ∧
    (beginWake s cause src).gate.pg = s.gate.pg ∧ (beginWake s cause src).gate.step = s.gate.step ∧
    (beginWake s cause src).gate.since = s.gate.since ∧ (beginWake s cause src).gate.railsOk = s.gate.railsOk ∧
    (beginWake s cause src).gate.lowering = s.gate.lowering ∧ (beginWake s cause src).gate.fault = s.gate.fault ∧
    (beginWake s cause src).gate.dropped = s.gate.dropped ∧ (beginWake s cause src).gate.stage = s.gate.stage ∧
    (beginWake s cause src).gate.alarm = s.gate.alarm ∧ (beginWake s cause src).gate.doubleFault = s.gate.doubleFault ∧
    (beginWake s cause src).gate.timer = s.gate.timer ∧ (beginWake s cause src).gate.timerSub = s.gate.timerSub ∧
    (beginWake s cause src).gate.timerOn = s.gate.timerOn ∧ (beginWake s cause src).gate.alertN = s.gate.alertN ∧
    (beginWake s cause src).boot = s.boot ∧ (beginWake s cause src).cel = s.cel ∧ (beginWake s cause src).pan = s.pan ∧
    (beginWake s cause src).hall = s.hall ∧ (beginWake s cause src).prg = s.prg ∧ (beginWake s cause src).net = s.net ∧
    (beginWake s cause src).ftb = s.ftb ∧ (beginWake s cause src).ice = s.ice ∧ (beginWake s cause src).hat = s.hat ∧
    (beginWake s cause src).bnd = s.bnd ∧ (beginWake s cause src).par = s.par ∧ (beginWake s cause src).dec = s.dec ∧
    (beginWake s cause src).org = s.org ∧ (beginWake s cause src).enc = s.enc ∧ (beginWake s cause src).dmb = s.dmb := by
  unfold beginWake
  repeat' split
  all_goals simp

@[simp] theorem bumpSat_keeps (s : State) (a n : Nat) :
    (State.bumpSat s a n).pending = s.pending ∧ (State.bumpSat s a n).out = s.out ∧ (State.bumpSat s a n).free = s.free ∧
    (State.bumpSat s a n).cyc = s.cyc ∧ (State.bumpSat s a n).cnt = s.cnt ∧ (State.bumpSat s a n).hi = s.hi ∧
    (State.bumpSat s a n).objs = s.objs ∧ (State.bumpSat s a n).limits = s.limits ∧ (State.bumpSat s a n).porch = s.porch ∧
    (State.bumpSat s a n).bell = s.bell ∧ (State.bumpSat s a n).blv = s.blv ∧ (State.bumpSat s a n).pwr = s.pwr ∧
    (State.bumpSat s a n).gate = s.gate ∧ (State.bumpSat s a n).boot = s.boot ∧ (State.bumpSat s a n).cel = s.cel ∧
    (State.bumpSat s a n).pan = s.pan ∧ (State.bumpSat s a n).hall = s.hall ∧ (State.bumpSat s a n).prg = s.prg ∧
    (State.bumpSat s a n).net = s.net ∧ (State.bumpSat s a n).ftb = s.ftb ∧ (State.bumpSat s a n).ice = s.ice ∧
    (State.bumpSat s a n).hat = s.hat ∧ (State.bumpSat s a n).bnd = s.bnd ∧ (State.bumpSat s a n).par = s.par ∧
    (State.bumpSat s a n).dec = s.dec ∧ (State.bumpSat s a n).org = s.org ∧ (State.bumpSat s a n).enc = s.enc ∧
    (State.bumpSat s a n).dmb = s.dmb := by
  simp [State.bumpSat]

/-- Waking the target of a held source. -/
@[simp] theorem wakeTarget_keeps (s : State) (n : Nat) :
    (wakeTarget s n).pending = s.pending ∧ (wakeTarget s n).free = s.free ∧ (wakeTarget s n).cyc = s.cyc ∧
    (wakeTarget s n).cnt = s.cnt ∧ (wakeTarget s n).hi = s.hi ∧ (wakeTarget s n).objs = s.objs ∧
    (wakeTarget s n).limits = s.limits ∧ (wakeTarget s n).porch.link = s.porch.link ∧
    (wakeTarget s n).porch.width = s.porch.width ∧ (wakeTarget s n).porch.gen = s.porch.gen ∧
    (wakeTarget s n).porch.d3hot = s.porch.d3hot ∧ (wakeTarget s n).porch.pmeEn = s.porch.pmeEn ∧
    (wakeTarget s n).porch.perst = s.porch.perst ∧ (wakeTarget s n).porch.sq = s.porch.sq ∧
    (wakeTarget s n).porch.cq = s.porch.cq ∧ (wakeTarget s n).porch.produced = s.porch.produced ∧
    (wakeTarget s n).porch.held = s.porch.held ∧ (wakeTarget s n).porch.flights = s.porch.flights ∧
    (wakeTarget s n).porch.turn = s.porch.turn ∧ (wakeTarget s n).porch.credit = s.porch.credit ∧
    (wakeTarget s n).porch.pba = s.porch.pba ∧ (wakeTarget s n).bell = s.bell ∧ (wakeTarget s n).blv = s.blv ∧
    (wakeTarget s n).pwr.state = s.pwr.state ∧ (wakeTarget s n).pwr.dom = s.pwr.dom ∧
    (wakeTarget s n).pwr.rails = s.pwr.rails ∧ (wakeTarget s n).pwr.clamp = s.pwr.clamp ∧
    (wakeTarget s n).pwr.coolSince = s.pwr.coolSince ∧ (wakeTarget s n).pwr.temps = s.pwr.temps ∧
    (wakeTarget s n).pwr.railMv = s.pwr.railMv ∧ (wakeTarget s n).pwr.railMa = s.pwr.railMa ∧
    (wakeTarget s n).pwr.job = s.pwr.job ∧ (wakeTarget s n).pwr.waiting = s.pwr.waiting ∧
    (wakeTarget s n).pwr.entering = s.pwr.entering ∧ (wakeTarget s n).pwr.wakeEn = s.pwr.wakeEn ∧
    (wakeTarget s n).pwr.notify = s.pwr.notify ∧ (wakeTarget s n).pwr.savedDom = s.pwr.savedDom ∧
    (wakeTarget s n).pwr.savedRails = s.pwr.savedRails ∧ (wakeTarget s n).pwr.wakeN = s.pwr.wakeN ∧
    (wakeTarget s n).pwr.telem = s.pwr.telem ∧ (wakeTarget s n).pwr.flashing = s.pwr.flashing ∧
    (wakeTarget s n).gate.vdd = s.gate.vdd ∧ (wakeTarget s n).gate.vddSince = s.gate.vddSince ∧
    (wakeTarget s n).gate.porst = s.gate.porst ∧ (wakeTarget s n).gate.straps = s.gate.straps ∧
    (wakeTarget s n).gate.en = s.gate.en ∧ (wakeTarget s n).gate.pg = s.gate.pg ∧ (wakeTarget s n).gate.step = s.gate.step ∧
    (wakeTarget s n).gate.since = s.gate.since ∧ (wakeTarget s n).gate.railsOk = s.gate.railsOk ∧
    (wakeTarget s n).gate.lowering = s.gate.lowering ∧ (wakeTarget s n).gate.fault = s.gate.fault ∧
    (wakeTarget s n).gate.dropped = s.gate.dropped ∧ (wakeTarget s n).gate.stage = s.gate.stage ∧
    (wakeTarget s n).gate.alarm = s.gate.alarm ∧ (wakeTarget s n).gate.doubleFault = s.gate.doubleFault ∧
    (wakeTarget s n).gate.timer = s.gate.timer ∧ (wakeTarget s n).gate.timerSub = s.gate.timerSub ∧
    (wakeTarget s n).gate.timerOn = s.gate.timerOn ∧ (wakeTarget s n).gate.alertN = s.gate.alertN ∧
    (wakeTarget s n).boot = s.boot ∧ (wakeTarget s n).cel = s.cel ∧ (wakeTarget s n).pan = s.pan ∧
    (wakeTarget s n).hall = s.hall ∧ (wakeTarget s n).prg = s.prg ∧ (wakeTarget s n).net = s.net ∧
    (wakeTarget s n).ftb = s.ftb ∧ (wakeTarget s n).ice = s.ice ∧ (wakeTarget s n).hat = s.hat ∧
    (wakeTarget s n).bnd = s.bnd ∧ (wakeTarget s n).par = s.par ∧ (wakeTarget s n).dec = s.dec ∧
    (wakeTarget s n).org = s.org ∧ (wakeTarget s n).enc = s.enc ∧ (wakeTarget s n).dmb = s.dmb := by
  unfold wakeTarget
  simp only
  repeat' split
  all_goals simp

theorem irqEdgesFold_keeps (a b : State) (l : List Nat) (s : State) :
    (l.foldl (fun s t => if (a.highest t).isSome == (b.highest t).isSome then s
      else { s with out := Out.irq t (b.highest t).isSome :: s.out }) s).pending = s.pending ∧
    (l.foldl (fun s t => if (a.highest t).isSome == (b.highest t).isSome then s
      else { s with out := Out.irq t (b.highest t).isSome :: s.out }) s).free = s.free ∧
    (l.foldl (fun s t => if (a.highest t).isSome == (b.highest t).isSome then s
      else { s with out := Out.irq t (b.highest t).isSome :: s.out }) s).cyc = s.cyc ∧
    (l.foldl (fun s t => if (a.highest t).isSome == (b.highest t).isSome then s
      else { s with out := Out.irq t (b.highest t).isSome :: s.out }) s).regs = s.regs ∧
    (l.foldl (fun s t => if (a.highest t).isSome == (b.highest t).isSome then s
      else { s with out := Out.irq t (b.highest t).isSome :: s.out }) s).cnt = s.cnt ∧
    (l.foldl (fun s t => if (a.highest t).isSome == (b.highest t).isSome then s
      else { s with out := Out.irq t (b.highest t).isSome :: s.out }) s).hi = s.hi ∧
    (l.foldl (fun s t => if (a.highest t).isSome == (b.highest t).isSome then s
      else { s with out := Out.irq t (b.highest t).isSome :: s.out }) s).objs = s.objs ∧
    (l.foldl (fun s t => if (a.highest t).isSome == (b.highest t).isSome then s
      else { s with out := Out.irq t (b.highest t).isSome :: s.out }) s).limits = s.limits ∧
    (l.foldl (fun s t => if (a.highest t).isSome == (b.highest t).isSome then s
      else { s with out := Out.irq t (b.highest t).isSome :: s.out }) s).porch = s.porch ∧
    (l.foldl (fun s t => if (a.highest t).isSome == (b.highest t).isSome then s
      else { s with out := Out.irq t (b.highest t).isSome :: s.out }) s).bell = s.bell ∧
    (l.foldl (fun s t => if (a.highest t).isSome == (b.highest t).isSome then s
      else { s with out := Out.irq t (b.highest t).isSome :: s.out }) s).blv = s.blv ∧
    (l.foldl (fun s t => if (a.highest t).isSome == (b.highest t).isSome then s
      else { s with out := Out.irq t (b.highest t).isSome :: s.out }) s).pwr = s.pwr ∧
    (l.foldl (fun s t => if (a.highest t).isSome == (b.highest t).isSome then s
      else { s with out := Out.irq t (b.highest t).isSome :: s.out }) s).gate = s.gate ∧
    (l.foldl (fun s t => if (a.highest t).isSome == (b.highest t).isSome then s
      else { s with out := Out.irq t (b.highest t).isSome :: s.out }) s).boot = s.boot ∧
    (l.foldl (fun s t => if (a.highest t).isSome == (b.highest t).isSome then s
      else { s with out := Out.irq t (b.highest t).isSome :: s.out }) s).cel = s.cel ∧
    (l.foldl (fun s t => if (a.highest t).isSome == (b.highest t).isSome then s
      else { s with out := Out.irq t (b.highest t).isSome :: s.out }) s).pan = s.pan ∧
    (l.foldl (fun s t => if (a.highest t).isSome == (b.highest t).isSome then s
      else { s with out := Out.irq t (b.highest t).isSome :: s.out }) s).hall = s.hall ∧
    (l.foldl (fun s t => if (a.highest t).isSome == (b.highest t).isSome then s
      else { s with out := Out.irq t (b.highest t).isSome :: s.out }) s).prg = s.prg ∧
    (l.foldl (fun s t => if (a.highest t).isSome == (b.highest t).isSome then s
      else { s with out := Out.irq t (b.highest t).isSome :: s.out }) s).net = s.net ∧
    (l.foldl (fun s t => if (a.highest t).isSome == (b.highest t).isSome then s
      else { s with out := Out.irq t (b.highest t).isSome :: s.out }) s).ftb = s.ftb ∧
    (l.foldl (fun s t => if (a.highest t).isSome == (b.highest t).isSome then s
      else { s with out := Out.irq t (b.highest t).isSome :: s.out }) s).ice = s.ice ∧
    (l.foldl (fun s t => if (a.highest t).isSome == (b.highest t).isSome then s
      else { s with out := Out.irq t (b.highest t).isSome :: s.out }) s).hat = s.hat ∧
    (l.foldl (fun s t => if (a.highest t).isSome == (b.highest t).isSome then s
      else { s with out := Out.irq t (b.highest t).isSome :: s.out }) s).bnd = s.bnd ∧
    (l.foldl (fun s t => if (a.highest t).isSome == (b.highest t).isSome then s
      else { s with out := Out.irq t (b.highest t).isSome :: s.out }) s).par = s.par ∧
    (l.foldl (fun s t => if (a.highest t).isSome == (b.highest t).isSome then s
      else { s with out := Out.irq t (b.highest t).isSome :: s.out }) s).dec = s.dec ∧
    (l.foldl (fun s t => if (a.highest t).isSome == (b.highest t).isSome then s
      else { s with out := Out.irq t (b.highest t).isSome :: s.out }) s).org = s.org ∧
    (l.foldl (fun s t => if (a.highest t).isSome == (b.highest t).isSome then s
      else { s with out := Out.irq t (b.highest t).isSome :: s.out }) s).enc = s.enc ∧
    (l.foldl (fun s t => if (a.highest t).isSome == (b.highest t).isSome then s
      else { s with out := Out.irq t (b.highest t).isSome :: s.out }) s).dmb = s.dmb := by
  induction l generalizing s with
  | nil => simp
  | cons h l ih =>
    rw [List.foldl_cons]
    split
    · exact ih s
    · exact ih _

@[simp] theorem irqEdges_keeps (a s : State) :
    (irqEdges a s).pending = s.pending ∧ (irqEdges a s).free = s.free ∧ (irqEdges a s).cyc = s.cyc ∧
    (irqEdges a s).regs = s.regs ∧ (irqEdges a s).cnt = s.cnt ∧ (irqEdges a s).hi = s.hi ∧ (irqEdges a s).objs = s.objs ∧
    (irqEdges a s).limits = s.limits ∧ (irqEdges a s).porch = s.porch ∧ (irqEdges a s).bell = s.bell ∧
    (irqEdges a s).blv = s.blv ∧ (irqEdges a s).pwr = s.pwr ∧ (irqEdges a s).gate = s.gate ∧ (irqEdges a s).boot = s.boot ∧
    (irqEdges a s).cel = s.cel ∧ (irqEdges a s).pan = s.pan ∧ (irqEdges a s).hall = s.hall ∧ (irqEdges a s).prg = s.prg ∧
    (irqEdges a s).net = s.net ∧ (irqEdges a s).ftb = s.ftb ∧ (irqEdges a s).ice = s.ice ∧ (irqEdges a s).hat = s.hat ∧
    (irqEdges a s).bnd = s.bnd ∧ (irqEdges a s).par = s.par ∧ (irqEdges a s).dec = s.dec ∧ (irqEdges a s).org = s.org ∧
    (irqEdges a s).enc = s.enc ∧ (irqEdges a s).dmb = s.dmb := by
  exact irqEdgesFold_keeps a s _ s

theorem wakeFold_keeps (l : List Nat) (s : State) :
    (l.foldl wakeTarget s).pending = s.pending ∧
    (l.foldl wakeTarget s).free = s.free ∧
    (l.foldl wakeTarget s).cyc = s.cyc ∧
    (l.foldl wakeTarget s).cnt = s.cnt ∧
    (l.foldl wakeTarget s).hi = s.hi ∧
    (l.foldl wakeTarget s).objs = s.objs ∧
    (l.foldl wakeTarget s).limits = s.limits ∧
    (l.foldl wakeTarget s).porch.link = s.porch.link ∧
    (l.foldl wakeTarget s).porch.width = s.porch.width ∧
    (l.foldl wakeTarget s).porch.gen = s.porch.gen ∧
    (l.foldl wakeTarget s).porch.d3hot = s.porch.d3hot ∧
    (l.foldl wakeTarget s).porch.pmeEn = s.porch.pmeEn ∧
    (l.foldl wakeTarget s).porch.perst = s.porch.perst ∧
    (l.foldl wakeTarget s).porch.sq = s.porch.sq ∧
    (l.foldl wakeTarget s).porch.cq = s.porch.cq ∧
    (l.foldl wakeTarget s).porch.produced = s.porch.produced ∧
    (l.foldl wakeTarget s).porch.held = s.porch.held ∧
    (l.foldl wakeTarget s).porch.flights = s.porch.flights ∧
    (l.foldl wakeTarget s).porch.turn = s.porch.turn ∧
    (l.foldl wakeTarget s).porch.credit = s.porch.credit ∧
    (l.foldl wakeTarget s).porch.pba = s.porch.pba ∧
    (l.foldl wakeTarget s).bell = s.bell ∧
    (l.foldl wakeTarget s).blv = s.blv ∧
    (l.foldl wakeTarget s).pwr.state = s.pwr.state ∧
    (l.foldl wakeTarget s).pwr.dom = s.pwr.dom ∧
    (l.foldl wakeTarget s).pwr.rails = s.pwr.rails ∧
    (l.foldl wakeTarget s).pwr.clamp = s.pwr.clamp ∧
    (l.foldl wakeTarget s).pwr.coolSince = s.pwr.coolSince ∧
    (l.foldl wakeTarget s).pwr.temps = s.pwr.temps ∧
    (l.foldl wakeTarget s).pwr.railMv = s.pwr.railMv ∧
    (l.foldl wakeTarget s).pwr.railMa = s.pwr.railMa ∧
    (l.foldl wakeTarget s).pwr.job = s.pwr.job ∧
    (l.foldl wakeTarget s).pwr.waiting = s.pwr.waiting ∧
    (l.foldl wakeTarget s).pwr.entering = s.pwr.entering ∧
    (l.foldl wakeTarget s).pwr.wakeEn = s.pwr.wakeEn ∧
    (l.foldl wakeTarget s).pwr.notify = s.pwr.notify ∧
    (l.foldl wakeTarget s).pwr.savedDom = s.pwr.savedDom ∧
    (l.foldl wakeTarget s).pwr.savedRails = s.pwr.savedRails ∧
    (l.foldl wakeTarget s).pwr.wakeN = s.pwr.wakeN ∧
    (l.foldl wakeTarget s).pwr.telem = s.pwr.telem ∧
    (l.foldl wakeTarget s).pwr.flashing = s.pwr.flashing ∧
    (l.foldl wakeTarget s).gate.vdd = s.gate.vdd ∧
    (l.foldl wakeTarget s).gate.vddSince = s.gate.vddSince ∧
    (l.foldl wakeTarget s).gate.porst = s.gate.porst ∧
    (l.foldl wakeTarget s).gate.straps = s.gate.straps ∧
    (l.foldl wakeTarget s).gate.en = s.gate.en ∧
    (l.foldl wakeTarget s).gate.pg = s.gate.pg ∧
    (l.foldl wakeTarget s).gate.step = s.gate.step ∧
    (l.foldl wakeTarget s).gate.since = s.gate.since ∧
    (l.foldl wakeTarget s).gate.railsOk = s.gate.railsOk ∧
    (l.foldl wakeTarget s).gate.lowering = s.gate.lowering ∧
    (l.foldl wakeTarget s).gate.fault = s.gate.fault ∧
    (l.foldl wakeTarget s).gate.dropped = s.gate.dropped ∧
    (l.foldl wakeTarget s).gate.stage = s.gate.stage ∧
    (l.foldl wakeTarget s).gate.alarm = s.gate.alarm ∧
    (l.foldl wakeTarget s).gate.doubleFault = s.gate.doubleFault ∧
    (l.foldl wakeTarget s).gate.timer = s.gate.timer ∧
    (l.foldl wakeTarget s).gate.timerSub = s.gate.timerSub ∧
    (l.foldl wakeTarget s).gate.timerOn = s.gate.timerOn ∧
    (l.foldl wakeTarget s).gate.alertN = s.gate.alertN ∧
    (l.foldl wakeTarget s).boot = s.boot ∧
    (l.foldl wakeTarget s).cel = s.cel ∧
    (l.foldl wakeTarget s).pan = s.pan ∧
    (l.foldl wakeTarget s).hall = s.hall ∧
    (l.foldl wakeTarget s).prg = s.prg ∧
    (l.foldl wakeTarget s).net = s.net ∧
    (l.foldl wakeTarget s).ftb = s.ftb ∧
    (l.foldl wakeTarget s).ice = s.ice ∧
    (l.foldl wakeTarget s).hat = s.hat ∧
    (l.foldl wakeTarget s).bnd = s.bnd ∧
    (l.foldl wakeTarget s).par = s.par ∧
    (l.foldl wakeTarget s).dec = s.dec ∧
    (l.foldl wakeTarget s).org = s.org ∧
    (l.foldl wakeTarget s).enc = s.enc ∧
    (l.foldl wakeTarget s).dmb = s.dmb := by
  induction l generalizing s with
  | nil => simp
  | cons h l ih => simpa using ih (wakeTarget s h)

/-- Waking the targets of the sources that have come to wait. -/
@[simp] theorem wakeHeld_keeps (a s : State) :
    (wakeHeld a s).pending = s.pending ∧ (wakeHeld a s).free = s.free ∧ (wakeHeld a s).cyc = s.cyc ∧
    (wakeHeld a s).cnt = s.cnt ∧ (wakeHeld a s).hi = s.hi ∧ (wakeHeld a s).objs = s.objs ∧ (wakeHeld a s).limits = s.limits ∧
    (wakeHeld a s).porch.link = s.porch.link ∧ (wakeHeld a s).porch.width = s.porch.width ∧
    (wakeHeld a s).porch.gen = s.porch.gen ∧ (wakeHeld a s).porch.d3hot = s.porch.d3hot ∧
    (wakeHeld a s).porch.pmeEn = s.porch.pmeEn ∧ (wakeHeld a s).porch.perst = s.porch.perst ∧
    (wakeHeld a s).porch.sq = s.porch.sq ∧ (wakeHeld a s).porch.cq = s.porch.cq ∧
    (wakeHeld a s).porch.produced = s.porch.produced ∧ (wakeHeld a s).porch.held = s.porch.held ∧
    (wakeHeld a s).porch.flights = s.porch.flights ∧ (wakeHeld a s).porch.turn = s.porch.turn ∧
    (wakeHeld a s).porch.credit = s.porch.credit ∧ (wakeHeld a s).porch.pba = s.porch.pba ∧ (wakeHeld a s).bell = s.bell ∧
    (wakeHeld a s).blv = s.blv ∧ (wakeHeld a s).pwr.state = s.pwr.state ∧ (wakeHeld a s).pwr.dom = s.pwr.dom ∧
    (wakeHeld a s).pwr.rails = s.pwr.rails ∧ (wakeHeld a s).pwr.clamp = s.pwr.clamp ∧
    (wakeHeld a s).pwr.coolSince = s.pwr.coolSince ∧ (wakeHeld a s).pwr.temps = s.pwr.temps ∧
    (wakeHeld a s).pwr.railMv = s.pwr.railMv ∧ (wakeHeld a s).pwr.railMa = s.pwr.railMa ∧ (wakeHeld a s).pwr.job = s.pwr.job ∧
    (wakeHeld a s).pwr.waiting = s.pwr.waiting ∧ (wakeHeld a s).pwr.entering = s.pwr.entering ∧
    (wakeHeld a s).pwr.wakeEn = s.pwr.wakeEn ∧ (wakeHeld a s).pwr.notify = s.pwr.notify ∧
    (wakeHeld a s).pwr.savedDom = s.pwr.savedDom ∧ (wakeHeld a s).pwr.savedRails = s.pwr.savedRails ∧
    (wakeHeld a s).pwr.wakeN = s.pwr.wakeN ∧ (wakeHeld a s).pwr.telem = s.pwr.telem ∧
    (wakeHeld a s).pwr.flashing = s.pwr.flashing ∧ (wakeHeld a s).gate.vdd = s.gate.vdd ∧
    (wakeHeld a s).gate.vddSince = s.gate.vddSince ∧ (wakeHeld a s).gate.porst = s.gate.porst ∧
    (wakeHeld a s).gate.straps = s.gate.straps ∧ (wakeHeld a s).gate.en = s.gate.en ∧ (wakeHeld a s).gate.pg = s.gate.pg ∧
    (wakeHeld a s).gate.step = s.gate.step ∧ (wakeHeld a s).gate.since = s.gate.since ∧
    (wakeHeld a s).gate.railsOk = s.gate.railsOk ∧ (wakeHeld a s).gate.lowering = s.gate.lowering ∧
    (wakeHeld a s).gate.fault = s.gate.fault ∧ (wakeHeld a s).gate.dropped = s.gate.dropped ∧
    (wakeHeld a s).gate.stage = s.gate.stage ∧ (wakeHeld a s).gate.alarm = s.gate.alarm ∧
    (wakeHeld a s).gate.doubleFault = s.gate.doubleFault ∧ (wakeHeld a s).gate.timer = s.gate.timer ∧
    (wakeHeld a s).gate.timerSub = s.gate.timerSub ∧ (wakeHeld a s).gate.timerOn = s.gate.timerOn ∧
    (wakeHeld a s).gate.alertN = s.gate.alertN ∧ (wakeHeld a s).boot = s.boot ∧ (wakeHeld a s).cel = s.cel ∧
    (wakeHeld a s).pan = s.pan ∧ (wakeHeld a s).hall = s.hall ∧ (wakeHeld a s).prg = s.prg ∧ (wakeHeld a s).net = s.net ∧
    (wakeHeld a s).ftb = s.ftb ∧ (wakeHeld a s).ice = s.ice ∧ (wakeHeld a s).hat = s.hat ∧ (wakeHeld a s).bnd = s.bnd ∧
    (wakeHeld a s).par = s.par ∧ (wakeHeld a s).dec = s.dec ∧ (wakeHeld a s).org = s.org ∧ (wakeHeld a s).enc = s.enc ∧
    (wakeHeld a s).dmb = s.dmb := by
  simp [wakeHeld, wakeFold_keeps]

/-- Signalling after a change. -/
@[simp] theorem resignal_keeps (a s : State) :
    (resignal a s).pending = s.pending ∧ (resignal a s).cyc = s.cyc ∧ (resignal a s).cnt = s.cnt ∧ (resignal a s).hi = s.hi ∧
    (resignal a s).objs = s.objs ∧ (resignal a s).limits = s.limits ∧ (resignal a s).porch.width = s.porch.width ∧
    (resignal a s).porch.gen = s.porch.gen ∧ (resignal a s).porch.d3hot = s.porch.d3hot ∧
    (resignal a s).porch.pmeEn = s.porch.pmeEn ∧ (resignal a s).porch.perst = s.porch.perst ∧
    (resignal a s).porch.sq = s.porch.sq ∧ (resignal a s).porch.flights = s.porch.flights ∧
    (resignal a s).porch.turn = s.porch.turn ∧ (resignal a s).porch.credit = s.porch.credit ∧
    (resignal a s).bell.levelStacks = s.bell.levelStacks ∧ (resignal a s).bell.eoiEmpty = s.bell.eoiEmpty ∧
    (resignal a s).bell.cfgErr = s.bell.cfgErr ∧ (resignal a s).bell.doneDenied = s.bell.doneDenied ∧
    (resignal a s).bell.double = s.bell.double ∧ (resignal a s).bell.levels = s.bell.levels ∧
    (resignal a s).bell.log = s.bell.log ∧ (resignal a s).bell.fullSaid = s.bell.fullSaid ∧
    (resignal a s).bell.watched = s.bell.watched ∧ (resignal a s).bell.fullHeld = s.bell.fullHeld ∧
    (resignal a s).bell.alertWait = s.bell.alertWait ∧ (resignal a s).blv = s.blv ∧ (resignal a s).pwr.state = s.pwr.state ∧
    (resignal a s).pwr.dom = s.pwr.dom ∧ (resignal a s).pwr.rails = s.pwr.rails ∧ (resignal a s).pwr.clamp = s.pwr.clamp ∧
    (resignal a s).pwr.coolSince = s.pwr.coolSince ∧ (resignal a s).pwr.temps = s.pwr.temps ∧
    (resignal a s).pwr.railMv = s.pwr.railMv ∧ (resignal a s).pwr.railMa = s.pwr.railMa ∧ (resignal a s).pwr.job = s.pwr.job ∧
    (resignal a s).pwr.waiting = s.pwr.waiting ∧ (resignal a s).pwr.entering = s.pwr.entering ∧
    (resignal a s).pwr.wakeEn = s.pwr.wakeEn ∧ (resignal a s).pwr.notify = s.pwr.notify ∧
    (resignal a s).pwr.savedDom = s.pwr.savedDom ∧ (resignal a s).pwr.savedRails = s.pwr.savedRails ∧
    (resignal a s).pwr.wakeN = s.pwr.wakeN ∧ (resignal a s).pwr.telem = s.pwr.telem ∧
    (resignal a s).pwr.flashing = s.pwr.flashing ∧ (resignal a s).gate.vdd = s.gate.vdd ∧
    (resignal a s).gate.vddSince = s.gate.vddSince ∧ (resignal a s).gate.porst = s.gate.porst ∧
    (resignal a s).gate.straps = s.gate.straps ∧ (resignal a s).gate.en = s.gate.en ∧ (resignal a s).gate.pg = s.gate.pg ∧
    (resignal a s).gate.step = s.gate.step ∧ (resignal a s).gate.since = s.gate.since ∧
    (resignal a s).gate.railsOk = s.gate.railsOk ∧ (resignal a s).gate.lowering = s.gate.lowering ∧
    (resignal a s).gate.fault = s.gate.fault ∧ (resignal a s).gate.dropped = s.gate.dropped ∧
    (resignal a s).gate.stage = s.gate.stage ∧ (resignal a s).gate.alarm = s.gate.alarm ∧
    (resignal a s).gate.doubleFault = s.gate.doubleFault ∧ (resignal a s).gate.timer = s.gate.timer ∧
    (resignal a s).gate.timerSub = s.gate.timerSub ∧ (resignal a s).gate.timerOn = s.gate.timerOn ∧
    (resignal a s).gate.alertN = s.gate.alertN ∧ (resignal a s).boot = s.boot ∧ (resignal a s).cel = s.cel ∧
    (resignal a s).pan = s.pan ∧ (resignal a s).hall = s.hall ∧ (resignal a s).prg = s.prg ∧ (resignal a s).net = s.net ∧
    (resignal a s).ftb = s.ftb ∧ (resignal a s).ice = s.ice ∧ (resignal a s).hat = s.hat ∧ (resignal a s).bnd = s.bnd ∧
    (resignal a s).par = s.par ∧ (resignal a s).dec = s.dec ∧ (resignal a s).org = s.org ∧ (resignal a s).enc = s.enc ∧
    (resignal a s).dmb = s.dmb := by
  simp [resignal]

/-- A pulse of a source: pending and watched sources, the host's signal, wakes, what is sent. -/
@[simp] theorem pulse_keeps (s : State) (n : Nat) :
    (pulse s n).pending = s.pending ∧ (pulse s n).cyc = s.cyc ∧ (pulse s n).cnt = s.cnt ∧ (pulse s n).hi = s.hi ∧
    (pulse s n).objs = s.objs ∧ (pulse s n).limits = s.limits ∧ (pulse s n).porch.width = s.porch.width ∧
    (pulse s n).porch.gen = s.porch.gen ∧ (pulse s n).porch.d3hot = s.porch.d3hot ∧ (pulse s n).porch.pmeEn = s.porch.pmeEn ∧
    (pulse s n).porch.perst = s.porch.perst ∧ (pulse s n).porch.sq = s.porch.sq ∧
    (pulse s n).porch.flights = s.porch.flights ∧ (pulse s n).porch.turn = s.porch.turn ∧
    (pulse s n).porch.credit = s.porch.credit ∧ (pulse s n).bell.levelStacks = s.bell.levelStacks ∧
    (pulse s n).bell.eoiEmpty = s.bell.eoiEmpty ∧ (pulse s n).bell.cfgErr = s.bell.cfgErr ∧
    (pulse s n).bell.doneDenied = s.bell.doneDenied ∧ (pulse s n).bell.double = s.bell.double ∧
    (pulse s n).bell.levels = s.bell.levels ∧ (pulse s n).bell.log = s.bell.log ∧
    (pulse s n).bell.fullSaid = s.bell.fullSaid ∧ (pulse s n).bell.fullHeld = s.bell.fullHeld ∧
    (pulse s n).bell.alertWait = s.bell.alertWait ∧ (pulse s n).blv = s.blv ∧ (pulse s n).pwr.state = s.pwr.state ∧
    (pulse s n).pwr.dom = s.pwr.dom ∧ (pulse s n).pwr.rails = s.pwr.rails ∧ (pulse s n).pwr.clamp = s.pwr.clamp ∧
    (pulse s n).pwr.coolSince = s.pwr.coolSince ∧ (pulse s n).pwr.temps = s.pwr.temps ∧
    (pulse s n).pwr.railMv = s.pwr.railMv ∧ (pulse s n).pwr.railMa = s.pwr.railMa ∧ (pulse s n).pwr.job = s.pwr.job ∧
    (pulse s n).pwr.waiting = s.pwr.waiting ∧ (pulse s n).pwr.entering = s.pwr.entering ∧
    (pulse s n).pwr.wakeEn = s.pwr.wakeEn ∧ (pulse s n).pwr.notify = s.pwr.notify ∧
    (pulse s n).pwr.savedDom = s.pwr.savedDom ∧ (pulse s n).pwr.savedRails = s.pwr.savedRails ∧
    (pulse s n).pwr.wakeN = s.pwr.wakeN ∧ (pulse s n).pwr.telem = s.pwr.telem ∧ (pulse s n).pwr.flashing = s.pwr.flashing ∧
    (pulse s n).gate.vdd = s.gate.vdd ∧ (pulse s n).gate.vddSince = s.gate.vddSince ∧ (pulse s n).gate.porst = s.gate.porst ∧
    (pulse s n).gate.straps = s.gate.straps ∧ (pulse s n).gate.en = s.gate.en ∧ (pulse s n).gate.pg = s.gate.pg ∧
    (pulse s n).gate.step = s.gate.step ∧ (pulse s n).gate.since = s.gate.since ∧ (pulse s n).gate.railsOk = s.gate.railsOk ∧
    (pulse s n).gate.lowering = s.gate.lowering ∧ (pulse s n).gate.fault = s.gate.fault ∧
    (pulse s n).gate.dropped = s.gate.dropped ∧ (pulse s n).gate.stage = s.gate.stage ∧
    (pulse s n).gate.alarm = s.gate.alarm ∧ (pulse s n).gate.doubleFault = s.gate.doubleFault ∧
    (pulse s n).gate.timer = s.gate.timer ∧ (pulse s n).gate.timerSub = s.gate.timerSub ∧
    (pulse s n).gate.timerOn = s.gate.timerOn ∧ (pulse s n).gate.alertN = s.gate.alertN ∧ (pulse s n).boot = s.boot ∧
    (pulse s n).cel = s.cel ∧ (pulse s n).pan = s.pan ∧ (pulse s n).hall = s.hall ∧ (pulse s n).prg = s.prg ∧
    (pulse s n).net = s.net ∧ (pulse s n).ftb = s.ftb ∧ (pulse s n).ice = s.ice ∧ (pulse s n).hat = s.hat ∧
    (pulse s n).bnd = s.bnd ∧ (pulse s n).par = s.par ∧ (pulse s n).dec = s.dec ∧ (pulse s n).org = s.org ∧
    (pulse s n).enc = s.enc ∧ (pulse s n).dmb = s.dmb := by
  unfold pulse
  simp only
  repeat' split
  all_goals simp

/-- Sending or keeping a queue's interrupt. -/
@[simp] theorem interrupt_keeps (s : State) (n : Nat) :
    (interrupt s n).pending = s.pending ∧ (interrupt s n).cyc = s.cyc ∧ (interrupt s n).cnt = s.cnt ∧
    (interrupt s n).hi = s.hi ∧ (interrupt s n).objs = s.objs ∧ (interrupt s n).limits = s.limits ∧
    (interrupt s n).porch.width = s.porch.width ∧ (interrupt s n).porch.gen = s.porch.gen ∧
    (interrupt s n).porch.d3hot = s.porch.d3hot ∧ (interrupt s n).porch.pmeEn = s.porch.pmeEn ∧
    (interrupt s n).porch.pmeStatus = s.porch.pmeStatus ∧ (interrupt s n).porch.wakeActive = s.porch.wakeActive ∧
    (interrupt s n).porch.wakeN = s.porch.wakeN ∧ (interrupt s n).porch.perst = s.porch.perst ∧
    (interrupt s n).porch.sq = s.porch.sq ∧ (interrupt s n).porch.flights = s.porch.flights ∧
    (interrupt s n).porch.turn = s.porch.turn ∧ (interrupt s n).porch.credit = s.porch.credit ∧
    (interrupt s n).bell.levelStacks = s.bell.levelStacks ∧ (interrupt s n).bell.eoiEmpty = s.bell.eoiEmpty ∧
    (interrupt s n).bell.cfgErr = s.bell.cfgErr ∧ (interrupt s n).bell.doneDenied = s.bell.doneDenied ∧
    (interrupt s n).bell.double = s.bell.double ∧ (interrupt s n).bell.levels = s.bell.levels ∧
    (interrupt s n).bell.log = s.bell.log ∧ (interrupt s n).bell.fullSaid = s.bell.fullSaid ∧
    (interrupt s n).bell.hostSent = s.bell.hostSent ∧ (interrupt s n).bell.watched = s.bell.watched ∧
    (interrupt s n).bell.fullHeld = s.bell.fullHeld ∧ (interrupt s n).bell.alertWait = s.bell.alertWait ∧
    (interrupt s n).blv = s.blv ∧ (interrupt s n).pwr = s.pwr ∧ (interrupt s n).gate = s.gate ∧
    (interrupt s n).boot = s.boot ∧ (interrupt s n).cel = s.cel ∧ (interrupt s n).pan = s.pan ∧
    (interrupt s n).hall = s.hall ∧ (interrupt s n).prg = s.prg ∧ (interrupt s n).net = s.net ∧ (interrupt s n).ftb = s.ftb ∧
    (interrupt s n).ice = s.ice ∧ (interrupt s n).hat = s.hat ∧ (interrupt s n).bnd = s.bnd ∧ (interrupt s n).par = s.par ∧
    (interrupt s n).dec = s.dec ∧ (interrupt s n).org = s.org ∧ (interrupt s n).enc = s.enc ∧ (interrupt s n).dmb = s.dmb := by
  unfold interrupt
  simp only
  split <;> simp

@[simp] theorem moderate_keeps (s : State) (n : Nat) :
    (moderate s n).pending = s.pending ∧ (moderate s n).cyc = s.cyc ∧ (moderate s n).cnt = s.cnt ∧ (moderate s n).hi = s.hi ∧
    (moderate s n).objs = s.objs ∧ (moderate s n).limits = s.limits ∧ (moderate s n).porch.width = s.porch.width ∧
    (moderate s n).porch.gen = s.porch.gen ∧ (moderate s n).porch.d3hot = s.porch.d3hot ∧
    (moderate s n).porch.pmeEn = s.porch.pmeEn ∧ (moderate s n).porch.pmeStatus = s.porch.pmeStatus ∧
    (moderate s n).porch.wakeActive = s.porch.wakeActive ∧ (moderate s n).porch.wakeN = s.porch.wakeN ∧
    (moderate s n).porch.perst = s.porch.perst ∧ (moderate s n).porch.sq = s.porch.sq ∧
    (moderate s n).porch.flights = s.porch.flights ∧ (moderate s n).porch.turn = s.porch.turn ∧
    (moderate s n).porch.credit = s.porch.credit ∧ (moderate s n).bell.levelStacks = s.bell.levelStacks ∧
    (moderate s n).bell.eoiEmpty = s.bell.eoiEmpty ∧ (moderate s n).bell.cfgErr = s.bell.cfgErr ∧
    (moderate s n).bell.doneDenied = s.bell.doneDenied ∧ (moderate s n).bell.double = s.bell.double ∧
    (moderate s n).bell.levels = s.bell.levels ∧ (moderate s n).bell.log = s.bell.log ∧
    (moderate s n).bell.fullSaid = s.bell.fullSaid ∧ (moderate s n).bell.hostSent = s.bell.hostSent ∧
    (moderate s n).bell.watched = s.bell.watched ∧ (moderate s n).bell.fullHeld = s.bell.fullHeld ∧
    (moderate s n).bell.alertWait = s.bell.alertWait ∧ (moderate s n).blv = s.blv ∧ (moderate s n).pwr = s.pwr ∧
    (moderate s n).gate = s.gate ∧ (moderate s n).boot = s.boot ∧ (moderate s n).cel = s.cel ∧ (moderate s n).pan = s.pan ∧
    (moderate s n).hall = s.hall ∧ (moderate s n).prg = s.prg ∧ (moderate s n).net = s.net ∧ (moderate s n).ftb = s.ftb ∧
    (moderate s n).ice = s.ice ∧ (moderate s n).hat = s.hat ∧ (moderate s n).bnd = s.bnd ∧ (moderate s n).par = s.par ∧
    (moderate s n).dec = s.dec ∧ (moderate s n).org = s.org ∧ (moderate s n).enc = s.enc ∧ (moderate s n).dmb = s.dmb := by
  unfold moderate
  simp only
  split <;> simp

/-- Placing an entry in its ring or in the holding buffer. -/
@[simp] theorem placeEntry_keeps (s : State) (n : Nat) (e : Entry) (q : BitVec 16) :
    (placeEntry s n e q).pending = s.pending ∧ (placeEntry s n e q).cyc = s.cyc ∧ (placeEntry s n e q).cnt = s.cnt ∧
    (placeEntry s n e q).hi = s.hi ∧ (placeEntry s n e q).objs = s.objs ∧ (placeEntry s n e q).limits = s.limits ∧
    (placeEntry s n e q).porch.width = s.porch.width ∧ (placeEntry s n e q).porch.gen = s.porch.gen ∧
    (placeEntry s n e q).porch.d3hot = s.porch.d3hot ∧ (placeEntry s n e q).porch.pmeEn = s.porch.pmeEn ∧
    (placeEntry s n e q).porch.perst = s.porch.perst ∧ (placeEntry s n e q).porch.sq = s.porch.sq ∧
    (placeEntry s n e q).porch.flights = s.porch.flights ∧ (placeEntry s n e q).porch.turn = s.porch.turn ∧
    (placeEntry s n e q).porch.credit = s.porch.credit ∧ (placeEntry s n e q).bell.levelStacks = s.bell.levelStacks ∧
    (placeEntry s n e q).bell.eoiEmpty = s.bell.eoiEmpty ∧ (placeEntry s n e q).bell.cfgErr = s.bell.cfgErr ∧
    (placeEntry s n e q).bell.doneDenied = s.bell.doneDenied ∧ (placeEntry s n e q).bell.double = s.bell.double ∧
    (placeEntry s n e q).bell.levels = s.bell.levels ∧ (placeEntry s n e q).bell.log = s.bell.log ∧
    (placeEntry s n e q).bell.fullSaid = s.bell.fullSaid ∧ (placeEntry s n e q).bell.fullHeld = s.bell.fullHeld ∧
    (placeEntry s n e q).bell.alertWait = s.bell.alertWait ∧ (placeEntry s n e q).blv = s.blv ∧
    (placeEntry s n e q).pwr.state = s.pwr.state ∧ (placeEntry s n e q).pwr.dom = s.pwr.dom ∧
    (placeEntry s n e q).pwr.rails = s.pwr.rails ∧ (placeEntry s n e q).pwr.clamp = s.pwr.clamp ∧
    (placeEntry s n e q).pwr.coolSince = s.pwr.coolSince ∧ (placeEntry s n e q).pwr.temps = s.pwr.temps ∧
    (placeEntry s n e q).pwr.railMv = s.pwr.railMv ∧ (placeEntry s n e q).pwr.railMa = s.pwr.railMa ∧
    (placeEntry s n e q).pwr.job = s.pwr.job ∧ (placeEntry s n e q).pwr.waiting = s.pwr.waiting ∧
    (placeEntry s n e q).pwr.entering = s.pwr.entering ∧ (placeEntry s n e q).pwr.wakeEn = s.pwr.wakeEn ∧
    (placeEntry s n e q).pwr.notify = s.pwr.notify ∧ (placeEntry s n e q).pwr.savedDom = s.pwr.savedDom ∧
    (placeEntry s n e q).pwr.savedRails = s.pwr.savedRails ∧ (placeEntry s n e q).pwr.wakeN = s.pwr.wakeN ∧
    (placeEntry s n e q).pwr.telem = s.pwr.telem ∧ (placeEntry s n e q).pwr.flashing = s.pwr.flashing ∧
    (placeEntry s n e q).gate.vdd = s.gate.vdd ∧ (placeEntry s n e q).gate.vddSince = s.gate.vddSince ∧
    (placeEntry s n e q).gate.porst = s.gate.porst ∧ (placeEntry s n e q).gate.straps = s.gate.straps ∧
    (placeEntry s n e q).gate.en = s.gate.en ∧ (placeEntry s n e q).gate.pg = s.gate.pg ∧
    (placeEntry s n e q).gate.step = s.gate.step ∧ (placeEntry s n e q).gate.since = s.gate.since ∧
    (placeEntry s n e q).gate.railsOk = s.gate.railsOk ∧ (placeEntry s n e q).gate.lowering = s.gate.lowering ∧
    (placeEntry s n e q).gate.fault = s.gate.fault ∧ (placeEntry s n e q).gate.dropped = s.gate.dropped ∧
    (placeEntry s n e q).gate.stage = s.gate.stage ∧ (placeEntry s n e q).gate.alarm = s.gate.alarm ∧
    (placeEntry s n e q).gate.doubleFault = s.gate.doubleFault ∧ (placeEntry s n e q).gate.timer = s.gate.timer ∧
    (placeEntry s n e q).gate.timerSub = s.gate.timerSub ∧ (placeEntry s n e q).gate.timerOn = s.gate.timerOn ∧
    (placeEntry s n e q).gate.alertN = s.gate.alertN ∧ (placeEntry s n e q).boot = s.boot ∧ (placeEntry s n e q).cel = s.cel ∧
    (placeEntry s n e q).pan = s.pan ∧ (placeEntry s n e q).hall = s.hall ∧ (placeEntry s n e q).prg = s.prg ∧
    (placeEntry s n e q).net = s.net ∧ (placeEntry s n e q).ftb = s.ftb ∧ (placeEntry s n e q).ice = s.ice ∧
    (placeEntry s n e q).hat = s.hat ∧ (placeEntry s n e q).bnd = s.bnd ∧ (placeEntry s n e q).par = s.par ∧
    (placeEntry s n e q).dec = s.dec ∧ (placeEntry s n e q).org = s.org ∧ (placeEntry s n e q).enc = s.enc ∧
    (placeEntry s n e q).dmb = s.dmb := by
  unfold placeEntry
  simp only
  repeat' split
  all_goals simp

@[simp] theorem pchErr_keeps (s : State) (b : Nat) :
    (pchErr s b).pending = s.pending ∧ (pchErr s b).cyc = s.cyc ∧ (pchErr s b).cnt = s.cnt ∧ (pchErr s b).hi = s.hi ∧
    (pchErr s b).objs = s.objs ∧ (pchErr s b).limits = s.limits ∧ (pchErr s b).porch.width = s.porch.width ∧
    (pchErr s b).porch.gen = s.porch.gen ∧ (pchErr s b).porch.d3hot = s.porch.d3hot ∧
    (pchErr s b).porch.pmeEn = s.porch.pmeEn ∧ (pchErr s b).porch.perst = s.porch.perst ∧ (pchErr s b).porch.sq = s.porch.sq ∧
    (pchErr s b).porch.flights = s.porch.flights ∧ (pchErr s b).porch.turn = s.porch.turn ∧
    (pchErr s b).porch.credit = s.porch.credit ∧ (pchErr s b).bell.levelStacks = s.bell.levelStacks ∧
    (pchErr s b).bell.eoiEmpty = s.bell.eoiEmpty ∧ (pchErr s b).bell.cfgErr = s.bell.cfgErr ∧
    (pchErr s b).bell.doneDenied = s.bell.doneDenied ∧ (pchErr s b).bell.double = s.bell.double ∧
    (pchErr s b).bell.levels = s.bell.levels ∧ (pchErr s b).bell.log = s.bell.log ∧
    (pchErr s b).bell.fullSaid = s.bell.fullSaid ∧ (pchErr s b).bell.fullHeld = s.bell.fullHeld ∧
    (pchErr s b).bell.alertWait = s.bell.alertWait ∧ (pchErr s b).blv = s.blv ∧ (pchErr s b).pwr.state = s.pwr.state ∧
    (pchErr s b).pwr.dom = s.pwr.dom ∧ (pchErr s b).pwr.rails = s.pwr.rails ∧ (pchErr s b).pwr.clamp = s.pwr.clamp ∧
    (pchErr s b).pwr.coolSince = s.pwr.coolSince ∧ (pchErr s b).pwr.temps = s.pwr.temps ∧
    (pchErr s b).pwr.railMv = s.pwr.railMv ∧ (pchErr s b).pwr.railMa = s.pwr.railMa ∧ (pchErr s b).pwr.job = s.pwr.job ∧
    (pchErr s b).pwr.waiting = s.pwr.waiting ∧ (pchErr s b).pwr.entering = s.pwr.entering ∧
    (pchErr s b).pwr.wakeEn = s.pwr.wakeEn ∧ (pchErr s b).pwr.notify = s.pwr.notify ∧
    (pchErr s b).pwr.savedDom = s.pwr.savedDom ∧ (pchErr s b).pwr.savedRails = s.pwr.savedRails ∧
    (pchErr s b).pwr.wakeN = s.pwr.wakeN ∧ (pchErr s b).pwr.telem = s.pwr.telem ∧ (pchErr s b).pwr.flashing = s.pwr.flashing ∧
    (pchErr s b).gate.vdd = s.gate.vdd ∧ (pchErr s b).gate.vddSince = s.gate.vddSince ∧
    (pchErr s b).gate.porst = s.gate.porst ∧ (pchErr s b).gate.straps = s.gate.straps ∧ (pchErr s b).gate.en = s.gate.en ∧
    (pchErr s b).gate.pg = s.gate.pg ∧ (pchErr s b).gate.step = s.gate.step ∧ (pchErr s b).gate.since = s.gate.since ∧
    (pchErr s b).gate.railsOk = s.gate.railsOk ∧ (pchErr s b).gate.lowering = s.gate.lowering ∧
    (pchErr s b).gate.fault = s.gate.fault ∧ (pchErr s b).gate.dropped = s.gate.dropped ∧
    (pchErr s b).gate.stage = s.gate.stage ∧ (pchErr s b).gate.alarm = s.gate.alarm ∧
    (pchErr s b).gate.doubleFault = s.gate.doubleFault ∧ (pchErr s b).gate.timer = s.gate.timer ∧
    (pchErr s b).gate.timerSub = s.gate.timerSub ∧ (pchErr s b).gate.timerOn = s.gate.timerOn ∧
    (pchErr s b).gate.alertN = s.gate.alertN ∧ (pchErr s b).boot = s.boot ∧ (pchErr s b).cel = s.cel ∧
    (pchErr s b).pan = s.pan ∧ (pchErr s b).hall = s.hall ∧ (pchErr s b).prg = s.prg ∧ (pchErr s b).net = s.net ∧
    (pchErr s b).ftb = s.ftb ∧ (pchErr s b).ice = s.ice ∧ (pchErr s b).hat = s.hat ∧ (pchErr s b).bnd = s.bnd ∧
    (pchErr s b).par = s.par ∧ (pchErr s b).dec = s.dec ∧ (pchErr s b).org = s.org ∧ (pchErr s b).enc = s.enc ∧
    (pchErr s b).dmb = s.dmb := by
  simp [pchErr]

@[simp] theorem pchErrQ_keeps (s : State) (b : Nat) (q : Bool) (n : Nat) :
    (pchErrQ s b q n).pending = s.pending ∧ (pchErrQ s b q n).cyc = s.cyc ∧ (pchErrQ s b q n).cnt = s.cnt ∧
    (pchErrQ s b q n).hi = s.hi ∧ (pchErrQ s b q n).objs = s.objs ∧ (pchErrQ s b q n).limits = s.limits ∧
    (pchErrQ s b q n).porch.width = s.porch.width ∧ (pchErrQ s b q n).porch.gen = s.porch.gen ∧
    (pchErrQ s b q n).porch.d3hot = s.porch.d3hot ∧ (pchErrQ s b q n).porch.pmeEn = s.porch.pmeEn ∧
    (pchErrQ s b q n).porch.perst = s.porch.perst ∧ (pchErrQ s b q n).porch.sq = s.porch.sq ∧
    (pchErrQ s b q n).porch.flights = s.porch.flights ∧ (pchErrQ s b q n).porch.turn = s.porch.turn ∧
    (pchErrQ s b q n).porch.credit = s.porch.credit ∧ (pchErrQ s b q n).bell.levelStacks = s.bell.levelStacks ∧
    (pchErrQ s b q n).bell.eoiEmpty = s.bell.eoiEmpty ∧ (pchErrQ s b q n).bell.cfgErr = s.bell.cfgErr ∧
    (pchErrQ s b q n).bell.doneDenied = s.bell.doneDenied ∧ (pchErrQ s b q n).bell.double = s.bell.double ∧
    (pchErrQ s b q n).bell.levels = s.bell.levels ∧ (pchErrQ s b q n).bell.log = s.bell.log ∧
    (pchErrQ s b q n).bell.fullSaid = s.bell.fullSaid ∧ (pchErrQ s b q n).bell.fullHeld = s.bell.fullHeld ∧
    (pchErrQ s b q n).bell.alertWait = s.bell.alertWait ∧ (pchErrQ s b q n).blv = s.blv ∧
    (pchErrQ s b q n).pwr.state = s.pwr.state ∧ (pchErrQ s b q n).pwr.dom = s.pwr.dom ∧
    (pchErrQ s b q n).pwr.rails = s.pwr.rails ∧ (pchErrQ s b q n).pwr.clamp = s.pwr.clamp ∧
    (pchErrQ s b q n).pwr.coolSince = s.pwr.coolSince ∧ (pchErrQ s b q n).pwr.temps = s.pwr.temps ∧
    (pchErrQ s b q n).pwr.railMv = s.pwr.railMv ∧ (pchErrQ s b q n).pwr.railMa = s.pwr.railMa ∧
    (pchErrQ s b q n).pwr.job = s.pwr.job ∧ (pchErrQ s b q n).pwr.waiting = s.pwr.waiting ∧
    (pchErrQ s b q n).pwr.entering = s.pwr.entering ∧ (pchErrQ s b q n).pwr.wakeEn = s.pwr.wakeEn ∧
    (pchErrQ s b q n).pwr.notify = s.pwr.notify ∧ (pchErrQ s b q n).pwr.savedDom = s.pwr.savedDom ∧
    (pchErrQ s b q n).pwr.savedRails = s.pwr.savedRails ∧ (pchErrQ s b q n).pwr.wakeN = s.pwr.wakeN ∧
    (pchErrQ s b q n).pwr.telem = s.pwr.telem ∧ (pchErrQ s b q n).pwr.flashing = s.pwr.flashing ∧
    (pchErrQ s b q n).gate.vdd = s.gate.vdd ∧ (pchErrQ s b q n).gate.vddSince = s.gate.vddSince ∧
    (pchErrQ s b q n).gate.porst = s.gate.porst ∧ (pchErrQ s b q n).gate.straps = s.gate.straps ∧
    (pchErrQ s b q n).gate.en = s.gate.en ∧ (pchErrQ s b q n).gate.pg = s.gate.pg ∧
    (pchErrQ s b q n).gate.step = s.gate.step ∧ (pchErrQ s b q n).gate.since = s.gate.since ∧
    (pchErrQ s b q n).gate.railsOk = s.gate.railsOk ∧ (pchErrQ s b q n).gate.lowering = s.gate.lowering ∧
    (pchErrQ s b q n).gate.fault = s.gate.fault ∧ (pchErrQ s b q n).gate.dropped = s.gate.dropped ∧
    (pchErrQ s b q n).gate.stage = s.gate.stage ∧ (pchErrQ s b q n).gate.alarm = s.gate.alarm ∧
    (pchErrQ s b q n).gate.doubleFault = s.gate.doubleFault ∧ (pchErrQ s b q n).gate.timer = s.gate.timer ∧
    (pchErrQ s b q n).gate.timerSub = s.gate.timerSub ∧ (pchErrQ s b q n).gate.timerOn = s.gate.timerOn ∧
    (pchErrQ s b q n).gate.alertN = s.gate.alertN ∧ (pchErrQ s b q n).boot = s.boot ∧ (pchErrQ s b q n).cel = s.cel ∧
    (pchErrQ s b q n).pan = s.pan ∧ (pchErrQ s b q n).hall = s.hall ∧ (pchErrQ s b q n).prg = s.prg ∧
    (pchErrQ s b q n).net = s.net ∧ (pchErrQ s b q n).ftb = s.ftb ∧ (pchErrQ s b q n).ice = s.ice ∧
    (pchErrQ s b q n).hat = s.hat ∧ (pchErrQ s b q n).bnd = s.bnd ∧ (pchErrQ s b q n).par = s.par ∧
    (pchErrQ s b q n).dec = s.dec ∧ (pchErrQ s b q n).org = s.org ∧ (pchErrQ s b q n).enc = s.enc ∧
    (pchErrQ s b q n).dmb = s.dmb := by
  simp [pchErrQ]

/-- Producing an event. -/
@[simp] theorem event_keeps (s : State) (code : BitVec 16) (obj r0 r1 r2 r3 : Word) :
    (event s code obj r0 r1 r2 r3).pending = s.pending ∧ (event s code obj r0 r1 r2 r3).out = s.out ∧
    (event s code obj r0 r1 r2 r3).free = s.free ∧ (event s code obj r0 r1 r2 r3).cyc = s.cyc ∧
    (event s code obj r0 r1 r2 r3).regs = s.regs ∧ (event s code obj r0 r1 r2 r3).cnt = s.cnt ∧
    (event s code obj r0 r1 r2 r3).hi = s.hi ∧ (event s code obj r0 r1 r2 r3).objs = s.objs ∧
    (event s code obj r0 r1 r2 r3).limits = s.limits ∧ (event s code obj r0 r1 r2 r3).porch.link = s.porch.link ∧
    (event s code obj r0 r1 r2 r3).porch.width = s.porch.width ∧ (event s code obj r0 r1 r2 r3).porch.gen = s.porch.gen ∧
    (event s code obj r0 r1 r2 r3).porch.d3hot = s.porch.d3hot ∧ (event s code obj r0 r1 r2 r3).porch.pmeEn = s.porch.pmeEn ∧
    (event s code obj r0 r1 r2 r3).porch.pmeStatus = s.porch.pmeStatus ∧
    (event s code obj r0 r1 r2 r3).porch.wakeActive = s.porch.wakeActive ∧
    (event s code obj r0 r1 r2 r3).porch.wakeN = s.porch.wakeN ∧ (event s code obj r0 r1 r2 r3).porch.perst = s.porch.perst ∧
    (event s code obj r0 r1 r2 r3).porch.sq = s.porch.sq ∧ (event s code obj r0 r1 r2 r3).porch.cq = s.porch.cq ∧
    (event s code obj r0 r1 r2 r3).porch.held = s.porch.held ∧
    (event s code obj r0 r1 r2 r3).porch.flights = s.porch.flights ∧
    (event s code obj r0 r1 r2 r3).porch.turn = s.porch.turn ∧ (event s code obj r0 r1 r2 r3).porch.credit = s.porch.credit ∧
    (event s code obj r0 r1 r2 r3).porch.pba = s.porch.pba ∧ (event s code obj r0 r1 r2 r3).bell = s.bell ∧
    (event s code obj r0 r1 r2 r3).blv = s.blv ∧ (event s code obj r0 r1 r2 r3).pwr = s.pwr ∧
    (event s code obj r0 r1 r2 r3).gate = s.gate ∧ (event s code obj r0 r1 r2 r3).boot = s.boot ∧
    (event s code obj r0 r1 r2 r3).cel = s.cel ∧ (event s code obj r0 r1 r2 r3).pan = s.pan ∧
    (event s code obj r0 r1 r2 r3).hall = s.hall ∧ (event s code obj r0 r1 r2 r3).prg = s.prg ∧
    (event s code obj r0 r1 r2 r3).net = s.net ∧ (event s code obj r0 r1 r2 r3).ftb = s.ftb ∧
    (event s code obj r0 r1 r2 r3).ice = s.ice ∧ (event s code obj r0 r1 r2 r3).hat = s.hat ∧
    (event s code obj r0 r1 r2 r3).bnd = s.bnd ∧ (event s code obj r0 r1 r2 r3).par = s.par ∧
    (event s code obj r0 r1 r2 r3).dec = s.dec ∧ (event s code obj r0 r1 r2 r3).org = s.org ∧
    (event s code obj r0 r1 r2 r3).enc = s.enc ∧ (event s code obj r0 r1 r2 r3).dmb = s.dmb := by
  simp [event, eventSt]

/-- Completing a command. -/
@[simp] theorem complete_keeps (s : State) (op : BitVec 16) (c : Cmd) (st : Status) (r0 r1 r2 r3 : Word) :
    (complete s op c st r0 r1 r2 r3).pending = s.pending ∧ (complete s op c st r0 r1 r2 r3).cyc = s.cyc ∧
    (complete s op c st r0 r1 r2 r3).cnt = s.cnt ∧ (complete s op c st r0 r1 r2 r3).hi = s.hi ∧
    (complete s op c st r0 r1 r2 r3).objs = s.objs ∧ (complete s op c st r0 r1 r2 r3).limits = s.limits ∧
    (complete s op c st r0 r1 r2 r3).porch.width = s.porch.width ∧ (complete s op c st r0 r1 r2 r3).porch.gen = s.porch.gen ∧
    (complete s op c st r0 r1 r2 r3).porch.d3hot = s.porch.d3hot ∧
    (complete s op c st r0 r1 r2 r3).porch.pmeEn = s.porch.pmeEn ∧
    (complete s op c st r0 r1 r2 r3).porch.perst = s.porch.perst ∧ (complete s op c st r0 r1 r2 r3).porch.sq = s.porch.sq ∧
    (complete s op c st r0 r1 r2 r3).porch.turn = s.porch.turn ∧
    (complete s op c st r0 r1 r2 r3).porch.credit = s.porch.credit ∧
    (complete s op c st r0 r1 r2 r3).bell.levelStacks = s.bell.levelStacks ∧
    (complete s op c st r0 r1 r2 r3).bell.eoiEmpty = s.bell.eoiEmpty ∧
    (complete s op c st r0 r1 r2 r3).bell.cfgErr = s.bell.cfgErr ∧
    (complete s op c st r0 r1 r2 r3).bell.doneDenied = s.bell.doneDenied ∧
    (complete s op c st r0 r1 r2 r3).bell.double = s.bell.double ∧
    (complete s op c st r0 r1 r2 r3).bell.levels = s.bell.levels ∧ (complete s op c st r0 r1 r2 r3).bell.log = s.bell.log ∧
    (complete s op c st r0 r1 r2 r3).bell.fullSaid = s.bell.fullSaid ∧
    (complete s op c st r0 r1 r2 r3).bell.fullHeld = s.bell.fullHeld ∧
    (complete s op c st r0 r1 r2 r3).bell.alertWait = s.bell.alertWait ∧ (complete s op c st r0 r1 r2 r3).blv = s.blv ∧
    (complete s op c st r0 r1 r2 r3).pwr.state = s.pwr.state ∧ (complete s op c st r0 r1 r2 r3).pwr.dom = s.pwr.dom ∧
    (complete s op c st r0 r1 r2 r3).pwr.rails = s.pwr.rails ∧ (complete s op c st r0 r1 r2 r3).pwr.clamp = s.pwr.clamp ∧
    (complete s op c st r0 r1 r2 r3).pwr.coolSince = s.pwr.coolSince ∧
    (complete s op c st r0 r1 r2 r3).pwr.temps = s.pwr.temps ∧ (complete s op c st r0 r1 r2 r3).pwr.railMv = s.pwr.railMv ∧
    (complete s op c st r0 r1 r2 r3).pwr.railMa = s.pwr.railMa ∧ (complete s op c st r0 r1 r2 r3).pwr.job = s.pwr.job ∧
    (complete s op c st r0 r1 r2 r3).pwr.waiting = s.pwr.waiting ∧
    (complete s op c st r0 r1 r2 r3).pwr.entering = s.pwr.entering ∧
    (complete s op c st r0 r1 r2 r3).pwr.wakeEn = s.pwr.wakeEn ∧ (complete s op c st r0 r1 r2 r3).pwr.notify = s.pwr.notify ∧
    (complete s op c st r0 r1 r2 r3).pwr.savedDom = s.pwr.savedDom ∧
    (complete s op c st r0 r1 r2 r3).pwr.savedRails = s.pwr.savedRails ∧
    (complete s op c st r0 r1 r2 r3).pwr.wakeN = s.pwr.wakeN ∧ (complete s op c st r0 r1 r2 r3).pwr.telem = s.pwr.telem ∧
    (complete s op c st r0 r1 r2 r3).pwr.flashing = s.pwr.flashing ∧ (complete s op c st r0 r1 r2 r3).gate.vdd = s.gate.vdd ∧
    (complete s op c st r0 r1 r2 r3).gate.vddSince = s.gate.vddSince ∧
    (complete s op c st r0 r1 r2 r3).gate.porst = s.gate.porst ∧
    (complete s op c st r0 r1 r2 r3).gate.straps = s.gate.straps ∧ (complete s op c st r0 r1 r2 r3).gate.en = s.gate.en ∧
    (complete s op c st r0 r1 r2 r3).gate.pg = s.gate.pg ∧ (complete s op c st r0 r1 r2 r3).gate.step = s.gate.step ∧
    (complete s op c st r0 r1 r2 r3).gate.since = s.gate.since ∧
    (complete s op c st r0 r1 r2 r3).gate.railsOk = s.gate.railsOk ∧
    (complete s op c st r0 r1 r2 r3).gate.lowering = s.gate.lowering ∧
    (complete s op c st r0 r1 r2 r3).gate.fault = s.gate.fault ∧
    (complete s op c st r0 r1 r2 r3).gate.dropped = s.gate.dropped ∧
    (complete s op c st r0 r1 r2 r3).gate.stage = s.gate.stage ∧ (complete s op c st r0 r1 r2 r3).gate.alarm = s.gate.alarm ∧
    (complete s op c st r0 r1 r2 r3).gate.doubleFault = s.gate.doubleFault ∧
    (complete s op c st r0 r1 r2 r3).gate.timer = s.gate.timer ∧
    (complete s op c st r0 r1 r2 r3).gate.timerSub = s.gate.timerSub ∧
    (complete s op c st r0 r1 r2 r3).gate.timerOn = s.gate.timerOn ∧
    (complete s op c st r0 r1 r2 r3).gate.alertN = s.gate.alertN ∧ (complete s op c st r0 r1 r2 r3).boot = s.boot ∧
    (complete s op c st r0 r1 r2 r3).cel = s.cel ∧ (complete s op c st r0 r1 r2 r3).pan = s.pan ∧
    (complete s op c st r0 r1 r2 r3).hall = s.hall ∧ (complete s op c st r0 r1 r2 r3).prg = s.prg ∧
    (complete s op c st r0 r1 r2 r3).net = s.net ∧ (complete s op c st r0 r1 r2 r3).ftb = s.ftb ∧
    (complete s op c st r0 r1 r2 r3).ice = s.ice ∧ (complete s op c st r0 r1 r2 r3).hat = s.hat ∧
    (complete s op c st r0 r1 r2 r3).bnd = s.bnd ∧ (complete s op c st r0 r1 r2 r3).par = s.par ∧
    (complete s op c st r0 r1 r2 r3).dec = s.dec ∧ (complete s op c st r0 r1 r2 r3).org = s.org ∧
    (complete s op c st r0 r1 r2 r3).enc = s.enc ∧ (complete s op c st r0 r1 r2 r3).dmb = s.dmb := by
  unfold complete
  repeat' split
  all_goals simp

@[simp] theorem finish_keeps (s : State) (op : BitVec 16) (c : Cmd) (st : Status) :
    (finish s op c st).pending = s.pending ∧ (finish s op c st).cyc = s.cyc ∧ (finish s op c st).cnt = s.cnt ∧
    (finish s op c st).hi = s.hi ∧ (finish s op c st).objs = s.objs ∧ (finish s op c st).limits = s.limits ∧
    (finish s op c st).porch.width = s.porch.width ∧ (finish s op c st).porch.gen = s.porch.gen ∧
    (finish s op c st).porch.d3hot = s.porch.d3hot ∧ (finish s op c st).porch.pmeEn = s.porch.pmeEn ∧
    (finish s op c st).porch.perst = s.porch.perst ∧ (finish s op c st).porch.sq = s.porch.sq ∧
    (finish s op c st).porch.turn = s.porch.turn ∧ (finish s op c st).porch.credit = s.porch.credit ∧
    (finish s op c st).bell.levelStacks = s.bell.levelStacks ∧ (finish s op c st).bell.eoiEmpty = s.bell.eoiEmpty ∧
    (finish s op c st).bell.cfgErr = s.bell.cfgErr ∧ (finish s op c st).bell.doneDenied = s.bell.doneDenied ∧
    (finish s op c st).bell.double = s.bell.double ∧ (finish s op c st).bell.levels = s.bell.levels ∧
    (finish s op c st).bell.log = s.bell.log ∧ (finish s op c st).bell.fullSaid = s.bell.fullSaid ∧
    (finish s op c st).bell.fullHeld = s.bell.fullHeld ∧ (finish s op c st).bell.alertWait = s.bell.alertWait ∧
    (finish s op c st).blv = s.blv ∧ (finish s op c st).pwr.state = s.pwr.state ∧ (finish s op c st).pwr.dom = s.pwr.dom ∧
    (finish s op c st).pwr.rails = s.pwr.rails ∧ (finish s op c st).pwr.clamp = s.pwr.clamp ∧
    (finish s op c st).pwr.coolSince = s.pwr.coolSince ∧ (finish s op c st).pwr.temps = s.pwr.temps ∧
    (finish s op c st).pwr.railMv = s.pwr.railMv ∧ (finish s op c st).pwr.railMa = s.pwr.railMa ∧
    (finish s op c st).pwr.job = s.pwr.job ∧ (finish s op c st).pwr.waiting = s.pwr.waiting ∧
    (finish s op c st).pwr.entering = s.pwr.entering ∧ (finish s op c st).pwr.wakeEn = s.pwr.wakeEn ∧
    (finish s op c st).pwr.notify = s.pwr.notify ∧ (finish s op c st).pwr.savedDom = s.pwr.savedDom ∧
    (finish s op c st).pwr.savedRails = s.pwr.savedRails ∧ (finish s op c st).pwr.wakeN = s.pwr.wakeN ∧
    (finish s op c st).pwr.telem = s.pwr.telem ∧ (finish s op c st).pwr.flashing = s.pwr.flashing ∧
    (finish s op c st).gate.vdd = s.gate.vdd ∧ (finish s op c st).gate.vddSince = s.gate.vddSince ∧
    (finish s op c st).gate.porst = s.gate.porst ∧ (finish s op c st).gate.straps = s.gate.straps ∧
    (finish s op c st).gate.en = s.gate.en ∧ (finish s op c st).gate.pg = s.gate.pg ∧
    (finish s op c st).gate.step = s.gate.step ∧ (finish s op c st).gate.since = s.gate.since ∧
    (finish s op c st).gate.railsOk = s.gate.railsOk ∧ (finish s op c st).gate.lowering = s.gate.lowering ∧
    (finish s op c st).gate.fault = s.gate.fault ∧ (finish s op c st).gate.dropped = s.gate.dropped ∧
    (finish s op c st).gate.stage = s.gate.stage ∧ (finish s op c st).gate.alarm = s.gate.alarm ∧
    (finish s op c st).gate.doubleFault = s.gate.doubleFault ∧ (finish s op c st).gate.timer = s.gate.timer ∧
    (finish s op c st).gate.timerSub = s.gate.timerSub ∧ (finish s op c st).gate.timerOn = s.gate.timerOn ∧
    (finish s op c st).gate.alertN = s.gate.alertN ∧ (finish s op c st).boot = s.boot ∧ (finish s op c st).cel = s.cel ∧
    (finish s op c st).pan = s.pan ∧ (finish s op c st).hall = s.hall ∧ (finish s op c st).prg = s.prg ∧
    (finish s op c st).net = s.net ∧ (finish s op c st).ftb = s.ftb ∧ (finish s op c st).ice = s.ice ∧
    (finish s op c st).hat = s.hat ∧ (finish s op c st).bnd = s.bnd ∧ (finish s op c st).par = s.par ∧
    (finish s op c st).dec = s.dec ∧ (finish s op c st).org = s.org ∧ (finish s op c st).enc = s.enc ∧
    (finish s op c st).dmb = s.dmb := by
  simp [finish]

end Sys2Proof.Machine
end

