-- ==== Sys2Proof/Tests/Slice0.lean ====
section
/-!
SUPPORT. The model's own tests: what is ill formed is refused, small steps on small states, and for every statement with
hypotheses a state and operands that meet them, clause by clause.
-/
namespace Sys2Proof.Tests

open Sys2Proof Sys2Proof.Machine Host

/-- A device in Run: booted, every domain on, the link in L0. -/
def live : State :=
  { State.reset with
    porch := { link := .l0, perst := false }
    pwr := { State.reset.pwr with dom := BitVec.allOnes 80 }
    gate := { State.reset.gate with porst := true, step := 7, en := 15, pg := 15 }
    boot := { State.reset.boot with ready := true }
    regs := [(0x0010_0000, 3)] }

/-- The same device in Sleep, in Idle, with its link in L1, with its link down. -/
def asleep : State := { live with pwr := { live.pwr with state := 3 } }
def idle : State := { live with pwr := { live.pwr with state := 1 } }
def inL1 : State := { live with porch := { live.porch with link := .l1 } }
def linkDown : State := { live with porch := { live.porch with link := .down } }

/-- A packet of `len` units for an object, its parameter words from word 4 on. -/
def cmd (len obj : Nat) (par : List Word) : Cmd :=
  { sq := 1, tag := 7, w1 := BitVec.ofNat 32 len, obj := BitVec.ofNat 32 obj, w3 := 0, par := par }

/-- The same device with an object in a state. -/
def put (s : State) (range num : Nat) (st : ObjState) : State := s.setObj (objKey range num) { st := st }

/-- The same device at another TB0. -/
def atTb0 (s : State) (t : Nat) : State := { s with blv := { s.blv with tb0 := BitVec.ofNat 64 t } }

/-- The same device after so many CK_CT cycles. -/
def atCyc (s : State) (t : Nat) : State := { s with cyc := t }

/-- What exec answers, where it answers a state. -/
def after (i : Instr) (s : State) : State :=
  match exec i s with
  | .next t => t
  | _ => s

/-- An audio stream of a leg in (0) or a video stream in (1) or out (2). -/
def streamCfg (send : Bool) (kind : Nat) (ssrc : Word) : StreamCfg :=
  { send := send, kind := kind, ssrc := ssrc, pt := 96 + kind, rtxOf := 0, clock := if kind = 0 then 48000 else 90000,
    jbMin := 1411200, jbMax := 14112000, jbInit := 2822400, jbK := 0x40, jbShrink := 1411200, jbSilence := 40 }

def legCfg : LegCfg :=
  { conf := 0, port := 0, addr := 0, udp := 5000, static := false, rejoin := false, ccfb := true, nack := true, consent := 2116800000,
    silence := 705600000, remote := 0, remoteUdp := 0, levelId := 1, ddId := 2, rtcp := 70560000 }

def bankCfg : BankCfg :=
  { master := true, rate := 8, slots := 8, width := 32, offset := 0, fsPol := false, bclkPol := false, fsWidth := 0, bits := 256, ramp := 4 }

/-- The device with one of each thing configured: port 0 RUNNING with an address, leg 3 with its streams, slot, canvas, encoding and
subscription 0, engine 0 reserved, bank 0, the Footbridge RUNNING with link 1. -/
def house : State :=
  let s := { live with
    net := { live.net with
      ports := [(0, { cfg := some { fec := 0, maxFrame := 1522, mac := 2, untagged := true, vids := [] }
                      addrs := [(0, { ip := ⟨false, 0x0A000001⟩, vid := 0, hop := 3 })]
                      linkUp := true, fecLock := true, blockLock := true })]
      sets := [(3, { cfg := some legCfg
                     cred := some { lfrag := [1, 2, 3, 4], rfrag := [5, 6, 7, 8], pwd := [9] }
                     streams := [(0, streamCfg false 0 0x100), (1, streamCfg false 1 0x200), (2, streamCfg true 1 0x300)] })] }
    dec := { live.dec with cfgs := [(0, { leg := 3, stream := 1 })] }
    enc := { live.enc with sets := [(0, { streams := [(0, ⟨0x400, 97, 0, 1200, 0⟩)] })] }
    dmb := { live.dmb with cfgs := [(0, { dest := 3, destIdx := 2 })] }
    par := { live.par with engines := [(0, { reserved := true })] }
    ftb := { live.ftb with
      cfg := some { vid := 5, port := 0, bridge := 9, keyBase := 0, epoch := 1, mixDelay := 2, da := 0x0300_0000_F800 }
      links := [(1, ⟨7, 2, true, true⟩)] }
    hat := { live.hat with cfgs := [(0, bankCfg)] } }
  put (put s 4 0x10000 .running) 0x0E 0x10000 .running

def zeros (n : Nat) : List Word := List.replicate n 0

/-! ## What is ill formed -/

/-- A packet of LEN 1 with its twelve parameter words. -/
def whole (par : List Word) : Cmd := cmd 1 0 (par ++ List.replicate (12 - par.length) 0)

/-- A packet that lacks its last parameter word. -/
def short : Cmd := cmd 1 0 (List.replicate 11 0)

theorem test_wellFormed_packets :
    (Instr.nop (whole [])).wellFormed = true ∧ (Instr.nop short).wellFormed = false ∧
    (Instr.commandFetch 0 ⟨0x7 :: 1 :: List.replicate 14 0, []⟩ none).wellFormed = true ∧
    (Instr.commandFetch 0 ⟨0x7 :: 2 :: List.replicate 14 0, []⟩ none).wellFormed = false ∧
    (Instr.hostTransferError 0x0912 (whole [])).wellFormed = true ∧ (Instr.hostTransferError 0x0912 short).wellFormed = false ∧
    (Instr.keyWindowTimeout 0x0510 (whole [])).wellFormed = true ∧ (Instr.keyWindowTimeout 0x0510 short).wellFormed = false := by
  (repeat' apply And.intro) <;> decide

theorem test_wellFormed_transfers :
    (Instr.frameSend (whole [0, 0, 2]) [1, 2]).wellFormed = true ∧ (Instr.frameSend (whole [0, 0, 2]) [1]).wellFormed = false ∧
    (Instr.engLoad (whole [0, 0, 0, 2]) [1, 2]).wellFormed = true ∧ (Instr.engLoad (whole [0, 0, 0, 2]) [1]).wellFormed = false ∧
    (Instr.engWrite (whole [0, 0, 0, 0, 2]) [1, 2]).wellFormed = true ∧ (Instr.engWrite (whole [0, 0, 0, 0, 2]) [1]).wellFormed = false ∧
    (Instr.orgImageLoad (whole [0, 0, 0, 0x0001_0001]) [1, 2, 3, 4]).wellFormed = true ∧
    (Instr.orgImageLoad (whole [0, 0, 0, 0x0001_0001]) []).wellFormed = false ∧
    (Instr.flashWrite (whole [0, 0, 0, 2]) [1, 2] true).wellFormed = true ∧
    (Instr.flashWrite (whole [0, 0, 0, 2]) [] true).wellFormed = false := by
  (repeat' apply And.intro) <;> decide

theorem test_wellFormed_registers :
    (Instr.hostTlpRefused true 4 1 false).wellFormed = true ∧ (Instr.hostTlpRefused true 2 1 false).wellFormed = false ∧
    (Instr.hostTlpRefused true 4 0 false).wellFormed = false ∧
    (Instr.registerWrite .host 4 0).wellFormed = true ∧ (Instr.registerWrite .host 5 0).wellFormed = false ∧
    (Instr.rcRegisterRead .host 4).wellFormed = true ∧ (Instr.rcRegisterRead .host 6).wellFormed = false ∧
    (Instr.counterLowRead .host 4).wellFormed = true ∧ (Instr.counterLowRead .host 7).wellFormed = false ∧
    (Instr.firstHostBar0Read 4).wellFormed = true ∧ (Instr.firstHostBar0Read 1).wellFormed = false ∧
    (Instr.iceWindowRead .host 4).wellFormed = true ∧ (Instr.iceWindowRead .host 3).wellFormed = false := by
  (repeat' apply And.intro) <;> decide

/-- A record of a mix, and a frame that carries so many of them. -/
def mixRec (n : Nat) : MixRec := { ccid := 0, channel := 0, exp := 0, level := 0, samples := List.replicate n 0 }

def mixFrame (l : List MixRec) : MixFrame := { bridge := 9, src := 4, dst := 0, counter := 0, auth := true, block := 0, recs := l }

def line (pa : Word) : MemReq := { write := false, cls := 0, unit := 0, pa := pa, data := [] }

theorem test_wellFormed_supplied :
    (Instr.audioDecodeDone 0 [(8388607, -8388608)] false).wellFormed = true ∧
    (Instr.audioDecodeDone 0 [(8388608, 0)] false).wellFormed = false ∧
    (Instr.rxEntryWrite 0 [[-8388608]] false).wellFormed = true ∧ (Instr.rxEntryWrite 0 [[-8388609]] false).wellFormed = false ∧
    (Instr.hatchBlockStart 0 [⟨0, 1, 1, [[5]]⟩] false).wellFormed = true ∧
    (Instr.hatchBlockStart 0 [⟨0, 1, 1, [[8388608]]⟩] false).wellFormed = false ∧
    (Instr.mixFrameReceived (mixFrame [mixRec 48])).wellFormed = true ∧
    (Instr.mixFrameReceived (mixFrame [mixRec 47])).wellFormed = false ∧
    (Instr.mixFrameReceived (mixFrame (List.replicate 10 (mixRec 48)))).wellFormed = false ∧
    (Instr.temperatureSample [1, 2, 3, 4, 5, 6, 7, 8, 9]).wellFormed = true ∧ (Instr.temperatureSample [1]).wellFormed = false ∧
    (Instr.memoryRequestIssue 0 [line 64]).wellFormed = true ∧ (Instr.memoryRequestIssue 0 [line 32]).wellFormed = false := by
  (repeat' apply And.intro) <;> decide

/-! ## The queue -/

theorem test_reset_queue : State.reset.pending = [] := rfl

theorem test_no_word_spells_a_command (n w : Nat) : decodeTableWord n w = none ∧ State.reset.withFetchWord n w = State.reset :=
  ⟨rfl, rfl⟩

/-! ## Worked examples of the manual -/

/-- R231's frames at 44.1 kHz: 45 in block 0, 44 in block 1, 441 in ten blocks. -/
theorem test_block_frames : blockFrames (ratePeriod 7) 0 = 45 ∧ blockFrames (ratePeriod 7) 1 = 44 ∧
    firstFrame (ratePeriod 7) 10 = 441 := by decide

/-- R102's example: four times 200,000 ct rounds up to 846,720 ct. -/
theorem test_jitter_rounds_up : ceilMs (0x400 * 200000 / 256) = 846720 ∧ 846720 + ceilMs 100000 = 987840 := by decide

/-- Addresses that the manual works out: hatch 18's MASKGO, bank 2's STAT, canvas 61's FULL8. -/
theorem test_addresses : hatchA 18 8 = 0x00E1_0488 ∧ bankA 2 0 = 0x00E0_1080 ∧ gleCanvA 61 (0x30 + 8 * 4) = 0x0127_03D0 := by
  decide

/-- Slot 203's PROGRESS once every band of frame 1006 is written. -/
theorem test_progress : fenceWord 1006 31 = 0x0000_7DDF := by decide

/-- The encode chapter's example, 1080p30 in L3T3: its reservations, its rates and the budget of its frame 1000. -/
def l3t3 : EncSet :=
  let lay (b : Nat) : EncLayer := { bitrate := b, buf := 14112000, ts0 := 50, ts1 := 20 }
  { cfg := { codec := 2, mode := 0, spatial := 3, temporal := 3 }, layers := [(0, lay 300000), (1, lay 700000), (2, lay 2000000)] }

theorem test_encoding :
    l3t3.pxRate { w := 1920, h := 1080, rate := 3 } = 81648000 ∧ l3t3.cfg.pages 1920 1080 = 260 ∧
    (l3t3.rate 2 0, l3t3.rate 2 1, l3t3.rate 2 2) = (1500000, 2100000, 3000000) ∧ l3t3.buf 2 1 = 420000 ∧
    EncRun.budget { w := 1920, h := 1080, rate := 3, full := [(6, 200000), (7, 250000), (8, 330000)] } l3t3 2 0 false = 100000 ∧
    floorFrom true false 1920 1080 17 14 = 552 ∧ reserveOf 100000 = 625 := by
  (repeat' apply And.intro) <;> decide

/-- The load ladder's example: u reaches 655 at block 1,002 and the step rises to L2. -/
theorem test_ladder :
    (after .loadSample (atTb0 { live with hall := { live.hall with step := 1, computed := 1, genUse := 655 * 124 } } 70701120)).hall.step = 2 := by
  decide

/-- The Dumbwaiter's example: an estimate of 1,700 kbit/s less 64 of audio admits R(5) of 1,100, not R(6) of 1,650. -/
theorem test_targets :
    let s := ((put live 0x0C 0 .running).setEncSet 0 l3t3).setSubCfg 0 { headroom := 10, maxS := 2, maxT := 2 }
    passOne s [0] 1636 = (1471, [(0, some (0, 165))]) ∧ passTwo s [(0, some (0, 165))] 1471 = [(0, some (5, 1100))] := by
  decide

theorem witness_StepRunsTheFrontCommand :
    live.pending = [] ∧ (∀ f ∈ live.porch.flights, f.started = true ∨ badStatus f.op f.c = none) ∧ live.gate.step = 7 ∧
    live.pwr.wake = none ∧ live.gate.porst = true ∧ live.timeOn = true := by
  decide

/-- A NOP with FENCE, one with BARRIER, one whose word 3 is not 0, and one that is too long. -/
def fenceNop : Cmd := { cmd 1 0 [] with w1 := 0x101 }
def barrierNop : Cmd := { cmd 1 0 [] with w1 := 0x201 }
def wrongNop : Cmd := { cmd 1 0 [] with w3 := 1 }
def longNop : Cmd := cmd 2 0 []

/-- Two commands of one queue: the first runs, the second waits for it. -/
def fenced : State :=
  { live with porch := { live.porch with flights :=
      [⟨0x0210, cmd 1 1 [1], true, false, 1⟩, ⟨0x0000, fenceNop, false, false, 1⟩] } }

theorem witness_EveryPacketIsCheckedInOrder :
    (mayStart fenced 0x0000 fenceNop = false ∧ ∃ p, (Instr.nop fenceNop).packet = some p ∧ p.op = 0x0000 ∧ p.c = fenceNop) ∧
    (∃ p, (Instr.nop longNop).packet = some p ∧ mayStart live p.op p.c = true ∧ live.paused = false ∧ p.lenHi < p.c.len) ∧
    (∃ p, (Instr.nop wrongNop).packet = some p ∧ mayStart live p.op p.c = true ∧ live.paused = false ∧ p.lenLo ≤ p.c.len ∧
      p.c.len ≤ p.lenHi ∧ p.c.headerOk = false) := by
  exact ⟨⟨by decide, _, rfl, rfl, rfl⟩, ⟨_, rfl, by decide, by decide, by decide⟩,
    ⟨_, rfl, by decide, by decide, by decide, by decide, by decide⟩⟩

theorem witness_FenceAndBarrierOrderOneQueue :
    (fenced.porch.flights = [⟨0x0210, cmd 1 1 [1], true, false, 1⟩] ++ ⟨0x0000, fenceNop, false, false, 1⟩ :: [] ∧
      fenceNop.fence = true ∧ fenceNop.sq = 1 ∧ (∃ p, (Instr.nop fenceNop).packet = some p ∧ p.op = 0x0000 ∧ p.c = fenceNop)) ∧
    (barrierNop.barrier = true ∧ barrierNop.fence = false) ∧
    ((cmd 1 0 []).fence = false ∧ ({ cmd 1 0 [] with sq := 2 } : Cmd).sq ≠ (cmd 1 0 []).sq) ∧
    (sameObject 0x0000 (cmd 1 0 []) ⟨0x0210, cmd 1 1 [1], true, false, 1⟩ = false ∧ (cmd 1 1 [1]).barrier = false) := by
  exact ⟨⟨by decide, by decide, by decide, _, rfl, rfl, rfl⟩, by decide, by decide, by decide⟩

theorem witness_EveryStepKeepsTheInvariant : State.reset.Inv ∧ live.Inv ∧
    { live with bell := { live.bell with levelStacks := [(20, [1, 2, 3])] } }.Inv := by
  (repeat' apply And.intro) <;> decide

namespace W01

/-- Submission queue 1 and completion queue 1 enabled and bound, an event queue 2 that every event of range 0 goes to, one completion
produced. -/
def queued : State :=
  let s := ((((live.setReg (sqCfgA 1) 0x8000_0104).setReg (cqCfgA 1) 0x8000_0004).setReg (cqCfgA 2) 0x8000_0104).setReg 0x0010_0020 0x82).setSq 1 { tail := 3, idle := false }
  (s.answer ⟨0x0000, cmd 1 0 [], 1, 1⟩ stOk).setCq 2 { lostSince := 4, timer := some 9, modTime := 8 }

/-- The same queues with the link in L1, in D3hot, with an event produced, with vectors unmasked. -/
def queuedIn (l : Link) : State := { queued with porch := { queued.porch with link := l } }

def queuedD3 (s : State) : State := { s with porch := { s.porch with d3hot := true } }

def eventEntry : Entry :=
  { evt := true, sq := 0, code := 0x0002, tag := 0, status := 0, obj := 5, r0 := 1, r1 := 0, r2 := 0, r3 := 0, time := 9, wake := false }

def eventNext : State := { queued.setCq 2 {} with porch := { (queued.setCq 2 {}).porch with produced := [eventEntry] } }

/-- Just woken, with an engine reserved; asleep with PERST_N asserted and every wake source enabled; entries held in L1. -/
def justWoken : State :=
  { live with
    pwr := { live.pwr with wakeN := true }
    par := { live.par with engines := [(0, { reserved := true })] } }

def perstLow : State := { State.reset with pwr := { State.reset.pwr with state := 2, wakeEn := 0x7F } }

def nopWords (len : Nat) : List Word := [0x7, BitVec.ofNat 32 len, 0, 0]

def ports1 : State := { put house 4 0x10000 .running with porch := { house.porch with d3hot := false }, org := house.org }

theorem witness_SystemCommandsCompleteAtOnce :
    ((cmd 1 0 []).num = 0 ∧ queued.takes { op := 0, c := cmd 1 0 [] }) ∧
    ((cmd 1 0 []).num = 0 ∧ queued.takes { op := 4, c := cmd 1 0 [] }) := by
  (repeat' first | apply And.intro | refine ⟨_, rfl, ?_⟩ | refine ⟨_, _, rfl, ?_⟩ | refine ⟨_, _, _, rfl, ?_⟩ | exact ⟨_, rfl⟩ | exact ⟨_, _, rfl⟩ |
    exact ⟨_, _, _, rfl⟩ | fail) <;> decide

theorem witness_AFetchedCommandEntersFlight :
    (queued.fetching = true ∧
        ∃ s',
          s' = belSignal (leaveL1 queued) ∧
            queued.fetchable 1 = true ∧
              (packetCmd 1 (nopWords 1)).slots ≤ queued.slots 1 ∧
                queued.turnOk [] 1 = true ∧
                  badStatus (packetOp (nopWords 1)) (packetCmd 1 (nopWords 1)) = none ∧
                    ∀ (f : Flight), f ∈ s'.porch.flights → f.started = true ∨ badStatus f.op f.c = none) ∧
    (queued.fetching = true ∧ queued.fetchable 1 = true ∧ (packetCmd 1 (nopWords 1)).slots ≤ queued.slots 1 ∧ queued.turnOk [] 1 = true) := by
  (repeat' first | apply And.intro | refine ⟨_, rfl, ?_⟩ | refine ⟨_, _, rfl, ?_⟩ | refine ⟨_, _, _, rfl, ?_⟩ | exact ⟨_, rfl⟩ | exact ⟨_, _, rfl⟩ |
    exact ⟨_, _, _, rfl⟩ | fail) <;> decide

theorem witness_EntriesAndInterruptsReachTheHost :
    (1 ≠ 0) ∧
    (queued.hostReach = true ∧
        queued.inL1 = false ∧
          ∃ e rest,
            queued.porch.produced = e :: rest ∧
              e.evt = false ∧ queued.cqEn e.cq = true ∧ (queued.cq e.cq).error = false ∧ queued.cqFull e.cq = false) ∧
    (eventNext.hostReach = true ∧
        eventNext.inL1 = false ∧
          ∃ e rest,
            eventNext.porch.produced = e :: rest ∧
              e.evt = true ∧
                ∃ n,
                  eventNext.evRoute (e.code.toNat / 256) = some n ∧
                    (eventNext.cq n).error = false ∧ (eventNext.cq n).lostSince = 0 ∧ eventNext.eventRoom n = true) ∧
    (queued.cqEn 2 = true ∧
        queued.evq 2 = true ∧
          (queued.cq 2).error = false ∧
            0 < (queued.cq 2).lostSince ∧ queued.eventRoom 2 = true ∧ queued.hostReach = true ∧ queued.inL1 = false) ∧
    ((queuedIn Link.l1).cqEn 2 = true ∧
        (queuedIn Link.l1).evq 2 = true ∧
          ((queuedIn Link.l1).cq 2).error = false ∧
            0 < ((queuedIn Link.l1).cq 2).lostSince ∧
              (queuedIn Link.l1).eventRoom 2 = true ∧ (queuedIn Link.l1).porch.d3hot = false ∧ (queuedIn Link.l1).inL1 = true) ∧
    (queued.hostReach = true ∧
        queued.inL1 = false ∧ (queued.cq 2).modTime ≠ 0 ∧ ∃ n, (queued.cq 2).timer = some n ∧ (queued.cq 2).modTime ≤ n) := by
  (repeat' first | apply And.intro | refine ⟨_, rfl, ?_⟩ | refine ⟨_, _, rfl, ?_⟩ | refine ⟨_, _, _, rfl, ?_⟩ | exact ⟨_, rfl⟩ | exact ⟨_, _, rfl⟩ |
    exact ⟨_, _, _, rfl⟩ | fail) <;> decide

theorem witness_DoorbellsMoveTheirRing :
    (queued.coreOn = true ∧ ∃ s', s' = hostArrives queued Requester.host ∧ s'.sqEn 1 = true ∧ bits 0 13 0 < s'.sqSize 1) ∧
    (queued.coreOn = true ∧ ∃ s', s' = hostArrives queued Requester.host ∧ s'.sqEn 1 = true ∧ s'.sqSize 1 ≤ bits 260 13 0) ∧
    (queued.coreOn = true ∧ ∃ s', s' = hostArrives queued Requester.host ∧ s'.sqEn 0 = false) ∧
    (queued.coreOn = true ∧ ∃ s', s' = hostArrives queued Requester.host ∧ s'.cqEn 1 = true ∧ bits 0 15 0 < s'.cqSize 1) ∧
    (queued.coreOn = true ∧ ∃ s', s' = hostArrives queued Requester.host ∧ s'.cqEn 1 = true ∧ s'.cqSize 1 ≤ bits 260 15 0) ∧
    (queued.coreOn = true ∧ ∃ s', s' = hostArrives queued Requester.host ∧ s'.cqEn 0 = false) := by
  (repeat' first | apply And.intro | refine ⟨_, rfl, ?_⟩ | refine ⟨_, _, rfl, ?_⟩ | refine ⟨_, _, _, rfl, ?_⟩ | exact ⟨_, rfl⟩ | exact ⟨_, _, rfl⟩ |
    exact ⟨_, _, _, rfl⟩ | fail) <;> decide

theorem witness_QueuesAreEnabledAndDisabled :
    (queued.coreOn = true ∧
        ∃ s',
          s' = hostArrives queued Requester.host ∧ s'.sqEn 0 = false ∧ 4 ≤ bits 5 3 0 ∧ bits 5 3 0 ≤ 14 ∧ s'.evq (bits 5 13 8) = false) ∧
    (queued.coreOn = true ∧
        ∃ s',
          s' = hostArrives queued Requester.host ∧ s'.sqEn 0 = false ∧ (bits 0 3 0 < 4 ∨ 14 < bits 0 3 0 ∨ s'.evq (bits 0 13 8) = true)) ∧
    (queued.coreOn = true ∧
        ∃ s',
          s' = hostArrives queued Requester.host ∧
            s'.sqEn 1 = true ∧ bits 260 3 0 = bits (s'.reg (sqCfgA 1)) 3 0 ∧ bits 260 13 8 = bits (s'.reg (sqCfgA 1)) 13 8) ∧
    (queued.coreOn = true ∧
        ∃ s',
          s' = hostArrives queued Requester.host ∧
            s'.sqEn 1 = true ∧ (bits 0 3 0 ≠ bits (s'.reg (sqCfgA 1)) 3 0 ∨ bits 0 13 8 ≠ bits (s'.reg (sqCfgA 1)) 13 8)) ∧
    (queued.coreOn = true ∧
        ∃ s',
          s' = hostArrives queued Requester.host ∧
            s'.cqEn 0 = false ∧ 4 ≤ bits 5 4 0 ∧ bits 5 4 0 ≤ 16 ∧ (bit 5 8 = true → s'.boundEnabled 0 = false)) ∧
    (queued.coreOn = true ∧
        ∃ s',
          s' = hostArrives queued Requester.host ∧
            s'.cqEn 0 = false ∧ (bits 0 4 0 < 4 ∨ 16 < bits 0 4 0 ∨ bit 0 8 = true ∧ s'.boundEnabled 0 = true)) ∧
    (queued.coreOn = true ∧
        ∃ s',
          s' = hostArrives queued Requester.host ∧
            s'.cqEn 2 = true ∧
              bits 260 4 0 = bits (s'.reg (cqCfgA 2)) 4 0 ∧ bit 260 8 = s'.evq 2 ∧ s'.boundBusy 2 = false ∧ s'.heldOf 2 = 0) ∧
    (queued.coreOn = true ∧
        ∃ s',
          s' = hostArrives queued Requester.host ∧
            s'.cqEn 1 = true ∧
              (bits 0 4 0 ≠ bits (s'.reg (cqCfgA 1)) 4 0 ∨ bit 0 8 ≠ s'.evq 1 ∨ s'.boundBusy 1 = true ∨ s'.heldOf 1 ≠ 0)) ∧
    (queued.coreOn = true ∧ queued.sqEn 0 = false ∧ ∀ (f : Flight), f ∈ queued.porch.flights → f.c.sq ≠ 0) := by
  (repeat' first | apply And.intro | refine ⟨_, rfl, ?_⟩ | refine ⟨_, _, rfl, ?_⟩ | refine ⟨_, _, _, rfl, ?_⟩ | exact ⟨_, rfl⟩ | exact ⟨_, _, rfl⟩ |
    exact ⟨_, _, _, rfl⟩ | fail) <;> decide

theorem witness_RegistersReadAndWriteByAccessType :
    (queued = hostArrives queued Requester.host ∧ queued = settled queued 3145864) ∧
    (queued = hostArrives queued Requester.host ∧
        queued = settled queued 3145864 ∧
          queued.regOn 3145864 = true ∧
            isRc 3145864 = true ∧
              isCounterLow 3145864 = false ∧ claimTarget 3145864 = none ∧ isWindow 3145864 = false ∧ 3145864 ≠ iceA 4) ∧
    (queued = hostArrives queued Requester.host ∧
        queued = settled queued 3145864 ∧
          queued.regOn 3145864 = true ∧
            isRc 3145864 = true ∧
              isCounterLow 3145864 = false ∧
                claimTarget 3145864 = none ∧
                  isWindow 3145864 = false ∧ 3145864 ≠ iceA 4 ∧ 3145864 ≠ 3145772 ∧ 3145864 ≠ 4194312 ∧ 3145864 ≠ 4194324) ∧
    (queued = hostArrives queued Requester.host ∧
        queued = settled queued 3145772 ∧
          queued.regOn 3145772 = true ∧
            isRc 3145772 = true ∧
              isCounterLow 3145772 = false ∧
                claimTarget 3145772 = none ∧ isWindow 3145772 = false ∧ 3145772 ≠ iceA 4 ∧ 3145772 = 3145772) ∧
    (queued = hostArrives queued Requester.host ∧
        queued = settled queued 4194312 ∧
          queued.regOn 4194312 = true ∧
            isRc 4194312 = true ∧
              isCounterLow 4194312 = false ∧
                claimTarget 4194312 = none ∧ isWindow 4194312 = false ∧ 4194312 ≠ iceA 4 ∧ 4194312 = 4194312) ∧
    (queued = hostArrives queued Requester.host ∧
        queued = settled queued 4194324 ∧
          queued.regOn 4194324 = true ∧
            isRc 4194324 = true ∧
              isCounterLow 4194324 = false ∧
                claimTarget 4194324 = none ∧ isWindow 4194324 = false ∧ 4194324 ≠ iceA 4 ∧ 4194324 = 4194324) ∧
    (queued = hostArrives queued Requester.host ∧
        queued = settled queued 3145880 ∧
          queued.regOn 3145880 = true ∧
            isCounterLow 3145880 = true ∧ claimTarget 3145880 = none ∧ isWindow 3145880 = false ∧ 3145880 ≠ iceA 4) ∧
    (queued = hostArrives queued Requester.host ∧
        queued = settled queued 3145880 ∧
          queued.regOn 3145880 = true ∧
            isCounterLow 3145880 = true ∧
              claimTarget 3145880 = none ∧
                isWindow 3145880 = false ∧ 3145880 ≠ iceA 4 ∧ queued.regOn (3145880 + 4) = true ∧ isCounterLow (3145880 + 4) = false) ∧
    (queued = hostArrives queued Requester.host ∧ queued = settled queued 32 ∧ queued.regOn 32 = true ∧ ∃ m, rwMask 32 = some m) ∧
    (queued = hostArrives queued Requester.host ∧ queued = settled queued 1048588 ∧ queued.regOn pchErrA = true ∧ 1048588 = pchErrA) ∧
    (queued = hostArrives queued Requester.host ∧ queued = settled queued 268369920 ∧ queued.regOn 268369920 = false) := by
  (repeat' first | apply And.intro | refine ⟨_, rfl, ?_⟩ | refine ⟨_, _, rfl, ?_⟩ | refine ⟨_, _, _, rfl, ?_⟩ | exact ⟨_, rfl⟩ | exact ⟨_, _, rfl⟩ |
    exact ⟨_, _, _, rfl⟩ | fail) <;> decide

theorem witness_HostAccessesThatFailOrWake :
    (false = false ∨ 0 ≠ 1 ∧ 0 ≠ 2) ∧
    (justWoken = settled (hostArrives justWoken Requester.host) 3145864 ∧
        ∃ y, y = readAccess justWoken Requester.host 3145864 ∧ y.snd.pwr.wakeN = true ∧ y.snd.porch.link = Link.l0) ∧
    (ports1.hostReach = true ∧
        ports1.takes { op := 1043, c := cmd 1 65536 [4096, 0, 64, 0] } ∧
          1043 = 1043 ∧
            ports1.portObjOk (cmd 1 65536 [4096, 0, 64, 0]).num = true ∧
              ports1.portPowered ((cmd 1 65536 [4096, 0, 64, 0]).num - 65536) = true ∧
                firstFail (ports1.frameSendChecks (cmd 1 65536 [4096, 0, 64, 0])) = none) ∧
    (justWoken.hostReach = true ∧
        justWoken.takes { op := 2322, c := cmd 1 0 [4096, 0, 0, 1, 16] } ∧
          2322 = 2322 ∧
            engOk (cmd 1 0 [4096, 0, 0, 1, 16]).num = true ∧
              justWoken.engPowered (cmd 1 0 [4096, 0, 0, 1, 16]).num = true ∧
                firstFail (justWoken.engLoadChecks (cmd 1 0 [4096, 0, 0, 1, 16])) = none) ∧
    (justWoken.hostReach = true ∧
        justWoken.takes { op := 2323, c := cmd 1 0 [0, 0, 0, 0, 16] } ∧
          2323 = 2323 ∧
            engOk (cmd 1 0 [0, 0, 0, 0, 16]).num = true ∧
              justWoken.engPowered (cmd 1 0 [0, 0, 0, 0, 16]).num = true ∧
                firstFail (justWoken.engCopyChecks (cmd 1 0 [0, 0, 0, 0, 16]) true) = none) ∧
    (justWoken.hostReach = true ∧
        justWoken.takes { op := 2324, c := cmd 1 0 [0, 0, 0, 0, 16] } ∧
          2324 = 2324 ∧
            engOk (cmd 1 0 [0, 0, 0, 0, 16]).num = true ∧
              justWoken.engPowered (cmd 1 0 [0, 0, 0, 0, 16]).num = true ∧
                firstFail (justWoken.engCopyChecks (cmd 1 0 [0, 0, 0, 0, 16]) false) = none) ∧
    (queued.hostReach = true ∧
        queued.takes { op := 2836, c := cmd 1 196608 [4096, 0, 1, 262148] } ∧
          2836 = 2836 ∧
            imageOk (cmd 1 196608 [4096, 0, 1, 262148]).num = true ∧
              firstFail (queued.imageLoadChecks (cmd 1 196608 [4096, 0, 1, 262148])) = none) ∧
    (queued.hostReach = true ∧
        queued.takes { op := 3856, c := cmd 1 0 [] } ∧
          3856 = 3856 ∧ (cmd 1 0 []).num = 0 ∧ firstFail (queued.telemChecks (cmd 1 0 [])) = none ∧ queued.pwr.telem = none) ∧
    (queued.hostReach = true ∧
        queued.takes { op := 3872, c := cmd 1 0 [] } ∧
          3872 = 3872 ∧ (cmd 1 0 []).num = 0 ∧ firstFail (queued.flashWriteChecks (cmd 1 0 [])) = none ∧ queued.pwr.flashing = none) := by
  (repeat' first | apply And.intro | refine ⟨_, rfl, ?_⟩ | refine ⟨_, _, rfl, ?_⟩ | refine ⟨_, _, _, rfl, ?_⟩ | exact ⟨_, rfl⟩ | exact ⟨_, _, rfl⟩ |
    exact ⟨_, _, _, rfl⟩ | fail) <;> decide

theorem witness_LinkAndPowerStatesOfTheFunction :
    (queued.porch.link ≠ Link.down) ∧
    (queued.porch.perst = false ∧ queued.porch.d3hot = false ∧ queued.porch.link ≠ Link.down) ∧
    ((queuedIn Link.down).porch.perst = false ∧ (queuedIn Link.down).porch.d3hot = false ∧ (queuedIn Link.down).porch.link = Link.down) ∧
    (perstLow.porch.perst = true) ∧
    (queued.porch.d3hot = false ∧ queued.porch.link ≠ Link.down) ∧
    ((queuedD3 queued).porch.d3hot = true ∧ (queuedD3 queued).porch.link ≠ Link.down) := by
  (repeat' first | apply And.intro | refine ⟨_, rfl, ?_⟩ | refine ⟨_, _, rfl, ?_⟩ | refine ⟨_, _, _, rfl, ?_⟩ | exact ⟨_, rfl⟩ | exact ⟨_, _, rfl⟩ |
    exact ⟨_, _, _, rfl⟩ | fail) <;> decide

theorem witness_PorchResetsLeaveTheDeviceRunning :
    (∃ i ∈ [Instr.flr, .hotReset, .perstNAssert], i ≠ .flr) ∧ perstLow.porch.perst = true ∧ perstLow.wakeEnabled 3 = true ∧
      perstLow.pwr.wake = none ∧ perstLow.pwr.state ≠ 0 := by decide

end W01

namespace W02

/-- One object of each range in a state. -/
def allIn (st : ObjState) : State :=
  [(4, 3), (7, 0), (8, 0x10000), (9, 0), (0x0A, 0), (0x0B, 0), (0x0C, 0), (0x0D, 0), (0x0E, 1)].foldl (fun s k => put s k.1 k.2 st) house

def hatLeg5 : HatLeg := { rx := some (0, 0) }

/-- The same device with a hatch-leg: leg 5 fed by hatch 0. -/
def hatched (st : ObjState) : State := put { house with hat := { house.hat with legs := [(5, hatLeg5)] } } 8 0x10000 st

def granted (range num : Nat) : State := house.toStarting (objKey range num) (cmd 1 num [])

def drainingPort : State := put house 4 0x10000 .draining

def drainingHost : State := put house 4 0x10100 .draining

def drainingFtb : State := put house 0x0E 0x10000 .draining

def lateDrain : State := atCyc (allIn .draining) 70560000

def midPicture : State := atTb0 { allOf with enc := { allOf.enc with runs := [(0, { frame := some 1, rate := 3 })] } } 70560000
where allOf : State := allIn .draining

theorem witness_StartLeavesTheObjectStarting :
    ((cmd 1 3 []).word 4 = 0 ∧
        house.takes { op := 1025, c := cmd 1 3 [] } ∧
          house.rangeFourOk (cmd 1 3 []).num = true ∧
            house.rangeFourPowered (cmd 1 3 []).num = true ∧
              house.hatchLeg (cmd 1 3 []).num = false ∧
                house.stopped (objKey 4 (cmd 1 3 []).num) = true ∧
                  ((cmd 1 3 []).num < 8192 → firstFail (house.legChecks (cmd 1 3 []).num) = none)) ∧
    ((cmd 1 0 []).word 4 = 0 ∧
        house.takes { op := 1793, c := cmd 1 0 [] } ∧
          confOk (cmd 1 0 []).num = true ∧
            house.confPowered (cmd 1 0 []).num = true ∧
              house.stopped (objKey 7 (cmd 1 0 []).num) = true ∧ firstFail (house.confChecks (cmd 1 0 []).num) = none) ∧
    ((cmd 1 65536 []).word 4 = 0 ∧
        house.takes { op := 2049, c := cmd 1 65536 [] } ∧
          house.bankOk (cmd 1 65536 []).num = true ∧
            house.bankPowered ((cmd 1 65536 []).num - 65536) = true ∧ house.stopped (objKey 8 (cmd 1 65536 []).num) = true) ∧
    ((cmd 1 0 []).word 4 = 0 ∧
        house.takes { op := 2305, c := cmd 1 0 [] } ∧
          engOk (cmd 1 0 []).num = true ∧
            house.engPowered (cmd 1 0 []).num = true ∧
              (house.eng (cmd 1 0 []).num).reserved = true ∧ house.stopped (objKey 9 (cmd 1 0 []).num) = true) ∧
    ((cmd 1 0 []).word 4 = 0 ∧
        house.takes { op := 2561, c := cmd 1 0 [] } ∧
          slotOk (cmd 1 0 []).num = true ∧
            house.slotPowered (cmd 1 0 []).num = true ∧
              house.stopped (objKey 10 (cmd 1 0 []).num) = true ∧
                firstFail (house.slotChecks (cmd 1 0 []).num (house.pipeUnits ((cmd 1 0 []).num / 16)) house.freeStore) = none) ∧
    ((cmd 1 0 []).word 4 = 0 ∧
        house.takes { op := 2817, c := cmd 1 0 [] } ∧
          canvasOk (cmd 1 0 []).num = true ∧
            house.canvasPowered (cmd 1 0 []).num = true ∧
              house.stopped (objKey 11 (cmd 1 0 []).num) = true ∧ firstFail (house.canvasChecks (cmd 1 0 []).num) = none) ∧
    ((cmd 1 0 []).word 4 = 0 ∧
        house.takes { op := 3073, c := cmd 1 0 [] } ∧
          encOk (cmd 1 0 []).num = true ∧
            house.encPowered (cmd 1 0 []).num = true ∧
              house.stopped (objKey 12 (cmd 1 0 []).num) = true ∧ firstFail (house.encChecks (cmd 1 0 []).num) = none) ∧
    ((cmd 1 0 []).word 4 = 0 ∧
        house.takes { op := 3329, c := cmd 1 0 [] } ∧
          subOk (cmd 1 0 []).num = true ∧
            house.stopped (objKey 13 (cmd 1 0 []).num) = true ∧ firstFail (house.subChecks (cmd 1 0 []).num) = none) ∧
    ((cmd 1 0 []).word 4 = 0 ∧
        house.takes { op := 3585, c := cmd 1 0 [] } ∧
          ftbObjOk (cmd 1 0 []).num = true ∧
            house.ftbObjPowered (cmd 1 0 []).num = true ∧
              house.stopped (objKey 14 (cmd 1 0 []).num) = true ∧
                firstFail (if (cmd 1 0 []).num = 65536 then house.ftbChecks else house.linkChecks) = none) ∧
    ((cmd 1 5 []).word 4 = 0 ∧
        (hatched ObjState.running).takes { op := 1025, c := cmd 1 5 [] } ∧
          (cmd 1 5 []).num < 8192 ∧
            (hatched ObjState.running).legPowered (cmd 1 5 []).num = true ∧ (hatched ObjState.running).hatchLeg (cmd 1 5 []).num = true) ∧
    ((cmd 1 0 []).word 4 = 0 ∧
        house.takes { op := 2049, c := cmd 1 0 [] } ∧
          (cmd 1 0 []).num < 96 ∧ house.hatchPowered (cmd 1 0 []).num = true ∧ house.stopped (bankKey ((cmd 1 0 []).num / 8)) = true) := by
  (repeat' first | apply And.intro | refine ⟨_, rfl, ?_⟩ | refine ⟨_, _, rfl, ?_⟩ | refine ⟨_, _, _, rfl, ?_⟩ | exact ⟨_, rfl⟩ | exact ⟨_, _, rfl⟩ |
    exact ⟨_, _, _, rfl⟩ | fail) <;> decide

theorem witness_StopDrainsARunningObject :
    (bits ((cmd 1 0 []).word 4) 31 1 = 0 ∧
        house.takes { op := 1026, c := cmd 1 0 [] } ∧
          house.rangeFourOk (cmd 1 0 []).num = true ∧
            house.rangeFourPowered (cmd 1 0 []).num = true ∧
              house.hatchLeg (cmd 1 0 []).num = false ∧ house.stopped (objKey 4 (cmd 1 0 []).num) = true) ∧
    (bits ((cmd 1 65536 []).word 4) 31 1 = 0 ∧
        house.takes { op := 1026, c := cmd 1 65536 [] } ∧
          house.rangeFourOk (cmd 1 65536 []).num = true ∧
            house.rangeFourPowered (cmd 1 65536 []).num = true ∧
              house.hatchLeg (cmd 1 65536 []).num = false ∧ house.isRunning (objKey 4 (cmd 1 65536 []).num) = true) ∧
    (bits ((cmd 1 0 []).word 4) 31 1 = 0 ∧
        house.takes { op := 1794, c := cmd 1 0 [] } ∧
          confOk (cmd 1 0 []).num = true ∧ house.confPowered (cmd 1 0 []).num = true ∧ house.stopped (objKey 7 (cmd 1 0 []).num) = true) ∧
    (bits ((cmd 1 0 []).word 4) 31 1 = 0 ∧
        (allIn ObjState.running).takes { op := 1794, c := cmd 1 0 [] } ∧
          confOk (cmd 1 0 []).num = true ∧
            (allIn ObjState.running).confPowered (cmd 1 0 []).num = true ∧
              (allIn ObjState.running).isRunning (objKey 7 (cmd 1 0 []).num) = true) ∧
    (bits ((cmd 1 65536 []).word 4) 31 1 = 0 ∧
        house.takes { op := 2050, c := cmd 1 65536 [] } ∧
          house.bankOk (cmd 1 65536 []).num = true ∧
            house.bankPowered ((cmd 1 65536 []).num - 65536) = true ∧ house.stopped (objKey 8 (cmd 1 65536 []).num) = true) ∧
    (bits ((cmd 1 65536 []).word 4) 31 1 = 0 ∧
        (allIn ObjState.running).takes { op := 2050, c := cmd 1 65536 [] } ∧
          (allIn ObjState.running).bankOk (cmd 1 65536 []).num = true ∧
            (allIn ObjState.running).bankPowered ((cmd 1 65536 []).num - 65536) = true ∧
              (allIn ObjState.running).isRunning (objKey 8 (cmd 1 65536 []).num) = true) ∧
    (bits ((cmd 1 0 []).word 4) 31 1 = 0 ∧
        house.takes { op := 2306, c := cmd 1 0 [] } ∧
          engOk (cmd 1 0 []).num = true ∧
            house.engPowered (cmd 1 0 []).num = true ∧
              (house.eng (cmd 1 0 []).num).reserved = true ∧ house.stopped (objKey 9 (cmd 1 0 []).num) = true) ∧
    (bits ((cmd 1 0 []).word 4) 31 1 = 0 ∧
        (allIn ObjState.running).takes { op := 2306, c := cmd 1 0 [] } ∧
          engOk (cmd 1 0 []).num = true ∧
            (allIn ObjState.running).engPowered (cmd 1 0 []).num = true ∧
              ((allIn ObjState.running).eng (cmd 1 0 []).num).reserved = true ∧
                (allIn ObjState.running).isRunning (objKey 9 (cmd 1 0 []).num) = true) ∧
    (bits ((cmd 1 0 []).word 4) 31 1 = 0 ∧
        house.takes { op := 2562, c := cmd 1 0 [] } ∧
          slotOk (cmd 1 0 []).num = true ∧ house.slotPowered (cmd 1 0 []).num = true ∧ house.stopped (objKey 10 (cmd 1 0 []).num) = true) ∧
    (bits ((cmd 1 0 []).word 4) 31 1 = 0 ∧
        (allIn ObjState.running).takes { op := 2562, c := cmd 1 0 [] } ∧
          slotOk (cmd 1 0 []).num = true ∧
            (allIn ObjState.running).slotPowered (cmd 1 0 []).num = true ∧
              (allIn ObjState.running).isRunning (objKey 10 (cmd 1 0 []).num) = true) ∧
    (bits ((cmd 1 0 []).word 4) 31 1 = 0 ∧
        house.takes { op := 2818, c := cmd 1 0 [] } ∧
          canvasOk (cmd 1 0 []).num = true ∧
            house.canvasPowered (cmd 1 0 []).num = true ∧ house.stopped (objKey 11 (cmd 1 0 []).num) = true) ∧
    (bits ((cmd 1 0 []).word 4) 31 1 = 0 ∧
        (allIn ObjState.running).takes { op := 2818, c := cmd 1 0 [] } ∧
          canvasOk (cmd 1 0 []).num = true ∧
            (allIn ObjState.running).canvasPowered (cmd 1 0 []).num = true ∧
              (allIn ObjState.running).isRunning (objKey 11 (cmd 1 0 []).num) = true) ∧
    (bits ((cmd 1 0 []).word 4) 31 1 = 0 ∧
        house.takes { op := 3074, c := cmd 1 0 [] } ∧
          encOk (cmd 1 0 []).num = true ∧ house.encPowered (cmd 1 0 []).num = true ∧ house.stopped (objKey 12 (cmd 1 0 []).num) = true) ∧
    (bits ((cmd 1 0 []).word 4) 31 1 = 0 ∧
        (allIn ObjState.running).takes { op := 3074, c := cmd 1 0 [] } ∧
          encOk (cmd 1 0 []).num = true ∧
            (allIn ObjState.running).encPowered (cmd 1 0 []).num = true ∧
              (allIn ObjState.running).isRunning (objKey 12 (cmd 1 0 []).num) = true) ∧
    (bits ((cmd 1 0 []).word 4) 31 1 = 0 ∧
        house.takes { op := 3330, c := cmd 1 0 [] } ∧ subOk (cmd 1 0 []).num = true ∧ house.stopped (objKey 13 (cmd 1 0 []).num) = true) ∧
    (bits ((cmd 1 0 []).word 4) 31 1 = 0 ∧
        (allIn ObjState.running).takes { op := 3330, c := cmd 1 0 [] } ∧
          subOk (cmd 1 0 []).num = true ∧ (allIn ObjState.running).isRunning (objKey 13 (cmd 1 0 []).num) = true) ∧
    (bits ((cmd 1 0 []).word 4) 31 1 = 0 ∧
        house.takes { op := 3586, c := cmd 1 0 [] } ∧
          ftbObjOk (cmd 1 0 []).num = true ∧
            house.ftbObjPowered (cmd 1 0 []).num = true ∧ house.stopped (objKey 14 (cmd 1 0 []).num) = true) ∧
    (bits ((cmd 1 65536 []).word 4) 31 1 = 0 ∧
        house.takes { op := 3586, c := cmd 1 65536 [] } ∧
          ftbObjOk (cmd 1 65536 []).num = true ∧
            house.ftbObjPowered (cmd 1 65536 []).num = true ∧ house.isRunning (objKey 14 (cmd 1 65536 []).num) = true) ∧
    (bits ((cmd 1 5 []).word 4) 31 1 = 0 ∧
        (hatched ObjState.running).takes { op := 1026, c := cmd 1 5 [] } ∧
          (cmd 1 5 []).num < 8192 ∧
            (hatched ObjState.running).legPowered (cmd 1 5 []).num = true ∧ (hatched ObjState.running).hatchLeg (cmd 1 5 []).num = true) ∧
    (bits ((cmd 1 0 []).word 4) 31 1 = 0 ∧
        house.takes { op := 2050, c := cmd 1 0 [] } ∧
          (cmd 1 0 []).num < 96 ∧ house.hatchPowered (cmd 1 0 []).num = true ∧ house.starting (bankKey ((cmd 1 0 []).num / 8)) = false) := by
  (repeat' first | apply And.intro | refine ⟨_, rfl, ?_⟩ | refine ⟨_, _, rfl, ?_⟩ | refine ⟨_, _, _, rfl, ?_⟩ | exact ⟨_, rfl⟩ | exact ⟨_, _, rfl⟩ |
    exact ⟨_, _, _, rfl⟩ | fail) <;> decide

theorem witness_GetStateReportsStateAndGeneration :
    ((cmd 1 0 []).word 4 = 0 ∧
        house.takes { op := 1027, c := cmd 1 0 [] } ∧
          house.rangeFourOk (cmd 1 0 []).num = true ∧ house.hatchLeg (cmd 1 0 []).num = false) ∧
    ((cmd 1 0 []).word 4 = 0 ∧ house.takes { op := 1795, c := cmd 1 0 [] } ∧ confOk (cmd 1 0 []).num = true) ∧
    ((cmd 1 0 []).word 4 = 0 ∧ house.takes { op := 2051, c := cmd 1 0 [] } ∧ (cmd 1 0 []).num < 96) ∧
    ((cmd 1 65536 []).word 4 = 0 ∧ house.takes { op := 2051, c := cmd 1 65536 [] } ∧ house.bankOk (cmd 1 65536 []).num = true) ∧
    ((cmd 1 5 []).word 4 = 0 ∧
        (hatched ObjState.running).takes { op := 1027, c := cmd 1 5 [] } ∧ (hatched ObjState.running).hatchLeg (cmd 1 5 []).num = true) ∧
    ((cmd 1 0 []).word 4 = 0 ∧ house.takes { op := 2307, c := cmd 1 0 [] } ∧ engOk (cmd 1 0 []).num = true) ∧
    ((cmd 1 0 []).word 4 = 0 ∧ house.takes { op := 2563, c := cmd 1 0 [] } ∧ slotOk (cmd 1 0 []).num = true) ∧
    ((cmd 1 0 []).word 4 = 0 ∧ house.takes { op := 2819, c := cmd 1 0 [] } ∧ canvasOk (cmd 1 0 []).num = true) ∧
    ((cmd 1 0 []).word 4 = 0 ∧ house.takes { op := 3075, c := cmd 1 0 [] } ∧ encOk (cmd 1 0 []).num = true) ∧
    ((cmd 1 0 []).word 4 = 0 ∧ house.takes { op := 3331, c := cmd 1 0 [] } ∧ subOk (cmd 1 0 []).num = true) ∧
    ((cmd 1 0 []).word 4 = 0 ∧ house.takes { op := 3587, c := cmd 1 0 [] } ∧ ftbObjOk (cmd 1 0 []).num = true) := by
  (repeat' first | apply And.intro | refine ⟨_, rfl, ?_⟩ | refine ⟨_, _, rfl, ?_⟩ | refine ⟨_, _, _, rfl, ?_⟩ | exact ⟨_, rfl⟩ | exact ⟨_, _, rfl⟩ |
    exact ⟨_, _, _, rfl⟩ | fail) <;> decide

theorem witness_TheGrantCompletesStart :
    ((fun range num ↦
            (granted 4 65536).starting (objKey range num) = true ∧
              ((granted 4 65536).obj (objKey range num)).starter = some (cmd 1 65536 []) ∧
                (granted 4 65536).paused = false ∧
                  ∀ (f : Flight), f ∈ (granted 4 65536).porch.flights → f.op = startOp range → f.c = cmd 1 65536 [] → f.discard = false)
          4 (65536 + 0) ∧
        firstFail [] = none) ∧
    ((fun range num ↦
            (granted 9 0).starting (objKey range num) = true ∧
              ((granted 9 0).obj (objKey range num)).starter = some (cmd 1 0 []) ∧
                (granted 9 0).paused = false ∧
                  ∀ (f : Flight), f ∈ (granted 9 0).porch.flights → f.op = startOp range → f.c = cmd 1 0 [] → f.discard = false)
          9 0 ∧
        firstFail [] = none) := by
  (repeat' first | apply And.intro | refine ⟨_, rfl, ?_⟩ | refine ⟨_, _, rfl, ?_⟩ | refine ⟨_, _, _, rfl, ?_⟩ | exact ⟨_, rfl⟩ | exact ⟨_, _, rfl⟩ |
    exact ⟨_, _, _, rfl⟩ | fail) <;> decide

theorem witness_DrainingEndsInStopped :
    (∀ (f : Flight), f ∈ house.porch.flights → f.discard = false) ∧
    ((∀ (f : Flight), f ∈ house.porch.flights → f.discard = false) ∧ 1 ≠ objKey 0 0) ∧
    ((allIn ObjState.draining).paused = false ∧
        (allIn ObjState.draining).draining (objKey 4 3) = true ∧ (allIn ObjState.draining).legIdle 3 = true) ∧
    (drainingPort.paused = false ∧ drainingPort.draining (objKey 4 (65536 + 0)) = true ∧ (drainingPort.portQueues 0).isEmpty = true) ∧
    (drainingHost.paused = false ∧ drainingHost.draining (objKey 4 65792) = true) ∧
    (lateDrain.paused = false ∧ lateDrain.draining (objKey 7 0) = true ∧ lateDrain.confIdle 0 = true) ∧
    ((allIn ObjState.draining).paused = false ∧ (allIn ObjState.draining).draining (objKey 8 (65536 + 0)) = true) ∧
    (lateDrain.paused = false ∧ lateDrain.draining (objKey 9 0) = true ∧ lateDrain.engIdle 0 = true) ∧
    ((allIn ObjState.draining).paused = false ∧
        (allIn ObjState.draining).draining (objKey 10 0) = true ∧ ((allIn ObjState.draining).slotRun 0).cur = none) ∧
    ((allIn ObjState.draining).paused = false ∧
        (allIn ObjState.draining).draining (objKey 11 0) = true ∧
          ((allIn ObjState.draining).canvas 0).frame = none ∧
            ∀ (e : Nat × Placed), e ∈ (allIn ObjState.draining).org.busy → e.snd.canvas ≠ 0) ∧
    ((allIn ObjState.draining).paused = false ∧
        (allIn ObjState.draining).draining (objKey 12 0) = true ∧
          (allIn ObjState.draining).encIdle 0 = true ∧ ((allIn ObjState.draining).encRun 0).frame = none) ∧
    ((allIn ObjState.draining).paused = false ∧
        (allIn ObjState.draining).draining (objKey 13 0) = true ∧ ((allIn ObjState.draining).sub 0).inFrame = none) ∧
    ((allIn ObjState.draining).paused = false ∧
        (allIn ObjState.draining).now % 70560 = 0 ∧ (allIn ObjState.draining).draining (objKey 14 1) = true) ∧
    (drainingFtb.paused = false ∧ drainingFtb.draining (objKey 14 65536) = true) ∧
    (lateDrain.draining (objKey 4 3) = true ∧ (lateDrain.obj (objKey 4 3)).since + 1411200 ≤ lateDrain.cyc) ∧
    ((atCyc drainingPort 70560000).draining (objKey 4 (65536 + 0)) = true ∧
        ((atCyc drainingPort 70560000).obj (objKey 4 (65536 + 0))).since + 70560 ≤ (atCyc drainingPort 70560000).cyc) ∧
    (lateDrain.draining (objKey 9 0) = true ∧ (lateDrain.obj (objKey 9 0)).since + 70560 ≤ lateDrain.cyc) ∧
    (lateDrain.commonOn = true ∧
        lateDrain.draining (objKey 13 0) = true ∧ (lateDrain.obj (objKey 13 0)).since + 7056000 ≤ lateDrain.cyc) ∧
    (midPicture.running = true ∧
        midPicture.draining (objKey 12 0) = true ∧
          midPicture.encIdle 0 = true ∧
            (midPicture.encRun 0).frame.isSome = true ∧
              (midPicture.encRun 0).lastBand + framePeriod (midPicture.encRun 0).rate ≤ midPicture.now) := by
  (repeat' first | apply And.intro | refine ⟨_, rfl, ?_⟩ | refine ⟨_, _, rfl, ?_⟩ | refine ⟨_, _, _, rfl, ?_⟩ | exact ⟨_, rfl⟩ | exact ⟨_, _, rfl⟩ |
    exact ⟨_, _, _, rfl⟩ | fail) <;> decide

end W02

namespace W03

def frame : Frame :=
  { len := 100, fcsOk := true, outerTag := false, vid := none, ethertype := 0x0800, ipHdrOk := true, fragment := false, udp := true,
    src := ⟨false, 0x0A000002⟩, dst := ⟨false, 0x0A000001⟩, srcPort := 6000, dstPort := 5000, udpSumOk := true, first := 0x80,
    ptpType := 0, ftbType := 0, ftbSrc := 0, rtcp := false, video := false, fine := 0 }

def badFcs : Frame := { frame with fcsOk := false }

def tooLong : Frame := { frame with len := 1600 }

def pause : Frame := { frame with ethertype := 0x8808 }

def stun : Stun :=
  { port := 0, addrIndex := 0, localUdp := 5000, remote := ⟨false, 0x0A000002⟩, remoteUdp := 6000, lfrag := [1, 2, 3, 4],
    rfrag := [5, 6, 7, 8], integrity := true, fingerprint := true, useCandidate := true, stamp := 0, len := 120 }

def stunBad : Stun := { stun with integrity := false }

/-- Leg 3 RUNNING and ACTIVE, at a TB0 and with its intervals due, a TIMEOUT of its flow in service. -/
def talking (t : Nat) : State :=
  let s := atTb0 (put { house with hall := { house.hall with flows := [(3, { active := some (0, 0), item := some ⟨.timeout, 4, none, 0⟩ })] } } 4 3 .running) t
  s.setLegRun 3 { conn := .active, remote := ⟨false, 0x0A000002⟩, remoteUdp := 6000, rtcpDue := some t, ccfbDue := some t }

def listening : State := put house 4 3 .running

/-- A repair stream of video stream 1. -/
def repairing : State := (talking 0).setLegSet 3 { (talking 0).legSet 3 with streams := [(1, streamCfg false 1 0x200), (3, repairs)] }
where repairs : StreamCfg := { streamCfg false 2 0x300 with rtxOf := 1 }

def rtp (ssrc : Word) : Rtp :=
  { ssrc := ssrc, pt := 96, seq := 7, ts := 100, marker := true, stamp := 5, profile := 0xBEDE, ext := [0x10, 30, 0, 0], bytes := 100, dur := 960,
    key := true, unneeded := 0, osn := 0 }

def beacon : Beacon :=
  { bridge := 9, src := 4, auth := true, epoch := 3, seq := 1, uid := 77, tb0 := 0, ladder := 0, ptp := false, seen := 0, fw := 0, stamp := 0 }

def beaconOwn : Beacon := { beacon with src := 0 }

def beaconBad : Beacon := { beacon with auth := false }

def beaconOld : Beacon := { beacon with version := 2 }

/-- Peer 4 of the Footbridge in sync, at a TB0. -/
def bridged (t : Nat) : State :=
  (atTb0 house t).setPeer 4 { present := true, sync := true, epoch := some 3, uid := 77, keyTx := true, keyRx := true }

def lentKeys : State := { live with ice := { live.ice with lent := true } }

def mixFrame (dst : Fin 16) (auth : Bool) : MixFrame := { bridge := 9, src := 4, dst := dst, counter := 0, auth := auth, block := 0, recs := [] }

def fwd : FwdPkt :=
  { kind := 0, src := 3, index := 2, seq := 5, ts := 9, marker := true, dd := none, frameNo := 1, first := true, key := true, tSwitch := false,
    sSwitch := false, bandStart := true, padding := false, bytes := 100, ddLen := 0, stamp := 0 }

def layerFrame (auth : Bool) : LayerFrame := { bridge := 9, src := 4, dst := 0, counter := 0, auth := auth, srcLeg := 3, layer := 1, pkt := fwd }

def portUp : State := put live 4 0x10000 .running

theorem witness_PortCommandsHoldTheirPacket :
    (house.takes { op := 1040, c := cmd 1 65537 [99745792, 2, 3, 1, 327684] } ∧
        house.portObjOk (cmd 1 65537 [99745792, 2, 3, 1, 327684]).num = true ∧
          firstFail (house.portConfigChecks (cmd 1 65537 [99745792, 2, 3, 1, 327684])) = none ∧
            (cmd 1 65537 [99745792, 2, 3, 1, 327684]).num = 65536 + 1 ∧ house.portPowered 1 = true) ∧
    (live.takes { op := 1041, c := cmd 1 65536 (zeros 12) } ∧
        live.portObjOk (cmd 1 65536 (zeros 12)).num = true ∧
          firstFail (live.portAddrChecks (cmd 1 65536 (zeros 12))) = none ∧
            (cmd 1 65536 (zeros 12)).num = 65536 + 0 ∧ live.portPowered 0 = true) ∧
    ((cmd 1 65792 [16384, 1, 4]).num = 65792 ∧
        house.takes { op := 1042, c := cmd 1 65792 [16384, 1, 4] } ∧ firstFail (house.puntCfgChecks (cmd 1 65792 [16384, 1, 4])) = none) := by
  (repeat' first | apply And.intro | refine ⟨_, rfl, ?_⟩ | refine ⟨_, _, rfl, ?_⟩ | refine ⟨_, _, _, rfl, ?_⟩ | exact ⟨_, rfl⟩ | exact ⟨_, _, rfl⟩ |
    exact ⟨_, _, _, rfl⟩ | fail) <;> decide

theorem witness_FramesAndLinksOfPorts :
    (house.hostReach = true ∧
        house.takes { op := 1043, c := cmd 1 65536 [0, 1, 64] } ∧
          house.portObjOk (cmd 1 65536 [0, 1, 64]).num = true ∧
            firstFail (house.frameSendChecks (cmd 1 65536 [0, 1, 64])) = none ∧
              (cmd 1 65536 [0, 1, 64]).num = 65536 + 0 ∧
                house.portPowered 0 = true ∧
                  ∃ t ok,
                    hallWork (belSignal (leaveL1 (house.begun { op := 1043, c := cmd 1 65536 [0, 1, 64] }))) (portFlow 0) 8 = (ok, t)) ∧
    (∃ t, t = hostArrives house Requester.host ∧ t.commonOn = true) ∧
    (∃ t, t = hostArrives asleep Requester.host ∧ t.commonOn = false) ∧
    (portUp.running = true ∧ portUp.isRunning (portKey 0) = true ∧ (portUp.netPort 0).linkUp = false) ∧
    (house.isRunning (portKey 1) = false) ∧
    ((house.netPort 0).linkUp = true) ∧
    (house.running = true ∧ house.working (portKey 0) = true ∧ (house.netPort 0).linkUp = true) ∧
    (house.running = true ∧ house.working (portKey 0) = true ∧ (house.netPort 0).linkUp = true ∧ badFcs.fcsOk = false) ∧
    (house.running = true ∧
        house.working (portKey 0) = true ∧
          (house.netPort 0).linkUp = true ∧
            ∃ t,
              t = ((countFec house 0 tooLong).bump64 (netPortA 0 16) 1).bump64 (netPortA 0 24) tooLong.len ∧
                tooLong.fcsOk = true ∧ (t.portCfg 0).maxFrame < tooLong.len) ∧
    (house.running = true ∧
        house.working (portKey 0) = true ∧
          (house.netPort 0).linkUp = true ∧
            ∃ t,
              t = ((countFec house 0 pause).bump64 (netPortA 0 16) 1).bump64 (netPortA 0 24) pause.len ∧
                pause.fcsOk = true ∧ pause.len ≤ (t.portCfg 0).maxFrame ∧ pause.ethertype = 34824) := by
  (repeat' first | apply And.intro | refine ⟨_, rfl, ?_⟩ | refine ⟨_, _, rfl, ?_⟩ | refine ⟨_, _, _, rfl, ?_⟩ | exact ⟨_, rfl⟩ | exact ⟨_, _, rfl⟩ |
    exact ⟨_, _, _, rfl⟩ | fail) <;> decide

theorem witness_LegCommandsHoldTheirPacket :
    (legOk (cmd 1 5 (zeros 12)).num = true ∧
        house.legPowered (cmd 1 5 (zeros 12)).num = true ∧
          house.takes { op := 1056, c := cmd 1 5 (zeros 12) } ∧ firstFail (house.legConfigChecks (cmd 1 5 (zeros 12))) = none) ∧
    (legOk (cmd 3 5 [1442820]).num = true ∧
        house.legPowered (cmd 3 5 [1442820]).num = true ∧
          house.takes { op := 1057, c := cmd 3 5 [1442820], lenLo := 3, lenHi := 3 } ∧
            firstFail (house.legIceCredChecks (cmd 3 5 [1442820])) = none) ∧
    (legOk (cmd 1 5 (zeros 12)).num = true ∧
        house.legPowered (cmd 1 5 (zeros 12)).num = true ∧
          house.takes { op := 1058, c := cmd 1 5 (zeros 12) } ∧ firstFail (house.legStreamChecks (cmd 1 5 (zeros 12))) = none) ∧
    (legOk (cmd 1 5 (zeros 12)).num = true ∧
        house.legPowered (cmd 1 5 (zeros 12)).num = true ∧
          house.takes { op := 1059, c := cmd 1 5 (zeros 12) } ∧ firstFail (house.legBweChecks (cmd 1 5 (zeros 12))) = none) ∧
    (legOk (cmd 1 5 (zeros 12)).num = true ∧
        house.legPowered (cmd 1 5 (zeros 12)).num = true ∧
          house.takes { op := 1060, c := cmd 1 5 (zeros 12) } ∧ bits ((cmd 1 5 (zeros 12)).word 4) 31 3 = 0) := by
  (repeat' first | apply And.intro | refine ⟨_, rfl, ?_⟩ | refine ⟨_, _, rfl, ?_⟩ | refine ⟨_, _, _, rfl, ?_⟩ | exact ⟨_, rfl⟩ | exact ⟨_, _, rfl⟩ |
    exact ⟨_, _, _, rfl⟩ | fail) <;> decide

theorem witness_ConnectivityOfLegs :
    ((talking 0).running = true ∧ stun.integrity = true ∧ stun.fingerprint = true ∧ ∃ l, (talking 0).stunLeg stun = some l) ∧
    ((talking 0).running = true ∧ (stunBad.integrity = false ∨ stunBad.fingerprint = false) ∧ ∃ l, (talking 0).stunLeg stunBad = some l) ∧
    (house.running = true ∧
        house.stunLeg stun = none ∧
          ∃ b t,
            punt (house.bump (pktA 8) 1) (↑stun.port) stun.len 7 noLeg (BitVec.setWidth 32 stun.stamp) none stun.data stun.puntFail =
              (b, t)) ∧
    ((talking 2116800000).running = true ∧
        (talking 2116800000).timeoutServed (legFlow 3) = true ∧
          ((talking 2116800000).legRun 3).conn = Conn.active ∧
            ∃ g,
              ((talking 2116800000).legSet 3).cfg = some g ∧
                g.static = false ∧ ((talking 2116800000).legRun 3).consentAt + g.consent ≤ (talking 2116800000).now) ∧
    ((talking 2116800000).running = true ∧
        (talking 2116800000).timeoutServed (legFlow 3) = true ∧
          ((talking 2116800000).legRun 3).conn = Conn.active ∧
            ∃ g,
              ((talking 2116800000).legSet 3).cfg = some g ∧
                g.silence ≠ 4294967295 ∧ ((talking 2116800000).legRun 3).mediaAt + g.silence ≤ (talking 2116800000).now) := by
  (repeat' first | apply And.intro | refine ⟨_, rfl, ?_⟩ | refine ⟨_, _, rfl, ?_⟩ | refine ⟨_, _, _, rfl, ?_⟩ | exact ⟨_, rfl⟩ | exact ⟨_, _, rfl⟩ |
    exact ⟨_, _, _, rfl⟩ | fail) <;> decide

theorem witness_MediaOfLegs :
    ((talking 0).running = true ∧
        (talking 0).live (legKey 3) = true ∧
          ((talking 0).legRun 3).conn = Conn.active ∧ ∃ i g, (talking 0).recvStream 3 (rtp 256).ssrc = some (i, g) ∧ g.kind ≠ 2) ∧
    (repairing.running = true ∧
        repairing.live (legKey 3) = true ∧
          (repairing.legRun 3).conn = Conn.active ∧
            ∃ i g,
              repairing.recvStream 3 (rtp 768).ssrc = some (i, g) ∧
                g.kind = 2 ∧ ∃ r, tfind (repairing.legSet 3).streams g.rtxOf = some r ∧ r.send = false ∧ r.kind ≠ 2) ∧
    ((talking 0).running = true ∧
        (talking 0).live (legKey 3) = true ∧ ((talking 0).legRun 3).conn = Conn.active ∧ (talking 0).recvStream 3 (rtp 768).ssrc = none) ∧
    (listening.running = true ∧ listening.live (legKey 3) = true ∧ (listening.legRun 3).conn ≠ Conn.active) ∧
    ((talking 0).running = true ∧
        (talking 0).live (legKey 3) = true ∧
          (talking 0).timeoutServed (legFlow 3) = true ∧
            ∃ g, tfind ((talking 0).legSet 3).streams 0 = some g ∧ g.send = false ∧ g.kind = 0) ∧
    ((talking 0).running = true ∧
        (talking 0).live (legKey 3) = true ∧
          (talking 0).timeoutServed (legFlow 3) = true ∧
            ∃ g, tfind ((talking 0).legSet 3).streams 1 = some g ∧ g.send = false ∧ g.kind = 1) ∧
    (listening.running = true ∧ listening.live (legKey 3) = true) ∧
    ((talking 0).running = true ∧
        (talking 0).conn 3 = Conn.active ∧
          ∃ g,
            ((talking 0).legSet 3).cfg = some g ∧
              ((talking 0).legRun 3).rtcpDue = some 0 ∧ 0 ≤ (talking 0).now ∧ (talking 0).timeoutServed (legFlow 3) = true) ∧
    ((talking 0).running = true ∧
        (talking 0).conn 3 = Conn.active ∧
          ∃ g, ((talking 0).legSet 3).cfg = some g ∧ ((talking 0).legRun 3).ccfbDue = some 0 ∧ 0 ≤ (talking 0).now ∧ g.ccfb = true) := by
  (repeat' first | apply And.intro | refine ⟨_, rfl, ?_⟩ | refine ⟨_, _, rfl, ?_⟩ | refine ⟨_, _, _, rfl, ?_⟩ | exact ⟨_, rfl⟩ | exact ⟨_, _, rfl⟩ |
    exact ⟨_, _, _, rfl⟩ | fail) <;> decide

theorem witness_FootbridgeCommandsAndFrames :
    (lentKeys.ftbPowered = true ∧
        lentKeys.takes { op := 3600, c := cmd 1 65536 [5, 9, 16350, 1] } ∧
          (cmd 1 65536 [5, 9, 16350, 1]).num = 65536 ∧ firstFail (lentKeys.ftbConfigChecks (cmd 1 65536 [5, 9, 16350, 1])) = none) ∧
    (house.takes { op := 3601, c := cmd 1 5 (zeros 12) } ∧
        (cmd 1 5 (zeros 12)).num < 1024 ∧ firstFail (house.ftbLinkChecks (cmd 1 5 (zeros 12))) = none) ∧
    (house.isRunning ftbKey = true ∧ house.running = true ∧ ∃ g, house.ftb.cfg = some g ∧ house.bell.double = false) ∧
    (house.isRunning ftbKey = true ∧
        house.running = true ∧
          ∃ g,
            house.ftb.cfg = some g ∧
              beacon.version = 1 ∧ beacon.bridge.toNat = g.bridge ∧ beacon.auth = true ∧ ↑beacon.src ≠ house.cascadeId) ∧
    (house.isRunning ftbKey = true ∧
        house.running = true ∧
          ∃ g,
            house.ftb.cfg = some g ∧
              beaconOwn.version = 1 ∧ beaconOwn.bridge.toNat = g.bridge ∧ beaconOwn.auth = true ∧ ↑beaconOwn.src = house.cascadeId) ∧
    (house.isRunning ftbKey = true ∧
        house.running = true ∧
          ∃ g, house.ftb.cfg = some g ∧ beaconBad.version = 1 ∧ beaconBad.bridge.toNat = g.bridge ∧ beaconBad.auth = false) ∧
    (house.isRunning ftbKey = true ∧
        house.running = true ∧ ∃ g, house.ftb.cfg = some g ∧ (beaconOld.version ≠ 1 ∨ beaconOld.bridge.toNat ≠ g.bridge)) ∧
    ((bridged 2116800).isRunning ftbKey = true ∧
        ((bridged 2116800).peer 4).present = true ∧ ((bridged 2116800).peer 4).last + 2116800 ≤ (bridged 2116800).now) ∧
    (house.fromPeer (mixFrame 0 true).version (mixFrame 0 true).bridge (mixFrame 0 true).src (mixFrame 0 true).dst = true) ∧
    (house.commonOn = true ∧
        house.fromPeer (layerFrame true).version (layerFrame true).bridge (layerFrame true).src (layerFrame true).dst = true) := by
  (repeat' first | apply And.intro | refine ⟨_, rfl, ?_⟩ | refine ⟨_, _, rfl, ?_⟩ | refine ⟨_, _, _, rfl, ?_⟩ | exact ⟨_, rfl⟩ | exact ⟨_, _, rfl⟩ |
    exact ⟨_, _, _, rfl⟩ | fail) <;> decide

end W03

namespace W04

/-- KEY_WRITE of a 16-byte key to slot 7, at any generation. -/
def keyCmd : Cmd := cmd 2 7 ([0, 0] ++ [1, 2, 3, 4] ++ zeros 4 ++ [5, 6, 7] ++ zeros 17)

def keyM : KeyMat := ⟨0, [1], [2]⟩

/-- A device whose Icehouse is as given. -/
def iced (i : Icehouse) : State := { live with ice := i }

def lent : State := iced { live.ice with lent := true }

def iceAlarmed : State := iced { live.ice with alarmed := true }

def latched (s : State) : State := { s with gate := { s.gate with alarm := 4 } }

/-- The window in core 1's hands. -/
def claimed : State := iced { live.ice with lock := some (0x21, 0) }

def keyWaits : State := atCyc (iced { live.ice with waiting := [(0x0511, cmd 1 7 [0], 0)] }) 1411200

def jobReq (k : JobKind) : JobReq := { kind := k, slot := 6, sa := 0x100, part := 1, seq := 9, eflag := false, bytes := 100 }

def framed : JobReq := { jobReq .ftbSend with frame := some { queue := 32772, bytes := 100, net := [], kind := 10, body := [1] } }

def jobRun (r : JobReq) : State := iced { live.ice with cores := [(0, { req := r, mat := keyM, old := none, gen := 1 })] }

def held6 : State := iced { live.ice with slots := [(6, { mat := some keyM, gen := 2 })] }

def oldKey : State := atCyc (live.setSlot 6 { old := some (keyM, 0) }) 70560000

def directS : State := { claimed with ice := { claimed.ice with direct := true, cores := [(0, { req := { jobReq .direct with slot := 6 }, mat := keyM, old := none, gen := 1 })] } }

theorem witness_KeyCommandsRunInTheFreeWindow :
    (live.takes { op := 1296, c := keyCmd, lenLo := 2, lenHi := 2 } ∧
        keyCmd.num < 16384 ∧
          live.dom 72 = true ∧
            firstFail (live.keyWriteChecks keyCmd) = none ∧
              live.ice.lock = none ∧
                live.ice.alarmed = false ∧
                  (bits (keyCmd.word 4) 31 16 = 0 ∨ bits (keyCmd.word 4) 31 16 = (live.slot keyCmd.num).gen) ∧
                    ∃ m,
                      m = keyMat (bits (keyCmd.word 4) 1 0) (keyCmd.bytes 6 32) (keyCmd.bytes 14 12) ∧ live.sameKey keyCmd.num m = false) ∧
    (live.takes { op := 1297, c := cmd 1 7 [0] } ∧
        (cmd 1 7 [0]).num < 16384 ∧
          live.dom 72 = true ∧
            bits ((cmd 1 7 [0]).word 4) 15 0 = 0 ∧
              live.ice.lock = none ∧
                (bits ((cmd 1 7 [0]).word 4) 31 16 = 0 ∨ bits ((cmd 1 7 [0]).word 4) 31 16 = (live.slot (cmd 1 7 [0]).num).gen)) ∧
    (live.takes { op := 1297, c := cmd 1 7 [0] } ∧
        (cmd 1 7 [0]).num < 16384 ∧
          live.dom 72 = true ∧
            bits ((cmd 1 7 [0]).word 4) 15 0 = 0 ∧
              live.ice.lock = none ∧
                (bits ((cmd 1 7 [0]).word 4) 31 16 = 0 ∨ bits ((cmd 1 7 [0]).word 4) 31 16 = (live.slot (cmd 1 7 [0]).num).gen) ∧
                  0 ≠ (cmd 1 7 [0]).num) ∧
    (live.takes { op := 1298, c := cmd 1 7 [0] } ∧ (cmd 1 7 [0]).num < 16384 ∧ live.ice.lock = none) ∧
    (live.takes { op := 1299, c := cmd 1 0 [1] } ∧
        (cmd 1 0 [1]).num = 0 ∧
          live.dom 72 = true ∧
            bits ((cmd 1 0 [1]).word 4) 31 1 = 0 ∧
              live.ice.lock = none ∧
                (∀ (i : Nat), i < 17 → live.legState (8175 + i) = ObjState.stopped) ∧
                  live.stopped ftbKey = true ∧ bit ((cmd 1 0 [1]).word 4) 0 = true ∧ live.ice.lent = false) ∧
    (lent.takes { op := 1299, c := cmd 1 0 [0] } ∧
        (cmd 1 0 [0]).num = 0 ∧
          lent.dom 72 = true ∧
            bits ((cmd 1 0 [0]).word 4) 31 1 = 0 ∧
              lent.ice.lock = none ∧
                (∀ (i : Nat), i < 17 → lent.legState (8175 + i) = ObjState.stopped) ∧
                  lent.stopped ftbKey = true ∧ bit ((cmd 1 0 [0]).word 4) 0 = false ∧ lent.ice.lent = true) ∧
    (iceAlarmed.takes { op := 1300, c := cmd 1 0 [1] } ∧
        (cmd 1 0 [1]).num = 0 ∧
          iceAlarmed.dom 72 = true ∧ iceAlarmed.ice.lock = none ∧ iceAlarmed.ice.alarmed = true ∧ iceAlarmed.gate.alarm = 0) ∧
    ((latched iceAlarmed).takes { op := 1300, c := cmd 1 0 [1] } ∧
        (cmd 1 0 [1]).num = 0 ∧
          (latched iceAlarmed).dom 72 = true ∧
            (latched iceAlarmed).ice.lock = none ∧ (latched iceAlarmed).ice.alarmed = true ∧ (latched iceAlarmed).gate.alarm ≠ 0) ∧
    (claimed.takes { op := 1297, c := cmd 1 7 [0] } ∧
        (cmd 1 7 [0]).num < 16384 ∧ claimed.dom 72 = true ∧ bits ((cmd 1 7 [0]).word 4) 15 0 = 0 ∧ ∃ o, claimed.ice.lock = some o) ∧
    (∃ op t, keyWaits.ice.waiting = [(op, cmd 1 7 [0], t)] ∧ t + 1411200 ≤ keyWaits.cyc) := by
  (repeat' first | apply And.intro | refine ⟨_, rfl, ?_⟩ | refine ⟨_, _, rfl, ?_⟩ | refine ⟨_, _, _, rfl, ?_⟩ | exact ⟨_, rfl⟩ | exact ⟨_, _, rfl⟩ |
    exact ⟨_, _, _, rfl⟩ | fail) <;> decide

theorem witness_TheWindowHasOneOwner :
    (live.iceOn = true ∧ live = hostArrives live Requester.host ∧ live = touchWindow live Requester.host) ∧
    (live.iceOn = true ∧ live = hostArrives live Requester.host ∧ live = touchWindow live Requester.host ∧ live.ice.lock = none) ∧
    (claimed.iceOn = true ∧
        claimed = hostArrives claimed Requester.host ∧
          claimed = touchWindow claimed Requester.host ∧ claimed.ownsWindow Requester.host = false ∧ ∃ o, claimed.ice.lock = some o) ∧
    (claimed.iceOn = true ∧
        claimed = hostArrives claimed (Requester.core 1) ∧
          claimed = touchWindow claimed (Requester.core 1) ∧ claimed.ownsWindow (Requester.core 1) = true) ∧
    ((atCyc claimed 705600).iceOn = true ∧
        atCyc claimed 705600 = hostArrives (atCyc claimed 705600) Requester.host ∧
          atCyc claimed 705600 = touchWindow (atCyc claimed 705600) Requester.host ∧
            (atCyc claimed 705600).ice.waiting = [] ∧
              ∃ o a, (atCyc claimed 705600).ice.lock = some (o, a) ∧ a + 705600 ≤ (atCyc claimed 705600).cyc) ∧
    (claimed.iceOn = true ∧
        claimed = hostArrives claimed (Requester.core 1) ∧
          claimed = touchWindow claimed (Requester.core 1) ∧
            claimed.ownsWindow (Requester.core 1) = true ∧
              unusedKey (bits 0 29 28) (claimed.regBytes (iceA 65536) 8) (claimed.regBytes (iceA 65568) 3) = false ∧
                claimed.ice.alarmed = false ∧
                  ∃ n,
                    n = bits 0 27 14 ∧
                      claimed.suiteOk n (bits 0 29 28) = true ∧
                        ∃ m,
                          m = keyMat (bits 0 29 28) (claimed.regBytes (iceA 65536) 8) (claimed.regBytes (iceA 65568) 3) ∧
                            claimed.sameKey n m = false) ∧
    (claimed.iceOn = true ∧
        claimed = hostArrives claimed (Requester.core 1) ∧
          claimed = touchWindow claimed (Requester.core 1) ∧ claimed.ownsWindow (Requester.core 1) = true ∧ claimed.ice.direct = false) ∧
    (claimed.iceOn = true ∧
        claimed = hostArrives claimed (Requester.core 1) ∧
          claimed = touchWindow claimed (Requester.core 1) ∧ isWindow 7405620 = true ∧ claimed.ownsWindow (Requester.core 1) = true) ∧
    (live.iceOn = true ∧
        live = hostArrives live Requester.host ∧
          live = touchWindow live Requester.host ∧ isWindow 7405620 = true ∧ live.ownsWindow Requester.host = false) := by
  (repeat' first | apply And.intro | refine ⟨_, rfl, ?_⟩ | refine ⟨_, _, rfl, ?_⟩ | refine ⟨_, _, _, rfl, ?_⟩ | exact ⟨_, rfl⟩ | exact ⟨_, _, rfl⟩ |
    exact ⟨_, _, _, rfl⟩ | fail) <;> decide

theorem witness_CryptoJobsAndAlarms :
    (live.running = true ∧
        live.dom 72 = true ∧
          tfind live.ice.cores 0 = none ∧
            ∃ q,
              q =
                  live.ice.queue ++
                    List.filter (fun r ↦ r.kind != JobKind.direct && r.kind != JobKind.ftbSend) [jobReq JobKind.srtpRecv] ∧
                ∃ r, pickJob live.ice.since3 q = some r) ∧
    (held6.running = true ∧
        held6.dom 72 = true ∧
          tfind held6.ice.cores 0 = none ∧
            ∃ q,
              q =
                  held6.ice.queue ++
                    List.filter (fun r ↦ r.kind != JobKind.direct && r.kind != JobKind.ftbSend) [jobReq JobKind.srtpRecv] ∧
                ∃ r,
                  pickJob held6.ice.since3 q = some r ∧
                    sends r.kind = false ∧ r.kind ≠ JobKind.direct ∧ ∃ m, (held6.slot ↑r.slot).mat = some m) ∧
    (live.running = true ∧
        live.dom 72 = true ∧
          tfind live.ice.cores 0 = none ∧
            ∃ q,
              q =
                  live.ice.queue ++
                    List.filter (fun r ↦ r.kind != JobKind.direct && r.kind != JobKind.ftbSend) [jobReq JobKind.srtpRecv] ∧
                ∃ r, pickJob live.ice.since3 q = some r ∧ r.kind ≠ JobKind.direct ∧ (live.slot ↑r.slot).mat = none) ∧
    (∃ j, tfind directS.ice.cores 0 = some j ∧ j.req.kind = JobKind.direct) ∧
    (∃ j,
        tfind (jobRun (jobReq JobKind.srtpSend)).ice.cores 0 = some j ∧
          j.req.kind ≠ JobKind.direct ∧ sends j.req.kind = true ∧ j.req.frame = none) ∧
    (∃ j,
        tfind (jobRun framed).ice.cores 0 = some j ∧ j.req.kind ≠ JobKind.direct ∧ sends j.req.kind = true ∧ ∃ f, j.req.frame = some f) ∧
    (∃ j, tfind (jobRun (jobReq JobKind.srtpRecv)).ice.cores 0 = some j ∧ j.req.kind ≠ JobKind.direct ∧ sends j.req.kind = false) ∧
    (∃ m t, (oldKey.slot 6).old = some (m, t) ∧ t + ctPerSec ≤ oldKey.cyc) ∧
    (live.running = true ∧ live.pwr.entering = none ∧ live.dom 72 = true) := by
  (repeat' first | apply And.intro | refine ⟨_, rfl, ?_⟩ | refine ⟨_, _, rfl, ?_⟩ | refine ⟨_, _, _, rfl, ?_⟩ | exact ⟨_, rfl⟩ | exact ⟨_, _, rfl⟩ |
    exact ⟨_, _, _, rfl⟩ | fail) <;> decide

end W04

namespace W05

/-- CONF_CONFIG at its reset values. -/
def confCmd : Cmd := cmd 1 0 [0x0010_0003, 0x0632, 14112000, 1411200, 141120, 2, 3528000, 0x1E01, 0]

/-- The same device whose leg 3 has a decode under way, and whose conference 0 codes output 0 for leg 3. -/
def decJob (lost late : Bool) : DecJob := ⟨0, 960, 0, lost, late⟩

def decoding (j : DecJob) : State := house.setLegAudio 3 { jobs := [j] }

def audioJob : AudioJob := { first := 0, format := {}, legs := [3] }

def quietJob : AudioJob := { first := 0, format := { codec := 3, dtx := true }, legs := [3] }

def coding (j : AudioJob) (s : State) : State := s.setConfRun 0 { outs := [(0, { job := some j })] }

def confOn : State := put live 7 0 .running

def confMixed : State := { put house 7 0 .running with bnd := { house.bnd with block := some 0 } }

def talks : State :=
  let s := put { house with net := { house.net with sets := [(3, { cfg := some legCfg, streams := [(0, streamCfg true 0 0x100)] })] } } 4 3 .running
  s.setLegRun 3 { conn := .active, remote := ⟨false, 0x0A000002⟩, remoteUdp := 6000 }

theorem witness_ConferencesAndTheirBlocks_first :
    (confOk confCmd.num = true ∧
        live.confPowered confCmd.num = true ∧ live.takes { op := 1808, c := confCmd } ∧ firstFail (live.confConfigChecks confCmd) = none) ∧
    (confOk (cmd 1 0 [12592, 64000, 0]).num = true ∧
        live.confPowered (cmd 1 0 [12592, 64000, 0]).num = true ∧
          live.takes { op := 1809, c := cmd 1 0 [12592, 64000, 0] } ∧
            firstFail (live.confFormatChecks (cmd 1 0 [12592, 64000, 0])) = none) ∧
    (confOk confCmd.num = true ∧
        live.confPowered confCmd.num = true ∧
          live.takes { op := 1824, c := confCmd, lenHi := 8 } ∧
            firstFail (live.routeLoadChecks confCmd) = none ∧
              ∃ (k : Nat),
                ∃ (t : List (Nat × RouteEntry)),
                  ∃ (bad : Option Status),
                    loadEntries live confCmd.num
                        (List.map (fun (i : Nat) ↦ routeEntry confCmd i) (List.range (bits (confCmd.word 4) 5 0))) 0
                        ((live.confSet confCmd.num).bank !(live.confSet confCmd.num).active) =
                      (k, t, bad)) ∧
    (confOk (cmd 1 0 [0]).num = true ∧
        live.confPowered (cmd 1 0 [0]).num = true ∧
          live.takes { op := 1825, c := cmd 1 0 [0] } ∧ firstFail (live.routeCopyChecks (cmd 1 0 [0])) = none) ∧
    (confOk confCmd.num = true ∧
        confOn.confPowered confCmd.num = true ∧
          confOn.takes { op := 1826, c := confCmd } ∧
            firstFail (confOn.routeSwapChecks confCmd) = none ∧ confOn.isRunning (confKey confCmd.num) = true) ∧
    (confOk confCmd.num = true ∧
        live.confPowered confCmd.num = true ∧
          live.takes { op := 1826, c := confCmd } ∧
            firstFail (live.routeSwapChecks confCmd) = none ∧ live.isRunning (confKey confCmd.num) = false) ∧
    (confOk confCmd.num = true ∧ live.confPowered confCmd.num = true ∧ live.takes { op := 1840, c := confCmd }) := by
  (repeat' first | apply And.intro | refine ⟨_, rfl, ?_⟩ | refine ⟨_, _, rfl, ?_⟩ | refine ⟨_, _, _, rfl, ?_⟩ | exact ⟨_, rfl⟩ | exact ⟨_, _, rfl⟩ |
    exact ⟨_, _, _, rfl⟩ | fail) <;> decide

theorem witness_ConferencesAndTheirBlocks_second :
    (live.running = true ∧ live.bnd.block ≠ some (live.now / 70560)) ∧
    (confMixed.bnd.block = some (confMixed.now / 70560)) ∧
    (∃ (j : DecJob), ∃ (r : List DecJob), ((decoding (decJob false false)).legAudio 3).jobs = j :: r ∧ j.lost = false) ∧
    (∃ (j : DecJob),
        ∃ (r : List DecJob),
          ((decoding (decJob false false)).legAudio 3).jobs = j :: r ∧
            ∃ (own : List (Int × Int)),
              own = List.map (fun (p : Int × Int) ↦ (clip24 p.fst, clip24 p.snd)) (List.take j.dur []) ∧
                ∃ (smp : List (Int × Int)),
                  ∃ (x : LegAudio),
                    ∃ (t : State),
                      conceal (decoding (decJob false false)) 3 ((decoding (decJob false false)).legAudio 3) j.dur own = (smp, x, t)) ∧
    (∃ (j : AudioJob), (tget { } ((coding quietJob talks).confRun 0).outs 0).job = some j ∧ j.format.bytes 0 = 0) ∧
    (∃ (j : AudioJob),
        (tget { } ((coding audioJob house).confRun 0).outs 0).job = some j ∧
          ∃ (t : State),
            t =
                (coding audioJob house).setConfRun 0
                  (have __src := (coding audioJob house).confRun 0;
                  { selected := __src.selected, floorAt := __src.floorAt, ramps := __src.ramps, swap := __src.swap,
                    swapBlk := __src.swapBlk, oldBank := __src.oldBank, xfFrom := __src.xfFrom, xfTo := __src.xfTo,
                    outs :=
                      tset { } ((coding audioJob house).confRun 0).outs 0
                        (have __src := tget { } ((coding audioJob house).confRun 0).outs 0;
                        { lim := __src.lim, buf := __src.buf }),
                    drain := __src.drain, concealed := __src.concealed, decLate := __src.decLate, clipped := __src.clipped }) ∧
              j.format.bytes 0 ≠ 0 ∧ ∃ (ok : Bool), ∃ (u : State), hallWork t (confFlow 0) 1 = (ok, u)) ∧
    ((tget { } (live.confRun 0).outs 0).job = none) := by
  (repeat' first | apply And.intro | refine ⟨_, rfl, ?_⟩ | refine ⟨_, _, rfl, ?_⟩ | refine ⟨_, _, _, rfl, ?_⟩ | exact ⟨_, rfl⟩ | exact ⟨_, _, rfl⟩ |
    exact ⟨_, _, _, rfl⟩ | fail) <;> decide

end W05

namespace W06

/-- Engine 0 executes the word w at program word 0, its registers r. -/
def engineAs (w : Word) (x : Engine) : State :=
  put { house with par := { house.par with engines := [(0, x)], prog := [(0, [(0, w)])] } } 9 0 .running

def engineAt (w : Word) (r : EngRun) : State := engineAs w { reserved := true, run := { r with mode := .executing } }

/-- A word with an opcode and its low bits. -/
def ins (op low : Nat) : Word := BitVec.ofNat 32 (op * 2 ^ 26 + low)

/-- Engine 0 executes that word, its registers at reset, or as given. -/
def runs (op low : Nat) : State := engineAt (ins op low) {}

def runsWith (op low : Nat) (r : EngRun) : State := engineAt (ins op low) r

def loops (n : Nat) : EngRun := { loops := List.replicate n ⟨0, 9, 2⟩ }

def calls (n : Nat) : EngRun := { calls := List.replicate n 5 }

def rich : EngRun :=
  { w := [(0, 3), (1, 0x7FFFFF), (2, 5), (3, 0x800000), (6, 0xFFFFFF)], acc := [(0, 0x7F_0000_0000_0000), (1, 0x80_0000_0000_0000), (2, 5), (3, 0xFFFFFFFFFFFFFF)],
    pt := [(0, 4), (1, 9)], md := [(0, 1), (1, 0x3FFF)], cl := [(0, 8)], z := true, ov := true, scale := 1, exp := 3, nexp := 5,
    loops := [⟨0, 9, 2⟩], calls := [7] }

def fresh : EngRun := {}

/-- Engine 0 with a flag set, with four moves queued, with a move that writes its next word, waiting for a flag, draining. -/
def flagged (op low : Nat) : State := engineAs (ins op low) { reserved := true, flags := 2, run := { mode := .executing } }

def move (dst a n : Nat) : Move := { src := 0, dst := dst, flagEn := false, flag := 0, srcA := 0, dstA := a, len := n }

def moving (op low : Nat) (m : List Move) : State := engineAs (ins op low) { reserved := true, run := { mode := .executing }, moves := m }

def waits : State := engineAs 0 { reserved := true, flags := 2, run := { mode := .waiting, mask := 2 }, moves := [move 0 8 4] }

def drains (op low : Nat) : State := put (runs op low) 9 0 .draining

theorem witness_AccumulatorsWrapAndMovesSaturate :
    (1 % 4 ≠ 0 % 4) ∧
    (-8388608 ≤ asr (fresh.getAcc 0).toInt fresh.moveShift ∧ asr (fresh.getAcc 0).toInt fresh.moveShift ≤ 8388607) ∧
    (8388607 < asr (rich.getAcc 0).toInt rich.moveShift) ∧
    (asr (rich.getAcc 1).toInt rich.moveShift < -8388608) := by decide

theorem witness_AnInstructionGoesOnInItsEngineAlone :
    (1 ≠ 0) := by
  (repeat' first | apply And.intro | refine ⟨_, rfl, ?_⟩ | refine ⟨_, _, rfl, ?_⟩ | refine ⟨_, _, _, rfl, ?_⟩ | exact ⟨_, rfl⟩ | exact ⟨_, _, rfl⟩ |
    exact ⟨_, _, _, rfl⟩ | fail) <;> decide

theorem witness_AccumulatorInstructions :
    ((runs 2 0).executes 0 2 134217728) ∧
    ((runs 3 0).executes 0 3 201326592) ∧
    ((runs 4 0).executes 0 4 268435456) ∧
    ((runs 5 0).executes 0 5 335544320) ∧
    ((runs 7 0).executes 0 7 469762048) ∧
    ((runs 8 0).executes 0 8 536870912) ∧
    ((runs 9 0).executes 0 9 603979776) ∧
    ((runs 10 0).executes 0 10 671088640) ∧
    ((runs 11 0).executes 0 11 738197504) ∧
    ((runs 12 0).executes 0 12 805306368) ∧
    ((runs 13 0).executes 0 13 872415232) ∧
    ((runs 14 0).executes 0 14 939524096) ∧
    ((runs 15 0).executes 0 15 1006632960) ∧
    ((runs 18 0).executes 0 18 1207959552) := by
  (repeat' first | apply And.intro | refine ⟨_, rfl, ?_⟩ | refine ⟨_, _, rfl, ?_⟩ | refine ⟨_, _, _, rfl, ?_⟩ | exact ⟨_, rfl⟩ | exact ⟨_, _, rfl⟩ |
    exact ⟨_, _, _, rfl⟩ | fail) <;> decide

theorem witness_AccumulatorLoadsAndMoves :
    ((runs 6 0).executes 0 6 402653184) ∧
    ((runs 16 0).executes 0 16 1073741824) ∧
    ((runs 17 0).executes 0 17 1140850688 ∧ bits 1140850688 5 0 ≤ 39) ∧
    ((runs 17 40).executes 0 17 1140850728 ∧ 39 < bits 1140850728 5 0) ∧
    ((runs 30 0).executes 0 30 2013265920) ∧
    ((runs 31 0).executes 0 31 2080374784) ∧
    ((runs 32 0).executes 0 32 2147483648) := by
  (repeat' first | apply And.intro | refine ⟨_, rfl, ?_⟩ | refine ⟨_, _, rfl, ?_⟩ | refine ⟨_, _, _, rfl, ?_⟩ | exact ⟨_, rfl⟩ | exact ⟨_, _, rfl⟩ |
    exact ⟨_, _, _, rfl⟩ | fail) <;> decide

theorem witness_WordAndPointerInstructions :
    ((runs 19 0).executes 0 19 1275068416) ∧
    ((runs 20 0).executes 0 20 1342177280) ∧
    ((runs 21 0).executes 0 21 1409286144) ∧
    ((runs 22 0).executes 0 22 1476395008) ∧
    ((runs 23 0).executes 0 23 1543503872) ∧
    ((runs 24 0).executes 0 24 1610612736 ∧ 0 ≤ sbits 1610612736 5 0) ∧
    ((runs 24 32).executes 0 24 1610612768 ∧ sbits 1610612768 5 0 < 0) ∧
    ((runs 25 0).executes 0 25 1677721600) ∧
    ((runs 26 0).executes 0 26 1744830464) ∧
    (∃ (i : Nat), i = bits 1811939328 21 19 ∧ (runs 27 0).executes 0 27 1811939328 ∧ i % 2 = 0) ∧
    (∃ (i : Nat), i = bits 1812463616 21 19 ∧ (runs 27 524288).executes 0 27 1812463616 ∧ i % 2 = 1) ∧
    ((runs 28 0).executes 0 28 1879048192) ∧
    (∃ (i : Nat), i = bits 1946157056 21 19 ∧ (runs 29 0).executes 0 29 1946157056 ∧ i % 2 = 0) ∧
    (∃ (i : Nat), i = bits 1946681344 21 19 ∧ (runs 29 524288).executes 0 29 1946681344 ∧ i % 2 = 1) ∧
    ((runs 33 0).executes 0 33 2214592512) ∧
    ((runs 34 0).executes 0 34 2281701376 ∧ bit 2281701376 0 = false) ∧
    ((runs 34 1).executes 0 34 2281701377 ∧ bit 2281701377 0 = true ∧ bits 2281701377 2 1 = 0) ∧
    ((runs 34 3).executes 0 34 2281701379 ∧ bit 2281701379 0 = true ∧ bits 2281701379 2 1 = 1) ∧
    ((runs 34 5).executes 0 34 2281701381 ∧ bit 2281701381 0 = true ∧ bits 2281701381 2 1 = 2) ∧
    ((runs 34 7).executes 0 34 2281701383 ∧ bit 2281701383 0 = true ∧ bits 2281701383 2 1 = 3) := by
  (repeat' first | apply And.intro | refine ⟨_, rfl, ?_⟩ | refine ⟨_, _, rfl, ?_⟩ | refine ⟨_, _, _, rfl, ?_⟩ | exact ⟨_, rfl⟩ | exact ⟨_, _, rfl⟩ |
    exact ⟨_, _, _, rfl⟩ | fail) <;> decide

theorem witness_ControlInstructions :
    (∃ (r : EngRun),
        r = (runs 35 0).engRun 0 ∧
          (runs 35 0).executesFree 0 35 2348810240 ∧
            (bits 2348810240 25 14 = 0 ∨
              bits 2348810240 25 14 = 1 ∧ r.z = true ∨
                bits 2348810240 25 14 = 2 ∧ r.z = false ∨
                  bits 2348810240 25 14 = 3 ∧ r.n = true ∨
                    bits 2348810240 25 14 = 4 ∧ r.n = false ∨ bits 2348810240 25 14 = 5 ∧ r.ov = true)) ∧
    (∃ (r : EngRun),
        r = (runs 35 16387).engRun 0 ∧
          (runs 35 16387).executesFree 0 35 2348826627 ∧
            (bits 2348826627 25 14 = 1 ∧ r.z = false ∨
              bits 2348826627 25 14 = 2 ∧ r.z = true ∨
                bits 2348826627 25 14 = 3 ∧ r.n = false ∨
                  bits 2348826627 25 14 = 4 ∧ r.n = true ∨ bits 2348826627 25 14 = 5 ∧ r.ov = false)) ∧
    ((runs 35 147456).executesFree 0 35 2348957696 ∧ 5 < bits 2348957696 25 14) ∧
    (∃ (r : EngRun), r = (runs 36 0).engRun 0 ∧ (runs 36 0).executesFree 0 36 2415919104 ∧ r.calls.length < 8) ∧
    (∃ (r : EngRun),
        r = (runsWith 36 0 (calls 8)).engRun 0 ∧ (runsWith 36 0 (calls 8)).executesFree 0 36 2415919104 ∧ 8 ≤ r.calls.length) ∧
    (∃ (r : EngRun),
        r = (runsWith 37 0 rich).engRun 0 ∧
          (runsWith 37 0 rich).executesFree 0 37 2483027968 ∧ ∃ (u : Nat), ∃ (l : List Nat), r.calls = u :: l) ∧
    (∃ (r : EngRun), r = (runs 37 0).engRun 0 ∧ (runs 37 0).executesFree 0 37 2483027968 ∧ r.calls = []) ∧
    (∃ (r : EngRun), r = (runs 38 0).engRun 0 ∧ (runs 38 0).executesFree 0 38 2550136832 ∧ r.loops.length < 4) ∧
    (∃ (r : EngRun),
        r = (runsWith 38 0 (loops 4)).engRun 0 ∧ (runsWith 38 0 (loops 4)).executesFree 0 38 2550136832 ∧ 4 ≤ r.loops.length) ∧
    (∃ (r : EngRun),
        r = (runsWith 39 0 rich).engRun 0 ∧
          (runsWith 39 0 rich).executesFree 0 39 2617245696 ∧ r.loops.length < 4 ∧ (r.getW (bits 2617245696 25 23)).toNat % 65536 ≠ 0) ∧
    (∃ (r : EngRun),
        r = (runs 39 0).engRun 0 ∧
          (runs 39 0).executesFree 0 39 2617245696 ∧ r.loops.length < 4 ∧ (r.getW (bits 2617245696 25 23)).toNat % 65536 = 0) ∧
    (∃ (r : EngRun),
        r = (runsWith 39 0 (loops 4)).engRun 0 ∧ (runsWith 39 0 (loops 4)).executesFree 0 39 2617245696 ∧ 4 ≤ r.loops.length) ∧
    (∃ (r : EngRun),
        r = (runsWith 40 0 rich).engRun 0 ∧
          (runsWith 40 0 rich).executesFree 0 40 2684354560 ∧ ∃ (l : LoopEnt), ∃ (rest : List LoopEnt), r.loops = l :: rest) ∧
    (∃ (r : EngRun), r = (runs 40 0).engRun 0 ∧ (runs 40 0).executesFree 0 40 2684354560 ∧ r.loops = []) := by
  (repeat' first | apply And.intro | refine ⟨_, rfl, ?_⟩ | refine ⟨_, _, rfl, ?_⟩ | refine ⟨_, _, _, rfl, ?_⟩ | exact ⟨_, rfl⟩ | exact ⟨_, _, rfl⟩ |
    exact ⟨_, _, _, rfl⟩ | fail) <;> decide

theorem witness_SystemInstructions :
    ((runs 0 0).executes 0 0 0) ∧
    ((runs 1 0).executesFree 0 1 67108864 ∧ (runs 1 0).draining (engKey 0) = false) ∧
    ((drains 1 0).executesFree 0 1 67108864 ∧ (drains 1 0).draining (engKey 0) = true) ∧
    ((moving 0 0 [move 3 0 4]).engExecutes 0 = true ∧ ((moving 0 0 [move 3 0 4]).eng 0).fetchHeld = true) ∧
    ((runs 41 0).executes 0 41 2751463424) ∧
    ((runs 42 0).executes 0 42 2818572288 ∧ bits 2818572288 3 0 ≤ 8) ∧
    ((runs 42 9).executes 0 42 2818572297 ∧ 8 < bits 2818572297 3 0) ∧
    ((runs 43 0).executes 0 43 2885681152) ∧
    ((flagged 44 2).executesFree 0 44 2952790018 ∧ ((flagged 44 2).eng 0).flags &&& BitVec.setWidth 24 (2952790018 : Word) ≠ 0) ∧
    ((runs 44 0).executesFree 0 44 2952790016 ∧ ((runs 44 0).eng 0).flags &&& BitVec.setWidth 24 (2952790016 : Word) = 0) ∧
    ((runs 45 0).executes 0 45 3019898880 ∧
        ∃ (k : Nat),
          k = bits 3019898880 4 0 ∧
            ∃ (j : Nat), j = 0 / 8 * 8 + bits 3019898880 25 23 ∧ ((runs 45 0).eng j).reserved = true ∧ k < 24 ∧ (k < 4 ∨ 8 ≤ k)) ∧
    ((runs 45 4).executes 0 45 3019898884 ∧
        ∃ (k : Nat),
          k = bits 3019898884 4 0 ∧
            ∃ (j : Nat), j = 0 / 8 * 8 + bits 3019898884 25 23 ∧ (((runs 45 4).eng j).reserved = false ∨ 24 ≤ k ∨ 4 ≤ k ∧ k < 8)) ∧
    ((runs 46 0).executes 0 46 3087007744) ∧
    ((runs 47 0).executes 0 47 3154116608 ∧ ((runs 47 0).eng 0).moves.length < 4) ∧
    ((moving 47 0 (List.replicate 4 (move 0 8 4))).executes 0 47 3154116608 ∧
        4 ≤ ((moving 47 0 (List.replicate 4 (move 0 8 4))).eng 0).moves.length) ∧
    ((runs 48 0).executes 0 48 3221225472 ∧ bits 3221225472 3 0 < 4) ∧
    ((runs 48 5).executes 0 48 3221225477 ∧ 4 ≤ bits 3221225477 3 0 ∧ bits 3221225477 3 0 < 8) ∧
    ((runs 48 11).executes 0 48 3221225483 ∧ 11 ≤ bits 3221225483 3 0) ∧
    ((runs 48 8).executes 0 48 3221225480 ∧ bits 3221225480 3 0 = 8) ∧
    ((runs 48 9).executes 0 48 3221225481 ∧ bits 3221225481 3 0 = 9) ∧
    ((runs 48 10).executes 0 48 3221225482 ∧ bits 3221225482 3 0 = 10) ∧
    ((runs 49 0).executes 0 49 3288334336 ∧ (bits 3288334336 3 0 < 4 ∨ 8 ≤ bits 3288334336 3 0)) ∧
    ((runs 49 4).executes 0 49 3288334340 ∧ 4 ≤ bits 3288334340 3 0 ∧ bits 3288334340 3 0 < 8) ∧
    ((runs 50 0).executes 0 50 3355443200 ∧ 49 < 50) ∧
    (∃ (r : EngRun),
        r = waits.engRun 0 ∧
          waits.running = true ∧
            waits.dom (0 / 8) = true ∧
              (waits.eng 0).reserved = true ∧
                waits.working (engKey 0) = true ∧ r.mode = EngMode.waiting ∧ (waits.eng 0).flags &&& r.mask ≠ 0) ∧
    ((moving 47 0 (List.replicate 4 (move 0 8 4))).running = true ∧
        (moving 47 0 (List.replicate 4 (move 0 8 4))).dom (0 / 8) = true ∧
          ∃ (m : Move), ∃ (rest : List Move), ((moving 47 0 (List.replicate 4 (move 0 8 4))).eng 0).moves = m :: rest) ∧
    ((moving 47 0 (List.replicate 4 (move 0 8 4))).running = true ∧
        (moving 47 0 (List.replicate 4 (move 0 8 4))).dom (0 / 8) = true ∧
          ∃ (m : Move),
            ∃ (rest : List Move),
              ((moving 47 0 (List.replicate 4 (move 0 8 4))).eng 0).moves = m :: rest ∧
                (moving 47 0 (List.replicate 4 (move 0 8 4))).moveOk 0 m = true ∧
                  m.len ≤ 16 ∧
                    m.dst < 2 ∧
                      ((moving 47 0 (List.replicate 4 (move 0 8 4))).eng 0).served = 0 ∧
                        ∀ (k : Nat),
                          k < 8 → 8 * (0 / 8) + k ≠ 0 → ((moving 47 0 (List.replicate 4 (move 0 8 4))).eng (8 * (0 / 8) + k)).moves = []) ∧
    ((moving 47 0 (List.replicate 4 (move 0 8 4))).running = true ∧
        (moving 47 0 (List.replicate 4 (move 0 8 4))).dom (0 / 8) = true ∧
          ∃ (m : Move),
            ∃ (rest : List Move),
              ((moving 47 0 (List.replicate 4 (move 0 8 4))).eng 0).moves = m :: rest ∧
                (moving 47 0 (List.replicate 4 (move 0 8 4))).moveOk 0 m = true ∧
                  m.len ≤ 16 ∧
                    m.dst < 2 ∧
                      ((moving 47 0 (List.replicate 4 (move 0 8 4))).eng 0).served = 0 ∧
                        (∀ (k : Nat),
                            k < 8 →
                              8 * (0 / 8) + k ≠ 0 → ((moving 47 0 (List.replicate 4 (move 0 8 4))).eng (8 * (0 / 8) + k)).moves = []) ∧
                          0 < m.len) ∧
    (∃ (u : State), u = hostArrives (runs 0 0) Requester.host ∧ (u.eng 0).reserved = true ∧ u.dom (0 / 8) = true) ∧
    (∃ (u : State), u = hostArrives (runs 0 0) Requester.host ∧ (u.eng 1).reserved = false) := by
  (repeat' first | apply And.intro | refine ⟨_, rfl, ?_⟩ | refine ⟨_, _, rfl, ?_⟩ | refine ⟨_, _, _, rfl, ?_⟩ | exact ⟨_, rfl⟩ | exact ⟨_, _, rfl⟩ |
    exact ⟨_, _, _, rfl⟩ | fail) <;> decide

theorem witness_EngineCommands :
    (engOk (cmd 1 0 [0]).num = true ∧
        house.engPowered (cmd 1 0 [0]).num = true ∧
          house.takes { op := 2320, c := cmd 1 0 [0] } ∧
            firstFail (house.engReserveChecks (cmd 1 0 [0])) = none ∧
              bit ((cmd 1 0 [0]).word 4) 0 = !(house.eng (cmd 1 0 [0]).num).reserved) ∧
    (engOk (cmd 1 0 [1]).num = true ∧
        house.engPowered (cmd 1 0 [1]).num = true ∧
          house.takes { op := 2321, c := cmd 1 0 [1] } ∧ firstFail (house.engConfigChecks (cmd 1 0 [1])) = none) ∧
    (engOk (cmd 1 0 [0, 0, 0, 4]).num = true ∧
        house.engPowered (cmd 1 0 [0, 0, 0, 4]).num = true ∧
          house.takes { op := 2322, c := cmd 1 0 [0, 0, 0, 4] } ∧
            firstFail (house.engLoadChecks (cmd 1 0 [0, 0, 0, 4])) = none ∧ house.hostReach = true) ∧
    (engOk (cmd 1 0 [0, 0, 0, 0, 4, 0]).num = true ∧
        (runs 0 0).engPowered (cmd 1 0 [0, 0, 0, 0, 4, 0]).num = true ∧
          (runs 0 0).takes { op := 2323, c := cmd 1 0 [0, 0, 0, 0, 4, 0] } ∧
            firstFail ((runs 0 0).engCopyChecks (cmd 1 0 [0, 0, 0, 0, 4, 0]) true) = none ∧
              (runs 0 0).hostReach = true ∧ bit ((cmd 1 0 [0, 0, 0, 0, 4, 0]).word 9) 0 = false) ∧
    (engOk (cmd 1 0 [0, 0, 0, 0, 4, 2049]).num = true ∧
        (runs 0 0).engPowered (cmd 1 0 [0, 0, 0, 0, 4, 2049]).num = true ∧
          (runs 0 0).takes { op := 2323, c := cmd 1 0 [0, 0, 0, 0, 4, 2049] } ∧
            firstFail ((runs 0 0).engCopyChecks (cmd 1 0 [0, 0, 0, 0, 4, 2049]) true) = none ∧
              (runs 0 0).hostReach = true ∧ bit ((cmd 1 0 [0, 0, 0, 0, 4, 2049]).word 9) 0 = true) ∧
    (engOk (cmd 1 0 [0, 0, 0, 0, 4, 0]).num = true ∧
        (runs 0 0).engPowered (cmd 1 0 [0, 0, 0, 0, 4, 0]).num = true ∧
          (runs 0 0).takes { op := 2324, c := cmd 1 0 [0, 0, 0, 0, 4, 0] } ∧
            firstFail ((runs 0 0).engCopyChecks (cmd 1 0 [0, 0, 0, 0, 4, 0]) false) = none ∧ (runs 0 0).hostReach = true) ∧
    (engOk (cmd 1 0 [1]).num = true ∧
        (runs 0 0).engPowered (cmd 1 0 [1]).num = true ∧
          (runs 0 0).takes { op := 2325, c := cmd 1 0 [1] } ∧ firstFail ((runs 0 0).engStatsChecks (cmd 1 0 [1])) = none) := by
  (repeat' first | apply And.intro | refine ⟨_, rfl, ?_⟩ | refine ⟨_, _, rfl, ?_⟩ | refine ⟨_, _, _, rfl, ?_⟩ | exact ⟨_, rfl⟩ | exact ⟨_, _, rfl⟩ |
    exact ⟨_, _, _, rfl⟩ | fail) <;> decide

end W06

namespace W07

/-- A master bank of 48 kHz, 8 slots of 32 bits, its bits left to the default, and a slave. -/
def bankCmd : Cmd := cmd 1 0x10000 [BitVec.ofNat 32 (1 + 8 * 2 + 7 * 32 + 3 * 1024), 0, 0]

def slaveCmd : Cmd := cmd 1 0x10000 [BitVec.ofNat 32 (8 * 2 + 7 * 32 + 3 * 1024), 0, 0]

/-- Bank 0 in a state, as a slave if asked, with its run record, at a TB0. -/
def bankIn (st : ObjState) (slave : Bool) (r : BankRun) (t : Nat) : State :=
  let s := atTb0 (put house 8 0x10000 st) t
  { s.setBankRun 0 r with hat := { (s.setBankRun 0 r).hat with cfgs := [(0, { bankCfg with master := !slave })] } }

/-- The same with hatch 0 as given. -/
def hatchIn (x : Hatch) (s : State) : State := s.setHatch 0 x

def framing : BankRun := { firstBlock := some 0 }

def mask0 (c : List Cmd) : MaskChange := ⟨2, some 1, some 3, false, c⟩

def ring (host : Bool) : HatRing := ⟨host, 2, 0x10000⟩

def rxDue (lost : List Nat) : RxDue := { first := 0, frames := 48, mask := 3, isPart := false, lost := lost, endAt := 70560 }

/-- A transmit entry for block 1 that has 48 frames and no slot lies in main memory. -/
def txThere : State :=
  (hatchIn { tx := some (ring false), txTail := 1, visible := [0] } (bankIn .running false framing 70560)).writeMem 0x10000
    ([0, 0, 1, 48, 0, 0, 0, (0 : Word)].flatMap wordBytes)

def edges (r : BankRun) (t : Nat) : State := bankIn .running true r t

theorem witness_HatchCommands :
    (live.takes { op := 2064, c := slaveCmd } ∧
        live.bankOk slaveCmd.num = true ∧
          firstFail (live.hatBankConfigChecks slaveCmd) = none ∧
            ∃ (b : Nat),
              b = slaveCmd.num - 65536 ∧
                live.bankPowered b = true ∧
                  ∃ (g : BankCfg),
                    g =
                        { master := bit (slaveCmd.word 4) 0, rate := bits (slaveCmd.word 4) 4 1,
                          slots := bits (slaveCmd.word 4) 9 5 + 1, width := widthOf (bits (slaveCmd.word 4) 11 10),
                          offset := bits (slaveCmd.word 4) 16 12, fsPol := bit (slaveCmd.word 4) 17,
                          bclkPol := bit (slaveCmd.word 4) 18, fsWidth := bits (slaveCmd.word 4) 20 19,
                          bits :=
                            if bits (slaveCmd.word 5) 10 0 = 0 then
                              bits (slaveCmd.word 4) 16 12 + (bits (slaveCmd.word 4) 9 5 + 1) * widthOf (bits (slaveCmd.word 4) 11 10)
                            else bits (slaveCmd.word 5) 10 0,
                          ramp := if bits (slaveCmd.word 6) 6 0 = 0 then 4 else bits (slaveCmd.word 6) 6 0 } ∧
                      g.master = false) ∧
    (live.takes { op := 2064, c := bankCmd } ∧
        live.bankOk bankCmd.num = true ∧
          firstFail (live.hatBankConfigChecks bankCmd) = none ∧
            ∃ (b : Nat),
              b = bankCmd.num - 65536 ∧
                live.bankPowered b = true ∧
                  ∃ (g : BankCfg),
                    g =
                        { master := bit (bankCmd.word 4) 0, rate := bits (bankCmd.word 4) 4 1, slots := bits (bankCmd.word 4) 9 5 + 1,
                          width := widthOf (bits (bankCmd.word 4) 11 10), offset := bits (bankCmd.word 4) 16 12,
                          fsPol := bit (bankCmd.word 4) 17, bclkPol := bit (bankCmd.word 4) 18, fsWidth := bits (bankCmd.word 4) 20 19,
                          bits :=
                            if bits (bankCmd.word 5) 10 0 = 0 then
                              bits (bankCmd.word 4) 16 12 + (bits (bankCmd.word 4) 9 5 + 1) * widthOf (bits (bankCmd.word 4) 11 10)
                            else bits (bankCmd.word 5) 10 0,
                          ramp := if bits (bankCmd.word 6) 6 0 = 0 then 4 else bits (bankCmd.word 6) 6 0 } ∧
                      g.master = true) ∧
    (hatchOk (cmd 1 0 [1]).num = true ∧
        live.hatchPowered (cmd 1 0 [1]).num = true ∧
          live.takes { op := 2065, c := cmd 1 0 [1] } ∧ firstFail (live.hatPortConfigChecks (cmd 1 0 [1])) = none) ∧
    (hatchOk (cmd 1 0 [2147483650, 9, 0]).num = true ∧
        live.hatchPowered (cmd 1 0 [2147483650, 9, 0]).num = true ∧
          live.takes { op := 2066, c := cmd 1 0 [2147483650, 9, 0] } ∧
            firstFail (live.hatLegChecks (cmd 1 0 [2147483650, 9, 0])) = none ∧
              bit ((cmd 1 0 [2147483650, 9, 0]).word 4) 31 = true ∧ bit ((cmd 1 0 [2147483650, 9, 0]).word 4) 8 = false) ∧
    (hatchOk (cmd 1 0 [2147483906, 9, 0]).num = true ∧
        live.hatchPowered (cmd 1 0 [2147483906, 9, 0]).num = true ∧
          live.takes { op := 2066, c := cmd 1 0 [2147483906, 9, 0] } ∧
            firstFail (live.hatLegChecks (cmd 1 0 [2147483906, 9, 0])) = none ∧
              bit ((cmd 1 0 [2147483906, 9, 0]).word 4) 31 = true ∧ bit ((cmd 1 0 [2147483906, 9, 0]).word 4) 8 = true) ∧
    (hatchOk (cmd 1 0 [1]).num = true ∧
        live.hatchPowered (cmd 1 0 [1]).num = true ∧
          live.takes { op := 2066, c := cmd 1 0 [1] } ∧
            firstFail (live.hatLegChecks (cmd 1 0 [1])) = none ∧ bit ((cmd 1 0 [1]).word 4) 31 = false) ∧
    (hatchOk (cmd 1 0 [1]).num = true ∧
        live.hatchPowered (cmd 1 0 [1]).num = true ∧
          live.takes { op := 2067, c := cmd 1 0 [1] } ∧
            firstFail (live.hatRingChecks (cmd 1 0 [1])) = none ∧ bit ((cmd 1 0 [1]).word 4) 0 = true) ∧
    (hatchOk (cmd 1 0 [2, 9, 0]).num = true ∧
        live.hatchPowered (cmd 1 0 [2, 9, 0]).num = true ∧
          live.takes { op := 2067, c := cmd 1 0 [2, 9, 0] } ∧
            firstFail (live.hatRingChecks (cmd 1 0 [2, 9, 0])) = none ∧ bit ((cmd 1 0 [2, 9, 0]).word 4) 0 = false) ∧
    (hatchOk (cmd 1 0 [1]).num = true ∧ live.hatchPowered (cmd 1 0 [1]).num = true ∧ live.takes { op := 2069, c := cmd 1 0 [1] }) ∧
    (hatchOk (cmd 1 0 [3, 3, 3]).num = true ∧
        live.hatchPowered (cmd 1 0 [3, 3, 3]).num = true ∧
          live.takes { op := 2068, c := cmd 1 0 [3, 3, 3] } ∧
            firstFail (live.hatMaskChecks (cmd 1 0 [3, 3, 3])) = none ∧
              live.stopped (bankKey ((cmd 1 0 [3, 3, 3]).num / 8)) = true ∧
                (bit ((cmd 1 0 [3, 3, 3]).word 6) 0 || bit ((cmd 1 0 [3, 3, 3]).word 6) 1) = true) ∧
    (hatchOk (cmd 1 0 [1]).num = true ∧
        live.hatchPowered (cmd 1 0 [1]).num = true ∧
          live.takes { op := 2068, c := cmd 1 0 [1] } ∧
            firstFail (live.hatMaskChecks (cmd 1 0 [1])) = none ∧
              bit ((cmd 1 0 [1]).word 6) 0 = false ∧ bit ((cmd 1 0 [1]).word 6) 1 = false) ∧
    (hatchOk (cmd 1 0 [3, 3, 3]).num = true ∧
        (bankIn ObjState.running false { } 0).hatchPowered (cmd 1 0 [3, 3, 3]).num = true ∧
          (bankIn ObjState.running false { } 0).takes { op := 2068, c := cmd 1 0 [3, 3, 3] } ∧
            firstFail ((bankIn ObjState.running false { } 0).hatMaskChecks (cmd 1 0 [3, 3, 3])) = none ∧
              (bankIn ObjState.running false { } 0).isRunning (bankKey ((cmd 1 0 [3, 3, 3]).num / 8)) = true ∧
                (bit ((cmd 1 0 [3, 3, 3]).word 6) 0 || bit ((cmd 1 0 [3, 3, 3]).word 6) 1) = true) := by
  (repeat' first | apply And.intro | refine ⟨_, rfl, ?_⟩ | refine ⟨_, _, rfl, ?_⟩ | refine ⟨_, _, _, rfl, ?_⟩ | exact ⟨_, rfl⟩ | exact ⟨_, _, rfl⟩ |
    exact ⟨_, _, _, rfl⟩ | fail) <;> decide

theorem witness_ClocksPartnersAndRingsOfHatches_first :
    (∃ (u : State),
        u = hostArrives (bankIn ObjState.running false { } 0) Requester.host ∧
          u.hatchPowered 0 = true ∧ (bit 1 0 || bit 1 1) = true ∧ u.stopped (bankKey (0 / 8)) = false) ∧
    (∃ (u : State),
        u = hostArrives live Requester.host ∧ u.hatchPowered 0 = true ∧ (bit 1 0 || bit 1 1) = true ∧ u.stopped (bankKey (0 / 8)) = true) ∧
    ((hatchIn { pend := some (mask0 []) } (bankIn ObjState.running false { } 7056)).stopped (bankKey (0 / 8)) = false ∧
        ∃ (m : MaskChange),
          ((hatchIn { pend := some (mask0 []) } (bankIn ObjState.running false { } 7056)).hatch 0).pend = some m ∧
            m.frame * ((hatchIn { pend := some (mask0 []) } (bankIn ObjState.running false { } 7056)).bankCfg (0 / 8)).period ≤
              (hatchIn { pend := some (mask0 []) } (bankIn ObjState.running false { } 7056)).now) ∧
    ((bankIn ObjState.starting false { } 0).starting (bankKey 0) = true ∧
        ((bankIn ObjState.starting false { } 0).bankCfg 0).master = true ∧
          (bankIn ObjState.starting false { } 0).cyc ≤ ((bankIn ObjState.starting false { } 0).bankRun 0).startAt + 1411200) ∧
    ((atCyc (bankIn ObjState.starting false { } 0) 1411201).starting (bankKey 0) = true ∧
        ((atCyc (bankIn ObjState.starting false { } 0) 1411201).bankCfg 0).master = true ∧
          ((atCyc (bankIn ObjState.starting false { } 0) 1411201).bankRun 0).startAt + 1411200 <
            (atCyc (bankIn ObjState.starting false { } 0) 1411201).cyc) ∧
    (0 + ((bankIn ObjState.running false { ramp := some (true, 0) } 282240).bankCfg 0).rampCt ≤
          (bankIn ObjState.running false { ramp := some (true, 0) } 282240).now ∧
        ((bankIn ObjState.running false { ramp := some (true, 0) } 282240).bankRun 0).ramp = some (true, 0)) ∧
    (0 + ((bankIn ObjState.draining false { ramp := some (false, 0) } 282240).bankCfg 0).rampCt ≤
          (bankIn ObjState.draining false { ramp := some (false, 0) } 282240).now ∧
        ((bankIn ObjState.draining false { ramp := some (false, 0) } 282240).bankRun 0).ramp = some (false, 0) ∧
          ((bankIn ObjState.draining false { ramp := some (false, 0) } 282240).bankRun 0).stopAt = none) ∧
    (((edges { } 5).bankCfg 0).master = false ∧
        (edges { } 5).working (bankKey 0) = true ∧ (edges { } 5).bankPowered 0 = true ∧ ((edges { } 5).bankRun 0).lastEdge = none) ∧
    (((edges { partner := true, period := 1470, lastEdge := some 0 } 1470).bankCfg 0).master = false ∧
        (edges { partner := true, period := 1470, lastEdge := some 0 } 1470).working (bankKey 0) = true ∧
          (edges { partner := true, period := 1470, lastEdge := some 0 } 1470).bankPowered 0 = true ∧
            ((edges { partner := true, period := 1470, lastEdge := some 0 } 1470).bankRun 0).partner = true ∧
              ∃ (t : Nat), ((edges { partner := true, period := 1470, lastEdge := some 0 } 1470).bankRun 0).lastEdge = some t) ∧
    (((edges { regular := 7, period := 1470, bitCount := 256, lastEdge := some 10290 } 11760).bankCfg 0).master = false ∧
        (edges { regular := 7, period := 1470, bitCount := 256, lastEdge := some 10290 } 11760).working (bankKey 0) = true ∧
          (edges { regular := 7, period := 1470, bitCount := 256, lastEdge := some 10290 } 11760).bankPowered 0 = true ∧
            ((edges { regular := 7, period := 1470, bitCount := 256, lastEdge := some 10290 } 11760).bankRun 0).partner = false ∧
              ((edges { regular := 7, period := 1470, bitCount := 256, lastEdge := some 10290 } 11760).bankRun 0).regular = 7 ∧
                ((edges { regular := 7, period := 1470, bitCount := 256, lastEdge := some 10290 } 11760).bankRun 0).bitCount = 256 ∧
                  256 = ((edges { regular := 7, period := 1470, bitCount := 256, lastEdge := some 10290 } 11760).bankCfg 0).bits ∧
                    nearPeriod
                          ((edges { regular := 7, period := 1470, bitCount := 256, lastEdge := some 10290 } 11760).bankCfg 0).period 8
                          ((edges { regular := 7, period := 1470, bitCount := 256, lastEdge := some 10290 } 11760).now -
                            ((edges { regular := 7, period := 1470, bitCount := 256, lastEdge := some 10290 } 11760).bankRun
                                0).winStart) =
                        true ∧
                      ∃ (t : Nat),
                        ((edges { regular := 7, period := 1470, bitCount := 256, lastEdge := some 10290 } 11760).bankRun 0).lastEdge =
                            some t ∧
                          nearPeriod
                              ((edges { regular := 7, period := 1470, bitCount := 256, lastEdge := some 10290 } 11760).bankRun 0).period
                              1 ((edges { regular := 7, period := 1470, bitCount := 256, lastEdge := some 10290 } 11760).now - t) =
                            true) ∧
    (((edges { partner := true, period := 1470, lastEdge := some 0, missed := 3, firstMissing := 5 } 7000).bankCfg 0).master = false ∧
        (edges { partner := true, period := 1470, lastEdge := some 0, missed := 3, firstMissing := 5 } 7000).working (bankKey 0) =
            true ∧
          ((edges { partner := true, period := 1470, lastEdge := some 0, missed := 3, firstMissing := 5 } 7000).bankRun 0).partner =
              true ∧
            ((edges { partner := true, period := 1470, lastEdge := some 0, missed := 3, firstMissing := 5 } 7000).bankRun 0).isMatch =
                false ∧
              ((edges { partner := true, period := 1470, lastEdge := some 0, missed := 3, firstMissing := 5 } 7000).bankRun 0).missed =
                  3 ∧
                ∃ (t : Nat),
                  ((edges { partner := true, period := 1470, lastEdge := some 0, missed := 3, firstMissing := 5 } 7000).bankRun
                          0).lastEdge =
                      some t ∧
                    t +
                          ((edges { partner := true, period := 1470, lastEdge := some 0, missed := 3, firstMissing := 5 } 7000).bankRun
                                0).period *
                            4 +
                        ((edges { partner := true, period := 1470, lastEdge := some 0, missed := 3, firstMissing := 5 } 7000).bankRun
                              0).period /
                          8 <
                      (edges { partner := true, period := 1470, lastEdge := some 0, missed := 3, firstMissing := 5 } 7000).now) := by
  (repeat' first | apply And.intro | refine ⟨_, rfl, ?_⟩ | refine ⟨_, _, rfl, ?_⟩ | refine ⟨_, _, _, rfl, ?_⟩ | exact ⟨_, rfl⟩ | exact ⟨_, _, rfl⟩ |
    exact ⟨_, _, _, rfl⟩ | fail) <;> decide

theorem witness_ClocksPartnersAndRingsOfHatches_second :
    ((hatchIn { pend := some (mask0 []) } (bankIn ObjState.running false framing 7056)).bankFrames (0 / 8)
            ((hatchIn { pend := some (mask0 []) } (bankIn ObjState.running false framing 7056)).now / 70560) =
          true ∧
        ((hatchIn { pend := some (mask0 []) } (bankIn ObjState.running false framing 7056)).hatch 0).txBlock ≠
          some ((hatchIn { pend := some (mask0 []) } (bankIn ObjState.running false framing 7056)).now / 70560)) ∧
    (((hatchIn { txBlock := some 1 } (bankIn ObjState.running false framing 70560)).hatch 0).txBlock =
        some ((hatchIn { txBlock := some 1 } (bankIn ObjState.running false framing 70560)).now / 70560)) ∧
    ((hatchIn { rx := some (ring false), due := [rxDue []] } (bankIn ObjState.running false framing 70560)).legSlots 0 false = [] ∧
        ∃ (d : RxDue),
          ∃ (r : List RxDue),
            ((hatchIn { rx := some (ring false), due := [rxDue []] } (bankIn ObjState.running false framing 70560)).hatch 0).due =
                d :: r ∧
              d.endAt ≤ (hatchIn { rx := some (ring false), due := [rxDue []] } (bankIn ObjState.running false framing 70560)).now ∧
                d.mask ≠ 0 ∧
                  ∃ (g : HatRing),
                    ((hatchIn { rx := some (ring false), due := [rxDue []] } (bankIn ObjState.running false framing 70560)).hatch
                            0).rx =
                        some g ∧
                      g.host = false ∧
                        (((hatchIn { rx := some (ring false), due := [rxDue []] } (bankIn ObjState.running false framing 70560)).hatch
                                  0).rxTail +
                              1) %
                            2 ^ g.size ≠
                          ((hatchIn { rx := some (ring false), due := [rxDue []] } (bankIn ObjState.running false framing 70560)).hatch
                              0).rxHead) ∧
    ((hatchIn { rx := some (ring false), rxHead := 1, due := [rxDue []] } (bankIn ObjState.running false framing 70560)).legSlots 0
            false =
          [] ∧
        ∃ (d : RxDue),
          ∃ (r : List RxDue),
            ((hatchIn { rx := some (ring false), rxHead := 1, due := [rxDue []] } (bankIn ObjState.running false framing 70560)).hatch
                    0).due =
                d :: r ∧
              d.endAt ≤
                  (hatchIn { rx := some (ring false), rxHead := 1, due := [rxDue []] }
                      (bankIn ObjState.running false framing 70560)).now ∧
                d.mask ≠ 0 ∧
                  ∃ (g : HatRing),
                    ((hatchIn { rx := some (ring false), rxHead := 1, due := [rxDue []] }
                                (bankIn ObjState.running false framing 70560)).hatch
                            0).rx =
                        some g ∧
                      g.host = false ∧
                        (((hatchIn { rx := some (ring false), rxHead := 1, due := [rxDue []] }
                                      (bankIn ObjState.running false framing 70560)).hatch
                                  0).rxTail +
                              1) %
                            2 ^ g.size =
                          ((hatchIn { rx := some (ring false), rxHead := 1, due := [rxDue []] }
                                  (bankIn ObjState.running false framing 70560)).hatch
                              0).rxHead) ∧
    ((live.hatch 0).due = []) ∧
    (∃ (s' : State),
        s' =
            hostArrives (hatchIn { rx := some (ring false), due := [rxDue []] } (bankIn ObjState.running false framing 70560))
              Requester.host ∧
          s'.hatchPowered 0 = true ∧ (s'.hatch 0).rx = some (ring false) ∧ bits 0 9 0 < 2 ^ (ring false).size) ∧
    (∃ (s' : State),
        s' =
            hostArrives (hatchIn { rx := some (ring false), due := [rxDue []] } (bankIn ObjState.running false framing 70560))
              Requester.host ∧
          s'.hatchPowered 0 = true ∧ (s'.hatch 0).rx = some (ring false) ∧ 2 ^ (ring false).size ≤ bits 4 9 0) ∧
    (∃ (s' : State),
        s' = hostArrives txThere Requester.host ∧
          s'.hatchPowered 0 = true ∧ (s'.hatch 0).tx = some (ring false) ∧ bits 0 9 0 < 2 ^ (ring false).size) ∧
    (∃ (s' : State),
        s' = hostArrives txThere Requester.host ∧
          s'.hatchPowered 0 = true ∧ (s'.hatch 0).tx = some (ring false) ∧ 2 ^ (ring false).size ≤ bits 4 9 0) ∧
    (∃ (s' : State), s' = hostArrives live Requester.host ∧ s'.hatchPowered 0 = true ∧ (s'.hatch 0).rx = none) ∧
    (∃ (s' : State), s' = hostArrives live Requester.host ∧ s'.hatchPowered 0 = true ∧ (s'.hatch 0).tx = none) := by
  (repeat' first | apply And.intro | refine ⟨_, rfl, ?_⟩ | refine ⟨_, _, rfl, ?_⟩ | refine ⟨_, _, _, rfl, ?_⟩ | exact ⟨_, rfl⟩ | exact ⟨_, _, rfl⟩ |
    exact ⟨_, _, _, rfl⟩ | fail) <;> decide

end W07

namespace W08

def decCmd : Cmd := cmd 1 0 [0x2003, BitVec.ofNat 32 (1280 + 720 * 65536), 30]

def slotOn : State := put house 0x0A 0 .running

def picture : CurPic := { num := 3, deadline := 7056000, nonRef := false, bands := 12 }

def decodedTo (n f : Nat) : CurPic := { picture with decoded := n, final := f }

def hidden (n f : Nat) : CurPic := { decodedTo n f with shown := false }

/-- Slot 0 RUNNING with a run record, at a TB0. -/
def slotIn (x : SlotRun) (t : Nat) : State := (atTb0 (put house 0x0A 0 .running) t).setSlotRun 0 x

def streamInfo (w : Nat) : StreamInfo :=
  { width := w, height := 720, profile := 77, constrained := false, level := 31, depth := 8, chroma := 1, excluded := false, points := 0,
    refs := 1, sb128 := false }

def waitingPic (key : Bool) : WaitPic := ⟨4, 8000000, key, false⟩

def begins (key need : Bool) (w : Nat) : State :=
  slotIn { waiting := [waitingPic key], needKey := need, info := some (streamInfo w), told := some (streamInfo w) } 0

def clean3 (c : CurPic) : State := slotIn { cur := some c, needKey := false } 0

def asking (t : Nat) : State := slotIn { taint := some (0, 1), keyNext := some 21168000 } t

def frozen (f : Bool) : State :=
  let s := slotIn { taint := some (0, 1), frozen := f } 70560000
  { s with dec := { s.dec with cfgs := [(0, { freeze := 2 })] } }

def seen : BandObs :=
  { stream := none, newSeq := false, excluded := false, refs := [], gap := none, damaged := [], clean := none, isRef := true, unref := [], layer := 0 }

theorem witness_GlasshouseCommands_first :
    (live.takes { op := 2576, c := decCmd } ∧
        slotOk decCmd.num = true ∧ live.slotPowered decCmd.num = true ∧ firstFail (live.decConfigChecks decCmd) = none) ∧
    (slotOn.takes { op := 2577, c := decCmd } ∧
        slotOk decCmd.num = true ∧ slotOn.slotPowered decCmd.num = true ∧ slotOn.isRunning (slotKey decCmd.num) = true) ∧
    (live.takes { op := 2578, c := decCmd } ∧ slotOk decCmd.num = true) ∧
    (live.takes { op := 2579, c := cmd 1 65541 [] } ∧ (cmd 1 65541 []).num = 65536 + 5 ∧ 5 < 24) := by
  (repeat' first | apply And.intro | refine ⟨_, rfl, ?_⟩ | refine ⟨_, _, rfl, ?_⟩ | refine ⟨_, _, _, rfl, ?_⟩ | exact ⟨_, rfl⟩ | exact ⟨_, _, rfl⟩ |
    exact ⟨_, _, _, rfl⟩ | fail) <;> decide

theorem witness_PicturesBandsAndFences :
    ((clean3 picture).running = true ∧
        (clean3 picture).dom (28 + 0) = true ∧
          ∃ (k : Nat),
            (clean3 picture).pickSlot 0 = some k ∧
              ((clean3 picture).slotRun k).taint = none ∧
                seen.gap = none ∧
                  seen.damaged = [] ∧
                    (∀ (r : Nat × Word),
                        r ∈ seen.refs → Option.any (fun (q : StorePic) ↦ !q.tainted) (((clean3 picture).slotRun k).ref r.fst) = true) ∧
                      ∃ (p : CurPic), ((clean3 picture).slotRun k).cur = some p) ∧
    ((begins true true 1280).running = true ∧
        (begins true true 1280).dom (28 + 0) = true ∧
          ∃ (k : Nat),
            (begins true true 1280).pickSlot 0 = some k ∧
              ((begins true true 1280).slotRun k).taint = none ∧
                seen.gap = none ∧
                  seen.damaged = [] ∧
                    ((begins true true 1280).slotRun k).cur = none ∧
                      seen.stream = none ∧
                        seen.newSeq = false ∧
                          seen.refs = [] ∧
                            ∃ (w : WaitPic),
                              ∃ (r : List WaitPic),
                                ((begins true true 1280).slotRun k).waiting = w :: r ∧
                                  (w.key = true ∨ ((begins true true 1280).slotRun k).needKey = false) ∧
                                    ∃ (i : StreamInfo),
                                      ((begins true true 1280).slotRun k).info = some i ∧
                                        ((begins true true 1280).slotCfg k).refuses i seen.excluded = none) ∧
    ((begins true true 1920).running = true ∧
        (begins true true 1920).dom (28 + 0) = true ∧
          ∃ (k : Nat),
            (begins true true 1920).pickSlot 0 = some k ∧
              ((begins true true 1920).slotRun k).taint = none ∧
                seen.gap = none ∧
                  seen.damaged = [] ∧
                    ((begins true true 1920).slotRun k).cur = none ∧
                      seen.stream = none ∧
                        seen.newSeq = false ∧
                          seen.refs = [] ∧
                            ∃ (w : WaitPic),
                              ∃ (r : List WaitPic),
                                ((begins true true 1920).slotRun k).waiting = w :: r ∧
                                  (w.key = true ∨ ((begins true true 1920).slotRun k).needKey = false) ∧
                                    ∃ (i : StreamInfo),
                                      ((begins true true 1920).slotRun k).info = some i ∧
                                        ((begins true true 1920).slotCfg k).refuses i seen.excluded ≠ none) ∧
    ((clean3 (decodedTo 2 0)).working (slotKey 0) = true ∧
        ∃ (p : CurPic),
          ((clean3 (decodedTo 2 0)).slotRun 0).cur = some p ∧
            p.final < p.bands ∧
              ((if p.sb128 = true then p.final / 2 * 2 + 4 else p.final + 2) ≤ p.decoded ∨ p.decoded = p.bands) ∧ p.shown = true) ∧
    ((clean3 (hidden 3 0)).working (slotKey 0) = true ∧
        ∃ (p : CurPic),
          ((clean3 (hidden 3 0)).slotRun 0).cur = some p ∧
            p.final < p.bands ∧
              ((if p.sb128 = true then p.final / 2 * 2 + 4 else p.final + 2) ≤ p.decoded ∨ p.decoded = p.bands) ∧ p.shown = false) ∧
    (∃ (p : CurPic),
        ((clean3 picture).slotRun 0).cur = some p ∧
          p.final < p.bands ∧ p.decoded < p.bands ∧ p.decoded < if p.sb128 = true then p.final / 2 * 2 + 4 else p.final + 2) ∧
    ((clean3 (decodedTo 12 12)).isRunning (slotKey 0) = true ∧
        ((clean3 (decodedTo 12 12)).slotRun 0).recov = none ∧
          ∃ (p : CurPic),
            ((clean3 (decodedTo 12 12)).slotRun 0).cur = some p ∧
              p.decoded = p.bands ∧ p.final = p.bands ∧ p.tainted = false ∧ p.clean = false ∧ p.recovery = none) ∧
    (((asking 21168000).slotRun 0).taint.isSome = true ∧
        (asking 21168000).isRunning (slotKey 0) = true ∧
          ∃ (t : Nat), ((asking 21168000).slotRun 0).keyNext = some t ∧ t ≤ (asking 21168000).now) ∧
    (((asking 0).slotRun 0).taint.isSome = true ∧
        (asking 0).isRunning (slotKey 0) = true ∧ ∃ (t : Nat), ((asking 0).slotRun 0).keyNext = some t ∧ (asking 0).now < t) ∧
    (((frozen true).slotCfg 0).freeze = 2 ∧
        ((frozen true).slotRun 0).switched = false ∧
          (frozen true).working (slotKey 0) = true ∧
            ∃ (t : Nat),
              ∃ (n : Nat), ((frozen true).slotRun 0).taint = some (t, n) ∧ t + ((frozen true).slotCfg 0).freezeCt ≤ (frozen true).now) := by
  (repeat' first | apply And.intro | refine ⟨_, rfl, ?_⟩ | refine ⟨_, _, rfl, ?_⟩ | refine ⟨_, _, _, rfl, ?_⟩ | exact ⟨_, rfl⟩ | exact ⟨_, _, rfl⟩ |
    exact ⟨_, _, _, rfl⟩ | fail) <;> decide

end W08

namespace W09

def canvasCmd : Cmd := cmd 1 0 [BitVec.ofNat 32 (1280 + 720 * 65536), 3, 0, 0x2008_0040, 0, 0]

/-- A fill layer that covers a corner, staged or taken back. -/
def layerCmd : Cmd := cmd 1 0 [BitVec.ofNat 32 (16 + 64 + 255 * 256), 0, 0, BitVec.ofNat 32 (128 + 64 * 65536)]

def imageCmd : Cmd := cmd 1 0x3_0000 [0, 1, 0, BitVec.ofNat 32 (4 + 4 * 65536), 4]

/-- A small canvas 0 RUNNING with a run record, the load ladder at a step, at a TB0. -/
def canvasIn (x : CanvasRun) (step t : Nat) : State :=
  let s := (atTb0 (put house 0x0B 0 .running) t).setCanvas 0 x
  { s with hall := { s.hall with step := step }, org := { s.org with cfgs := [(0, { w := 32, h := 96 })] } }

def canvasOn : State := put live 0x0B 0 .running

def pendCommit : Commit := { seq := 1, earliest := 0, layers := [], fences := [], seen := 0 }

def committed : State := canvasOn.setCanvas 0 { pend := some pendCommit, nextSeq := 2 }

def slotLayer : Layer :=
  { kind := 0, opq := true, opacity := 255, border := 0, source := 5, dx := 0, dy := 0, dw := 16, dh := 16, sx := 0, sy := 0, sw := 16,
    sh := 16, colY := 0, colCb := 0, colCr := 0 }

def waitsForSlot (t : Nat) : State :=
  canvasIn { frame := some 0, released := 1, active := [(0, slotLayer)], latched := [{ layer := 0, slot := 5, num := 9 }] } 0 t

def placed (band : Nat) : Placed := { canvas := 0, frame := 0, band := band, start := 0, release := 0, at' := 0, w := 32, h := 96, rate := 3 }

/-- A band of canvas 0 is being composed, for an encoding that runs or for none. -/
def composing (band : Nat) (coded : Bool) : State :=
  let s := canvasIn { frame := some 0, released := 2, begun := band + 1 } 0 0
  { put s 0x0C 0 (if coded then .running else .stopped) with org := { s.org with busy := [(0, placed band)] } }

theorem witness_CanvasCommands :
    (canvasOk canvasCmd.num = true ∧
        live.canvasPowered canvasCmd.num = true ∧
          live.takes { op := 2832, c := canvasCmd } ∧ firstFail (live.orgCanvasConfigChecks canvasCmd) = none) ∧
    (canvasOk layerCmd.num = true ∧
        live.canvasPowered layerCmd.num = true ∧
          live.takes { op := 2833, c := layerCmd } ∧ firstFail (live.orgLayerStageChecks layerCmd) = none) ∧
    (canvasOk (cmd 1 0 [0, 0]).num = true ∧
        canvasOn.canvasPowered (cmd 1 0 [0, 0]).num = true ∧
          canvasOn.takes { op := 2834, c := cmd 1 0 [0, 0], lenHi := 2 } ∧
            firstFail (canvasOn.orgCommitChecks (cmd 1 0 [0, 0])) = none ∧
              (canvasOn.canvas (cmd 1 0 [0, 0]).num).pend = none ∧ canvasOn.stopped (canvasKey (cmd 1 0 [0, 0]).num) = false) ∧
    (canvasOk (cmd 1 0 [256, 0]).num = true ∧
        committed.canvasPowered (cmd 1 0 [256, 0]).num = true ∧
          committed.takes { op := 2834, c := cmd 1 0 [256, 0], lenHi := 2 } ∧
            firstFail (committed.orgCommitChecks (cmd 1 0 [256, 0])) = none ∧
              committed.stopped (canvasKey (cmd 1 0 [256, 0]).num) = false ∧
                ∃ (p : Commit), (committed.canvas (cmd 1 0 [256, 0]).num).pend = some p) ∧
    (canvasOk (cmd 1 0 [0, 0]).num = true ∧
        live.canvasPowered (cmd 1 0 [0, 0]).num = true ∧
          live.takes { op := 2834, c := cmd 1 0 [0, 0], lenHi := 2 } ∧
            firstFail (live.orgCommitChecks (cmd 1 0 [0, 0])) = none ∧
              (live.canvas (cmd 1 0 [0, 0]).num).pend = none ∧ live.stopped (canvasKey (cmd 1 0 [0, 0]).num) = true) ∧
    (live.takes { op := 2835, c := cmd 1 131072 [5] } ∧ hostFenceOk (cmd 1 131072 [5]).num = true) ∧
    (live.takes { op := 2836, c := imageCmd } ∧
        imageOk imageCmd.num = true ∧
          firstFail (live.imageLoadChecks imageCmd) = none ∧ (live.begun { op := 2836, c := imageCmd }).hostReach = true) ∧
    (live.takes { op := 2837, c := imageCmd } ∧ imageOk imageCmd.num = true ∧ live.imageInUse (imageCmd.num - 196608) = false) ∧
    (live.takes { op := 2838, c := canvasCmd } ∧ canvasOk canvasCmd.num = true) := by
  (repeat' first | apply And.intro | refine ⟨_, rfl, ?_⟩ | refine ⟨_, _, rfl, ?_⟩ | refine ⟨_, _, _, rfl, ?_⟩ | exact ⟨_, rfl⟩ | exact ⟨_, _, rfl⟩ |
    exact ⟨_, _, _, rfl⟩ | fail) <;> decide

theorem witness_FramesAndBandsOfCanvases :
    (canvasOn.running = true ∧
        canvasOn.bell.double = false ∧
          canvasOn.dom (64 + 0 / 24) = true ∧
            canvasOn.isRunning (canvasKey 0) = true ∧
              ∃ (k : Nat),
                (canvasOn.canvasCfg 0).frameAt canvasOn.now = some k ∧
                  (canvasOn.canvas 0).lastK ≠ some k ∧ (canvasOn.hall.step < 3 ∨ k % 2 = 0) ∧ (canvasOn.canvas 0).frame = none) ∧
    ((canvasIn { } 3 2352000).running = true ∧
        (canvasIn { } 3 2352000).bell.double = false ∧
          (canvasIn { } 3 2352000).dom (64 + 0 / 24) = true ∧
            (canvasIn { } 3 2352000).isRunning (canvasKey 0) = true ∧
              ∃ (k : Nat),
                ((canvasIn { } 3 2352000).canvasCfg 0).frameAt (canvasIn { } 3 2352000).now = some k ∧
                  ((canvasIn { } 3 2352000).canvas 0).lastK ≠ some k ∧ 3 ≤ (canvasIn { } 3 2352000).hall.step ∧ k % 2 = 1) ∧
    ((canvasIn { lastK := some 0, frame := some 0 } 0 2352000).running = true ∧
        (canvasIn { lastK := some 0, frame := some 0 } 0 2352000).bell.double = false ∧
          (canvasIn { lastK := some 0, frame := some 0 } 0 2352000).dom (64 + 0 / 24) = true ∧
            (canvasIn { lastK := some 0, frame := some 0 } 0 2352000).isRunning (canvasKey 0) = true ∧
              ∃ (k : Nat),
                ((canvasIn { lastK := some 0, frame := some 0 } 0 2352000).canvasCfg 0).frameAt
                      (canvasIn { lastK := some 0, frame := some 0 } 0 2352000).now =
                    some k ∧
                  ((canvasIn { lastK := some 0, frame := some 0 } 0 2352000).canvas 0).lastK ≠ some k ∧
                    (canvasIn { lastK := some 0, frame := some 0 } 0 2352000).hall.step < 3 ∧
                      ((canvasIn { lastK := some 0, frame := some 0 } 0 2352000).canvas 0).begun <
                          ((canvasIn { lastK := some 0, frame := some 0 } 0 2352000).canvasCfg 0).bands ∧
                        ∃ (j : Nat), ((canvasIn { lastK := some 0, frame := some 0 } 0 2352000).canvas 0).frame = some j) ∧
    ((canvasIn { lastK := some 0, frame := some 0 } 0 2352000).running = true ∧
        (canvasIn { lastK := some 0, frame := some 0 } 0 2352000).working (canvasKey 0) = true ∧
          ((canvasIn { lastK := some 0, frame := some 0 } 0 2352000).canvas 0).released <
              ((canvasIn { lastK := some 0, frame := some 0 } 0 2352000).canvasCfg 0).bands ∧
            ∃ (k : Nat),
              ((canvasIn { lastK := some 0, frame := some 0 } 0 2352000).canvas 0).frame = some k ∧
                ((canvasIn { lastK := some 0, frame := some 0 } 0 2352000).canvasCfg 0).release k
                    ((canvasIn { lastK := some 0, frame := some 0 } 0 2352000).canvas 0).released ≤
                  (canvasIn { lastK := some 0, frame := some 0 } 0 2352000).now) ∧
    ((canvasIn { frame := some 1 } 0 0).running = true ∧
        (canvasIn { frame := some 1 } 0 0).working (canvasKey 0) = true ∧
          ((canvasIn { frame := some 1 } 0 0).canvas 0).released < ((canvasIn { frame := some 1 } 0 0).canvasCfg 0).bands ∧
            ∃ (k : Nat),
              ((canvasIn { frame := some 1 } 0 0).canvas 0).frame = some k ∧
                (canvasIn { frame := some 1 } 0 0).now <
                  ((canvasIn { frame := some 1 } 0 0).canvasCfg 0).release k ((canvasIn { frame := some 1 } 0 0).canvas 0).released) ∧
    ((canvasIn { frame := some 0, released := 1 } 0 0).running = true ∧
        (canvasIn { frame := some 0, released := 1 } 0 0).bell.double = false ∧
          (canvasIn { frame := some 0, released := 1 } 0 0).dom (64 + 0) = true ∧
            tfind (canvasIn { frame := some 0, released := 1 } 0 0).org.busy 0 = none ∧
              ∃ (t : Nat),
                ∃ (c : Nat),
                  earliest
                        (List.filterMap
                          (fun (c : Nat) ↦
                            Option.map (fun (t : Nat) ↦ (t, c)) ((canvasIn { frame := some 0, released := 1 } 0 0).mayCompose c))
                          (pipeCanvases 0)) =
                      some (t, c) ∧
                    ∃ (k : Nat), ((canvasIn { frame := some 0, released := 1 } 0 0).canvas c).frame = some k) ∧
    (∃ (b : Placed), tfind (composing 0 true).org.busy 0 = some b) ∧
    ((waitsForSlot 2352000).running = true ∧
        (waitsForSlot 2352000).working (canvasKey 0) = true ∧
          ((waitsForSlot 2352000).canvas 0).begun < ((waitsForSlot 2352000).canvas 0).released ∧
            ((waitsForSlot 2352000).unready ((waitsForSlot 2352000).canvas 0) ((waitsForSlot 2352000).canvasCfg 0)
                    ((waitsForSlot 2352000).canvas 0).begun).isSome =
                true ∧
              ∃ (k : Nat),
                ((waitsForSlot 2352000).canvas 0).frame = some k ∧
                  ((waitsForSlot 2352000).canvasCfg 0).release k ((waitsForSlot 2352000).canvas 0).begun +
                      ((waitsForSlot 2352000).canvasCfg 0).waitCt ≤
                    (waitsForSlot 2352000).now) ∧
    ((waitsForSlot 0).running = true ∧
        (waitsForSlot 0).working (canvasKey 0) = true ∧
          ((waitsForSlot 0).canvas 0).begun < ((waitsForSlot 0).canvas 0).released ∧
            ((waitsForSlot 0).unready ((waitsForSlot 0).canvas 0) ((waitsForSlot 0).canvasCfg 0)
                    ((waitsForSlot 0).canvas 0).begun).isSome =
                true ∧
              ∃ (k : Nat),
                ((waitsForSlot 0).canvas 0).frame = some k ∧
                  (waitsForSlot 0).now <
                    ((waitsForSlot 0).canvasCfg 0).release k ((waitsForSlot 0).canvas 0).begun + ((waitsForSlot 0).canvasCfg 0).waitCt) ∧
    ((composing 0 true).running = true ∧
        ∃ (b : Placed), tfind (composing 0 true).org.busy 0 = some b ∧ (composing 0 true).isRunning (canvasKey b.canvas) = true) := by
  (repeat' first | apply And.intro | refine ⟨_, rfl, ?_⟩ | refine ⟨_, _, rfl, ?_⟩ | refine ⟨_, _, _, rfl, ?_⟩ | exact ⟨_, rfl⟩ | exact ⟨_, _, rfl⟩ |
    exact ⟨_, _, _, rfl⟩ | fail) <;> decide

end W09

namespace W10

def keyReqOn : State := (put house 0x0C 0 .running).setEncSet 0 { cfg := { spatial := 1 } }

def band : Placed := { canvas := 0, frame := 4, band := 1, start := 0, release := 0, at' := 0, w := 1920, h := 1080, rate := 3 }

/-- Encoding 0 RUNNING with a run record and a placed band, at a TB0. -/
def encIn (x : EncRun) (t : Nat) : State :=
  let s := (atTb0 (put house 0x0C 0 .running) t).setEncRun 0 x
  { s with enc := { s.enc with placed := [band] } }

def wrongSize : State := encIn { w := 1280, h := 720, rate := 3 } 0

def underWay : State := encIn { w := 1920, h := 1080, rate := 3, frame := some 4 } 0

def encJob : EncJob := { band := band, tiles := [(0, 1, 2), (1, 1, 2)], before := [] }

def codes (s : State) (t : Nat) : State := atTb0 { s with enc := { s.enc with busy := [(0, encJob)] } } t

/-- Encoding 0 whose layers' last keys lie as given, in a mode. -/
def keyed (mode : Nat) (last : Tab Nat) (t : Nat) : State :=
  (encIn { lastKey := last } t).setEncSet 0 { cfg := { keyInt := 70560000, mode := mode, spatial := 2 } }

theorem witness_GlasshouseCommands_second :
    (encOk (cmd 1 0 [12546, 0, 0, 0, 0]).num = true ∧
        live.encPowered (cmd 1 0 [12546, 0, 0, 0, 0]).num = true ∧
          live.takes { op := 3088, c := cmd 1 0 [12546, 0, 0, 0, 0] } ∧
            firstFail (live.encConfigChecks (cmd 1 0 [12546, 0, 0, 0, 0])) = none) ∧
    (encOk (cmd 1 0 [0, 1000000, 14112000, BitVec.ofNat 32 (50 + 20 * 256), 13056]).num = true ∧
        live.encPowered (cmd 1 0 [0, 1000000, 14112000, BitVec.ofNat 32 (50 + 20 * 256), 13056]).num = true ∧
          live.takes { op := 3089, c := cmd 1 0 [0, 1000000, 14112000, BitVec.ofNat 32 (50 + 20 * 256), 13056] } ∧
            firstFail (live.encLayerChecks (cmd 1 0 [0, 1000000, 14112000, BitVec.ofNat 32 (50 + 20 * 256), 13056])) = none) ∧
    (encOk (cmd 1 0 [0, 1000000, 14112000, BitVec.ofNat 32 (50 + 20 * 256), 13056]).num = true ∧
        live.encPowered (cmd 1 0 [0, 1000000, 14112000, BitVec.ofNat 32 (50 + 20 * 256), 13056]).num = true ∧
          live.takes { op := 3090, c := cmd 1 0 [0, 1000000, 14112000, BitVec.ofNat 32 (50 + 20 * 256), 13056] } ∧
            firstFail (live.encStreamChecks (cmd 1 0 [0, 1000000, 14112000, BitVec.ofNat 32 (50 + 20 * 256), 13056])) = none) ∧
    (encOk (cmd 1 0 [0, 1000000, 14112000, BitVec.ofNat 32 (50 + 20 * 256), 13056]).num = true ∧
        keyReqOn.encPowered (cmd 1 0 [0, 1000000, 14112000, BitVec.ofNat 32 (50 + 20 * 256), 13056]).num = true ∧
          keyReqOn.takes { op := 3091, c := cmd 1 0 [0, 1000000, 14112000, BitVec.ofNat 32 (50 + 20 * 256), 13056] } ∧
            firstFail (keyReqOn.encKeyreqChecks (cmd 1 0 [0, 1000000, 14112000, BitVec.ofNat 32 (50 + 20 * 256), 13056])) = none) ∧
    (live.takes { op := 3092, c := cmd 1 0 [0, 1000000, 14112000, BitVec.ofNat 32 (50 + 20 * 256), 13056] } ∧
        encOk (cmd 1 0 [0, 1000000, 14112000, BitVec.ofNat 32 (50 + 20 * 256), 13056]).num = true ∧
          bits ((cmd 1 0 [0, 1000000, 14112000, BitVec.ofNat 32 (50 + 20 * 256), 13056]).word 4) 31 4 = 0 ∧
            bits ((cmd 1 0 [0, 1000000, 14112000, BitVec.ofNat 32 (50 + 20 * 256), 13056]).word 4) 3 0 ≤ 8) ∧
    (live.takes { op := 3093, c := cmd 1 65536 [] } ∧ (cmd 1 65536 []).num = 65536 + 0 ∧ 0 < 12) := by
  (repeat' first | apply And.intro | refine ⟨_, rfl, ?_⟩ | refine ⟨_, _, rfl, ?_⟩ | refine ⟨_, _, _, rfl, ?_⟩ | exact ⟨_, rfl⟩ | exact ⟨_, _, rfl⟩ |
    exact ⟨_, _, _, rfl⟩ | fail) <;> decide

theorem witness_BandsOfEncodings :
    (wrongSize.running = true ∧
        wrongSize.dom (52 + 0) = true ∧ tfind wrongSize.enc.busy 0 = none ∧ ∃ (b : Placed), pickPlaced 0 wrongSize.enc.placed = some b) ∧
    (wrongSize.running = true ∧
        wrongSize.dom (52 + 0) = true ∧
          tfind wrongSize.enc.busy 0 = none ∧
            ∃ (b : Placed),
              pickPlaced 0 wrongSize.enc.placed = some b ∧
                (wrongSize.encRun b.canvas).geom = false ∧ (wrongSize.encRun b.canvas).fits b = false) ∧
    (underWay.running = true ∧
        underWay.dom (52 + 0) = true ∧
          tfind underWay.enc.busy 0 = none ∧
            ∃ (b : Placed),
              pickPlaced 0 underWay.enc.placed = some b ∧
                (underWay.encRun b.canvas).geom = false ∧
                  (underWay.encRun b.canvas).fits b = true ∧ b.band ≠ 0 ∧ (underWay.encRun b.canvas).frame = some b.frame) ∧
    ((codes underWay 0).running = true ∧
        ∃ (j : EncJob), tfind (codes underWay 0).enc.busy 0 = some j ∧ (codes underWay 0).isRunning (encKey j.band.canvas) = true) ∧
    (∃ (ok : Bool),
        ∃ (t : State), hallWork live (canvasFlow 0 (if (live.encSet 0).cfg.simulcast = true then (0, 1, 2).fst else 0)) 5 = (ok, t)) ∧
    (tfind live.enc.busy 0 = none) ∧
    ((keyed 2 [(0, 1)] 70560000).isRunning (encKey 0) = true ∧
        ((keyed 2 [(0, 1)] 70560000).encSet 0).cfg.keyInt ≠ 0 ∧ ((keyed 2 [(0, 1)] 70560000).encSet 0).cfg.spatial ≤ 3) := by
  (repeat' first | apply And.intro | refine ⟨_, rfl, ?_⟩ | refine ⟨_, _, rfl, ?_⟩ | refine ⟨_, _, _, rfl, ?_⟩ | exact ⟨_, rfl⟩ | exact ⟨_, _, rfl⟩ |
    exact ⟨_, _, _, rfl⟩ | fail) <;> decide

end W10

namespace W11

def fwdCmd : Cmd := cmd 1 0 [0x300, 3, 0, 6, 0, 0, 10]

def fwdPkt : FwdPkt :=
  { kind := 0, src := 0, index := 0, seq := 10, ts := 500, marker := false, dd := some (some (0, 0)), frameNo := 1, first := true, key := true,
    tSwitch := true, sSwitch := true, bandStart := true, padding := false, bytes := 800, ddLen := 3, stamp := 0 }

def padded : FwdPkt := { fwdPkt with padding := true }

def subOn : State := put house 0x0D 0 .running

def subPeer : State := subOn.setSubCfg 0 { subOn.subCfg 0 with toPeer := true }

/-- Subscription 0 RUNNING with a run record, its leg RUNNING and ACTIVE, at a TB0. -/
def subIn (x : SubRun) (t : Nat) : State :=
  ((atTb0 (put (put house 0x0D 0 .running) 4 3 .running) t).setLegRun 3 { conn := .active, remote := ⟨false, 0x0A000002⟩, remoteUdp := 6000 }).setSub 0 x

def targeted (t : Nat) : State := subIn { target := some 0, waitAt := some 0 } t

def owing : State := { live with dmb := { live.dmb with wanted := [(fwdPkt.key', fwdPkt.stream, 10, 3, 2)] } }

def redone : State := { live with dmb := { live.dmb with redone := [(3, 1)] } }

def sentPkt : SentPkt := ⟨9, 0, 0, 4, 1, 700⟩

def heldPkt : HeldPkt := { src := 0, str := 0, seq := 4, at' := 0, handle := some 5 }

/-- Leg 3 has sent a packet of stream 2, without RTX, or with it and with the packet held. -/
def sent : State := { house with dmb := { house.dmb with sends := [(26, { sent := [sentPkt] })] } }

def sentHeld : State :=
  { house with
    dmb := { house.dmb with sends := [(26, { sent := [sentPkt] })], held := [heldPkt] }
    net := { house.net with sets := [(3, { streams := [(2, streamCfg true 1 0x300), (3, rtx)] })] } }
where rtx : StreamCfg := { streamCfg true 2 0x301 with rtxOf := 2 }

theorem witness_EgressCommands_first :
    (subOk fwdCmd.num = true ∧ live.takes { op := 3344, c := fwdCmd } ∧ firstFail (live.fwdConfigChecks fwdCmd) = none) ∧
    (subOk (cmd 1 0 [5]).num = true ∧
        live.takes { op := 3345, c := cmd 1 0 [5] } ∧
          firstFail (live.fwdCeilingChecks (cmd 1 0 [5])) = none ∧ live.stopped (subKey (cmd 1 0 [5]).num) = true) ∧
    (subOk (cmd 1 0 [5]).num = true ∧
        subPeer.takes { op := 3345, c := cmd 1 0 [5] } ∧
          firstFail (subPeer.fwdCeilingChecks (cmd 1 0 [5])) = none ∧
            subPeer.isRunning (subKey (cmd 1 0 [5]).num) = true ∧ (subPeer.subCfg (cmd 1 0 [5]).num).toPeer = true) ∧
    (subOk (cmd 1 0 [5]).num = true ∧
        subOn.takes { op := 3345, c := cmd 1 0 [5] } ∧
          firstFail (subOn.fwdCeilingChecks (cmd 1 0 [5])) = none ∧
            subOn.isRunning (subKey (cmd 1 0 [5]).num) = true ∧ (subOn.subCfg (cmd 1 0 [5]).num).toPeer = false) ∧
    (subOk (cmd 1 0 [0]).num = true ∧
        subOn.takes { op := 3346, c := cmd 1 0 [0] } ∧
          subOn.isRunning (subKey (cmd 1 0 [0]).num) = true ∧ bits ((cmd 1 0 [0]).word 4) 31 3 = 0 ∧ bits ((cmd 1 0 [0]).word 4) 2 0 = 0) ∧
    (subOk (cmd 1 0 [5]).num = true ∧
        subOn.takes { op := 3346, c := cmd 1 0 [5] } ∧
          subOn.isRunning (subKey (cmd 1 0 [5]).num) = true ∧ bits ((cmd 1 0 [5]).word 4) 31 3 = 0 ∧ bits ((cmd 1 0 [5]).word 4) 2 0 ≠ 0) ∧
    (subOk fwdCmd.num = true ∧ live.takes { op := 3347, c := fwdCmd }) := by
  (repeat' first | apply And.intro | refine ⟨_, rfl, ?_⟩ | refine ⟨_, _, rfl, ?_⟩ | refine ⟨_, _, _, rfl, ?_⟩ | exact ⟨_, rfl⟩ | exact ⟨_, _, rfl⟩ |
    exact ⟨_, _, _, rfl⟩ | fail) <;> decide

theorem witness_PacketsTargetsAndRepairs :
    (live.commonOn = true) ∧
    (live.commonOn = true ∧
        live.running = true ∧
          (↑padded.kind ≠ 1 ∨ Option.any (fun (g : LegCfg) ↦ g.ddId != 0) (live.legSet ↑padded.src).cfg = true) ∧ padded.padding = true) ∧
    (owing.commonOn = true ∧
        owing.running = true ∧
          (↑fwdPkt.kind ≠ 1 ∨ Option.any (fun (g : LegCfg) ↦ g.ddId != 0) (owing.legSet ↑fwdPkt.src).cfg = true) ∧
            fwdPkt.padding = false ∧
              (owing = if fwdPkt.dd = some none then owing.bump (dmbA 28) 1 else owing) ∧
                (fwdPkt.key', fwdPkt.stream, 10, 3, 2) ∈ owing.dmb.wanted ∧
                  (fwdPkt.key', fwdPkt.stream, 10, 3, 2).fst = fwdPkt.key' ∧
                    (fwdPkt.key', fwdPkt.stream, 10, 3, 2).snd.fst = fwdPkt.stream ∧
                      (fwdPkt.key', fwdPkt.stream, 10, 3, 2).snd.snd.fst = fwdPkt.seq.toNat) ∧
    (live.commonOn = true ∧
        live.running = true ∧
          (↑fwdPkt.kind ≠ 1 ∨ Option.any (fun (g : LegCfg) ↦ g.ddId != 0) (live.legSet ↑fwdPkt.src).cfg = true) ∧
            fwdPkt.padding = false ∧
              (live = if fwdPkt.dd = some none then live.bump (dmbA 28) 1 else live) ∧
                (∀ (w : Nat × Nat × Nat × Nat × Nat),
                    w ∈ live.dmb.wanted → ¬(w.fst = fwdPkt.key' ∧ w.snd.fst = fwdPkt.stream ∧ w.snd.snd.fst = fwdPkt.seq.toNat)) ∧
                  ∃ (made : Bool),
                    ∃ (u : State),
                      List.foldl (serveSub (tget 0 (live.src fwdPkt.key').frame fwdPkt.stream != BitVec.toNat fwdPkt.ts + 1) fwdPkt)
                          (false, recordPacket live fwdPkt) (live.interleaved (live.takers fwdPkt)) =
                        (made, u)) ∧
    (live.commonOn = true ∧ live.subPort 0 < 8 ∧ live.subPort 0 < 8) ∧
    (live.commonOn = true ∧ (tget 0 live.dmb.redone 0 = 0 ∨ tget 0 live.dmb.redone 0 - 1 + 7056000 ≤ live.now)) ∧
    (redone.commonOn = true ∧ tget 0 redone.dmb.redone 3 ≠ 0 ∧ redone.now < tget 0 redone.dmb.redone 3 - 1 + 7056000) ∧
    (subOn.commonOn = true ∧ subOn.isRunning (subKey 0) = true ∧ subOn.awaits 0 = Awaits.nothing) ∧
    ((targeted 70560000).commonOn = true ∧
        (targeted 70560000).isRunning (subKey 0) = true ∧
          (targeted 70560000).awaits 0 ≠ Awaits.nothing ∧
            (targeted 70560000).heldUp 0 = false ∧
              ∃ (t : Nat),
                ((targeted 70560000).sub 0).waitAt = some t ∧ t + ((targeted 70560000).subCfg 0).keyWait ≤ (targeted 70560000).now) ∧
    ((targeted 0).commonOn = true ∧
        (targeted 0).isRunning (subKey 0) = true ∧
          (targeted 0).awaits 0 ≠ Awaits.nothing ∧
            (targeted 0).heldUp 0 = false ∧
              ∃ (t : Nat), ((targeted 0).sub 0).waitAt = some t ∧ (targeted 0).now < t + ((targeted 0).subCfg 0).keyWait) ∧
    (live.commonOn = true ∧ live.running = true ∧ ∀ (p : SentPkt), p ∈ (live.send 0 0).sent → p.seq ≠ 9) ∧
    (sent.commonOn = true ∧
        sent.running = true ∧
          sent.rtxOf 3 2 = none ∧ ∃ (p : SentPkt), List.find? (fun (p : SentPkt) ↦ p.seq == 9) (sent.send 3 2).sent = some p) ∧
    (sentHeld.commonOn = true ∧
        sentHeld.running = true ∧
          (sentHeld.rtxOf 3 2).isSome = true ∧
            ∃ (p : SentPkt),
              List.find? (fun (p : SentPkt) ↦ p.seq == 9) (sentHeld.send 3 2).sent = some p ∧ p.bytes ≠ 0 ∧ sentHeld.heldPkt p = true) ∧
    (live.commonOn = true ∧ ∀ (h : HeldPkt), h ∈ live.dmb.held → live.now < h.at' + 14112000) := by
  (repeat' first | apply And.intro | refine ⟨_, rfl, ?_⟩ | refine ⟨_, _, rfl, ?_⟩ | refine ⟨_, _, _, rfl, ?_⟩ | exact ⟨_, rfl⟩ | exact ⟨_, _, rfl⟩ |
    exact ⟨_, _, _, rfl⟩ | fail) <;> decide

end W11

namespace W12

/-- An entry of 200 bytes for a port, with a launch if given. -/
def entry (launch : Option Nat) : QEntry :=
  { handle := 3, bytes := 200, cells := 1, far := false, gap := false, note := 0, born := 0,
    pkt := { counted := 200, launch := launch, body := [1, 2] } }

/-- A state whose queue q holds one entry, port 0's shaper full. -/
def queue1 (q : Nat) (e : QEntry) : State :=
  (house.setQueue q { entries := [e] }).setPortPrg 0 { shaper := { rate := 0, burst := 2000, tok := 200000000 } }

def sampledNow : State := { live with prg := { live.prg with sampleBlock := some 0 } }

theorem witness_EgressCommands_second :
    (live.prgLegOk (cmd 1 3 ([31] ++ [1000, 2000, 1001, 2001, 1002, 2002, 1003, 2003, 1004, 2004])).num = true ∧
        live.legPowered (cmd 1 3 ([31] ++ [1000, 2000, 1001, 2001, 1002, 2002, 1003, 2003, 1004, 2004])).num = true ∧
          live.takes { op := 1552, c := cmd 1 3 ([31] ++ [1000, 2000, 1001, 2001, 1002, 2002, 1003, 2003, 1004, 2004]) } ∧
            firstFail (live.prgLegShapeChecks (cmd 1 3 ([31] ++ [1000, 2000, 1001, 2001, 1002, 2002, 1003, 2003, 1004, 2004]))) = none) ∧
    (live.prgLegOk (cmd 1 3 (zeros 8 ++ [40])).num = true ∧
        live.legPowered (cmd 1 3 (zeros 8 ++ [40])).num = true ∧
          live.takes { op := 1553, c := cmd 1 3 (zeros 8 ++ [40]) } ∧
            firstFail (live.prgLegQueueChecks (cmd 1 3 (zeros 8 ++ [40]))) = none) ∧
    (live.prgLegOk (cmd 1 3 [1, 1000, 2000]).num = true ∧
        live.legPowered (cmd 1 3 [1, 1000, 2000]).num = true ∧
          live.takes { op := 1554, c := cmd 1 3 [1, 1000, 2000] } ∧ firstFail (live.prgPoliceChecks (cmd 1 3 [1, 1000, 2000])) = none) ∧
    (live.prgLegOk (cmd 1 3 ([31] ++ [1000, 2000, 1001, 2001, 1002, 2002, 1003, 2003, 1004, 2004])).num = true ∧
        live.legPowered (cmd 1 3 ([31] ++ [1000, 2000, 1001, 2001, 1002, 2002, 1003, 2003, 1004, 2004])).num = true ∧
          live.takes { op := 1557, c := cmd 1 3 ([31] ++ [1000, 2000, 1001, 2001, 1002, 2002, 1003, 2003, 1004, 2004]) } ∧
            live.hatchLeg (cmd 1 3 ([31] ++ [1000, 2000, 1001, 2001, 1002, 2002, 1003, 2003, 1004, 2004])).num = false) ∧
    ((cmd 1 65536 [24, 0]).num = 65536 + 0 ∧
        live.portPresent 0 = true ∧
          live.portPowered 0 = true ∧
            live.takes { op := 1555, c := cmd 1 65536 [24, 0] } ∧ firstFail (live.prgPortConfigChecks (cmd 1 65536 [24, 0])) = none) ∧
    ((cmd 1 65536 [238, 3000]).num = 65536 + 0 ∧
        live.portPresent 0 = true ∧
          live.portPowered 0 = true ∧
            live.takes { op := 1556, c := cmd 1 65536 [238, 3000] } ∧
              rateOk ((cmd 1 65536 [238, 3000]).word 4) = true ∧ burstOk ((cmd 1 65536 [238, 3000]).word 5) = true) ∧
    ((cmd 1 65536 [24, 0]).num = 65536 + 0 ∧
        live.portPresent 0 = true ∧ live.portPowered 0 = true ∧ live.takes { op := 1558, c := cmd 1 65536 [24, 0] }) := by
  (repeat' first | apply And.intro | refine ⟨_, rfl, ?_⟩ | refine ⟨_, _, rfl, ?_⟩ | refine ⟨_, _, _, rfl, ?_⟩ | exact ⟨_, rfl⟩ | exact ⟨_, _, rfl⟩ |
    exact ⟨_, _, _, rfl⟩ | fail) <;> decide

theorem witness_FramesLeaveInOrder :
    ((queue1 32772 (entry none)).portFree 0 = true ∧
        (∀ (x : Nat),
            x ∈ (queue1 32772 (entry none)).portQueues 0 →
              ∀ (a : QEntry),
                a ∈ ((queue1 32772 (entry none)).queue x).entries.head? →
                  a.gap = false ∧
                    ((queue1 32772 (entry none)).ageLimitOf x = 0 ∨
                      (queue1 32772 (entry none)).now - a.born ≤ (queue1 32772 (entry none)).ageLimitOf x)) ∧
          1 ≤ 6 ∧
            6 ≤ 6 ∧
              (∀ (j : Nat), j < 6 → 1 ≤ j → (queue1 32772 (entry none)).candidates 0 j = []) ∧
                ∃ q e l,
                  (queue1 32772 (entry none)).candidates 0 6 = (q, e) :: l ∧
                    (6 = 1 ∨
                      l = [] ∧
                        (queue1 32772 (entry none)).guarded 0 e = false ∧
                          (queue1 32772 (entry none)).countedOn 0 e.pkt.counted ≤
                            tget 0 ((queue1 32772 (entry none)).portPrg 0).deficits q + ((queue1 32772 (entry none)).portPrg 0).quantum)) ∧
    (live.portFree 0 = false ∨ live.portQueues 0 = []) ∧
    ((queue1 32768 (entry (some 0))).portFree 0 = true ∧
        (queue1 32768 (entry (some 0))).portQueues 0 = [32768 + 5 * 0] ∧
          ∃ e r,
            ((queue1 32768 (entry (some 0))).queue (32768 + 5 * 0)).entries = e :: r ∧
              e.gap = false ∧ ∃ at', e.pkt.launch = some at' ∧ at' ≤ (queue1 32768 (entry (some 0))).now) ∧
    ((queue1 32768 (entry (some 5))).portFree 0 = true ∧
        (queue1 32768 (entry (some 5))).portQueues 0 = [32768 + 5 * 0] ∧
          ∃ e r,
            ((queue1 32768 (entry (some 5))).queue (32768 + 5 * 0)).entries = e :: r ∧
              e.gap = false ∧ ∃ at', e.pkt.launch = some at' ∧ (queue1 32768 (entry (some 5))).now < at') ∧
    (live.portFree 0 = false) ∧
    (live.commonOn = true ∧ live.prg.sampleBlock ≠ some (live.now / 70560)) ∧
    (sampledNow.commonOn = false ∨ sampledNow.prg.sampleBlock = some (sampledNow.now / 70560)) := by
  (repeat' first | apply And.intro | refine ⟨_, rfl, ?_⟩ | refine ⟨_, _, rfl, ?_⟩ | refine ⟨_, _, _, rfl, ?_⟩ | exact ⟨_, rfl⟩ | exact ⟨_, _, rfl⟩ |
    exact ⟨_, _, _, rfl⟩ | fail) <;> decide

end W12

namespace W13

def item (kind : ItemKind) (prio : Nat) : Item := { kind := kind, prio := prio, handle := none, due := 0 }

def it : Item := item .work 4

/-- A state with flow f. -/
def flow1 (f : Nat) (x : Flow) : State := { live with hall := { live.hall with flows := [(f, x)], genUse := 9, studyUse := 7 } }

/-- Leg 3 ACTIVE, its flow in service with core 0. -/
def legA : State :=
  { house with
    hall := { house.hall with flows := [(3, { items := [it], active := some (0, 0), item := some it })] }
    net := { house.net with runs := [(3, { conn := .active, consentAt := 5, mediaAt := 9 })] } }

/-- Ready lists of priority 15 that wait. -/
def waits15 : State := { live with hall := { live.hall with bgSince := [(0, 0), (2, 7)] } }

def sampled : State := { live with hall := { live.hall with lastBlock := some 0 } }

def prom : State := { flow1 8196 { items := [it, it] } with hall := { (flow1 8196 { items := [it, it] }).hall with promote := [0, 2], bgSince := [(0, 0), (2, 7)] } }

theorem witness_FlowsAreDispatched_first :
    ((flow1 12 { items := [item ItemKind.stop 0, it], active := some (3, 0) }).consumerIdle 3 = false) ∧
    ((flow1 4 { items := [it] }).consumerIdle 0 = true ∧
        (flow1 4 { items := [it] }).hall.waiting = [] ∧
          ∃ f x pr,
            (flow1 4 { items := [it] }).nextFlow (consumerGroup 0) = (some (f, x), pr) ∧
              ∃ i r, x.items = i :: r ∧ ¬(i.kind = ItemKind.stop ∧ flowClass f = 0)) ∧
    ((flow1 4 { items := [item ItemKind.stop 0, it, it], timer := some { due := 5, waitAny := true, prio := 4 } }).consumerIdle 0 =
          true ∧
        (flow1 4 { items := [item ItemKind.stop 0, it, it], timer := some { due := 5, waitAny := true, prio := 4 } }).hall.waiting =
            [] ∧
          ∃ f x pr,
            (flow1 4 { items := [item ItemKind.stop 0, it, it], timer := some { due := 5, waitAny := true, prio := 4 } }).nextFlow
                  (consumerGroup 0) =
                (some (f, x), pr) ∧
              ∃ i r, x.items = i :: r ∧ i.kind = ItemKind.stop ∧ flowClass f = 0) := by
  (repeat' first | apply And.intro | refine ⟨_, rfl, ?_⟩ | refine ⟨_, _, rfl, ?_⟩ | refine ⟨_, _, _, rfl, ?_⟩ | exact ⟨_, rfl⟩ | exact ⟨_, _, rfl⟩ |
    exact ⟨_, _, _, rfl⟩ | fail) <;> decide

theorem witness_FlowsAreDispatched_second :
    (live.serving 0 = none) ∧
    (∃ f, (flow1 8196 { items := [it], active := some (0, 0), item := some it }).serving 0 = some f ∧ flowClass f ≠ 0) ∧
    (∃ f,
        (flow1 8196 { items := [it], active := some (0, 0), item := some it }).serving 0 = some f ∧
          flowClass f ≠ 0 ∧ (flow1 8196 { items := [it], active := some (0, 0), item := some it }).now < 1) ∧
    (∃ f,
        (flow1 8196 { items := [it], active := some (0, 0), item := some it }).serving 0 = some f ∧
          flowClass f ≠ 0 ∧ 0 ≤ (flow1 8196 { items := [it], active := some (0, 0), item := some it }).now) ∧
    (∃ f,
        (flow1 12 { items := [item ItemKind.stop 0, it], active := some (3, 0) }).serving 3 = some f ∧
          flowClass f = 0 ∧ firstDue ((flow1 12 { items := [item ItemKind.stop 0, it], active := some (3, 0) }).legDeadlines f) = none) ∧
    (∃ f, legA.serving 0 = some f ∧ flowClass f = 0 ∧ ∃ d p, firstDue (legA.legDeadlines f) = some (d, p) ∧ legA.now < d) ∧
    (∃ f,
        (atTb0 legA (2 ^ 60)).serving 0 = some f ∧
          flowClass f = 0 ∧ ∃ d p, firstDue ((atTb0 legA (2 ^ 60)).legDeadlines f) = some (d, p) ∧ d ≤ (atTb0 legA (2 ^ 60)).now) ∧
    ((live.flow 0).timer = none) ∧
    (∃ m,
        ((atTb0 (flow1 4 { items := [it], timer := some { due := 5, waitAny := false, prio := 4 } }) 9).flow 4).timer = some m ∧
          m.due ≤ (atTb0 (flow1 4 { items := [it], timer := some { due := 5, waitAny := false, prio := 4 } }) 9).now) ∧
    (∃ m,
        ((flow1 4
                    { items := [item ItemKind.work 15, it], held := true, timer := some { due := 5, waitAny := true, prio := 4 },
                      join := 8 }).flow
                4).timer =
            some m ∧
          (flow1 4
                { items := [item ItemKind.work 15, it], held := true, timer := some { due := 5, waitAny := true, prio := 4 },
                  join := 8 }).now <
            m.due) ∧
    (∃ t, tfind (atCyc waits15 70560).hall.bgSince 0 = some t ∧ t + 70560 ≤ (atCyc waits15 70560).cyc) ∧
    (∃ t, tfind prom.hall.bgSince 0 = some t ∧ prom.cyc < t + 70560) ∧
    (tfind live.hall.bgSince 0 = none) ∧
    (∃ k t,
        ((atCyc (flow1 4 { active := some (0, 0) }) 70561).flow 4).active = some (k, t) ∧
          ((atCyc (flow1 4 { active := some (0, 0) }) 70561).flow 4).held = false ∧
            t + 70560 < (atCyc (flow1 4 { active := some (0, 0) }) 70561).cyc) ∧
    (∃ k t,
        ((flow1 4 { items := [it], active := some (0, 0) }).flow 4).active = some (k, t) ∧
          (((flow1 4 { items := [it], active := some (0, 0) }).flow 4).held = true ∨
            (flow1 4 { items := [it], active := some (0, 0) }).cyc ≤ t + 70560)) ∧
    ((live.flow 0).active = none) := by
  (repeat' first | apply And.intro | refine ⟨_, rfl, ?_⟩ | refine ⟨_, _, rfl, ?_⟩ | refine ⟨_, _, _, rfl, ?_⟩ | exact ⟨_, rfl⟩ | exact ⟨_, _, rfl⟩ |
    exact ⟨_, _, _, rfl⟩ | fail) <;> decide

theorem witness_TheLoadLadder :
    (live.coreOn = true ∧ live.hall.lastBlock ≠ some (live.now / 70560)) ∧
    (sampled.coreOn = false ∨ sampled.hall.lastBlock = some (sampled.now / 70560)) ∧
    (∃ s', s' = hostArrives live Requester.host ∧ s'.coreOn = true) ∧
    (∃ s',
        s' = hostArrives live Requester.host ∧
          s'.coreOn = true ∧ ∃ u, u = s'.setReg (halA (16 + 0 * 4)) (1 &&& 67044351) ∧ u.ladderOk = true) ∧
    (∃ s',
        s' = hostArrives live Requester.host ∧
          s'.coreOn = true ∧ ∃ u, u = s'.setReg (halA (16 + 0 * 4)) (0 &&& 67044351) ∧ u.ladderOk = false) ∧
    ((hostArrives asleep Requester.host).coreOn = false) := by
  (repeat' first | apply And.intro | refine ⟨_, rfl, ?_⟩ | refine ⟨_, _, rfl, ?_⟩ | refine ⟨_, _, _, rfl, ?_⟩ | exact ⟨_, rfl⟩ | exact ⟨_, _, rfl⟩ |
    exact ⟨_, _, _, rfl⟩ | fail) <;> decide

end W13

namespace W14

/-- An entry of 200 bytes for a port, with a launch if given. -/
def entry (launch : Option Nat) : QEntry :=
  { handle := 3, bytes := 200, cells := 1, far := false, gap := false, note := 0, born := 0,
    pkt := { counted := 200, launch := launch, body := [1, 2] } }

def openQ : OpenPkt := { bound := .queue 5, far := false, handle := 3, bytes := 200, cells := 1, mark := none }

def openL : OpenPkt := { openQ with bound := .loose .near 1 }

/-- A packet open at the Boathouse. -/
def opened (o : OpenPkt) : State := live.setOpen .boathouse o

/-- The near pool as given. -/
def nearPool (s : State) (p : Pool) : State := { s with pan := { s.pan with near := p } }

/-- A loose packet of 200 bytes under handle 3. -/
def loose3 : State := nearPool { live with pan := { live.pan with loose := [(3, { bytes := 200, cells := 1, far := false, rest := [] })] } } { used := 9 }

/-- Leg 3's voice queue with a mark and read on. -/
def marked : State := nearPool (house.setQueue 5 {
    entries := [entry none, { entry none with far := true }, { entry none with gap := true }, { entry none with cells := 7 }],
    read := 4, mark := some 3 }) { used := 9 }

def o256 : OpenPkt := { openQ with bytes := 256 }

def om3 : OpenPkt := { openQ with mark := some 300, bytes := 800, cells := 4, rest := [7, 8, 9] }

def oBig : OpenPkt := { openQ with bytes := 1048576 - 4, cells := 4096 }

def gap5 (s : State) : State := s.setQueue 5 { entries := [entry none, {entry none with gap := true}], read := 0 }

set_option maxRecDepth 100000 in
theorem witness_ProducersWritePackets_first :
    (live.openPkt Producer.boathouse = none ∧
        ∃ far, live.choosePool (boundPool (Bound.queue 5)).fst (boundPool (Bound.queue 5)).snd = Except.ok far) ∧
    (live.openPkt Producer.boathouse = none ∧
        ∃ far,
          live.choosePool (boundPool (Bound.loose PoolSel.far 0)).fst (boundPool (Bound.loose PoolSel.far 0)).snd = Except.error far) ∧
    (∃ o, (opened openQ).openPkt Producer.boathouse = some o ∧ o.bytes + 8 ≤ 1048576 ∧ o.bytes + 8 ≤ o.cells * 256) ∧
    (∃ o,
        (opened o256).openPkt Producer.boathouse = some o ∧
          o.bytes + 8 ≤ 1048576 ∧ o.cells * 256 < o.bytes + 8 ∧ 0 < (opened o256).dataFree o.far) ∧
    (∃ o,
        (nearPool (opened o256) { used := 98304 }).openPkt Producer.boathouse = some o ∧
          o.bytes + 8 ≤ 1048576 ∧ o.cells * 256 < o.bytes + 8 ∧ (nearPool (opened o256) { used := 98304 }).dataFree o.far = 0) ∧
    (∃ o, (opened oBig).openPkt Producer.boathouse = some o ∧ 1048576 < o.bytes + 8) ∧
    (∃ o, (opened openQ).openPkt Producer.boathouse = some o) ∧
    (∃ o, (opened openQ).openPkt Producer.boathouse = some o ∧ o.mark = none) ∧
    (∃ o, (opened om3).openPkt Producer.boathouse = some o ∧ ∃ m, o.mark = some m) ∧
    (live.openPkt Producer.boathouse = none) := by
  (repeat' first | apply And.intro | refine ⟨_, rfl, ?_⟩ | refine ⟨_, _, rfl, ?_⟩ | refine ⟨_, _, _, rfl, ?_⟩ | exact ⟨_, rfl⟩ | exact ⟨_, _, rfl⟩ |
    exact ⟨_, _, _, rfl⟩ | fail) <;> decide

theorem witness_ProducersWritePackets_second :
    (∃ o,
        (opened openQ).openPkt Producer.boathouse = some o ∧
          ∃ n, n = o.bytes + lastBytes 0 ∧ n ≤ o.cells * 256 ∧ n ≤ 1048576 ∧ o.bound = Bound.queue 5) ∧
    (∃ o,
        (opened openL).openPkt Producer.boathouse = some o ∧
          ∃ n, n = o.bytes + lastBytes 0 ∧ n ≤ o.cells * 256 ∧ n ≤ 1048576 ∧ o.bound = Bound.loose PoolSel.near 1) ∧
    (∃ l, tfind loose3.pan.loose 3 = some l) ∧
    (tfind live.pan.loose 0 = none) := by
  (repeat' first | apply And.intro | refine ⟨_, rfl, ?_⟩ | refine ⟨_, _, rfl, ?_⟩ | refine ⟨_, _, _, rfl, ?_⟩ | exact ⟨_, rfl⟩ | exact ⟨_, _, rfl⟩ |
    exact ⟨_, _, _, rfl⟩ | fail) <;> decide

theorem witness_ConsumersReadQueues :
    (∃ e, ((gap5 loose3).queue 5).entries[((gap5 loose3).queue 5).read]? = some e) ∧
    ((live.queue 5).entries.length ≤ (live.queue 5).read) ∧
    ((live.queue 5).entries.length ≤ (live.queue 5).read ∧ (live.queue 5).last = { }) ∧
    (∃ m, (marked.queue 5).mark = some m) ∧
    ((live.queue 5).mark = none) := by
  (repeat' first | apply And.intro | refine ⟨_, rfl, ?_⟩ | refine ⟨_, _, rfl, ?_⟩ | refine ⟨_, _, _, rfl, ?_⟩ | exact ⟨_, rfl⟩ | exact ⟨_, _, rfl⟩ |
    exact ⟨_, _, _, rfl⟩ | fail) <;> decide

end W14

namespace W15

def memReq (write : Bool) : MemReq :=
  { pa := 0, write := write, cls := 2, unit := 0, data := if write then [(0, 5)] else [] }

/-- The Cellar initialised and laid out, channel 0 as given. -/
def channel (c : Chan) : State := { live with cel := { live.cel with initDone := true, laid := true, trained := true, chans := [(0, c)] } }

def queuedReq : MemQ := ⟨memReq false, 0, 0, false⟩

def queuedReq1 : MemQ := { queuedReq with seq := 1 }

def queuedReq2 : MemQ := { queuedReq with seq := 2 }

def promotedReq : MemQ := { queuedReq with prom := true }

def booting : State := { live with boot := { live.boot with stage := 3 } }

/-- On the way into Sleep, and on the way back. -/
def toSleep (s : State) : State := { s with pwr := { s.pwr with entering := some (3, 4) } }

def waking (s : State) (w : Wake) : State := { s with pwr := { s.pwr with wake := some w, state := 3 } }

/-- Four channels; one rank. -/
def four : State := { channel {} with gate := { live.gate with straps := 160 } }

def oneRank : State := { channel {} with gate := { live.gate with straps := 64 } }

theorem witness_RequestsAndTrainingReachMemory_first :
    (four.present 7 = false ∨ four.cel.initDone = false ∨ (four.chan 7).keeper = true) ∧
    ((channel { }).present 0 = true ∧
        (channel { }).cel.initDone = true ∧
          ((channel { }).chan 0).keeper = false ∧
            ((channel { }).chan 0).window = none ∧
              ((channel { }).chan 0).scrubProm = false ∧
                ((channel { }).chan 0).reads = [] ∧
                  ((channel { }).chan 0).writes = [] ∧
                    (channel { }).paChan (BitVec.toNat (memReq true).pa) = 0 ∧
                      (↑(memReq true).cls < 2 ∨
                          ((channel { }).chan 0).owed ((channel { }).paBankKey (BitVec.toNat (memReq true).pa)) = 0) ∧
                        (memReq true).write = true) ∧
    ((channel { }).present 0 = true ∧
        (channel { }).cel.initDone = true ∧
          ((channel { }).chan 0).keeper = false ∧
            ((channel { }).chan 0).window = none ∧
              ((channel { }).chan 0).scrubProm = false ∧
                ((channel { }).chan 0).reads = [] ∧
                  ((channel { }).chan 0).writes = [] ∧
                    (channel { }).paChan (BitVec.toNat (memReq false).pa) = 0 ∧
                      (↑(memReq false).cls < 2 ∨
                          ((channel { }).chan 0).owed ((channel { }).paBankKey (BitVec.toNat (memReq false).pa)) = 0) ∧
                        (memReq false).write = false) ∧
    ((channel { postponed := [(0, 3)] }).present 0 = true ∧
        (channel { postponed := [(0, 3)] }).cel.initDone = true ∧
          ((channel { postponed := [(0, 3)] }).chan 0).keeper = false ∧
            ((channel { postponed := [(0, 3)] }).chan 0).window = none ∧
              ((channel { postponed := [(0, 3)] }).chan 0).scrubProm = false ∧
                ((channel { postponed := [(0, 3)] }).chan 0).reads = [] ∧
                  ((channel { postponed := [(0, 3)] }).chan 0).writes = [] ∧
                    (channel { postponed := [(0, 3)] }).paChan (BitVec.toNat (memReq true).pa) = 0 ∧
                      2 ≤ ↑(memReq true).cls ∧
                        0 <
                          ((channel { postponed := [(0, 3)] }).chan 0).owed
                            ((channel { postponed := [(0, 3)] }).paBankKey (BitVec.toNat (memReq true).pa))) ∧
    ((atCyc (channel { reads := [queuedReq, queuedReq1], writes := [queuedReq2] }) 100000000).present 0 = true ∧
        0 <
          (List.filter
              (fun q ↦
                !q.prom && decide (2 ≤ ↑q.req.cls) &&
                    (atCyc (channel { reads := [queuedReq, queuedReq1], writes := [queuedReq2] }) 100000000).ageLimit ↑q.req.cls != 0 &&
                  decide
                    ((atCyc (channel { reads := [queuedReq, queuedReq1], writes := [queuedReq2] }) 100000000).ageLimit ↑q.req.cls ≤
                      (atCyc (channel { reads := [queuedReq, queuedReq1], writes := [queuedReq2] }) 100000000).memAge q))
              ((atCyc (channel { reads := [queuedReq, queuedReq1], writes := [queuedReq2] }) 100000000).chan 0).all).length) ∧
    ((channel { }).present 0 = true ∧
        (List.filter
              (fun q ↦
                !q.prom && decide (2 ≤ ↑q.req.cls) && (channel { }).ageLimit ↑q.req.cls != 0 &&
                  decide ((channel { }).ageLimit ↑q.req.cls ≤ (channel { }).memAge q))
              ((channel { }).chan 0).all).length =
          0) ∧
    (four.present 7 = false) := by
  (repeat' first | apply And.intro | refine ⟨_, rfl, ?_⟩ | refine ⟨_, _, rfl, ?_⟩ | refine ⟨_, _, _, rfl, ?_⟩ | exact ⟨_, rfl⟩ | exact ⟨_, _, rfl⟩ |
    exact ⟨_, _, _, rfl⟩ | fail) <;> decide

theorem witness_RequestsAndTrainingReachMemory_third :
    ((channel { }).cel.laid = true ∧ (channel { }).takes { op := 784, c := cmd 1 0 [] } ∧ (cmd 1 0 []).num < 8) ∧
    (∃ s', s' = hostArrives (channel { }) Requester.host ∧ s'.coreOn = true) ∧
    (∃ s', s' = hostArrives asleep Requester.host ∧ s'.coreOn = false) ∧
    (∃ s', s' = hostArrives (channel { }) Requester.host ∧ s'.trainable 0 = true) ∧
    (∃ s', s' = hostArrives four Requester.host ∧ s'.trainable 7 = false) := by
  (repeat' first | apply And.intro | refine ⟨_, rfl, ?_⟩ | refine ⟨_, _, rfl, ?_⟩ | refine ⟨_, _, _, rfl, ?_⟩ | exact ⟨_, rfl⟩ | exact ⟨_, _, rfl⟩ |
    exact ⟨_, _, _, rfl⟩ | fail) <;> decide

theorem witness_RefreshCalibrationAndScrub :
    (oneRank.present 0 = true ∧ oneRank.ranks ≤ 1) ∧
    ((channel { keeper := true }).present 0 = true ∧
        0 < (channel { keeper := true }).ranks ∧ ((channel { keeper := true }).chan 0).keeper = true) ∧
    ((channel { }).present 0 = true ∧
        ∃ k,
          k = 0 * 16 + 0 ∧
            0 < (channel { }).ranks ∧
              ((channel { }).chan 0).keeper = false ∧
                ((channel { }).chan 0).window = none ∧ (channel { }).class1At ((channel { }).chan 0) k = false) ∧
    ((channel { window := some (0, true) }).present 0 = true ∧
        ∃ k,
          k = 0 * 16 + 0 ∧
            0 < (channel { window := some (0, true) }).ranks ∧
              ((channel { window := some (0, true) }).chan 0).keeper = false ∧
                (((channel { window := some (0, true) }).chan 0).window ≠ none ∨
                    (channel { window := some (0, true) }).class1At ((channel { window := some (0, true) }).chan 0) k = true) ∧
                  ((channel { window := some (0, true) }).chan 0).owed k < 8) ∧
    ((channel { reads := [promotedReq], postponed := [(0, 8)] }).present 0 = true ∧
        ∃ k,
          k = 0 * 16 + 0 ∧
            0 < (channel { reads := [promotedReq], postponed := [(0, 8)] }).ranks ∧
              ((channel { reads := [promotedReq], postponed := [(0, 8)] }).chan 0).keeper = false ∧
                (((channel { reads := [promotedReq], postponed := [(0, 8)] }).chan 0).window ≠ none ∨
                    (channel { reads := [promotedReq], postponed := [(0, 8)] }).class1At
                        ((channel { reads := [promotedReq], postponed := [(0, 8)] }).chan 0) k =
                      true) ∧
                  8 ≤ ((channel { reads := [promotedReq], postponed := [(0, 8)] }).chan 0).owed k) ∧
    ((atCyc (channel { reads := [queuedReq, queuedReq1], writes := [queuedReq2] }) 100000000).present 1 = true ∧
        ((atCyc (channel { reads := [queuedReq, queuedReq1], writes := [queuedReq2] }) 100000000).chan 1).keeper = false ∧
          ((atCyc (channel { reads := [queuedReq, queuedReq1], writes := [queuedReq2] }) 100000000).chan 1).calLast +
                BitVec.toNat ((atCyc (channel { reads := [queuedReq, queuedReq1], writes := [queuedReq2] }) 100000000).reg 5242896) ≤
              (atCyc (channel { reads := [queuedReq, queuedReq1], writes := [queuedReq2] }) 100000000).cyc ∧
            (atCyc (channel { reads := [queuedReq, queuedReq1], writes := [queuedReq2] }) 100000000).chanIdle
                  ((atCyc (channel { reads := [queuedReq, queuedReq1], writes := [queuedReq2] }) 100000000).chan 1) =
                true ∧
              ((atCyc (channel { reads := [queuedReq, queuedReq1], writes := [queuedReq2] }) 100000000).chan 1).window = none) ∧
    ((atCyc (channel { reads := [queuedReq, queuedReq1], writes := [queuedReq2] }) 100000000).present 0 = true ∧
        ((atCyc (channel { reads := [queuedReq, queuedReq1], writes := [queuedReq2] }) 100000000).chan 0).keeper = false ∧
          ((atCyc (channel { reads := [queuedReq, queuedReq1], writes := [queuedReq2] }) 100000000).chan 0).calLast +
                BitVec.toNat ((atCyc (channel { reads := [queuedReq, queuedReq1], writes := [queuedReq2] }) 100000000).reg 5242896) ≤
              (atCyc (channel { reads := [queuedReq, queuedReq1], writes := [queuedReq2] }) 100000000).cyc ∧
            ((atCyc (channel { reads := [queuedReq, queuedReq1], writes := [queuedReq2] }) 100000000).chanIdle
                  ((atCyc (channel { reads := [queuedReq, queuedReq1], writes := [queuedReq2] }) 100000000).chan 0) =
                false ∨
              ((atCyc (channel { reads := [queuedReq, queuedReq1], writes := [queuedReq2] }) 100000000).chan 0).window ≠ none)) ∧
    ((channel { }).present 0 = true ∧
        (((channel { }).chan 0).keeper = true ∨
          (channel { }).cyc < ((channel { }).chan 0).calLast + BitVec.toNat ((channel { }).reg 5242896))) ∧
    ((atCyc (channel { reads := [queuedReq], calDue := some 0 }) 4294967296).present 0 = true ∧
        (atCyc (channel { reads := [queuedReq], calDue := some 0 }) 4294967296).calOver 0 = true ∧
          (∀ (n : Nat), n < 8 → (atCyc (channel { reads := [queuedReq], calDue := some 0 }) 4294967296).forcedNow n = false) ∧
            ∀ (n : Nat), n < 0 → (atCyc (channel { reads := [queuedReq], calDue := some 0 }) 4294967296).calOver n = false) ∧
    ((channel { }).present 0 = true ∧
        ((channel { }).calOver 0 = false ∨
          (∃ n, n < 8 ∧ (channel { }).forcedNow n = true) ∨ ∃ n, n < 0 ∧ (channel { }).calOver n = true)) ∧
    ((atCyc (channel { postponed := [(1, 4)], window := some (0, true) }) 141).present 0 = true ∧
        ∃ t f,
          ((atCyc (channel { postponed := [(1, 4)], window := some (0, true) }) 141).chan 0).window = some (t, f) ∧
            t + 141 ≤ (atCyc (channel { postponed := [(1, 4)], window := some (0, true) }) 141).cyc) ∧
    ((channel { window := some (0, true) }).present 0 = true ∧
        ∃ t f,
          ((channel { window := some (0, true) }).chan 0).window = some (t, f) ∧ (channel { window := some (0, true) }).cyc < t + 141) ∧
    ((channel { }).present 0 = true ∧ ((channel { }).chan 0).window = none) ∧
    ((atCyc (channel { reads := [queuedReq, queuedReq1], writes := [queuedReq2] }) 100000000).present 0 = true ∧
        (atCyc (channel { reads := [queuedReq, queuedReq1], writes := [queuedReq2] }) 100000000).cel.initDone = true ∧
          ((atCyc (channel { reads := [queuedReq, queuedReq1], writes := [queuedReq2] }) 100000000).chan 0).keeper = false ∧
            ((atCyc (channel { reads := [queuedReq, queuedReq1], writes := [queuedReq2] }) 100000000).chan 0).scrubProm = false ∧
              ((atCyc (channel { reads := [queuedReq, queuedReq1], writes := [queuedReq2] }) 100000000).chan 0).scrubLast +
                  BitVec.toNat ((atCyc (channel { reads := [queuedReq, queuedReq1], writes := [queuedReq2] }) 100000000).reg 5242904) ≤
                (atCyc (channel { reads := [queuedReq, queuedReq1], writes := [queuedReq2] }) 100000000).cyc) ∧
    ((channel { }).present 0 = true ∧
        ((channel { }).cel.initDone = false ∨
          ((channel { }).chan 0).keeper = true ∨
            ((channel { }).chan 0).scrubProm = true ∨
              (channel { }).cyc < ((channel { }).chan 0).scrubLast + BitVec.toNat ((channel { }).reg 5242904))) ∧
    (booting.present 0 = true ∧ booting.initRuns = true) ∧
    ((channel { }).present 0 = true ∧ (channel { }).initRuns = false) ∧
    ((toSleep (channel { })).present 0 = true ∧ (toSleep (channel { })).pwr.entering = some (3, 4)) ∧
    ((channel { }).present 0 = true ∧
        (channel { }).pwr.entering ≠ some (3, 4) ∧ ((channel { }).pwr.wake = none ∨ ((channel { }).chan 0).keeper = false)) ∧
    ((waking (channel { keeper := true }) { step := 4, cause := 4, src := 0, left := 3 }).present 0 = true ∧
        (waking (channel { keeper := true }) { step := 4, cause := 4, src := 0, left := 3 }).pwr.entering ≠ some (3, 4) ∧
          ((waking (channel { keeper := true }) { step := 4, cause := 4, src := 0, left := 3 }).chan 0).keeper = true ∧
            ∃ w,
              (waking (channel { keeper := true }) { step := 4, cause := 4, src := 0, left := 3 }).pwr.wake = some w ∧
                w.left = 3 ∧ 4 ≤ w.step) ∧
    ((waking (channel { keeper := true }) { step := 3, cause := 4, src := 0, left := 3 }).present 0 = true ∧
        (waking (channel { keeper := true }) { step := 3, cause := 4, src := 0, left := 3 }).pwr.entering ≠ some (3, 4) ∧
          ((waking (channel { keeper := true }) { step := 3, cause := 4, src := 0, left := 3 }).chan 0).keeper = true ∧
            ∃ w,
              (waking (channel { keeper := true }) { step := 3, cause := 4, src := 0, left := 3 }).pwr.wake = some w ∧
                (w.left ≠ 3 ∨ w.step < 4)) := by
  (repeat' first | apply And.intro | refine ⟨_, rfl, ?_⟩ | refine ⟨_, _, rfl, ?_⟩ | refine ⟨_, _, _, rfl, ?_⟩ | exact ⟨_, rfl⟩ | exact ⟨_, _, rfl⟩ |
    exact ⟨_, _, _, rfl⟩ | fail) <;> decide

theorem witness_RequestsAndTrainingReachMemory_second :
    (∃ s',
        s' = hostArrives (channel { }) Requester.host ∧
          s'.trainable 0 = true ∧ bit 2147483649 31 = true ∧ bits 2147483649 15 0 ≠ 0 ∧ bits 2147483649 30 29 = 0) ∧
    (∃ s',
        s' = hostArrives (channel { }) Requester.host ∧
          s'.trainable 0 = true ∧ bit 2684354561 31 = true ∧ bits 2684354561 15 0 ≠ 0 ∧ bits 2684354561 30 29 = 1) ∧
    (∃ s',
        s' = hostArrives (channel { }) Requester.host ∧
          s'.trainable 0 = true ∧ bit 3221225474 31 = true ∧ bits 3221225474 15 0 ≠ 0 ∧ bits 3221225474 30 29 = 2) ∧
    (∃ s',
        s' = hostArrives (channel { }) Requester.host ∧
          s'.trainable 0 = true ∧ (bit 536870913 31 = false ∨ bits 536870913 15 0 = 0) ∧ bits 536870913 30 29 = 1) ∧
    (∃ s',
        s' = hostArrives (channel { }) Requester.host ∧
          s'.trainable 0 = true ∧ (bit 1073741825 31 = false ∨ bits 1073741825 15 0 = 0) ∧ bits 1073741825 30 29 = 2) ∧
    (∃ s',
        s' = hostArrives (channel { }) Requester.host ∧ s'.trainable 0 = true ∧ (bit 0 31 = false ∨ bits 0 15 0 = 0) ∧ bits 0 30 29 = 0) ∧
    (∃ s', s' = hostArrives four Requester.host ∧ s'.trainable 7 = false) := by
  (repeat' first | apply And.intro | refine ⟨_, rfl, ?_⟩ | refine ⟨_, _, rfl, ?_⟩ | refine ⟨_, _, _, rfl, ?_⟩ | exact ⟨_, rfl⟩ | exact ⟨_, _, rfl⟩ |
    exact ⟨_, _, _, rfl⟩ | fail) <;> decide

end W15

namespace W16

/-- Base 1 armed and stepped. -/
def armed1 : State := { live with blv := { live.blv with tb1 := { armed := true, stepped := true, val := 5 * 10 ^ 9 * 2 ^ 40 } } }

/-- TB0 locked to base 1, with an offset left if given; TB0 in holdover. -/
def locked1 (d : Option Int) : State := { armed1 with blv := { armed1.blv with lock := some false, slew := d, stepped0 := true, tb1 := { armed1.blv.tb1 with rate := 7 } } }

def heldOver : State := { atTb0 armed1 (5 * 70560000 + 9) with blv := { (atTb0 armed1 (5 * 70560000 + 9)).blv with holdover := true } }

def ctRefOn (s : State) : State := { s with gate := { s.gate with straps := s.gate.straps ||| 0x20000 } }

def pinIs (p : Pin) : State := atTb0 (live.setPin 2 p) 100

def running0 : State := put house 4 0x10000 .running

def armed2 : State := { live with blv := { live.blv with tb2 := { armed := true, val := 77 * 2 ^ 40 } } }

theorem witness_TimeBasesAndPins_first :
    (armed1.takes { op := 528, c := cmd 1 1 [1] } ∧
        ((cmd 1 1 [1]).num = if false = true then 2 else 1) ∧ (cmd 1 1 [1]).word 4 = 1 ∧ armed1.blv.isLock false = false) ∧
    (armed1.takes { op := 528, c := cmd 1 1 [0] } ∧
        ((cmd 1 1 [0]).num = if false = true then 2 else 1) ∧ (cmd 1 1 [0]).word 4 = 0 ∧ armed1.blv.isLock false = false) ∧
    ((locked1 none).takes { op := 528, c := cmd 1 1 [1] } ∧
        ((cmd 1 1 [1]).num = if false = true then 2 else 1) ∧
          bits ((cmd 1 1 [1]).word 4) 31 1 = 0 ∧ (locked1 none).blv.isLock false = true ∧ ((locked1 none).blv.base false).armed = true) ∧
    (armed1.takes { op := 529, c := cmd 1 0 [9, 0] } ∧
        firstFail (armed1.timeStepChecks (cmd 1 0 [9, 0])) = none ∧ (cmd 1 0 [9, 0]).num = 0) ∧
    (armed2.takes { op := 529, c := cmd 1 2 [1] } ∧
        firstFail (armed2.timeStepChecks (cmd 1 2 [1])) = none ∧ (cmd 1 2 [1]).num = if true = true then 2 else 1) ∧
    (armed1.takes { op := 530, c := cmd 1 1 [1] } ∧ (cmd 1 1 [1]).num ≤ 2 ∧ firstFail (armed1.timeRateChecks (cmd 1 1 [1])) = none) ∧
    (armed1.takes { op := 530, c := cmd 1 0 [9, 0] } ∧
        (cmd 1 0 [9, 0]).num ≤ 2 ∧ firstFail (armed1.timeRateChecks (cmd 1 0 [9, 0])) = none ∧ (cmd 1 0 [9, 0]).num = 0) ∧
    (armed1.takes { op := 530, c := cmd 1 1 [1] } ∧
        (cmd 1 1 [1]).num ≤ 2 ∧
          firstFail (armed1.timeRateChecks (cmd 1 1 [1])) = none ∧
            ((cmd 1 1 [1]).num = if false = true then 2 else 1) ∧ armed1.blv.isLock false = false) ∧
    ((locked1 none).takes { op := 530, c := cmd 1 1 [1] } ∧
        (cmd 1 1 [1]).num ≤ 2 ∧
          firstFail ((locked1 none).timeRateChecks (cmd 1 1 [1])) = none ∧
            (locked1 none).blv.slew = none ∧
              ((cmd 1 1 [1]).num = if false = true then 2 else 1) ∧ (locked1 none).blv.isLock false = true) ∧
    (armed1.takes { op := 531, c := cmd 1 0 [9, 0] } ∧ (cmd 1 0 [9, 0]).num = 0) ∧
    (armed1.takes { op := 531, c := cmd 1 1 [1] } ∧ (cmd 1 1 [1]).num = if false = true then 2 else 1) ∧
    (armed1.takes { op := 531, c := cmd 1 3 [] } ∧ (cmd 1 3 []).num = 3) ∧
    ((ctRefOn armed1).takes { op := 532, c := cmd 1 1 [1] } ∧
        (ctRefOn armed1).ctRef = true ∧
          ((cmd 1 1 [1]).num = if false = true then 2 else 1) ∧
            ((ctRefOn armed1).blv.base false).armed = true ∧
              ((ctRefOn armed1).blv.base false).stepped = true ∧
                (ctRefOn armed1).blv.holdover = false ∧ (ctRefOn armed1).blv.stepped0 = false ∧ (ctRefOn armed1).mediaStopped = true) ∧
    ((ctRefOn heldOver).takes { op := 532, c := cmd 1 1 [1] } ∧
        (ctRefOn heldOver).ctRef = true ∧
          ((cmd 1 1 [1]).num = if false = true then 2 else 1) ∧
            ((ctRefOn heldOver).blv.base false).armed = true ∧
              ((ctRefOn heldOver).blv.base false).stepped = true ∧
                (ctRefOn heldOver).blv.holdover = true ∧
                  -70560 ≤ relockOffset (ctRefOn heldOver) false ∧ relockOffset (ctRefOn heldOver) false ≤ 70560) ∧
    (∃ two, (locked1 (some 0)).blv.lock = some two ∧ ∃ d, (locked1 (some 0)).blv.slew = some d ∧ d = 0) ∧
    (∃ two, (locked1 (some 5)).blv.lock = some two ∧ ∃ d, (locked1 (some 5)).blv.slew = some d ∧ d ≠ 0) ∧
    (armed1.blv.lock = none ∨ armed1.blv.slew = none) ∧
    (running0.takes { op := 533, c := cmd 1 65536 [0, 1000, 2000, 4294967280] } ∧
        firstFail (running0.timePortCompChecks (cmd 1 65536 [0, 1000, 2000, 4294967280])) = none ∧
          (cmd 1 65536 [0, 1000, 2000, 4294967280]).num = 65536 + 0 ∧
            running0.portPresent 0 = true ∧
              running0.portPowered 0 = true ∧ bit ((cmd 1 65536 [0, 1000, 2000, 4294967280]).word 4) 1 = false) ∧
    (running0.takes { op := 533, c := cmd 1 65536 [2] } ∧
        firstFail (running0.timePortCompChecks (cmd 1 65536 [2])) = none ∧
          (cmd 1 65536 [2]).num = 65536 + 0 ∧
            running0.portPresent 0 = true ∧ running0.portPowered 0 = true ∧ bit ((cmd 1 65536 [2]).word 4) 1 = true) ∧
    (running0.takes { op := 535, c := cmd 1 1 [1] } ∧
        firstFail (running0.timeServoChecks (cmd 1 1 [1])) = none ∧
          ((cmd 1 1 [1]).num = if false = true then 2 else 1) ∧ bit ((cmd 1 1 [1]).word 4) 0 = true) ∧
    (running0.takes { op := 535, c := cmd 1 1 [0] } ∧
        firstFail (running0.timeServoChecks (cmd 1 1 [0])) = none ∧
          ((cmd 1 1 [0]).num = if false = true then 2 else 1) ∧ bit ((cmd 1 1 [0]).word 4) 0 = false) := by
  (repeat' first | apply And.intro | refine ⟨_, rfl, ?_⟩ | refine ⟨_, _, rfl, ?_⟩ | refine ⟨_, _, _, rfl, ?_⟩ | exact ⟨_, rfl⟩ | exact ⟨_, _, rfl⟩ |
    exact ⟨_, _, _, rfl⟩ | fail) <;> decide

theorem witness_TimeBasesAndPins_second :
    (armed1.takes { op := 534, c := cmd 1 131074 [4, 500, 0, 10, 4] } ∧
        firstFail (armed1.timePinChecks (cmd 1 131074 [4, 500, 0, 10, 4])) = none ∧
          (cmd 1 131074 [4, 500, 0, 10, 4]).num = 131072 + 2 ∧
            2 < 8 ∧ bits ((cmd 1 131074 [4, 500, 0, 10, 4]).word 4) 2 0 = 4 ∧ (armed1.pin 2).level = false) ∧
    (armed1.takes { op := 534, c := cmd 1 131074 [3] } ∧
        firstFail (armed1.timePinChecks (cmd 1 131074 [3])) = none ∧
          (cmd 1 131074 [3]).num = 131072 + 2 ∧ 2 < 8 ∧ bits ((cmd 1 131074 [3]).word 4) 2 0 ≤ 3) ∧
    (∃ s', s' = hostArrives armed1 Requester.host ∧ s'.timeOn = true ∧ bit 1 0 = true) ∧
    (∃ s', s' = hostArrives armed1 Requester.host ∧ (s'.timeOn = false ∨ bit 0 0 = false)) ∧
    (((pinIs { mode := 4, width := 4, level := true, fall := some 99 }).pin 2).mode = 4 ∨
        (pinIs { mode := 4, width := 4, level := true, fall := some 99 }).timeOn = false) ∧
    ((live.setPin 2 { mode := 1 }).timeOn = true ∧
        ((live.setPin 2 { mode := 1 }).pin 2).mode ≠ 4 ∧
          (((live.setPin 2 { mode := 1 }).pin 2).mode = 3 ∨ ((live.setPin 2 { mode := 1 }).pin 2).mode = if true = true then 1 else 2) ∧
            ((live.setPin 2 { mode := 1 }).pin 2).edge = none) ∧
    ((pinIs { mode := 2, base2 := true, edge := some true }).timeOn = true ∧
        ((pinIs { mode := 2, base2 := true, edge := some true }).pin 2).mode ≠ 4 ∧
          (((pinIs { mode := 2, base2 := true, edge := some true }).pin 2).mode = 3 ∨
              ((pinIs { mode := 2, base2 := true, edge := some true }).pin 2).mode = if false = true then 1 else 2) ∧
            ((pinIs { mode := 2, base2 := true, edge := some true }).pin 2).edge.isSome = true) ∧
    (armed1.timeOn = true ∧ (armed1.pin 0).mode ≠ 4 ∧ (armed1.pin 0).mode ≠ 3 ∧ (armed1.pin 0).mode ≠ if false = true then 1 else 2) ∧
    ((pinIs { mode := 2, base2 := true, edge := some true }).running = true ∧
        ∃ rising, ((pinIs { mode := 2, base2 := true, edge := some true }).pin 2).edge = some rising) ∧
    ((armed1.pin 0).edge = none ∨ armed1.running = false) ∧
    (∃ t,
        ((pinIs { mode := 4, width := 4, level := true, fall := some 99 }).pin 2).fall = some t ∧
          t ≤ (pinIs { mode := 4, width := 4, level := true, fall := some 99 }).now) ∧
    ((∀ (t : Nat),
          ((pinIs { mode := 4, period := 10, width := 4, next := some 90 }).pin 2).fall = some t →
            (pinIs { mode := 4, period := 10, width := 4, next := some 90 }).now < t) ∧
        ∃ t,
          ((pinIs { mode := 4, period := 10, width := 4, next := some 90 }).pin 2).next = some t ∧
            t ≤ (pinIs { mode := 4, period := 10, width := 4, next := some 90 }).now) ∧
    ((∀ (t : Nat), (armed1.pin 0).fall = some t → armed1.now < t) ∧ ∀ (t : Nat), (armed1.pin 0).next = some t → armed1.now < t) := by
  (repeat' first | apply And.intro | refine ⟨_, rfl, ?_⟩ | refine ⟨_, _, rfl, ?_⟩ | refine ⟨_, _, _, rfl, ?_⟩ | exact ⟨_, rfl⟩ | exact ⟨_, _, rfl⟩ |
    exact ⟨_, _, _, rfl⟩ | fail) <;> decide

end W16

namespace W17

/-- Source 66 pending, enabled and routed to core target 3, whose stack is as given. -/
def pendingFor (stack : List Nat) : State :=
  { live.setReg (srcCfgA 66) 0x8000_0035 with bell := { live.bell with pend := [66], levelStacks := if stack = [] then [] else [(3, stack)] } }

def errAt (sev : Severity) : ErrRec := ⟨sev, true, 40, 0, 0, 0⟩

/-- Open levels and a log as given. -/
def erring (levels log : List ErrRec) : State := { live with bell := { live.bell with levels := levels, log := log } }

def alerting (s : State) : State := { s with bell := { s.bell with alertWait := true } }

theorem witness_SourcesAreClaimedAndEnded :
    (∃ s', s' = hostArrives live Requester.host ∧ s'.coreOn = true) ∧
    (∃ s', s' = hostArrives live Requester.host ∧ s'.coreOn = true ∧ s'.claimable 3 = none) ∧
    (∃ s',
        s' = hostArrives (pendingFor (List.replicate 16 5)) Requester.host ∧
          s'.coreOn = true ∧ ∃ n, s'.claimable 3 = some n ∧ 16 ≤ (s'.stack 3).length) ∧
    (∃ s', s' = hostArrives (pendingFor []) Requester.host ∧ s'.coreOn = true ∧ ∃ n, s'.claimable 3 = some n ∧ (s'.stack 3).length < 16) ∧
    (∃ s', s' = hostArrives (pendingFor [5]) Requester.host ∧ s'.coreOn = true ∧ bit 1 0 = true ∧ ∃ a l, s'.stack 3 = a :: l) ∧
    (∃ s', s' = hostArrives live Requester.host ∧ s'.coreOn = true ∧ bit 1 0 = true ∧ s'.stack 3 = []) ∧
    (∃ s', s' = hostArrives live Requester.host ∧ s'.coreOn = true ∧ bit 0 0 = false) ∧
    (∃ s',
        s' = hostArrives live Requester.host ∧
          s'.coreOn = true ∧ bits (srcCfgValue 33 0) 8 4 < 21 ∧ (bits (srcCfgValue 33 0) 13 9 < 21 ∨ bits (srcCfgValue 33 0) 13 9 = 31)) ∧
    (∃ s',
        s' = hostArrives live Requester.host ∧
          s'.coreOn = true ∧
            (21 ≤ bits (srcCfgValue 33 496) 8 4 ∨ 21 ≤ bits (srcCfgValue 33 496) 13 9 ∧ bits (srcCfgValue 33 496) 13 9 ≠ 31)) ∧
    (∃ s', s' = hostArrives asleep Requester.host ∧ s'.coreOn = false) := by
  (repeat' first | apply And.intro | refine ⟨_, rfl, ?_⟩ | refine ⟨_, _, rfl, ?_⟩ | refine ⟨_, _, _, rfl, ?_⟩ | exact ⟨_, rfl⟩ | exact ⟨_, _, rfl⟩ |
    exact ⟨_, _, _, rfl⟩ | fail) <;> decide

theorem witness_ErrorsAreHandledAndLogged :
    (live.coreOn = true) ∧
    (asleep.coreOn = false) ∧
    (∃ s',
        s' = hostArrives (erring [errAt Severity.deferred] []) Requester.host ∧
          s'.coreOn = true ∧
            ∃ l rest,
              s'.bell.levels = l :: rest ∧
                bit 1 0 = true ∧
                  (Requester.host = Requester.host ∨ s'.route (if l.sev = Severity.fatal then 18 else 17) = reqTarget Requester.host)) ∧
    (∃ s',
        s' = hostArrives (erring [errAt Severity.deferred] []) (Requester.core 1) ∧
          s'.coreOn = true ∧
            ∃ l rest,
              s'.bell.levels = l :: rest ∧
                bit 1 0 = true ∧
                  Requester.core 1 ≠ Requester.host ∧
                    s'.route (if l.sev = Severity.fatal then 18 else 17) ≠ reqTarget (Requester.core 1)) ∧
    (∃ s', s' = hostArrives live Requester.host ∧ s'.coreOn = true ∧ (bit 0 0 = false ∨ s'.bell.levels = [])) ∧
    (∃ s', s' = hostArrives live Requester.host ∧ s'.coreOn = true ∧ bit 1 0 = true) ∧
    (∃ s', s' = hostArrives live Requester.host ∧ s'.coreOn = true ∧ bit 0 0 = false) ∧
    (∃ s', s' = hostArrives live Requester.host ∧ s'.coreOn = true ∧ s'.bell.log.length < 32 ∧ bits 0 1 0 ≤ 2) ∧
    (∃ s', s' = hostArrives live Requester.host ∧ s'.coreOn = true ∧ bits 4325379 1 0 = 3) ∧
    (∃ s', s' = hostArrives asleep Requester.host ∧ s'.coreOn = false) ∧
    ((alerting live).bell.alertWait = true ∧
        ((alerting live).hostReach = false ∨ (alerting live).porch.pba.contains ((alerting live).srcVector 19) = false)) ∧
    (live.bell.alertWait = false ∨ live.hostReach = true ∧ live.porch.pba.contains (live.srcVector 19) = true) := by
  (repeat' first | apply And.intro | refine ⟨_, rfl, ?_⟩ | refine ⟨_, _, rfl, ?_⟩ | refine ⟨_, _, _, rfl, ?_⟩ | exact ⟨_, rfl⟩ | exact ⟨_, _, rfl⟩ |
    exact ⟨_, _, _, rfl⟩ | fail) <;> decide

end W17

namespace W18

/-- Power commands' state as given. -/
def withPwr (p : Power) : State := { live with pwr := p }

def allOn : Power := { dom := BitVec.allOnes 80 }

/-- The Gatehouse in a step with groups enabled and good, at a CK_CT cycle. -/
def gated (step : Nat) (en pg : BitVec 4) (t : Nat) : State :=
  atCyc { State.reset with gate := { State.reset.gate with step := step, en := en, pg := pg, porst := 1 < step } } t

/-- Enables that fall in order. -/
def falling (l : List Nat) (en : BitVec 4) (t : Nat) : State :=
  atCyc { State.reset with gate := { State.reset.gate with step := 0, en := en, lowering := l } } t

/-- Rails whose readings were right; no supply; every keeper has its refresh; a timer that runs; the alarm latch full. -/
def railsRead (l : List Nat) (s : State) : State := { s with gate := { s.gate with railsOk := l } }

def noSupply : State := { State.reset with gate := { vdd := false } }

def kept (s : State) : State := { s with cel := { s.cel with initDone := true, chans := (List.range 8).map fun n => (n, { keeper := true }) } }

def timer (n : Nat) (s : State) : State := { s with gate := { s.gate with timerOn := true, timer := n } }

def job (op : BitVec 16) (c : Cmd) : PowerJob := ⟨op, c⟩

def ordered (p : Power) (r : Nat) (x : Rail) (t : Nat) : State := atCyc ((withPwr p).setRail r x) t

def gatedHigh : State := { gated 1 0 0 141120 with gate := { (gated 1 0 0 141120).gate with porst := true } }

/-- A wake under way. -/
def wk (w : Wake) (s : State) : State := { s with pwr := { s.pwr with wake := some w, state := w.left, savedDom := 5 } }

/-- Power states that the witnesses use. -/
def clamped : Power := { allOn with clamp := true }

def cooling : Power := { clamped with coolSince := some 0 }

def entering3 : Power := { allOn with entering := some (3, 3) }

def railJob : Power := { allOn with job := some (job 0x0111 (cmd 1 1 [2])) }

def voltJob : Power := { allOn with job := some (job 0x0112 (cmd 1 1 [5])) }

def railUp : Power := { allOn with rails := [(1, {freq := 2, volt := 1, mv := 760})] }

def sleepWakes : Power := { allOn with state := 3, wakeEn := 0x7F }

def domsRise : Power := { dom := 0, rising := [(28, 0), (70, 5)] }

def hot : List Int := List.replicate 9 1500

theorem witness_PowerCommandsAndRails :
    ((timer 0 live).pwr.entering = none ∧
        (timer 0 live).pwr.wake = none ∧
          (timer 0 live).pwr.job = none ∧
            (timer 0 live).pwr.state = 0 ∧
              (timer 0 live).pwr.waiting = [] ∧
                (timer 0 live).takes { op := 272, c := cmd 1 28 [1] } ∧
                  (cmd 1 28 [1]).num < 80 ∧ bit ((cmd 1 28 [1]).word 4) 0 = true ∧ (timer 0 live).dom (cmd 1 28 [1]).num = true) ∧
    ((gated 1 0 0 141120).pwr.entering = none ∧
        (gated 1 0 0 141120).pwr.wake = none ∧
          (gated 1 0 0 141120).pwr.job = none ∧
            (gated 1 0 0 141120).pwr.state = 0 ∧
              (gated 1 0 0 141120).pwr.waiting = [] ∧
                (gated 1 0 0 141120).takes { op := 272, c := cmd 1 28 [1] } ∧
                  (cmd 1 28 [1]).num < 80 ∧ bit ((cmd 1 28 [1]).word 4) 0 = true ∧ (gated 1 0 0 141120).dom (cmd 1 28 [1]).num = false) ∧
    ((gated 1 0 0 141120).pwr.entering = none ∧
        (gated 1 0 0 141120).pwr.wake = none ∧
          (gated 1 0 0 141120).pwr.job = none ∧
            (gated 1 0 0 141120).pwr.state = 0 ∧
              (gated 1 0 0 141120).pwr.waiting = [] ∧
                (gated 1 0 0 141120).takes { op := 272, c := cmd 1 28 [0] } ∧
                  (cmd 1 28 [0]).num < 80 ∧
                    bit ((cmd 1 28 [0]).word 4) 0 = false ∧
                      (gated 1 0 0 141120).dom (cmd 1 28 [0]).num = false ∧
                        tfind (gated 1 0 0 141120).pwr.rising (cmd 1 28 [0]).num = none) ∧
    (house.pwr.entering = none ∧
        house.pwr.wake = none ∧
          house.pwr.job = none ∧
            house.pwr.state = 0 ∧
              house.pwr.waiting = [] ∧
                house.takes { op := 272, c := cmd 1 73 [0] } ∧
                  (cmd 1 73 [0]).num < 80 ∧
                    bit ((cmd 1 73 [0]).word 4) 0 = false ∧
                      house.dom (cmd 1 73 [0]).num = true ∧ house.domainLive (cmd 1 73 [0]).num = true) ∧
    (house.pwr.entering = none ∧
        house.pwr.wake = none ∧
          house.pwr.job = none ∧
            house.pwr.state = 0 ∧
              house.pwr.waiting = [] ∧
                house.takes { op := 272, c := cmd 1 0 [0] } ∧
                  (cmd 1 0 [0]).num < 80 ∧
                    bit ((cmd 1 0 [0]).word 4) 0 = false ∧
                      house.dom (cmd 1 0 [0]).num = true ∧
                        house.domainLive (cmd 1 0 [0]).num = false ∧ house.domainHeld (cmd 1 0 [0]).num = true) ∧
    ((timer 0 live).pwr.entering = none ∧
        (timer 0 live).pwr.wake = none ∧
          (timer 0 live).pwr.job = none ∧
            (timer 0 live).pwr.state = 0 ∧
              (timer 0 live).pwr.waiting = [] ∧
                (timer 0 live).takes { op := 272, c := cmd 1 28 [0] } ∧
                  (cmd 1 28 [0]).num < 80 ∧
                    bit ((cmd 1 28 [0]).word 4) 0 = false ∧
                      (timer 0 live).dom (cmd 1 28 [0]).num = true ∧
                        (timer 0 live).domainLive (cmd 1 28 [0]).num = false ∧ (timer 0 live).domainHeld (cmd 1 28 [0]).num = false) ∧
    ((withPwr clamped).pwr.entering = none ∧
        (withPwr clamped).pwr.wake = none ∧
          (withPwr clamped).pwr.job = none ∧
            (withPwr clamped).pwr.state = 0 ∧
              (withPwr clamped).pwr.waiting = [] ∧
                (withPwr clamped).takes { op := 273, c := cmd 1 0 [0] } ∧
                  (cmd 1 0 [0]).num < 3 ∧
                    ∃ p,
                      p = bits ((cmd 1 0 [0]).word 4) 1 0 ∧
                        ((withPwr clamped).pwr.clamp = true ∧ p < 3 ∨ (withPwr clamped).railOver (cmd 1 0 [0]).num p = true)) ∧
    ((gated 1 0 0 141120).pwr.entering = none ∧
        (gated 1 0 0 141120).pwr.wake = none ∧
          (gated 1 0 0 141120).pwr.job = none ∧
            (gated 1 0 0 141120).pwr.state = 0 ∧
              (gated 1 0 0 141120).pwr.waiting = [] ∧
                (gated 1 0 0 141120).takes { op := 273, c := cmd 1 0 [0] } ∧
                  (cmd 1 0 [0]).num < 3 ∧
                    ∃ p,
                      p = bits ((cmd 1 0 [0]).word 4) 1 0 ∧
                        ((gated 1 0 0 141120).pwr.clamp = false ∨ p = 3) ∧ (gated 1 0 0 141120).railOver (cmd 1 0 [0]).num p = false) ∧
    ((withPwr clamped).pwr.entering = none ∧
        (withPwr clamped).pwr.wake = none ∧
          (withPwr clamped).pwr.job = none ∧
            (withPwr clamped).pwr.state = 0 ∧
              (withPwr clamped).pwr.waiting = [] ∧
                (withPwr clamped).takes { op := 274, c := cmd 1 0 [0] } ∧
                  (cmd 1 0 [0]).num < 3 ∧ ∃ p, p = bits ((cmd 1 0 [0]).word 4) 3 2 ∧ (withPwr clamped).pwr.clamp = true ∧ p < 3) ∧
    ((gated 1 0 0 141120).pwr.entering = none ∧
        (gated 1 0 0 141120).pwr.wake = none ∧
          (gated 1 0 0 141120).pwr.job = none ∧
            (gated 1 0 0 141120).pwr.state = 0 ∧
              (gated 1 0 0 141120).pwr.waiting = [] ∧
                (gated 1 0 0 141120).takes { op := 274, c := cmd 1 1 [3] } ∧
                  (cmd 1 1 [3]).num < 3 ∧
                    ∃ p,
                      p = bits ((cmd 1 1 [3]).word 4) 3 2 ∧
                        ((gated 1 0 0 141120).pwr.clamp = false ∨ p = 3) ∧
                          bit ((cmd 1 1 [3]).word 4) 0 = true ∧ p ≤ ((gated 1 0 0 141120).rail (cmd 1 1 [3]).num).freq) ∧
    ((gated 1 0 0 141120).pwr.entering = none ∧
        (gated 1 0 0 141120).pwr.wake = none ∧
          (gated 1 0 0 141120).pwr.job = none ∧
            (gated 1 0 0 141120).pwr.state = 0 ∧
              (gated 1 0 0 141120).pwr.waiting = [] ∧
                (gated 1 0 0 141120).takes { op := 274, c := cmd 1 1 [5] } ∧
                  (cmd 1 1 [5]).num < 3 ∧
                    ∃ p,
                      p = bits ((cmd 1 1 [5]).word 4) 3 2 ∧
                        ((gated 1 0 0 141120).pwr.clamp = false ∨ p = 3) ∧
                          bit ((cmd 1 1 [5]).word 4) 0 = true ∧ ((gated 1 0 0 141120).rail (cmd 1 1 [5]).num).freq < p) ∧
    ((gated 1 0 0 141120).pwr.entering = none ∧
        (gated 1 0 0 141120).pwr.wake = none ∧
          (gated 1 0 0 141120).pwr.job = none ∧
            (gated 1 0 0 141120).pwr.state = 0 ∧
              (gated 1 0 0 141120).pwr.waiting = [] ∧
                (gated 1 0 0 141120).takes { op := 274, c := cmd 1 0 [0] } ∧
                  (cmd 1 0 [0]).num < 3 ∧
                    ∃ p,
                      p = bits ((cmd 1 0 [0]).word 4) 3 2 ∧
                        ((gated 1 0 0 141120).pwr.clamp = false ∨ p = 3) ∧
                          bit ((cmd 1 0 [0]).word 4) 0 = false ∧
                            ((gated 1 0 0 141120).rail (cmd 1 0 [0]).num).volt ≤ p ∧
                              (gated 1 0 0 141120).railOver (cmd 1 0 [0]).num p = false) ∧
    ((withPwr railUp).pwr.entering = none ∧
        (withPwr railUp).pwr.wake = none ∧
          (withPwr railUp).pwr.job = none ∧
            (withPwr railUp).pwr.state = 0 ∧
              (withPwr railUp).pwr.waiting = [] ∧
                (withPwr railUp).takes { op := 274, c := cmd 1 1 [2] } ∧
                  (cmd 1 1 [2]).num < 3 ∧
                    ∃ p,
                      p = bits ((cmd 1 1 [2]).word 4) 3 2 ∧
                        ((withPwr railUp).pwr.clamp = false ∨ p = 3) ∧
                          bit ((cmd 1 1 [2]).word 4) 0 = false ∧ p < ((withPwr railUp).rail (cmd 1 1 [2]).num).volt) ∧
    ((gated 1 0 0 141120).pwr.entering = none ∧
        (gated 1 0 0 141120).pwr.wake = none ∧
          (gated 1 0 0 141120).pwr.job = none ∧
            (gated 1 0 0 141120).pwr.state = 0 ∧
              (gated 1 0 0 141120).pwr.waiting = [] ∧
                (gated 1 0 0 141120).takes { op := 275, c := cmd 1 0 [0] } ∧ (cmd 1 0 [0]).num = 0 ∧ bits ((cmd 1 0 [0]).word 4) 2 0 = 0) ∧
    (house.pwr.entering = none ∧
        house.pwr.wake = none ∧
          house.pwr.job = none ∧
            house.pwr.state = 0 ∧
              house.pwr.waiting = [] ∧
                house.takes { op := 275, c := cmd 1 0 [1, 127, 9] } ∧
                  (cmd 1 0 [1, 127, 9]).num = 0 ∧ bits ((cmd 1 0 [1, 127, 9]).word 4) 2 0 ≠ 0 ∧ ∃ r, house.liveRange = some r) ∧
    ((gated 1 0 0 141120).pwr.entering = none ∧
        (gated 1 0 0 141120).pwr.wake = none ∧
          (gated 1 0 0 141120).pwr.job = none ∧
            (gated 1 0 0 141120).pwr.state = 0 ∧
              (gated 1 0 0 141120).pwr.waiting = [] ∧
                (gated 1 0 0 141120).takes { op := 275, c := cmd 1 0 [5] } ∧
                  (cmd 1 0 [5]).num = 0 ∧ (gated 1 0 0 141120).liveRange = none ∧ 5 ≤ bits ((cmd 1 0 [5]).word 4) 2 0) ∧
    ((gated 1 0 0 141120).pwr.entering = none ∧
        (gated 1 0 0 141120).pwr.wake = none ∧
          (gated 1 0 0 141120).pwr.job = none ∧
            (gated 1 0 0 141120).pwr.state = 0 ∧
              (gated 1 0 0 141120).pwr.waiting = [] ∧
                (gated 1 0 0 141120).takes { op := 275, c := cmd 1 0 [1, 127, 9] } ∧
                  (cmd 1 0 [1, 127, 9]).num = 0 ∧ (gated 1 0 0 141120).liveRange = none ∧ bits ((cmd 1 0 [1, 127, 9]).word 4) 2 0 = 1) ∧
    ((gated 1 0 0 141120).pwr.entering = none ∧
        (gated 1 0 0 141120).pwr.wake = none ∧
          (gated 1 0 0 141120).pwr.job = none ∧
            (gated 1 0 0 141120).pwr.state = 0 ∧
              (gated 1 0 0 141120).pwr.waiting = [] ∧
                (gated 1 0 0 141120).takes { op := 275, c := cmd 1 0 [2, 127, 9] } ∧
                  (cmd 1 0 [2, 127, 9]).num = 0 ∧ (gated 1 0 0 141120).liveRange = none ∧ bits ((cmd 1 0 [2, 127, 9]).word 4) 2 0 = 2) ∧
    ((gated 1 0 0 141120).pwr.entering = none ∧
        (gated 1 0 0 141120).pwr.wake = none ∧
          (gated 1 0 0 141120).pwr.job = none ∧
            (gated 1 0 0 141120).pwr.state = 0 ∧
              (gated 1 0 0 141120).pwr.waiting = [] ∧
                (gated 1 0 0 141120).takes { op := 275, c := cmd 1 0 [3, 127, 9] } ∧
                  (cmd 1 0 [3, 127, 9]).num = 0 ∧
                    (gated 1 0 0 141120).liveRange = none ∧
                      (bits ((cmd 1 0 [3, 127, 9]).word 4) 2 0 = 3 ∨ bits ((cmd 1 0 [3, 127, 9]).word 4) 2 0 = 4)) ∧
    ((gated 1 0 0 141120).pwr.entering = none ∧
        (gated 1 0 0 141120).pwr.wake = none ∧
          (gated 1 0 0 141120).pwr.job = none ∧
            (gated 1 0 0 141120).pwr.state = 0 ∧
              (gated 1 0 0 141120).pwr.waiting = [] ∧ (gated 1 0 0 141120).takes { op := 276, c := cmd 1 0 [0] } ∧ (cmd 1 0 [0]).num = 0) ∧
    ((withPwr entering3).takes { op := 272, c := cmd 1 28 [1] } ∧
        (cmd 1 28 [1]).num < 80 ∧ ((withPwr entering3).pwr.entering ≠ none ∨ (withPwr entering3).pwr.wake ≠ none)) ∧
    ((withPwr railJob).takes { op := 272, c := cmd 1 28 [1] } ∧
        (cmd 1 28 [1]).num < 80 ∧
          (withPwr railJob).pwr.entering = none ∧ (withPwr railJob).pwr.wake = none ∧ (withPwr railJob).pwr.job ≠ none) ∧
    (tfind (gated 1 0 0 141120).pwr.rising 0 = none) ∧
    ((withPwr domsRise).pwr.waiting = [] ∧ ∃ t, tfind (withPwr domsRise).pwr.rising 28 = some t) ∧
    ((gated 1 0 0 141120).gate.step ≠ 3 ∧ ((gated 1 0 0 141120).rail 0).want = none) ∧
    ((ordered allOn 1 { want := some (2, 0) } 0).gate.step ≠ 3 ∧
        ∃ p t, ((ordered allOn 1 { want := some (2, 0) } 0).rail 1).want = some (p, t) ∧ (0 + 10 < pointMv p ∨ pointMv p + 10 < 0)) ∧
    ((ordered allOn 1 { want := some (2, 0) } 0).gate.step ≠ 3 ∧
        ∃ p t,
          ((ordered allOn 1 { want := some (2, 0) } 0).rail 1).want = some (p, t) ∧
            pointMv p ≤ 671 + 10 ∧ 671 ≤ pointMv p + 10 ∧ (ordered allOn 1 { want := some (2, 0) } 0).railJob 1 = none) ∧
    ((ordered railJob 1 { freq := 3, want := some (2, 0) } 0).gate.step ≠ 3 ∧
        ∃ p t,
          ((ordered railJob 1 { freq := 3, want := some (2, 0) } 0).rail 1).want = some (p, t) ∧
            pointMv p ≤ 671 + 10 ∧
              671 ≤ pointMv p + 10 ∧
                (ordered railJob 1 { freq := 3, want := some (2, 0) } 0).pwr.job = some { op := 273, c := cmd 1 1 [2] } ∧
                  (cmd 1 1 [2]).num = 1 ∧ (ordered railJob 1 { freq := 3, want := some (2, 0) } 0).pwr.waiting = []) ∧
    ((ordered voltJob 1 { freq := 3, want := some (1, 0) } 0).gate.step ≠ 3 ∧
        ∃ p t,
          ((ordered voltJob 1 { freq := 3, want := some (1, 0) } 0).rail 1).want = some (p, t) ∧
            pointMv p ≤ 760 + 10 ∧
              760 ≤ pointMv p + 10 ∧
                (ordered voltJob 1 { freq := 3, want := some (1, 0) } 0).pwr.job = some { op := 274, c := cmd 1 1 [5] } ∧
                  (cmd 1 1 [5]).num = 1 ∧ (ordered voltJob 1 { freq := 3, want := some (1, 0) } 0).pwr.waiting = []) ∧
    (∀ (x : Nat × Nat), x ∈ ((gated 1 0 0 141120).rail 0).want → (gated 1 0 0 141120).cyc < x.snd + 705600) ∧
    ((ordered allOn 1 { want := some (2, 0) } 705600).pwr.waiting = [] ∧
        ∃ p t,
          ((ordered allOn 1 { want := some (2, 0) } 705600).rail 1).want = some (p, t) ∧
            t + 705600 ≤ (ordered allOn 1 { want := some (2, 0) } 705600).cyc) ∧
    ((withPwr sleepWakes).coreOn = false) ∧
    ((gated 1 0 0 141120).coreOn = true ∧
        (List.replicate 9 300).length = 9 ∧
          ∀ (x : Int), x ∈ List.replicate 9 300 → x < (gated 1 0 0 141120).atcWarn ∧ x < (gated 1 0 0 141120).atcCrit) ∧
    ((gated 1 0 0 141120).coreOn = true ∧
        [0, 0, 0, 0, 0, 0, 0, 0, 1060].length = 9 ∧
          (∃ x, x ∈ [0, 0, 0, 0, 0, 0, 0, 0, 1060] ∧ (gated 1 0 0 141120).atcWarn ≤ x) ∧
            ∀ (x : Int), x ∈ [0, 0, 0, 0, 0, 0, 0, 0, 1060] → x < (gated 1 0 0 141120).atcCrit) ∧
    ((gated 1 0 0 141120).coreOn = true ∧
        hot.length = 9 ∧ (gated 1 0 0 141120).pwr.clamp = false ∧ ∃ x, x ∈ hot ∧ (gated 1 0 0 141120).atcCrit ≤ x) ∧
    ((atCyc (withPwr cooling) 70560000).pwr.clamp = true ∧
        ∃ t, (atCyc (withPwr cooling) 70560000).pwr.coolSince = some t ∧ t + ctPerSec ≤ (atCyc (withPwr cooling) 70560000).cyc) ∧
    ((withPwr cooling).pwr.clamp = true ∧ ∃ t, (withPwr cooling).pwr.coolSince = some t ∧ (withPwr cooling).cyc < t + ctPerSec) ∧
    ((gated 1 0 0 141120).pwr.coolSince = none ∨ (gated 1 0 0 141120).pwr.clamp = false) := by
  (repeat' first | apply And.intro | refine ⟨_, rfl, ?_⟩ | refine ⟨_, _, rfl, ?_⟩ | refine ⟨_, _, _, rfl, ?_⟩ | exact ⟨_, rfl⟩ | exact ⟨_, _, rfl⟩ |
    exact ⟨_, _, _, rfl⟩ | fail) <;> decide

theorem witness_SuppliesAndWakes :
    ((gated 1 0 0 141120).gate.porst = false ∧ (gated 1 0 0 141120).gate.vdd = true) ∧
    (gatedHigh.gate.porst = true ∨ gatedHigh.gate.vdd = false) ∧
    (noSupply.gate.vdd = false) ∧
    ((gated 1 0 0 141120).gate.vdd = true) ∧
    ((gated 6 15 15 70560).gate.step = 6 ∧ (gated 6 15 15 70560).gate.since + 70560 ≤ (gated 6 15 15 70560).cyc) ∧
    ((gated 1 0 0 141120).gate.step ≠ 6 ∨ (gated 1 0 0 141120).cyc < (gated 1 0 0 141120).gate.since + 70560) ∧
    ((railsRead [0, 1, 2] (gated 3 3 1 5)).gate.en.getLsbD 0 = true ∧ (railsRead [0, 1, 2] (gated 3 3 1 5)).gate.pg.getLsbD 0 = true) ∧
    ((gated 7 15 7 705600).gate.en.getLsbD 3 = true ∧
        (gated 7 15 7 705600).gate.pg.getLsbD 3 = false ∧ (gated 7 15 7 705600).gate.since + 705600 ≤ (gated 7 15 7 705600).cyc) ∧
    ((gated 2 1 0 5).gate.en.getLsbD 0 = true ∧ (gated 2 1 0 5).gate.pg.getLsbD 0 = false) ∧
    ((gated 2 1 0 5).gate.en.getLsbD 0 = true ∧
        ((gated 2 1 0 5).gate.pg.getLsbD 0 = true ∨ (gated 2 1 0 5).cyc < (gated 2 1 0 5).gate.since + 705600)) ∧
    ((gated 1 0 0 141120).gate.en.getLsbD 0 = false) ∧
    ((gated 2 1 0 5).gate.en.getLsbD 0 = true) ∧
    ((gated 1 0 0 141120).gate.en.getLsbD 0 = false ∧ (gated 1 0 0 141120).gate.lowering.head? ≠ some 0) ∧
    ((falling [3, 2, 1, 0] 7 352800).gate.en.getLsbD 3 = false ∧
        (falling [3, 2, 1, 0] 7 352800).gate.en.getLsbD 2 = true ∧ ∃ r, (falling [3, 2, 1, 0] 7 352800).gate.lowering = 3 :: 2 :: r) ∧
    ((falling [2] 0 352800).gate.since + 5 * 70560 ≤ (falling [2] 0 352800).cyc ∧
        (falling [2] 0 352800).gate.lowering.head? = some 2 ∧
          (falling [2] 0 352800).gate.lowering = [2] ∧ (falling [2] 0 352800).gate.step = 0 ∧ (falling [2] 0 352800).pwr.wake = none) ∧
    ((falling [3, 2, 1, 0] 7 352800).gate.since + 5 * 70560 ≤ (falling [3, 2, 1, 0] 7 352800).cyc ∧
        (falling [3, 2, 1, 0] 7 352800).gate.lowering.head? = some 3 ∧
          (falling [3, 2, 1, 0] 7 352800).gate.en.getLsbD 2 = true ∧ ∃ r, (falling [3, 2, 1, 0] 7 352800).gate.lowering = 3 :: 2 :: r) ∧
    ((gated 1 0 0 141120).gate.lowering.head? ≠ some 0 ∨ (gated 1 0 0 141120).cyc < (gated 1 0 0 141120).gate.since + 5 * 70560) ∧
    (gatedHigh.gate.porst = true) ∧
    ((gated 1 0 0 141120).gate.porst = false) ∧
    ((withPwr entering3).pwr.entering = some (3, 3) ∧ (withPwr entering3).keepersDone = false) ∧
    ((kept (withPwr entering3)).pwr.entering = some (3, 3) ∧ (kept (withPwr entering3)).keepersDone = true) ∧
    ((gated 1 0 0 141120).pwr.entering ≠ some (3, 3)) ∧
    (∃ named,
        named = (decide (3 ≠ 2) || (withPwr sleepWakes).watches 0 && decide (48 ≤ 0) && decide (0 ≤ 53)) ∧
          (withPwr sleepWakes).wakeAllowed 3 = true ∧
            named = true ∧ (withPwr sleepWakes).pwr.wake = none ∧ (withPwr sleepWakes).pwr.entering = none) ∧
    (∃ named,
        named = (decide (0 ≠ 2) || (gated 1 0 0 141120).watches 0 && decide (48 ≤ 0) && decide (0 ≤ 53)) ∧
          ((gated 1 0 0 141120).wakeAllowed 0 = false ∨ named = false)) ∧
    ((gated 1 0 0 141120).pwr.wake = none) ∧
    (∃ w,
        (wk { step := 4, cause := 4, src := 0, left := 4 } live).pwr.wake = some w ∧
          ((wk { step := 4, cause := 4, src := 0, left := 4 } live).pwr.entering ≠ none ∨ w.left = 4)) ∧
    (∃ w,
        (wk { step := 1, cause := 4, src := 0, left := 3 } (gated 7 7 7 0)).pwr.wake = some w ∧
          (wk { step := 1, cause := 4, src := 0, left := 3 } (gated 7 7 7 0)).pwr.entering = none ∧
            w.left ≠ 4 ∧
              w.step = 1 ∧
                w.left = 3 ∧
                  ¬((wk { step := 1, cause := 4, src := 0, left := 3 } (gated 7 7 7 0)).gate.en = 15 ∧
                      (wk { step := 1, cause := 4, src := 0, left := 3 } (gated 7 7 7 0)).gate.pg = 15)) ∧
    (∃ w,
        (wk { step := 4, cause := 4, src := 0, left := 3 } live).pwr.wake = some w ∧
          (wk { step := 4, cause := 4, src := 0, left := 3 } live).pwr.entering = none ∧
            w.left ≠ 4 ∧
              w.step = 4 ∧
                w.left = 3 ∧
                  ((wk { step := 4, cause := 4, src := 0, left := 3 } live).cel.initDone = false ∨
                    ∃ e, e ∈ (wk { step := 4, cause := 4, src := 0, left := 3 } live).cel.chans ∧ e.snd.keeper = true)) ∧
    (∃ w,
        (wk { step := 1, cause := 0, src := 0, left := 1 } live).pwr.wake = some w ∧
          (wk { step := 1, cause := 0, src := 0, left := 1 } live).pwr.entering = none ∧
            w.left ≠ 4 ∧
              (w.left = 3 →
                (w.step = 1 →
                    (wk { step := 1, cause := 0, src := 0, left := 1 } live).gate.en = 15 ∧
                      (wk { step := 1, cause := 0, src := 0, left := 1 } live).gate.pg = 15) ∧
                  (w.step = 4 →
                    (wk { step := 1, cause := 0, src := 0, left := 1 } live).cel.initDone = true ∧
                      ∀ (e : Nat × Chan),
                        e ∈ (wk { step := 1, cause := 0, src := 0, left := 1 } live).cel.chans → e.snd.keeper = false))) ∧
    ((gated 1 0 0 141120).gate.timerOn = false ∨ (gated 1 0 0 141120).gate.timer ≠ 0) ∧
    ((timer 0 live).gate.timerOn = true ∧ (timer 0 live).gate.timer = 0) ∧
    (73 ≠ (gated 1 0 0 141120).i2cAddr) ∧
    (72 = (gated 1 0 0 141120).i2cAddr ∧ (gated 1 0 0 141120).wakeAllowed 5 = false) ∧
    (72 = (withPwr sleepWakes).i2cAddr ∧
        (withPwr sleepWakes).wakeAllowed 5 = true ∧ (withPwr sleepWakes).pwr.wake = none ∧ (withPwr sleepWakes).pwr.entering = none) := by
  (repeat' first | apply And.intro | refine ⟨_, rfl, ?_⟩ | refine ⟨_, _, rfl, ?_⟩ | refine ⟨_, _, _, rfl, ?_⟩ | exact ⟨_, rfl⟩ | exact ⟨_, _, rfl⟩ |
    exact ⟨_, _, _, rfl⟩ | fail) <;> decide

end W18

namespace W19

/-- The boot ROM in a stage under the straps given. -/
def booting (stage : Nat) (straps : BitVec 19) : State :=
  { State.reset with boot := { State.reset.boot with stage := stage }, gate := { State.reset.gate with straps := straps } }

/-- A boot that waits for a host load, or reads one. -/
def hostLoads (loading : Bool) : State :=
  { booting 4 0xC1 with boot := { (booting 4 0xC1).boot with loading := loading }, regs := [(0x28, 4)] }

def bootCopy (n : Nat) : State := { booting n 0xC0 with boot := { (booting n 0xC0).boot with copy := true } }

def bootFailed : State := { booting 4 0xC0 with boot := { (booting 4 0xC0).boot with failed := true } }

/-- An image of one empty section stands in area 0 (R562). -/
def imageThere : State :=
  (booting 5 0xC0).writeMem 0 ([0x48, 0x46, 0x49, 0x4D, 1, 0, 1, 0, 144, 0, 0, 0, 9] ++ List.replicate 19 0 ++ [1, 0, 0, 0, 48] ++ List.replicate 107 0)

def recovering (off : Nat) (buf : List Byte) : State :=
  { booting 8 0xC2 with boot := { (booting 8 0xC2).boot with recOffset := off, recBuf := buf } }

def flashed : State := { live with boot := { live.boot with flash := [(0x10005, 3), (0x20005, 4)] } }

set_option maxRecDepth 100000 in
theorem witness_BootFlashAndSnapshots_first :
    (bootFailed.boot.failed = true ∨ bootFailed.boot.ready = true) ∧
    ((booting 1 192).boot.failed = false ∧
        (booting 1 192).boot.ready = false ∧
          (booting 1 192).boot.stage = 1 ∧ strapsOk (booting 1 192).gate.straps = true ∧ (booting 1 192).bootSrc < 2) ∧
    ((booting 1 194).boot.failed = false ∧
        (booting 1 194).boot.ready = false ∧
          (booting 1 194).boot.stage = 1 ∧ strapsOk (booting 1 194).gate.straps = true ∧ (booting 1 194).bootSrc = 2) ∧
    ((booting 1 195).boot.failed = false ∧
        (booting 1 195).boot.ready = false ∧
          (booting 1 195).boot.stage = 1 ∧ strapsOk (booting 1 195).gate.straps = true ∧ (booting 1 195).bootSrc = 3) ∧
    ((booting 1 0).boot.failed = false ∧
        (booting 1 0).boot.ready = false ∧ (booting 1 0).boot.stage = 1 ∧ strapsOk (booting 1 0).gate.straps = false) ∧
    ((booting 2 192).boot.failed = false ∧ (booting 2 192).boot.ready = false ∧ (booting 2 192).boot.stage = 2) ∧
    ((booting 2 192).boot.failed = false ∧
        (booting 2 192).boot.ready = false ∧ (booting 2 192).boot.stage = 2 ∧ (booting 2 192).present 0 = true) ∧
    ((booting 3 192).boot.failed = false ∧ (booting 3 192).boot.ready = false ∧ (booting 3 192).boot.stage = 3) ∧
    ((booting 4 192).boot.failed = false ∧
        (booting 4 192).boot.ready = false ∧ (booting 4 192).boot.stage = 4 ∧ (booting 4 192).bootSrc = 0) ∧
    ((booting 4 192).boot.failed = false ∧
        (booting 4 192).boot.ready = false ∧
          (booting 4 192).boot.stage = 4 ∧ (booting 4 192).bootSrc = 0 ∧ (booting 4 192).boot.copy = false) ∧
    ((bootCopy 4).boot.failed = false ∧
        (bootCopy 4).boot.ready = false ∧ (bootCopy 4).boot.stage = 4 ∧ (bootCopy 4).bootSrc = 0 ∧ (bootCopy 4).boot.copy = true) ∧
    ((hostLoads false).boot.failed = false ∧
        (hostLoads false).boot.ready = false ∧
          (hostLoads false).boot.stage = 4 ∧ (hostLoads false).bootSrc = 1 ∧ (hostLoads false).boot.loading = false) ∧
    ((hostLoads true).boot.failed = false ∧
        (hostLoads true).boot.ready = false ∧
          (hostLoads true).boot.stage = 4 ∧ (hostLoads true).bootSrc = 1 ∧ (hostLoads true).boot.loading = true) ∧
    (imageThere.boot.failed = false ∧
        imageThere.boot.ready = false ∧
          imageThere.boot.stage = 5 ∧
            headerBad imageThere.areaImage = false ∧
              sizesBad imageThere.areaImage imageThere.wantLen = false ∧
                revisionBad imageThere.areaImage = false ∧ crcBad imageThere.areaImage = false) ∧
    ((booting 5 192).boot.failed = false ∧
        (booting 5 192).boot.ready = false ∧
          (booting 5 192).boot.stage = 5 ∧
            (headerBad (booting 5 192).areaImage = true ∨
              sizesBad (booting 5 192).areaImage (booting 5 192).wantLen = true ∨
                revisionBad (booting 5 192).areaImage = true ∨ crcBad (booting 5 192).areaImage = true)) ∧
    ((booting 6 192).boot.failed = false ∧
        (booting 6 192).boot.ready = false ∧ (booting 6 192).boot.stage = 6 ∧ (booting 6 192).pwr.wake = none) ∧
    (∃ s',
        s' = hostArrives (hostLoads false) Requester.host ∧
          s'.coreOn = true ∧ bit 1 0 = true ∧ s'.boot.stage = 4 ∧ s'.bootSrc = 1 ∧ s'.boot.loading = false ∧ s'.boot.failed = false) ∧
    (∃ s',
        s' = hostArrives (booting 1 192) Requester.host ∧
          (s'.coreOn = false ∨ bit 0 0 = false ∨ s'.boot.stage ≠ 4 ∨ s'.bootSrc ≠ 1 ∨ s'.boot.loading = true ∨ s'.boot.failed = true)) ∧
    ((recovering 131072 [4, 5, 6]).boot.stage = 8) ∧
    ((recovering 33554432 []).boot.stage = 8 ∧ 33554432 < (recovering 33554432 []).boot.recOffset + 65536) ∧
    ((recovering 131072 [4, 5, 6]).boot.stage = 8 ∧ (recovering 131072 [4, 5, 6]).boot.recOffset + 65536 ≤ 33554432) ∧
    ((booting 1 192).boot.stage ≠ 8) := by
  (repeat' first | apply And.intro | refine ⟨_, rfl, ?_⟩ | refine ⟨_, _, rfl, ?_⟩ | refine ⟨_, _, _, rfl, ?_⟩ | exact ⟨_, rfl⟩ | exact ⟨_, _, rfl⟩ |
    exact ⟨_, _, _, rfl⟩ | fail) <;> decide

theorem witness_BootFlashAndSnapshots_second :
    (flashed.takes { op := 3872, c := cmd 1 0 [4096, 0, 0, 65536] } ∧
        (cmd 1 0 [4096, 0, 0, 65536]).num = 0 ∧
          firstFail (flashed.flashWriteChecks (cmd 1 0 [4096, 0, 0, 65536])) = none ∧
            (flashed.begun { op := 3872, c := cmd 1 0 [4096, 0, 0, 65536] }).hostReach = true) ∧
    ((booting 1 192).takes { op := 3872, c := cmd 1 0 [4096, 0, 0, 65536] } ∧
        (cmd 1 0 [4096, 0, 0, 65536]).num = 0 ∧
          firstFail ((booting 1 192).flashWriteChecks (cmd 1 0 [4096, 0, 0, 65536])) = none ∧
            ((booting 1 192).begun { op := 3872, c := cmd 1 0 [4096, 0, 0, 65536] }).hostReach = false) ∧
    (flashed.takes { op := 3856, c := cmd 1 0 [4096, 0, 0, 65536] } ∧
        (cmd 1 0 [4096, 0, 0, 65536]).num = 0 ∧
          firstFail (flashed.telemChecks (cmd 1 0 [4096, 0, 0, 65536])) = none ∧
            (flashed.begun { op := 3856, c := cmd 1 0 [4096, 0, 0, 65536] }).hostReach = true) ∧
    ((booting 1 192).takes { op := 3856, c := cmd 1 0 [4096, 0, 0, 65536] } ∧
        (cmd 1 0 [4096, 0, 0, 65536]).num = 0 ∧
          firstFail ((booting 1 192).telemChecks (cmd 1 0 [4096, 0, 0, 65536])) = none ∧
            ((booting 1 192).begun { op := 3856, c := cmd 1 0 [4096, 0, 0, 65536] }).hostReach = false) ∧
    (isRc 4194312 = true ∧
        (booting 1 192).regOn 4194312 = true ∧
          ∃ e, e ∈ snapPlaces 16 ∧ e.fst ≤ 4194312 ∧ 4194312 ≤ e.fst + e.snd.fst ∧ e.snd.snd + 16 + (4194312 - e.fst) + 4 ≤ 12583020) := by
  (repeat' first | apply And.intro | refine ⟨_, rfl, ?_⟩ | refine ⟨_, _, rfl, ?_⟩ | refine ⟨_, _, _, rfl, ?_⟩ | exact ⟨_, rfl⟩ | exact ⟨_, _, rfl⟩ |
    exact ⟨_, _, _, rfl⟩ | fail) <;> decide

end W19

end Sys2Proof.Tests
end

section
/-!
PROOF. Every command row runs its own packet, and what FENCE and BARRIER hold back within a submission queue (R49, R50).
-/
namespace Sys2Proof.Machine

open Host

/-! ## Every command row runs its packet -/

/-- The outcome of running a packet, whatever the checks of its object and its power say and whatever its body does. -/
def RunsPacket (s : State) (p : Packet) (o : Outcome State Fault Refusal) : Prop :=
  ∃ (objOk powered : Bool) (body : State → State), o = .next (runCmd s p.op p.c p.lenLo p.lenHi objOk powered body)

theorem runsPacket_runCmd (s : State) (op : BitVec 16) (c : Cmd) (lo hi : Nat) (objOk powered : Bool) (body : State → State) :
    RunsPacket s ⟨op, c, lo, hi⟩ (.next (runCmd s op c lo hi objOk powered body)) :=
  ⟨objOk, powered, body, rfl⟩

theorem runsPacket_startCmd {range : Nat} {op : BitVec 16} (h : startOp range = op) (s : State) (c : Cmd) (objOk powered : Bool)
    (g1 g3 : State → List (Bool × Status)) (note begun : State → State) :
    RunsPacket s ⟨op, c, 1, 1⟩ (.next (startCmd s range c objOk powered g1 g3 note begun)) := by
  subst h
  unfold startCmd
  exact runsPacket_runCmd ..

theorem runsPacket_stopCmd {range : Nat} {op : BitVec 16} (h : stopOp range = op) (s : State) (c : Cmd) (objOk powered : Bool)
    (g1 : State → List (Bool × Status)) (undo : State → State) (drain : State → Bool → State) :
    RunsPacket s ⟨op, c, 1, 1⟩ (.next (stopCmd s range c objOk powered g1 undo drain)) := by
  subst h
  unfold stopCmd
  exact runsPacket_runCmd ..

theorem runsPacket_getStateCmd {range : Nat} {op : BitVec 16} (h : BitVec.ofNat 16 (range * 256 + 3) = op) (s : State) (c : Cmd)
    (objOk powered : Bool) (r2 : State → Word) :
    RunsPacket s ⟨op, c, 1, 1⟩ (.next (getStateCmd s range c objOk powered r2)) := by
  subst h
  unfold getStateCmd
  exact runsPacket_runCmd ..

theorem RunsPacket.ite {s : State} {p : Packet} {P : Prop} [Decidable P] {o o' : Outcome State Fault Refusal}
    (h : RunsPacket s p o) (h' : RunsPacket s p o') : RunsPacket s p (if P then o else o') := by
  split
  · exact h
  · exact h'

theorem RunsPacket.next_ite {s t t' : State} {p : Packet} {P : Prop} [Decidable P]
    (h : RunsPacket s p (.next t)) (h' : RunsPacket s p (.next t')) : RunsPacket s p (.next (if P then t else t')) := by
  rw [apply_ite Outcome.next]
  exact h.ite h'

/-- A row that has a packet runs it. In ranges 4 and 8 a hatch-leg and a hatch have a body of their own (R246, log entry 30). -/
theorem exec_runsPacket {i : Instr} {p : Packet} (hp : i.packet = some p) (s : State) : RunsPacket s p (exec i s) := by
  cases i with
  | startLegPort | startConference | startEngine | startSlot | startCanvas | startEncoding | startSubscription
  | startFootbridgeObject =>
    cases hp
    exact runsPacket_startCmd rfl ..
  | stopConference | stopEngine | stopSlot | stopCanvas | stopEncoding | stopSubscription | stopFootbridgeObject =>
    cases hp
    exact runsPacket_stopCmd rfl ..
  | getStateConference | getStateEngine | getStateSlot | getStateCanvas | getStateEncoding | getStateSubscription
  | getStateFootbridge =>
    cases hp
    exact runsPacket_getStateCmd rfl ..
  | startBank =>
    cases hp
    exact .next_ite (runsPacket_runCmd ..) (runsPacket_startCmd rfl ..)
  | stopBank =>
    cases hp
    exact .next_ite (runsPacket_runCmd ..) (runsPacket_stopCmd rfl ..)
  | stopLegPort =>
    cases hp
    exact .ite (runsPacket_runCmd ..) (runsPacket_stopCmd rfl ..)
  | getStateLegPort | getStateHatch =>
    cases hp
    exact .ite (runsPacket_runCmd ..) (runsPacket_getStateCmd rfl ..)
  | _ =>
    -- an event has no packet; a command's row is one `runCmd`
    cases hp <;> exact runsPacket_runCmd ..

/-! ## A command that is held back -/

theorem runCmd_of_not_mayStart {s : State} {op : BitVec 16} {c : Cmd} (h : mayStart s op c = false) (lo hi : Nat)
    (objOk powered : Bool) (body : State → State) : runCmd s op c lo hi objOk powered body = s := by
  simp [runCmd, h]

/-- A command row whose packet may not start yet leaves the state as it is. -/
theorem exec_of_not_mayStart {i : Instr} {p : Packet} {s : State} (hp : i.packet = some p) (h : mayStart s p.op p.c = false) :
    exec i s = .next s := by
  obtain ⟨objOk, powered, body, he⟩ := exec_runsPacket hp s
  rw [he, runCmd_of_not_mayStart h]

/-! ## What holds a command back (R49, R50) -/

section Blocked

variable {op : BitVec 16} {c : Cmd} {g : Flight}

theorem blockedBy_of_fence (hq : g.c.sq = c.sq) (h : c.fence = true) : blockedBy op c g = true := by
  simp [blockedBy, hq, h]

theorem blockedBy_of_barrier (hq : g.c.sq = c.sq) (h : g.c.barrier = true) : blockedBy op c g = true := by
  simp [blockedBy, hq, h]

theorem blockedBy_of_sq_ne (hq : g.c.sq ≠ c.sq) : blockedBy op c g = false := by
  simp [blockedBy, hq]

theorem blockedBy_of_started (hf : c.fence = false) (hs : g.started = true) (hb : g.c.barrier = false)
    (ho : sameObject op c g = false) : blockedBy op c g = false := by
  simp [blockedBy, hf, hs, hb, ho]

end Blocked

/-! ## The flights before a command -/

section Before

variable {s : State} {op : BitVec 16} {c : Cmd} {before after : List Flight} {f : Flight}

/-- Where no flight of `before` is the command waiting to begin, and `f` is, the flights before the command are `before`. -/
theorem flightsBefore_append_cons (ho : f.op = op) (hc : f.c = c) (hs : f.started = false) :
    (∀ g ∈ before, g.op ≠ op ∨ g.c ≠ c ∨ g.started = true) → flightsBefore op c (before ++ f :: after) = some before := by
  induction before with
  | nil => simp [flightsBefore, ho, hc, hs]
  | cons g r ih =>
    intro hb
    obtain ⟨hg, hr⟩ := List.forall_mem_cons.mp hb
    have hne : (g.op == op && g.c == c && !g.started) = false := by
      rcases hg with h | h | h
      · rw [beq_false_of_ne h, Bool.false_and, Bool.false_and]
      · rw [beq_false_of_ne h, Bool.and_false, Bool.false_and]
      · rw [h, Bool.not_true, Bool.and_false]
    simp [flightsBefore, hne, ih hr]

theorem mayStart_of_flightsBefore (h : flightsBefore op c s.porch.flights = some before) :
    mayStart s op c = true ↔ ∀ g ∈ before, blockedBy op c g = false := by
  simp [mayStart, h]

theorem not_mayStart_of_flightsBefore (h : flightsBefore op c s.porch.flights = some before) :
    mayStart s op c = false ↔ ∃ g ∈ before, blockedBy op c g = true := by
  simp [mayStart, h]

end Before

/-- Settles O4: the command may start just where no flight before it blocks it, and its row changes nothing until then. -/
theorem fenceAndBarrierOrderOneQueue : Obligations.FenceAndBarrierOrderOneQueue := by
  unfold Obligations.FenceAndBarrierOrderOneQueue
  intro s i p before after f hp hfl hop hc hs hbefore
  have hb : flightsBefore p.op p.c s.porch.flights = some before := by
    rw [hfl, flightsBefore_append_cons hop hc hs hbefore]
  have held : (∃ g ∈ before, blockedBy p.op p.c g = true) → exec i s = .next s :=
    fun h => exec_of_not_mayStart hp ((not_mayStart_of_flightsBefore hb).mpr h)
  have free : (∀ g ∈ before, blockedBy p.op p.c g = false) → mayStart s p.op p.c = true := (mayStart_of_flightsBefore hb).mpr
  refine ⟨?fence, ?barrier, ?otherQueue, ?noFence⟩
  case fence =>
    rintro hfence ⟨g, hg, hq⟩
    exact held ⟨g, hg, blockedBy_of_fence hq hfence⟩
  case barrier =>
    rintro ⟨g, hg, hq, hbar⟩
    exact held ⟨g, hg, blockedBy_of_barrier hq hbar⟩
  case otherQueue =>
    exact fun h => free fun g hg => blockedBy_of_sq_ne (h g hg)
  case noFence =>
    intro hfence h
    refine free fun g hg => ?_
    by_cases hq : g.c.sq = p.c.sq
    · obtain ⟨hst, hbar, hobj⟩ := h g hg hq
      exact blockedBy_of_started hfence hst hbar hobj
    · exact blockedBy_of_sq_ne hq

end Sys2Proof.Machine
end

section
/-!
PROOF. What each consumer operation does to its queue and to the pools (R422, R423).
-/
namespace Sys2Proof.Machine

open Host

/-! ## Pools and queues -/

@[simp] theorem pool_setPool (s : State) (far j : Bool) (p : Pool) :
    (s.setPool far p).pool j = if j = far then p else s.pool j := by
  cases far <;> cases j <;> rfl

@[simp] theorem queue_setPool (s : State) (far : Bool) (p : Pool) (j : Nat) : (s.setPool far p).queue j = s.queue j := by
  cases far <;> rfl

@[simp] theorem pool_setQueue (s : State) (q : Nat) (x : PQueue) (far : Bool) : (s.setQueue q x).pool far = s.pool far := by
  cases far <;> rfl

@[simp] theorem queue_bump (s : State) (a n j : Nat) : (s.bump a n).queue j = s.queue j := by
  simp [State.queue]

/-! ## Cells that go back to their pools (R413, R425) -/

@[simp] theorem queue_giveCells (s : State) (far gap : Bool) (n j : Nat) : (giveCells s far gap n).queue j = s.queue j := by
  simp [giveCells]

@[simp] theorem cel_giveCells (s : State) (far gap : Bool) (n : Nat) : (giveCells s far gap n).cel = s.cel := by
  simp [giveCells]

@[simp] theorem porch_giveCells (s : State) (far gap : Bool) (n : Nat) : (giveCells s far gap n).porch = s.porch := by
  simp [giveCells]

/-- Only data cells of the pool itself lower its count of used cells; a marker's cell goes back to the gap reserve. -/
theorem used_giveCells (s : State) (far gap : Bool) (n : Nat) (j : Bool) :
    ((giveCells s far gap n).pool j).used = (s.pool j).used - if far = j ∧ gap = false then n else 0 := by
  by_cases h : far = j
  · subst h
    cases gap <;> simp [giveCells]
  · simp [giveCells, h, Ne.symm h]

/-- The cells of a list of entries go back to their pools, entry after entry. -/
def giveEntries (s : State) (es : List QEntry) : State := es.foldl (fun s e => giveCells s e.far e.gap e.cells) s

/-- Data cells of a pool that a list of entries holds. -/
def dataCells (far : Bool) (es : List QEntry) : Nat := ((es.filter fun e => e.far == far && !e.gap).map QEntry.cells).sum

theorem dataCells_cons (far : Bool) (e : QEntry) (es : List QEntry) :
    dataCells far (e :: es) = (if e.far = far ∧ e.gap = false then e.cells else 0) + dataCells far es := by
  by_cases h : e.far = far ∧ e.gap = false <;> simp [dataCells, h]

@[simp] theorem giveEntries_cons (s : State) (e : QEntry) (es : List QEntry) :
    giveEntries s (e :: es) = giveEntries (giveCells s e.far e.gap e.cells) es := rfl

/-- What a list of entries gives back leaves every queue, main memory and the Porch alone. -/
theorem giveEntries_keeps (es : List QEntry) : ∀ s : State,
    (∀ j, (giveEntries s es).queue j = s.queue j) ∧ (giveEntries s es).cel = s.cel ∧ (giveEntries s es).porch = s.porch := by
  induction es with
  | nil => exact fun s => ⟨fun _ => rfl, rfl, rfl⟩
  | cons e es ih => exact fun s => by simpa using ih (giveCells s e.far e.gap e.cells)

theorem used_giveEntries (far : Bool) (es : List QEntry) : ∀ s : State,
    ((giveEntries s es).pool far).used = (s.pool far).used - dataCells far es := by
  induction es with
  | nil => exact fun s => rfl
  | cons e es ih =>
    intro s
    calc ((giveEntries s (e :: es)).pool far).used
      _ = ((giveCells s e.far e.gap e.cells).pool far).used - dataCells far es := ih _
      _ = (s.pool far).used - dataCells far (e :: es) := by rw [used_giveCells, dataCells_cons, Nat.sub_sub]

/-! ## READ, REWIND and RELEASE (R422, R423) -/

section Consumer

variable {s : State} {q : Fin 33792}

theorem exec_read_entry {e : QEntry} (h : (s.queue q).entries[(s.queue q).read]? = some e) :
    exec (.read q) s = .next (s.setQueue q { s.queue q with
      read := (s.queue q).read + 1, last := ⟨e.handle, e.bytes, e.gap, e.note, false⟩ }) := by
  change execRead q s = _
  simp [execRead, h]

theorem exec_read_empty (h : (s.queue q).entries.length ≤ (s.queue q).read) :
    exec (.read q) s = .next ((s.setQueue q { s.queue q with
      under := true, last := { (s.queue q).last with under := true } }).bump (nearA 0x64) 1) := by
  change execRead q s = _
  simp [execRead, List.getElem?_eq_none h]

theorem exec_rewind_marked {m : Nat} (h : (s.queue q).mark = some m) :
    exec (.rewind q) s = .next (s.setQueue q { s.queue q with read := m }) := by
  change execRewind q s = _
  simp [execRewind, h]

theorem exec_rewind_unmarked (h : (s.queue q).mark = none) : exec (.rewind q) s = .next s := by
  change execRewind q s = _
  simp [execRewind, h]

end Consumer

/-- Freeing a queue's head gives the cells of its first entries back, and then moves the queue's positions. -/
theorem freeHead_eq (s : State) (q n : Nat) :
    freeHead s q n = (giveEntries s ((s.queue q).entries.take n)).setQueue q { s.queue q with
      entries := (s.queue q).entries.drop n, read := (s.queue q).read - n, mark := (s.queue q).mark.map fun m => m - n } := rfl

/-- Settles O52: each operation by its equation; RELEASE frees the head of the queue, which gives back the cells of the entries that go. -/
theorem consumersReadQueues : Obligations.ConsumersReadQueues := by
  unfold Obligations.ConsumersReadQueues
  intro s q
  refine ⟨fun e => exec_read_entry, exec_read_empty, ?neverRead, rfl, rfl, fun m => exec_rewind_marked, exec_rewind_unmarked, ?release⟩
  case neverRead =>
    intro hempty hlast
    exact ⟨_, exec_read_empty hempty, by simp [hlast], by simp⟩
  case release =>
    rintro n rfl
    refine ⟨_, rfl, ?_⟩
    rw [freeHead_eq]
    generalize Nat.min _ _ = n
    obtain ⟨hqueue, hcel, hporch⟩ := giveEntries_keeps ((s.queue q).entries.take n) s
    refine ⟨by simp, fun j hj => by simp [hj, hqueue], ?_, by simp [hcel], by simp [hporch]⟩
    rw [pool_setQueue, used_giveEntries, dataCells, List.sum_eq_foldl, List.foldl_map]
    simp only [beq_false]

end Sys2Proof.Machine
end

section
/-!
PROOF. A write of a source's configuration need not stand: the host's signal that it brings about writes the entries that wait, and a
loss among them is counted at an address that the queue's number gives (R56, R58, R499).
-/
namespace Sys2Proof.Machine

open Host

/-- The link is in L1, source 19 is pending for the host, and an entry waits for a completion queue in error whose loss counter lies at
the address of BEL_SRC3_CFG. -/
def strayLoss : State :=
  { State.reset with
    porch := { link := .l1, perst := false, cq := [(32640, { error := true })],
               held := [{ cq := 32640, entry := queueErrorEntry State.reset true 0 .abort, seq := 0 }] }
    bell := { pend := [19] } }

theorem strayLoss_inv : strayLoss.Inv := by decide

/-- The loss counter of a queue that no device has would lie where the configuration of source 3 does. -/
theorem cqLostA_eq_srcCfgA : cqLostA 32640 = srcCfgA 3 := by decide

/-- Source 19's message takes the link out of L1, and the entry lost on the way is counted. -/
theorem reg_cqLostA_strayLoss : (writeSrcCfg strayLoss 3 0).reg (cqLostA 32640) = 1 := by decide

/-- Refutes O56: in `strayLoss`, which keeps to the invariant of every step (`strayLoss_inv`) although it holds an entry for a queue beyond
the 64, a write of 0 to BEL_SRC3_CFG by a Study core leaves 1 there. The statement bounds no queue number. -/
theorem not_sourcesAreClaimedAndEnded : ¬ Obligations.SourcesAreClaimedAndEnded := by
  unfold Obligations.SourcesAreClaimedAndEnded
  intro h
  obtain ⟨-, hwrites, -⟩ := h strayLoss
  have hon : (hostArrives strayLoss (.study 0)).coreOn = true := by decide
  obtain ⟨-, -, -, -, -, -, -, hconfig, -, -⟩ := hwrites (.study 0) _ rfl hon
  obtain ⟨u, hu, hreg, -⟩ := hconfig 3 0 (by decide) (.inl (by decide))
  have hexec : exec (.sourceConfigWrite (.study 0) 3 0) strayLoss = .next (writeSrcCfg strayLoss 3 0) := rfl
  have hnext : writeSrcCfg strayLoss 3 0 = u := Outcome.next.inj (hexec.symm.trans hu)
  have hone : u.reg (srcCfgA 3) = 1 := by rw [← hnext, ← cqLostA_eq_srcCfgA]; exact reg_cqLostA_strayLoss
  have hzero : u.reg (srcCfgA 3) = 0 := hreg.trans (by decide)
  exact absurd (hone.symm.trans hzero) (by decide)

end Sys2Proof.Machine
end

section
/-!
PROOF. What a reported error does to the handling levels, the log and the sources of the Bellboard, and who may close a level
(R502-R507).
-/
namespace Sys2Proof.Machine

open Host

/-! ## Sources that stay pending (R489) -/

theorem mem_linsert {l : List Nat} {n m : Nat} : m ∈ linsert l n ↔ m = n ∨ m ∈ l := by
  induction l with
  | nil => simp [linsert]
  | cons a r ih =>
    unfold linsert
    by_cases hlt : n < a
    · simp [hlt]
    · by_cases heq : n = a
      · simp [heq]
      · simp [hlt, heq, ih, or_left_comm]

section Pending

variable {s : State} {m n : Nat}

theorem mem_pendSource_self (h : sourceAssigned n = true) : n ∈ (pendSource s n).bell.pend := by
  simp [pendSource, h, mem_linsert]

theorem mem_pendSource (h : m ∈ s.bell.pend) : m ∈ (pendSource s n).bell.pend := by
  unfold pendSource
  split
  · exact mem_linsert.mpr (.inr h)
  · exact h

theorem mem_writeWaited (e : Entry) (q : BitVec 16) (h : m ∈ s.bell.pend) : m ∈ (writeWaited s n e q).bell.pend := by
  unfold writeWaited
  simp only [State.fresh]
  split
  · simpa using h
  · split
    · simpa using h
    · exact mem_pendSource (by simpa using h)

theorem mem_writeHeldFold (l : List Held) : ∀ {s : State}, m ∈ s.bell.pend →
    m ∈ (l.foldl (fun s h => writeWaited s h.cq h.entry h.seq) s).bell.pend := by
  induction l with
  | nil => exact id
  | cons x l ih => exact fun h => ih (mem_writeWaited x.entry x.seq h)

theorem mem_leaveL1 (h : m ∈ s.bell.pend) : m ∈ (leaveL1 s).bell.pend := by
  unfold leaveL1
  split
  · exact mem_pendSource (mem_writeHeldFold _ h)
  · exact h

theorem mem_belSignal (h : m ∈ s.bell.pend) : m ∈ (belSignal s).bell.pend := by
  unfold belSignal
  split
  · exact h
  · split
    · exact h
    · simp only
      split <;> exact mem_leaveL1 h

end Pending

/-! ## The core domain stays on (R509, R522) -/

section CoreOn

variable {s t : State}

theorem coreOn_of_pwr (h : t.pwr = s.pwr) : t.coreOn = s.coreOn := by
  simp [State.coreOn, State.wakePast, h]

/-- What keeps the device's state and a wake under way keeps the core domain on. -/
theorem coreOn_of_keeps (hstate : t.pwr.state = s.pwr.state) (hentering : t.pwr.entering = s.pwr.entering)
    (hwake : s.pwr.wake.isSome = true → t.pwr.wake = s.pwr.wake) (h : s.coreOn = true) : t.coreOn = true := by
  cases hw : s.pwr.wake with
  | none => simpa [State.coreOn, State.wakePast, hstate, hw] using .inl (by simpa [State.coreOn, State.wakePast, hw] using h)
  | some w => simpa [State.coreOn, State.wakePast, hstate, hentering, hwake (by simp [hw])] using h

theorem beginWake_of_wake (cause src : Nat) (h : s.pwr.wake.isSome = true) : beginWake s cause src = s := by
  simp [beginWake, h]

theorem wake_wakeTarget (n : Nat) (h : s.pwr.wake.isSome = true) : (wakeTarget s n).pwr.wake = s.pwr.wake := by
  unfold wakeTarget
  simp only [beginWake_of_wake _ _ h]
  repeat' split
  all_goals simp

theorem wake_wakeFold (l : List Nat) : ∀ {s : State}, s.pwr.wake.isSome = true →
    (l.foldl wakeTarget s).pwr.wake = s.pwr.wake := by
  induction l with
  | nil => exact fun _ => rfl
  | cons n l ih =>
    intro s h
    have hn := wake_wakeTarget n h
    exact (ih (by rwa [hn])).trans hn

theorem wake_wakeHeld (a : State) (h : s.pwr.wake.isSome = true) : (wakeHeld a s).pwr.wake = s.pwr.wake :=
  wake_wakeFold _ h

end CoreOn

/-! ## Pulses (R489) -/

section Pulse

variable {s : State} {n : Nat}

theorem mem_pulse_self (hon : s.coreOn = true) (h : sourceAssigned n = true) : n ∈ (pulse s n).bell.pend := by
  simp only [pulse, hon, if_true, irqEdges_keeps]
  apply mem_belSignal
  split <;> simpa using mem_pendSource_self h

theorem coreOn_pulse (hon : s.coreOn = true) : (pulse s n).coreOn = true := by
  refine coreOn_of_keeps (by simp) (by simp) (fun hw => ?_) hon
  have hheld : (wakeHeld s (pendSource s n)).pwr.wake = s.pwr.wake := by
    rw [wake_wakeHeld s (by simpa using hw)]; simp
  simp only [pulse, hon, if_true, irqEdges_keeps, belSignal_keeps]
  split
  · rw [beginWake_of_wake _ _ (by rwa [hheld]), hheld]
  · exact hheld

end Pulse

/-! ## The log (R505) -/

section Log

variable {s : State} {e : ErrRec}

@[simp] theorem log_logError : (logError s e).bell.log = if s.bell.log.length < 32 then s.bell.log ++ [e] else s.bell.log := by
  unfold logError
  simp only
  split
  · split <;> simp [*]
  · split <;> simp [*]

@[simp] theorem levels_logError : (logError s e).bell.levels = s.bell.levels := by
  unfold logError
  simp only
  split
  · split <;> simp [*]
  · split <;> simp [*]

theorem coreOn_logError (hon : s.coreOn = true) : (logError s e).coreOn = true := by
  have hlost : (s.bump 0x0020_002C 1).coreOn = true := (coreOn_of_pwr (by simp)).trans hon
  unfold logError
  simp only
  split
  · split
    · apply coreOn_pulse; exact hon
    · exact hon
  · split
    · exact hlost
    · apply coreOn_pulse; exact hlost

end Log

/-! ## A double fault (R506) -/

@[simp] theorem bell_giveEntries (es : List QEntry) : ∀ s : State, (giveEntries s es).bell = s.bell := by
  induction es with
  | nil => exact fun _ => rfl
  | cons e es ih =>
    intro s
    rw [giveEntries_cons, ih]
    simp [giveCells]

@[simp] theorem bell_emptyQueue (s : State) (q : Nat) : (emptyQueue s q).bell = s.bell :=
  bell_giveEntries (s.queue q).entries s

@[simp] theorem bell_emptyQueues (l : List Nat) : ∀ s : State, (l.foldl emptyQueue s).bell = s.bell := by
  induction l with
  | nil => exact fun _ => rfl
  | cons q l ih => exact fun s => (ih _).trans (bell_emptyQueue s q)

/-- A double fault is latched and source 19 is pending. -/
theorem doubleFault_latches (s : State) : (doubleFault s).bell.double = true ∧ (doubleFault s).gate.doubleFault = true ∧
    19 ∈ (doubleFault s).bell.pend := by
  have hpend (t : State) : 19 ∈ (pendSource t 19).bell.pend := mem_pendSource_self rfl
  unfold doubleFault
  simp only [irqEdges_keeps]
  split
  · simp [hpend]
  · split
    · simpa using mem_leaveL1 (by simp [hpend])
    · simp [hpend]

@[simp] theorem doubleFault_keeps (s : State) :
    (doubleFault s).bell.levels = s.bell.levels ∧ (doubleFault s).bell.log = s.bell.log := by
  unfold doubleFault
  simp only [irqEdges_keeps]
  split
  · simp
  · split <;> simp

/-! ## What a report does to the levels and the log (R502, R503) -/

section Report

/-- An error of a severity opens a handling level (R503). -/
def State.opensLevel (s : State) : Severity → Bool
  | .corrected => false
  | .deferred => s.bell.levels.isEmpty
  | .fatal => !s.bell.levels.any fun l => l.sev == .fatal

/-- What is recorded of an error (R502). -/
def State.errorRecord (s : State) (src : Nat) (sev : Severity) (i0 i1 : Word) : ErrRec :=
  ⟨sev, s.opensLevel sev, src, i0, i1, s.blv.tb0.setWidth 32⟩

/-- The state in which an error has been counted and offered to the log. -/
def State.offered (s : State) (src : Nat) (sev : Severity) (i0 i1 : Word) : State :=
  logError (s.bumpSat (0x0020_0020 + sevNum sev * 4) 1) (s.errorRecord src sev i0 i1)

/-- The state in which an error has opened its level. -/
def State.opened (s : State) (src : Nat) (sev : Severity) (i0 i1 : Word) : State :=
  { s.offered src sev i0 i1 with bell := { (s.offered src sev i0 i1).bell with
    levels := s.errorRecord src sev i0 i1 :: (s.offered src sev i0 i1).bell.levels } }

/-- The source that a level of a severity pulses. -/
def levelSource (sev : Severity) : Nat := if sev = .fatal then 18 else 17

variable (s : State) (src : Nat) (sev : Severity) (i0 i1 : Word)

@[simp] theorem offered_keeps : (s.offered src sev i0 i1).bell.levels = s.bell.levels ∧
    (s.offered src sev i0 i1).bell.log =
      if s.bell.log.length < 32 then s.bell.log ++ [s.errorRecord src sev i0 i1] else s.bell.log := by
  simp [State.offered]

theorem coreOn_offered (hon : s.coreOn = true) : (s.offered src sev i0 i1).coreOn = true :=
  coreOn_logError ((coreOn_of_pwr (by simp)).trans hon)

theorem coreOn_opened (hon : s.coreOn = true) : (s.opened src sev i0 i1).coreOn = true :=
  (coreOn_of_pwr rfl).trans (coreOn_offered s src sev i0 i1 hon)

theorem reportError_eq : reportError s src sev i0 i1 =
    if sev = .corrected then pulse (s.offered src sev i0 i1) 16
    else if s.opensLevel sev = true then pulse (s.opened src sev i0 i1) (levelSource sev)
    else if sev = .fatal then doubleFault (s.offered src sev i0 i1)
    else s.offered src sev i0 i1 := by
  cases sev <;> rfl

variable {s sev} in
theorem reportError_opens (h : s.opensLevel sev = true) :
    reportError s src sev i0 i1 = pulse (s.opened src sev i0 i1) (levelSource sev) := by
  have hcorrected : sev ≠ .corrected := by rintro rfl; cases h
  rw [reportError_eq, if_neg hcorrected, if_pos h]

/-- What a report does to the levels and the log (R503, R505). -/
theorem reportError_records :
    (reportError s src sev i0 i1).bell.levels =
      (if s.opensLevel sev = true then [s.errorRecord src sev i0 i1] else []) ++ s.bell.levels ∧
    (reportError s src sev i0 i1).bell.log =
      if s.bell.log.length < 32 then s.bell.log ++ [s.errorRecord src sev i0 i1] else s.bell.log := by
  by_cases h : s.opensLevel sev = true
  · simp [reportError_opens src i0 i1 h, State.opened, h]
  · cases sev <;> simp [reportError_eq, h]

/-- What a report makes pending and latches (R503, R506). -/
theorem reportError_signals (hon : s.coreOn = true) :
    (sev = .corrected → 16 ∈ (reportError s src sev i0 i1).bell.pend) ∧
    (s.opensLevel sev = true → levelSource sev ∈ (reportError s src sev i0 i1).bell.pend) ∧
    (sev = .fatal → s.opensLevel sev = false → (reportError s src sev i0 i1).bell.double = true ∧
      (reportError s src sev i0 i1).gate.doubleFault = true ∧ 19 ∈ (reportError s src sev i0 i1).bell.pend) := by
  have hoffered := coreOn_offered s src sev i0 i1 hon
  refine ⟨?corrected, ?opens, ?double⟩
  case corrected =>
    rintro rfl
    exact mem_pulse_self hoffered rfl
  case opens =>
    intro h
    rw [reportError_opens src i0 i1 h]
    exact mem_pulse_self (coreOn_opened s src sev i0 i1 hon) (by cases sev <;> rfl)
  case double =>
    rintro rfl h
    have hdouble : reportError s src .fatal i0 i1 = doubleFault (s.offered src .fatal i0 i1) := by simp [reportError_eq, h]
    rw [hdouble]
    exact doubleFault_latches _

end Report

/-! ## ERR_DONE, the injector and ALERT_N (R504, R506, R507) -/

section Commands

variable {s : State} {r : Requester} {v : Word}

theorem errDone_closes {l : ErrRec} {rest : List ErrRec} (hl : s.bell.levels = l :: rest)
    (hr : r = .host ∨ s.route (levelSource l.sev) = reqTarget r) :
    errDone s r = { s with bell := { s.bell with levels := rest } } := by
  simp only [levelSource] at hr
  simp [errDone, hl, hr]

theorem errDone_denied {l : ErrRec} {rest : List ErrRec} (hl : s.bell.levels = l :: rest) (hr : r ≠ .host)
    (hroute : s.route (levelSource l.sev) ≠ reqTarget r) :
    errDone s r = { s with bell := { s.bell with doneDenied := true } } := by
  simp only [levelSource] at hroute
  simp [errDone, hl, hr, hroute]

theorem errDone_none (hl : s.bell.levels = []) : errDone s r = s := by
  simp [errDone, hl]

/-- The severity that the injector's code names (R507). -/
def injectedSeverity (n : Nat) : Severity := if n = 0 then .corrected else if n = 1 then .deferred else .fatal

/-- The state after the injector has taken its two information words. -/
def State.injecting (s : State) : State := { s with free := s.free + 2 }

theorem errInject_reports (hv : bits v 1 0 ≤ 2) : errInject s v =
    reportError s.injecting (bits v 25 16) (injectedSeverity (bits v 1 0))
      (Config.freeWord s.free) (Config.freeWord (s.free + 1)) := by
  unfold errInject
  generalize bits v 1 0 = n at hv
  match n, hv with
  | 0, _ | 1, _ | 2, _ => rfl

theorem errInject_none (hv : bits v 1 0 = 3) : errInject s v = s.injecting := by
  simp [errInject, hv, State.fresh, State.injecting]

theorem exec_errDone : exec (.errDone r v) s =
    .next (if ((hostArrives s r).coreOn && bit v 0) = true then errDone (hostArrives s r) r else hostArrives s r) := rfl

theorem exec_logPop : exec (.logPop r v) s =
    .next (if ((hostArrives s r).coreOn && bit v 0) = true then logPop (hostArrives s r) else hostArrives s r) := rfl

theorem exec_errInject : exec (.errInject r v) s =
    .next (if (hostArrives s r).coreOn = true then errInject (hostArrives s r) v else hostArrives s r) := rfl

theorem exec_errorReport {n : Fin 1024} {sev : Severity} {i0 i1 : Word} : exec (.errorReport n sev i0 i1) s =
    .next (if s.coreOn = true then reportError s n sev i0 i1 else s) := rfl

theorem exec_alertNAssert : exec .alertNAssert s =
    if (s.bell.alertWait && (!s.hostReach || !s.porch.pba.contains (s.srcVector 19))) = true then
      .next { s with bell := { s.bell with alertWait := false }, gate := { s.gate with alertN := true },
                     out := Out.alertN true :: s.out }
    else .next s := rfl

end Commands

/-- Settles O57: a report's levels, log and signals (`reportError_records`, `reportError_signals`), which the injector shares; the other
writes by their equations, at the state in which they arrive. -/
theorem errorsAreHandledAndLogged : Obligations.ErrorsAreHandledAndLogged := by
  unfold Obligations.ErrorsAreHandledAndLogged
  intro s
  refine ⟨?report, ?reportOff, ?writes, ?writesOff, ?alert, ?noAlert⟩
  case report =>
    intro n sev i0 i1 hon h hh
    obtain rfl : h = s.opensLevel sev := by rw [hh]; cases sev <;> rfl
    obtain ⟨hlevels, hlog⟩ := reportError_records s n sev i0 i1
    obtain ⟨hcorrected, hopens, hdouble⟩ := reportError_signals s n sev i0 i1 hon
    refine ⟨_, by rw [exec_errorReport, if_pos hon], hlevels.trans ?_, hlog, hcorrected, hopens, hdouble⟩
    cases ho : s.opensLevel sev <;> simp [State.errorRecord, ho]
  case reportOff => intro n sev i0 i1 hoff; rw [exec_errorReport, hoff]; rfl
  case writes =>
    rintro r _ rfl hon
    refine ⟨?done, ?doneIdle, ?pop, ?popIdle, ?inject, ?injectIdle⟩
    case done =>
      intro v l rest hv hl
      rw [exec_errDone, hon, hv]
      exact ⟨fun hr => congrArg _ (errDone_closes hl hr), fun hr hroute => congrArg _ (errDone_denied hl hr hroute)⟩
    case doneIdle =>
      rintro v (hv | hl)
      · rw [exec_errDone, hv, Bool.and_false]; rfl
      · rw [exec_errDone, errDone_none hl, ite_self]
    case pop => intro v hv; rw [exec_logPop, hon, hv]; rfl
    case popIdle => intro v hv; rw [exec_logPop, hv, Bool.and_false]; rfl
    case inject =>
      intro v hv hroom
      obtain ⟨-, hlog⟩ := reportError_records (hostArrives s r).injecting (bits v 25 16) (injectedSeverity (bits v 1 0))
        (Config.freeWord (hostArrives s r).free) (Config.freeWord ((hostArrives s r).free + 1))
      refine ⟨_, _, by rw [exec_errInject, if_pos hon, errInject_reports hv], hlog.trans (if_pos hroom), rfl, rfl⟩
    case injectIdle =>
      intro v hv
      exact ⟨(hostArrives s r).injecting, by rw [exec_errInject, if_pos hon, errInject_none hv], rfl⟩
  case writesOff =>
    rintro r v _ rfl hoff
    rw [exec_errDone, exec_logPop, exec_errInject, hoff]
    exact ⟨rfl, rfl, rfl⟩
  case alert =>
    intro hwait hsent
    rw [exec_alertNAssert, if_pos (by simpa [hwait] using hsent)]
  case noAlert =>
    rintro (hidle | ⟨hreach, hmasked⟩)
    · simp [exec_alertNAssert, hidle]
    · rw [exec_alertNAssert, hreach, hmasked]; simp

end Sys2Proof.Machine
end

section
/-!
PROOF. One step and the state after reset, the order of a packet's first checks, the system commands, and the doorbells
(R43, R49, R60, R64, R74).
-/
namespace Sys2Proof.Machine

open Host

/-! ## The order of a packet's first checks (R60, R74) -/

section Checks

variable {s : State} {op : BitVec 16} {c : Cmd} {lo hi : Nat} {objOk powered : Bool} {body : State → State}

theorem runCmd_of_paused (h : s.paused = true) : runCmd s op c lo hi objOk powered body = s := by
  simp [runCmd, h]

theorem runCmd_of_badLength (hm : mayStart s op c = true) (hp : s.paused = false) (hl : c.len < lo ∨ hi < c.len) :
    runCmd s op c lo hi objOk powered body = finish (beginCmd s op c) op c stBadLength := by
  simp [runCmd, hm, hp, hl]

theorem runCmd_of_badHeader (hm : mayStart s op c = true) (hp : s.paused = false) (hlo : lo ≤ c.len) (hhi : c.len ≤ hi)
    (hh : c.headerOk = false) : runCmd s op c lo hi objOk powered body = finish (beginCmd s op c) op c stBadField := by
  simp [runCmd, hm, hp, Nat.not_lt.mpr hlo, Nat.not_lt.mpr hhi, hh]

end Checks

/-- Settles O3: every command row runs its packet (`exec_runsPacket`), whose first checks `runCmd` makes in this order. -/
theorem everyPacketIsCheckedInOrder : Obligations.EveryPacketIsCheckedInOrder := by
  unfold Obligations.EveryPacketIsCheckedInOrder
  intro i p s hp
  obtain ⟨objOk, powered, body, he⟩ := exec_runsPacket hp s
  refine ⟨?held, ?length, ?header⟩
  case held =>
    rintro (h | h)
    · exact exec_of_not_mayStart hp h
    · rw [he, runCmd_of_paused h]
  case length =>
    intro hm hpaused hl
    rw [he, runCmd_of_badLength hm hpaused hl]; rfl
  case header =>
    intro hm hpaused hlo hhi hh
    rw [he, runCmd_of_badHeader hm hpaused hlo hhi hh]; rfl

/-! ## NOP and GET_INFO (R64) -/

theorem length_markStarted (op : BitVec 16) (c : Cmd) (l : List Flight) : (markStarted op c l).length = l.length := by
  induction l with
  | nil => rfl
  | cons f r ih =>
    unfold markStarted
    split
    · rfl
    · simp [ih]

/-- Settles O7: neither command checks more than its header and its object 0. -/
theorem systemCommandsCompleteAtOnce : Obligations.SystemCommandsCompleteAtOnce := by
  unfold Obligations.SystemCommandsCompleteAtOnce
  intro s c hnum
  have hobj : (c.num == 0) = true := by simp [hnum]
  refine ⟨fun h => ?nop, fun h => ?getInfo⟩
  case nop =>
    change Outcome.next (runCmd ..) = _
    rw [runCmd_of_takes h hobj rfl, finish_of_takes h rfl]
  case getInfo =>
    change Outcome.next (runCmd ..) = _
    rw [runCmd_of_takes h hobj rfl, complete_of_takes h rfl]
    have hflights : (s.begun ⟨0x0004, c, 1, 1⟩).porch.flights.length = s.porch.flights.length := length_markStarted ..
    rw [hflights]
    rfl

/-! ## Doorbells (R43) -/

@[simp] theorem doorbellWake_keeps (s : State) :
    (doorbellWake s).regs = s.regs ∧ (doorbellWake s).porch = s.porch := by
  unfold doorbellWake
  split <;> simp

theorem reg_doorbellWake (s : State) (a : Nat) : (doorbellWake s).reg a = s.reg a := by
  simp [State.reg]

section Doorbells

variable {s : State} {n : Nat} {v : Word}

theorem writeSqTail_inRing (hen : s.sqEn n = true) (hi : bits v 13 0 < s.sqSize n) :
    writeSqTail s n v = doorbellItem ((doorbellWake s).setSq n { s.sq n with tail := bits v 13 0 }) n := by
  simp only [State.sqEn, State.sqSize] at hen hi
  simp [writeSqTail, State.sqEn, State.sqSize, State.sq, reg_doorbellWake, hen, Nat.not_le.mpr hi]

theorem writeSqTail_outside (hen : s.sqEn n = true) (hi : s.sqSize n ≤ bits v 13 0) :
    writeSqTail s n v = pchErrQ (doorbellWake s) 0 false n := by
  simp only [State.sqEn, State.sqSize] at hen hi
  simp [writeSqTail, State.sqEn, State.sqSize, reg_doorbellWake, hen, hi]

theorem writeSqTail_disabled (hen : s.sqEn n = false) : writeSqTail s n v = doorbellWake s := by
  simp only [State.sqEn] at hen
  simp [writeSqTail, State.sqEn, reg_doorbellWake, hen]

theorem writeCqHead_inRing (hen : s.cqEn n = true) (hi : bits v 15 0 < s.cqSize n) :
    writeCqHead s n v = s.setCq n { s.cq n with head := bits v 15 0 } := by
  simp [writeCqHead, hen, Nat.not_le.mpr hi]

theorem writeCqHead_outside (hen : s.cqEn n = true) (hi : s.cqSize n ≤ bits v 15 0) :
    writeCqHead s n v = pchErrQ s 0 true n := by
  simp [writeCqHead, hen, hi]

theorem writeCqHead_disabled (hen : s.cqEn n = false) : writeCqHead s n v = s := by
  simp [writeCqHead, hen]

/-- With the Porch on, a host write to one of its registers acts on the state in which it arrives. -/
theorem porchWrite_of_coreOn (hon : s.coreOn = true) (go : State → State) :
    porchWrite s go = .next (go (hostArrives s .host)) := by
  simp [porchWrite, hon]

end Doorbells

/-- Settles O10: a doorbell acts in the state in which it arrives, by the case of its queue and its index. -/
theorem doorbellsMoveTheirRing : Obligations.DoorbellsMoveTheirRing := by
  unfold Obligations.DoorbellsMoveTheirRing
  rintro s s' q v hon rfl
  have tail : exec (.sqTailDoorbell q v) s = .next (writeSqTail (hostArrives s .host) q v) :=
    porchWrite_of_coreOn hon fun s => writeSqTail s q v
  have head : exec (.cqHeadDoorbell q v) s = .next (writeCqHead (hostArrives s .host) q v) :=
    porchWrite_of_coreOn hon fun s => writeCqHead s q v
  rw [tail, head]
  exact ⟨fun hen hi => congrArg _ (writeSqTail_inRing hen hi), fun hen hi => congrArg _ (writeSqTail_outside hen hi),
    fun hen => congrArg _ (writeSqTail_disabled hen), fun hen hi => congrArg _ (writeCqHead_inRing hen hi),
    fun hen hi => congrArg _ (writeCqHead_outside hen hi), fun hen => congrArg _ (writeCqHead_disabled hen)⟩

/-! ## One step, and the state after reset -/

theorem settleBad_of_forall {s : State} (h : ∀ f ∈ s.porch.flights, f.started = true ∨ badStatus f.op f.c = none) :
    settleBad s = s := by
  unfold settleBad
  generalize s.porch.flights = l at h
  induction l with
  | nil => rfl
  | cons f r ih =>
    obtain ⟨hf, hr⟩ := List.forall_mem_cons.mp h
    rw [List.foldl_cons]
    have hkeep : (match badStatus f.op f.c with
        | some st => if !f.started && mayStart s f.op f.c && !s.paused then finish (beginCmd s f.op f.c) f.op f.c st else s
        | none => s) = s := by
      rcases hf with hf | hf
      · split
        · rw [hf]; rfl
        · rfl
      · rw [hf]
    exact (congrArg (fun t => List.foldl _ t r) hkeep).trans (ih hr)

theorem gateAdvance_of_atRest {s : State} (hstep : s.gate.step = 7) (hwake : s.pwr.wake = none) : gateAdvance s = s := by
  simp [gateAdvance, hstep, hwake]

@[simp] theorem step_tickTimer (g : Gate) : g.tickTimer.step = g.step := by
  unfold Gate.tickTimer
  repeat' split
  all_goals rfl

@[simp] theorem tickBases_keeps (s : State) :
    (tickBases s).pending = s.pending ∧ (tickBases s).cyc = s.cyc ∧ (tickBases s).objs = s.objs ∧ (tickBases s).cel = s.cel ∧
    (tickBases s).regs = s.regs ∧ (tickBases s).out = s.out ∧ (tickBases s).gate = s.gate ∧ (tickBases s).pwr = s.pwr := by
  unfold tickBases
  split <;> simp

@[simp] theorem tb0_tickBases (s : State) :
    (tickBases s).blv.tb0 = if s.gate.porst && s.timeOn then s.blv.tb0 + 1 else s.blv.tb0 := by
  unfold tickBases
  split <;> rfl

/-- The state of an idle device after one CK_CT cycle. -/
def State.idled (s : State) : State :=
  { tickQueues (tickBases { s with cyc := s.cyc + 1 }) with gate := s.gate.tickTimer }

theorem tick_of_atRest {s : State} (hflights : ∀ f ∈ s.porch.flights, f.started = true ∨ badStatus f.op f.c = none)
    (hstep : s.gate.step = 7) (hwake : s.pwr.wake = none) : tick s = s.idled := by
  unfold tick
  rw [settleBad_of_forall (s := { s with cyc := s.cyc + 1 }) hflights, gateAdvance_of_atRest]
  · simp [tickQueues, State.idled]
  · simp [tickQueues, hstep]
  · simp [tickQueues, hwake]

/-- Settles O1: `step` runs the front of the queue, and an idle device ticks (`tick_of_atRest`). -/
theorem stepRunsTheFrontCommand : Obligations.StepRunsTheFrontCommand := by
  unfold Obligations.StepRunsTheFrontCommand
  refine ⟨fun c s r => rfl, fun s hempty hflights hstep hwake => ?_⟩
  refine ⟨s.idled, by simp [step, hempty, tick_of_atRest hflights hstep hwake], ?_⟩
  have htb0 : s.idled.blv.tb0 = if s.gate.porst && s.timeOn then s.blv.tb0 + 1 else s.blv.tb0 :=
    tb0_tickBases { s with cyc := s.cyc + 1 }
  exact ⟨by simp [State.idled, tickQueues, hempty], by simp [State.idled, tickQueues], htb0, by simp [State.idled, tickQueues],
    by simp [State.idled, tickQueues], by simp [State.idled, tickQueues], by simp [State.idled, tickQueues]⟩

/-- Settles O2: each field of the state after reset. -/
theorem whatResetLeaves : Obligations.WhatResetLeaves := by
  unfold Obligations.WhatResetLeaves
  have domains : ∀ d, State.reset.dom d = false := fun d => BitVec.getLsbD_zero
  exact ⟨fun k => ⟨rfl, rfl⟩, rfl, rfl, rfl, rfl, rfl, fun t => rfl, rfl, rfl, fun d _ => domains d, rfl, fun a => rfl, rfl,
    fun q => rfl, rfl, by decide⟩

end Sys2Proof.Machine
end

section
/-!
PROOF. The instructions of a parlour engine: accumulators, words, pointers and control flow (R194-R208, R218).
-/
namespace Sys2Proof.Machine

open Host

/-! ## Registers of an engine (R194-R196, R208) -/

section Registers

variable (r : EngRun) (a b : Nat) (v : Int)

@[simp] theorem getAcc_putAcc_self : (r.putAcc a v).getAcc a = BitVec.ofInt 56 v := by
  simp [EngRun.putAcc, EngRun.getAcc]

variable {a b} in
theorem getAcc_putAcc_of_ne (h : b % 4 ≠ a % 4) : (r.putAcc a v).getAcc b = r.getAcc b := by
  simp [EngRun.putAcc, EngRun.getAcc, tget_tset_ne _ _ _ _ h]

@[simp] theorem putAcc_keeps : (r.putAcc a v).z = r.z ∧ (r.putAcc a v).n = r.n ∧ (r.putAcc a v).w = r.w ∧
    (r.putAcc a v).pt = r.pt ∧ (r.putAcc a v).loops = r.loops ∧ (r.putAcc a v).pc = r.pc := by
  and_intros <;> rfl

@[simp] theorem getAcc_modify (n m : Nat) : (r.modify n m).getAcc a = r.getAcc a := by
  unfold EngRun.modify
  split <;> rfl

@[simp] theorem getAcc_moveOut : (r.moveOut a).2.getAcc b = r.getAcc b := by
  unfold EngRun.moveOut
  simp only
  repeat' split
  all_goals rfl

/-- What moving an accumulator out does with the shifted value: it fits, or it saturates (R198, R199). -/
theorem moveOut_of_fits (h : fits24 (asr (r.getAcc a).toInt r.moveShift) = true) :
    (r.moveOut a).1 = BitVec.ofInt 24 (asr (r.getAcc a).toInt r.moveShift) ∧ (r.moveOut a).2.ov = r.ov := by
  unfold EngRun.moveOut
  rw [if_pos h]
  refine ⟨rfl, ?_⟩
  split <;> rfl

theorem moveOut_of_not_fits (h : fits24 (asr (r.getAcc a).toInt r.moveShift) = false) :
    (r.moveOut a).1 = (if asr (r.getAcc a).toInt r.moveShift < 0 then 0x800000 else 0x7FFFFF) ∧ (r.moveOut a).2.ov = true := by
  unfold EngRun.moveOut
  rw [if_neg (by simp [h])]
  exact ⟨rfl, rfl⟩

end Registers

/-- Settles O31: an accumulator is a slot of its table, and a moved value fits or saturates. -/
theorem accumulatorsWrapAndMovesSaturate : Obligations.AccumulatorsWrapAndMovesSaturate := by
  unfold Obligations.AccumulatorsWrapAndMovesSaturate
  refine ⟨?put, ?alu, ?move⟩
  case put =>
    intro r a v
    exact ⟨getAcc_putAcc_self r a v, rfl, fun b hb => getAcc_putAcc_of_ne r v hb, rfl, rfl, rfl, rfl⟩
  case alu =>
    intro r a v
    have hget : (r.alu a v).getAcc a = BitVec.ofInt 56 v := getAcc_putAcc_self r a v
    refine ⟨?_, ?_, hget⟩ <;> simp [EngRun.alu, EngRun.zn, Bool.beq_eq_decide_eq]
  case move =>
    intro r a
    generalize hv : asr (r.getAcc a).toInt r.moveShift = v
    refine ⟨fun hlo hhi => ?fits, fun hhi => ?above, fun hlo => ?below, getAcc_moveOut r a a⟩
    case fits =>
      obtain ⟨hword, hov⟩ := moveOut_of_fits r a (by simp [hv, fits24, hlo, hhi])
      refine ⟨?_, hov⟩
      rw [hword, hv, BitVec.toInt_ofInt]
      exact Int.bmod_eq_of_le (by omega) (by omega)
    case above =>
      obtain ⟨hword, hov⟩ := moveOut_of_not_fits r a (by simp [hv, fits24]; omega)
      exact ⟨by rw [hword, hv, if_neg (by omega)], hov⟩
    case below =>
      obtain ⟨hword, hov⟩ := moveOut_of_not_fits r a (by simp [hv, fits24]; omega)
      exact ⟨by rw [hword, hv, if_pos (by omega)], hov⟩

/-! ## What counting an instruction leaves in the registers (R203, R205) -/

/-- Two engine runs that hold the same registers, stacks, flags and mode: they differ at most in counts. -/
abbrev EngRun.Same (x y : EngRun) : Prop :=
  y.w = x.w ∧ y.acc = x.acc ∧ y.pt = x.pt ∧ y.md = x.md ∧ y.cl = x.cl ∧ y.z = x.z ∧ y.n = x.n ∧ y.ov = x.ov ∧ y.scale = x.scale ∧
  y.exp = x.exp ∧ y.nexp = x.nexp ∧ y.loops = x.loops ∧ y.calls = x.calls ∧ y.pc = x.pc ∧ y.mode = x.mode ∧ y.mask = x.mask

section Counting

variable (s : State) (e : Nat) (c : Cost) (x : EngRun)

@[simp] theorem engRun_setRun : (s.setRun e x).engRun e = x := by
  simp [State.engRun, State.setRun]

@[simp] theorem engRun_bump (a n : Nat) : (s.bump a n).engRun e = s.engRun e := by
  simp [State.engRun, State.eng]

theorem same_dspCycles (n : Nat) : (dspCycles s n).2.engRun e = s.engRun e := by
  unfold dspCycles
  split <;> rfl

theorem same_settle : (s.engRun e).Same ((settle s e).engRun e) := by
  unfold settle
  split
  · simp [EngRun.Same]
  · next t ht =>
    have hrun := same_dspCycles s e (s.cyc - t)
    generalize dspCycles s (s.cyc - t) = d at hrun ⊢
    obtain ⟨n, u⟩ := d
    dsimp only at hrun ⊢
    repeat' split
    all_goals simp [EngRun.Same, hrun]

theorem same_account : (s.engRun e).Same ((account s e c).engRun e) := by
  have hsettle := same_settle s e
  unfold account
  simp only
  repeat' split
  all_goals simpa using hsettle

/-- The engine's registers after an instruction that goes on. -/
theorem same_goOn : ({ x with pc := (loopNext x.pc x.loops).1, loops := (loopNext x.pc x.loops).2 } : EngRun).Same
    ((goOn s e x c).engRun e) := by
  simpa [goOn] using same_account (s.setRun e { x with pc := (loopNext x.pc x.loops).1, loops := (loopNext x.pc x.loops).2 }) e c

@[simp] theorem goOn_keeps : ((goOn s e x c).engRun e).acc = x.acc ∧ ((goOn s e x c).engRun e).z = x.z ∧
    ((goOn s e x c).engRun e).n = x.n ∧ ((goOn s e x c).engRun e).mode = x.mode := by
  obtain ⟨-, hacc, -, -, -, hz, hn, -, -, -, -, -, -, -, hmode, -⟩ := same_goOn s e c x
  exact ⟨hacc, hz, hn, hmode⟩

@[simp] theorem getAcc_goOn (i : Nat) : ((goOn s e x c).engRun e).getAcc i = x.getAcc i := by
  simp [EngRun.getAcc]

end Counting

/-! ## Accumulator instructions (R195, R196, R199, R207, R208) -/

section Instructions

variable {s : State} {e op : Nat} {w : Word} {go : EngRun → Word → State}

/-- The outcome of an instruction that its engine executes. -/
theorem next_engOp (h : s.executes e op w) :
    (Outcome.next (engOp s e op go) : Outcome State Fault Refusal) = .next (go (s.engRun e) w) :=
  congrArg _ (engOp_runs h)

theorem next_engCtl (h : s.executesFree e op w) :
    (Outcome.next (engCtl s e op go) : Outcome State Fault Refusal) = .next (go (s.engRun e) w) :=
  congrArg _ (engCtl_runs h)

end Instructions

theorem bits_mod_of_bits_nine_zero (w : Word) : fImm w % 32 = bits w 4 0 := by
  simp [fImm, bits]

/-- Settles O33: each instruction by its equation; a dual one writes two different accumulators. -/
theorem accumulatorInstructions : Obligations.AccumulatorInstructions := by
  unfold Obligations.AccumulatorInstructions
  rintro s e w r rfl
  refine ⟨next_engOp, next_engOp, next_engOp, ?pair, ?single⟩
  case pair =>
    rintro f q a0 a1 b0 b1 rfl rfl rfl rfl rfl
    have hne : (fPair w + 1) % 4 ≠ fPair w % 4 := by omega
    simp [dualMac, pairOperands, getAcc_putAcc_of_ne _ _ hne, getAcc_putAcc_of_ne _ _ hne.symm]
  case single =>
    rintro a x y rfl rfl rfl
    refine ⟨next_engOp, next_engOp, next_engOp, next_engOp, next_engOp, fun h => ?abs, fun h => ?shl, fun h => ?shr,
      fun h => ?max, fun h => ?min, next_engOp⟩
    case abs =>
      refine (next_engOp h).trans ?_
      have habs : ∀ z : Int, (if z < 0 then -z else z) = (z.natAbs : Int) := by intro z; split <;> omega
      simp only [accAlu, habs]; rfl
    case shl => exact (next_engOp h).trans (by simp only [accAlu, bits_mod_of_bits_nine_zero]; rfl)
    case shr => exact (next_engOp h).trans (by simp only [accAlu, bits_mod_of_bits_nine_zero]; rfl)
    case max =>
      refine (next_engOp h).trans ?_
      have hmax : ∀ a b : Int, (if a < b then b else a) = max a b := by intro a b; split <;> omega
      simp only [accAlu, hmax]; rfl
    case min =>
      refine (next_engOp h).trans ?_
      have hmin : ∀ a b : Int, (if b < a then b else a) = min a b := by intro a b; split <;> omega
      simp only [accAlu, hmin]; rfl

/-- Zeroing a list of accumulators. -/
theorem zeroed_foldl (l : List Nat) : ∀ r : EngRun, (∀ a ∈ l, a < 4) →
    (l.foldl (fun r a => r.putAcc a 0) r).z = r.z ∧ (l.foldl (fun r a => r.putAcc a 0) r).n = r.n ∧
    ∀ i, i < 4 → (l.foldl (fun r a => r.putAcc a 0) r).getAcc i = if i ∈ l then 0 else r.getAcc i := by
  induction l with
  | nil => simp
  | cons a l ih =>
    intro r h
    obtain ⟨ha, hl⟩ := List.forall_mem_cons.mp h
    obtain ⟨hz, hn, hacc⟩ := ih (r.putAcc a 0) hl
    refine ⟨by simpa using hz, by simpa using hn, fun i hi => ?_⟩
    rw [List.foldl_cons, hacc i hi]
    by_cases hia : i = a
    · simp [hia]
    · have hne : i % 4 ≠ a % 4 := by omega
      simp [hia, getAcc_putAcc_of_ne _ _ hne]

theorem testBit_fImm (w : Word) {i : Nat} (h : i < 4) : (fImm w).testBit i = w.getLsbD i := by
  have hten : i < 9 + 1 - 0 := by omega
  unfold fImm bits
  rw [Nat.testBit_mod_two_pow, decide_eq_true hten]
  rfl

/-- Settles O34: each instruction by its equation; CLR zeroes the accumulators of its list. -/
theorem accumulatorLoadsAndMoves : Obligations.AccumulatorLoadsAndMoves := by
  unfold Obligations.AccumulatorLoadsAndMoves
  rintro s e w r a n m rfl rfl rfl rfl
  refine ⟨next_engOp, fun h => ?clr, fun h hs => ?ldk, fun h hs => ?ldkFree, next_engOp, next_engOp, next_engOp⟩
  case clr =>
    obtain ⟨hz, hn, hacc⟩ := zeroed_foldl ((List.range 4).filter fun a => (fImm w).testBit a) (s.engRun e)
      (fun a ha => by simpa using (List.mem_filter.mp ha).1)
    refine ⟨_, next_engOp h, by simp [hz], by simp [hn], fun i hi => ?_⟩
    rw [getAcc_goOn, hacc i hi]
    simp [hi, testBit_fImm w hi]
  case ldk => exact (next_engOp h).trans (congrArg _ (if_pos hs))
  case ldkFree => exact ⟨_, (next_engOp h).trans (congrArg _ (if_neg (by simpa [fShift] using hs)))⟩

/-! ## Words, pointers and control flow (R200, R201, R203, R204, R207) -/

/-- Settles O35: each instruction by its equation, in the case that its fields name. -/
theorem wordAndPointerInstructions : Obligations.WordAndPointerInstructions := by
  unfold Obligations.WordAndPointerInstructions
  rintro s e w r i n m x y rfl rfl rfl rfl rfl rfl
  refine ⟨next_engOp, next_engOp, next_engOp, next_engOp, next_engOp, fun h hn => ?left, fun h hn => ?right, next_engOp, next_engOp,
    fun h hi => ?ldp, fun h hi => ?ldpOdd, next_engOp, fun h hi => ?stp, fun h hi => ?stpOdd, next_engOp, fun h hb => ?set,
    fun h hb hk => ?pt, fun h hb hk => ?md, fun h hb hk => ?cl, fun h hb hk => ?none⟩
  case left => exact (next_engOp h).trans (by simp only [wordAlu, shiftWord, if_pos hn]; rfl)
  case right => exact (next_engOp h).trans (by simp only [wordAlu, shiftWord, if_neg (Int.not_le.mpr hn)]; rfl)
  case ldp => exact (next_engOp h).trans (congrArg _ (if_pos hi))
  case ldpOdd => exact ⟨_, _, (next_engOp h).trans (congrArg _ (if_neg (by simp [fWi, hi])))⟩
  case stp => exact (next_engOp h).trans (congrArg _ (if_pos hi))
  case stpOdd => exact ⟨_, _, (next_engOp h).trans (congrArg _ (if_neg (by simp [fWi, hi])))⟩
  case set => exact (next_engOp h).trans (by simp only [hb]; rfl)
  case pt => exact (next_engOp h).trans (by simp only [hb, hk]; rfl)
  case md => exact (next_engOp h).trans (by simp only [hb, hk]; rfl)
  case cl => exact (next_engOp h).trans (by simp only [hb, hk]; rfl)
  case none => exact ⟨_, (next_engOp h).trans (by simp only [hb, hk]; rfl)⟩

/-- An instruction that R204 bars faults at the end of a loop. -/
theorem engCtl_atLoopEnd {s : State} {e op : Nat} {w : Word} {go : EngRun → Word → State} (h : s.executes e op w)
    (hend : (s.engRun e).atLoopEnd = true) :
    (Outcome.next (engCtl s e op go) : Outcome State Fault Refusal) = .next (engFault s e 6) :=
  (next_engOp h).trans (congrArg _ (if_pos hend))

/-- Settles O36: each instruction by its equation, in the case of its condition and its stack. -/
theorem controlInstructions : Obligations.ControlInstructions := by
  unfold Obligations.ControlInstructions
  rintro s e w r t rfl rfl
  refine ⟨fun h hc => ?taken, fun h hc => ?notTaken, fun h hc => ?free, fun h hd => ?call, fun h hd => ?callFull, fun u l h hd => ?ret,
    fun h hd => ?retEmpty, fun h hd => ?rep, fun h hd => ?repFull, fun h hd hn => ?repw, fun h hd hn => ?repwZero, fun h hd => ?repwFull,
    fun l rest h hd => ?brklp, fun h hd => ?brklpEmpty, ?barred⟩
  case taken =>
    refine (next_engCtl h).trans ?_
    rcases hc with hc | ⟨hc, hf⟩ | ⟨hc, hf⟩ | ⟨hc, hf⟩ | ⟨hc, hf⟩ | ⟨hc, hf⟩ <;> simp only [fCond, hc] <;> simp [*, branch, fTarget]
  case notTaken =>
    refine (next_engCtl h).trans ?_
    rcases hc with ⟨hc, hf⟩ | ⟨hc, hf⟩ | ⟨hc, hf⟩ | ⟨hc, hf⟩ | ⟨hc, hf⟩ <;> simp only [fCond, hc] <;> simp [*]
  case free =>
    obtain ⟨n, hn⟩ : ∃ n, fCond w = n + 6 := Nat.exists_eq_add_of_le' hc
    rcases Bool.eq_false_or_eq_true (Config.freeNat s.free % 2 == 1) with hf | hf
    · exact .inl ((next_engCtl h).trans (by simp [hn, State.fresh, hf, branch, fTarget]))
    · exact .inr ((next_engCtl h).trans (by simp [hn, State.fresh, hf]))
  case call => exact (next_engCtl h).trans (congrArg _ (if_neg (Nat.not_le.mpr hd)))
  case callFull => exact (next_engCtl h).trans (congrArg _ (if_pos hd))
  case ret => exact (next_engCtl h).trans (by simp only [hd])
  case retEmpty => exact (next_engCtl h).trans (by simp only [hd])
  case rep => exact (next_engCtl h).trans (congrArg _ (if_neg (Nat.not_le.mpr hd)))
  case repFull => exact (next_engCtl h).trans (congrArg _ (if_pos hd))
  case repw => exact (next_engCtl h).trans (congrArg _ ((if_neg (Nat.not_le.mpr hd)).trans (if_neg hn)))
  case repwZero => exact (next_engCtl h).trans (congrArg _ ((if_neg (Nat.not_le.mpr hd)).trans (if_pos hn)))
  case repwFull => exact (next_engCtl h).trans (congrArg _ (if_pos hd))
  case brklp => exact (next_engCtl h).trans (by simp only [hd])
  case brklpEmpty => exact (next_engCtl h).trans (by simp only [hd])
  case barred =>
    rintro _ rfl
    exact ⟨engCtl_atLoopEnd, engCtl_atLoopEnd, engCtl_atLoopEnd, engCtl_atLoopEnd, engCtl_atLoopEnd, engCtl_atLoopEnd,
      engCtl_atLoopEnd, engCtl_atLoopEnd⟩

end Sys2Proof.Machine
end

section
/-!
PROOF. A queued move need not be served: the bursts that a parlour still needs are counted less those that every engine of it has had
(R212).
-/
namespace Sys2Proof.Machine

open Host

/-- In Run with domain 0 on, engine 0 has a move of one word queued, and engine 1 has no move but a count of two bursts served. -/
def staleBursts : State :=
  { State.reset with
    pwr := { state := 0, dom := 1 }
    par := { engines := [(0, { moves := [{ src := 0, dst := 0, flagEn := false, flag := 0, srcA := 0, dstA := 1, len := 1 }] }),
                         (1, { served := 2 })] } }

theorem moveEnds_staleBursts : ((moveEnds staleBursts 0).eng 0).moves.length = 1 := by decide

/-- Refutes O37: in `staleBursts` the move of engine 0 is not served by MOVE_COMPLETE, as engine 1's old count cancels the bursts that are
left. The statement bounds the count of engine 0 alone. -/
theorem not_systemInstructions : ¬ Obligations.SystemInstructions := by
  unfold Obligations.SystemInstructions
  intro h
  obtain ⟨-, -, -, -, -, -, -, -, -, -, -, -, -, -, -, -, -, -, -, -, -, -, -, -, hmoves, -⟩ := h staleBursts 0 0 _ rfl
  obtain ⟨-, hserved⟩ := hmoves _ [] (by decide) (by decide) rfl
  obtain ⟨hempty, -⟩ := hserved (by decide) (by decide) (by decide) rfl (by decide)
  exact absurd (moveEnds_staleBursts.symm.trans (congrArg List.length hempty)) (by decide)

end Sys2Proof.Machine
end

section
/-!
PROOF. A completion goes to the completion queue that the command's submission queue was bound to when the command was fetched (R48), so
a statement that names the queue bound in the state before the command began does not stand where the binding has changed since.
-/
namespace Sys2Proof.Machine

open Host

/-- A device in Run with every domain on and its link down, in which one command waits to begin: it was fetched for completion queue 5, and
its submission queue has been bound to completion queue 0 since. -/
def rebound (op : BitVec 16) (c : Cmd) : State :=
  { State.reset with
    pwr := { state := 0, dom := BitVec.allOnes 80 }
    porch := { flights := [{ op := op, c := c, started := false, discard := false, cq := 5 }] } }

/-- A command of one or two units in submission queue 0. -/
def queued (len obj : Nat) (par : List Word) : Cmd :=
  { sq := 0, tag := 0, w1 := BitVec.ofNat 32 len, obj := BitVec.ofNat 32 obj, w3 := 0, par := par }

/-- The completion queues of the completions that are produced after a command. -/
def queuesOf (o : Outcome State Fault Refusal) : List Nat :=
  match o with
  | .next t => (t.porch.produced.filter fun e => !e.evt).map Entry.cq
  | _ => []

/-- Where every completion that is produced is for completion queue 5, a completion for queue 0 is not among it. -/
theorem completion_not_produced {o : Outcome State Fault Refusal} {s t : State} {p : Packet} {st : Status} {r0 r1 r2 r3 : Word}
    (hq : ∀ n ∈ queuesOf o, n = 5) (ho : o = .next t) (hs : s.completionQueue p = 0) :
    s.completion p st r0 r1 r2 r3 ∉ t.porch.produced := by
  intro hmem
  subst ho
  have hfive : (s.completion p st r0 r1 r2 r3).cq = 5 := hq _ (List.mem_map_of_mem (List.mem_filter.mpr ⟨hmem, rfl⟩))
  exact absurd (hs.symm.trans hfive) (by decide)

theorem completion_not_appended {o : Outcome State Fault Refusal} {s t : State} {p : Packet} {st : Status} {r0 r1 r2 r3 : Word}
    {l : List Entry} (hq : ∀ n ∈ queuesOf o, n = 5) (ho : o = .next t) (hs : s.completionQueue p = 0) :
    t.porch.produced ≠ l ++ [s.completion p st r0 r1 r2 r3] :=
  fun h => completion_not_produced hq ho hs (h ▸ List.mem_append_right l List.mem_cons_self)

/-- ENG_RESERVE of engine 0 for the host. -/
def reserveFirst : Cmd := queued 1 0 [1]

/-- Refutes O38: ENG_RESERVE in `rebound` completes to queue 5. -/
theorem not_engineCommands : ¬ Obligations.EngineCommands := by
  unfold Obligations.EngineCommands
  intro h
  obtain ⟨hreserve, -⟩ := h (rebound 0x0910 reserveFirst) reserveFirst (by decide) (by decide)
  obtain ⟨t, ht, -, -, -, -, hproduced⟩ := hreserve (by decide) (by decide) (by decide)
  exact completion_not_produced (by decide) ht (by decide) hproduced

/-- HAT_MASK of both masks of hatch 0. -/
def maskFirst : Cmd := queued 1 0 [0, 0, 3]

/-- Refutes O39: HAT_MASK of a STOPPED bank in `rebound` completes to queue 5. -/
theorem not_hatchCommands : ¬ Obligations.HatchCommands := by
  unfold Obligations.HatchCommands
  intro h
  obtain ⟨-, hhatch⟩ := h (rebound 0x0814 maskFirst) maskFirst 0
  obtain ⟨-, -, -, -, -, -, -, hmask⟩ := hhatch (by decide) (by decide)
  obtain ⟨hstopped, -⟩ := hmask _ _ rfl rfl (by decide) (by decide)
  obtain ⟨t, ht, -, -, -, hproduced⟩ := hstopped (by decide) (by decide)
  exact completion_not_appended (by decide) ht (by decide) hproduced

/-- ENC_KEYREQ of encoding 0 for no layer. -/
def keyOfNoLayer : Cmd := queued 1 0 [0]

/-- Refutes O41: ENC_KEYREQ of a RUNNING encoding in `rebound` completes to queue 5. -/
theorem not_glasshouseCommands : ¬ Obligations.GlasshouseCommands := by
  unfold Obligations.GlasshouseCommands
  rintro ⟨-, h⟩
  obtain ⟨hencoding, -⟩ := h ((rebound 0x0C13 keyOfNoLayer).setObj (encKey 0) { st := .running }) keyOfNoLayer
  obtain ⟨-, -, -, hkeyreq⟩ := hencoding (by decide) (by decide)
  obtain ⟨t, ht, -, hproduced⟩ := hkeyreq (by decide) (by decide)
  exact completion_not_appended (by decide) ht (by decide) hproduced

/-- ORG_COMMIT of canvas 0 without fences. -/
def commitFirst : Cmd := queued 1 0 [0]

/-- Refutes O43: ORG_COMMIT of a STOPPED canvas in `rebound` completes to queue 5. -/
theorem not_canvasCommands : ¬ Obligations.CanvasCommands := by
  unfold Obligations.CanvasCommands
  intro h
  obtain ⟨hcanvas, -⟩ := h (rebound 0x0B12 commitFirst) commitFirst
  obtain ⟨-, -, -, -, hstopped⟩ := hcanvas (by decide) (by decide)
  obtain ⟨t, ht, -, hproduced⟩ := hstopped (by decide) (by decide) (by decide) (by decide)
  exact completion_not_produced (by decide) ht (by decide) hproduced

/-- KEY_WRITE of a key of suite 0, all zero, to slot 0. -/
def zeroKey : Cmd := queued 2 0 [0]

/-- Refutes O27: KEY_WRITE in `rebound` completes to queue 5. -/
theorem not_keyCommandsRunInTheFreeWindow : ¬ Obligations.KeyCommandsRunInTheFreeWindow := by
  unfold Obligations.KeyCommandsRunInTheFreeWindow
  intro h
  obtain ⟨hwrite, -⟩ := h (rebound 0x0510 zeroKey) zeroKey
  obtain ⟨t, ht, -, -, -, -, hproduced⟩ :=
    hwrite _ (by decide) (by decide) (by decide) (by decide) (by decide) rfl (by decide) (by decide) (by decide)
  exact completion_not_appended (by decide) ht (by decide) hproduced

/-- TIME_ARM of TB1. -/
def armFirst : Cmd := queued 1 1 [1]

/-- Refutes O55: TIME_ARM in `rebound` completes to queue 5. -/
theorem not_timeBasesAndPins : ¬ Obligations.TimeBasesAndPins := by
  unfold Obligations.TimeBasesAndPins
  rintro ⟨h, -⟩
  obtain ⟨harm, -⟩ := h (rebound 0x0210 armFirst) armFirst
  obtain ⟨hstart, -⟩ := harm false (by decide) (by decide)
  obtain ⟨t, ht, -, -, -, hproduced⟩ := hstart (by decide) (by decide)
  exact completion_not_appended (by decide) ht (by decide) hproduced

/-- POWER_RAIL_STEP of rail 0 down to the voltage of P3. -/
def voltageDown : Cmd := queued 1 0 [0xD]

/-- Refutes O58: POWER_RAIL_STEP that R514 refuses completes to queue 5 in `rebound`. -/
theorem not_powerCommandsAndRails : ¬ Obligations.PowerCommandsAndRails := by
  unfold Obligations.PowerCommandsAndRails
  intro h
  obtain ⟨hidle, -⟩ := h (rebound 0x0112 voltageDown) voltageDown
  obtain ⟨-, -, hrail, -⟩ := hidle (by decide) (by decide) (by decide) (by decide) (by decide)
  obtain ⟨-, hstep⟩ := hrail _ rfl (by decide) (by decide)
  obtain ⟨-, hrefused, -⟩ := hstep (by decide)
  obtain ⟨t, ht, hproduced, -⟩ := hrefused (by decide) (by decide)
  exact completion_not_produced (by decide) ht (by decide) hproduced

end Sys2Proof.Machine
end

section
/-!
PROOF. Fetching a command, writing entries and sending a moderated interrupt (R44-R48, R52-R58, R69-R71).
-/
namespace Sys2Proof.Machine

open Host

/-! ## Fetching (R44-R47) -/

section Fetching

variable {s : State} {sq : Fin 64} {ws : List Word} {split : List (Fin 64)}

@[simp] theorem takeTurn_keeps (s : State) (n : Nat) :
    (takeTurn s n).porch.flights = s.porch.flights ∧ (takeTurn s n).porch.sq = s.porch.sq ∧
    (takeTurn s n).porch.produced = s.porch.produced ∧ (takeTurn s n).regs = s.regs ∧ (takeTurn s n).objs = s.objs ∧
    (takeTurn s n).cel = s.cel := by
  unfold takeTurn
  repeat' split
  all_goals simp

theorem slots_eq_len {op : BitVec 16} {c : Cmd} (h : badStatus op c = none) : c.slots = c.len := by
  unfold badStatus at h
  split at h
  · cases h
  · simpa using h

/-- The Study admits the command at the fetch position of a queue (R46). -/
abbrev State.mayFetch (s : State) (sq : Fin 64) (ws : List Word) (split : List (Fin 64)) : Prop :=
  (s.fetching && s.fetchable sq && s.turnOk split sq && decide ((packetCmd sq ws).slots ≤ s.slots sq)) = true

theorem execCommandFetch_error (h : s.mayFetch sq ws split) (e : PcieErr) :
    exec (.commandFetch sq ⟨ws, split⟩ (some e)) s = .next (queueError (belSignal (leaveL1 s)) false sq e) :=
  if_pos h

/-- The state in which the fetched command's flight stands last. -/
def State.withFetched (s : State) (sq : Fin 64) (ws : List Word) : State :=
  let t := takeTurn s sq
  let t := t.setSq sq { t.sq sq with head := ((t.sq sq).head + (packetCmd sq ws).slots) % t.sqSize sq }
  { t with porch := { t.porch with flights := t.porch.flights ++
      [{ op := packetOp ws, c := packetCmd sq ws, started := false, discard := false, cq := t.boundCq sq }] } }

theorem execCommandFetch_ok (h : s.mayFetch sq ws split) :
    exec (.commandFetch sq ⟨ws, split⟩ none) s = .next (settleBad ((belSignal (leaveL1 s)).withFetched sq ws)) :=
  if_pos h

theorem flights_withFetched (s : State) (sq : Fin 64) (ws : List Word) : (s.withFetched sq ws).porch.flights = s.porch.flights ++
    [{ op := packetOp ws, c := packetCmd sq ws, started := false, discard := false, cq := s.boundCq sq }] := by
  simp [State.withFetched, State.boundCq, State.reg]

theorem sq_withFetched (s : State) (sq : Fin 64) (ws : List Word) (m : Nat) : (s.withFetched sq ws).sq m =
    if m = sq.val then { s.sq sq with head := ((s.sq sq).head + (packetCmd sq ws).slots) % s.sqSize sq } else s.sq m := by
  have hsq : ∀ t : State, t.porch.sq = (takeTurn s sq).porch.sq → t.sq m = s.sq m := by
    intro t ht; simp [State.sq, ht]
  have hset : (s.withFetched sq ws).sq m = ((takeTurn s sq).setSq sq { (takeTurn s sq).sq sq with
      head := (((takeTurn s sq).sq sq).head + (packetCmd sq ws).slots) % (takeTurn s sq).sqSize sq }).sq m := rfl
  rw [hset, sq_setSq]
  simp [State.sq, State.sqSize, State.reg]

@[simp] theorem withFetched_keeps (s : State) (sq : Fin 64) (ws : List Word) :
    (s.withFetched sq ws).porch.produced = s.porch.produced ∧ (s.withFetched sq ws).objs = s.objs ∧ (s.withFetched sq ws).cel = s.cel := by
  simp [State.withFetched]

end Fetching

/-- Settles O8: with every flight begun or defined nothing settles (`settleBad_of_forall`), and the new one is defined. -/
theorem aFetchedCommandEntersFlight : Obligations.AFetchedCommandEntersFlight := by
  unfold Obligations.AFetchedCommandEntersFlight
  rintro s s' sq ws split hfetching hfetchable hturn hslots rfl
  have hmay : s.mayFetch sq ws split := by simp [hfetching, hfetchable, hturn, hslots]
  refine ⟨fun hgood hflights => ?ok, execCommandFetch_error hmay⟩
  have hall : ∀ f ∈ ((belSignal (leaveL1 s)).withFetched sq ws).porch.flights, f.started = true ∨ badStatus f.op f.c = none := by
    rw [flights_withFetched]
    intro f hf
    rcases List.mem_append.mp hf with hf | hf
    · exact hflights f hf
    · rw [List.mem_singleton.mp hf]; exact .inr hgood
  refine ⟨_, execCommandFetch_ok hmay, ?_⟩
  rw [settleBad_of_forall hall, flights_withFetched]
  refine ⟨rfl, ?head, ?tail, ?others, ?rest⟩
  case head => rw [sq_withFetched, if_pos rfl, slots_eq_len hgood]
  case tail => rw [sq_withFetched, if_pos rfl]
  case others => intro m hm; rw [sq_withFetched, if_neg hm]
  case rest => simp

/-! ## Entries (R52-R57, R69-R71) -/

section Entries

variable {s : State} {n : Nat} {e : Entry} {rest : List Entry}

theorem out_hostWrite (s : State) (n : Nat) (e : Entry) (q : BitVec 16) : (hostWrite s n e q).out =
    [ .tlp (dword (s.reg (cqBaseLo n)) (s.reg (cqBaseHi n)) + 32 * (s.cq n).tail) ((entryWords e q (s.cq n).phase).take 2) false false,
      .tlp (dword (s.reg (cqBaseLo n)) (s.reg (cqBaseHi n)) + 32 * (s.cq n).tail + 8) ((entryWords e q (s.cq n).phase).drop 2) true
        true ] ++ s.out := rfl

/-- A queue after one entry more: its tail goes on, and PHASE turns over at the ring's end (R53). -/
def Cq.advanced (q : Cq) (size : Nat) : Cq :=
  if q.tail + 1 < size then { q with tail := q.tail + 1 } else { q with tail := 0, phase := !q.phase }

theorem cq_hostWrite (s : State) (n m : Nat) (e : Entry) (q : BitVec 16) :
    (hostWrite s n e q).cq m = if m = n then (s.cq n).advanced (s.cqSize n) else s.cq m :=
  cq_setCq s n m _

theorem error_advanced (q : Cq) (size : Nat) : (q.advanced size).error = q.error := by
  unfold Cq.advanced
  split <;> rfl

/-- With the link in L0 an entry is written at once and counted towards its queue's interrupt. -/
theorem placeEntry_of_reach (hreach : s.hostReach = true) (hl1 : s.inL1 = false) (q : BitVec 16) :
    placeEntry s n e q = moderate (hostWrite s n e q) n := by
  simp [placeEntry, hreach, hl1]

theorem not_holding (hreach : s.hostReach = true) (hl1 : s.inL1 = false) : s.holding = false := by
  simp [State.holding, hreach, hl1]

theorem entryBlocked_event (h : e.evt = true) : s.entryBlocked e = false := by
  simp [State.entryBlocked, h]

theorem entryBlocked_completion (hen : s.cqEn e.cq = true) (hfull : s.cqFull e.cq = false) (hholding : s.holding = false) :
    s.entryBlocked e = false := by
  simp [State.entryBlocked, hen, hfull, hholding]

/-- The oldest produced entry is the one taken, where nothing holds it back. -/
theorem execEntryWrite_head (hp : s.porch.produced = e :: rest) (hb : s.entryBlocked e = false) (err : Option PcieErr) :
    exec (.entryWrite err) s = .next (if e.evt
      then deliverEvent { s with porch := { s.porch with produced := rest } } err e
      else settleBad (deliverCompletion { s with porch := { s.porch with produced := rest } } err e)) := by
  have hpick : s.pickEntry s.porch.produced = some (e, rest) := by simp [hp, State.pickEntry, hb]
  change execEntryWrite err s = _
  simp only [execEntryWrite, hpick]

@[simp] theorem retire_keeps (s : State) (e : Entry) : (retire s e).porch.cq = s.porch.cq ∧
    (retire s e).porch.d3hot = s.porch.d3hot ∧ (retire s e).porch.link = s.porch.link := by
  unfold retire
  split <;> simp

@[simp] theorem powerStateWritten_keeps (s : State) (e : Entry) : (powerStateWritten s e).porch = s.porch := by
  unfold powerStateWritten
  repeat' split
  all_goals rfl

theorem deliverCompletion_written (herr : (s.cq e.cq).error = false) (hreach : s.hostReach = true) (hl1 : s.inL1 = false) :
    deliverCompletion s none e = moderate (hostWrite (powerStateWritten (retire s e) e) e.cq e 0) e.cq := by
  have hkeep : (powerStateWritten (retire s e) e).porch.cq = s.porch.cq := by simp
  have herr' : ((powerStateWritten (retire s e) e).cq e.cq).error = false := by simpa [State.cq, hkeep] using herr
  have hreach' : (powerStateWritten (retire s e) e).hostReach = true := by simpa [State.hostReach] using hreach
  have hl1' : (powerStateWritten (retire s e) e).inL1 = false := by simpa [State.inL1] using hl1
  simp only [deliverCompletion, herr', Bool.false_eq_true, if_false, placeEntry_of_reach hreach' hl1']

/-- The state in which the next entry of an event queue has its sequence number. -/
def State.numbered (s : State) (n : Nat) : State := s.setCq n { s.cq n with seq := (s.cq n).seq + 1 }

theorem deliverEvent_written (hroute : s.evRoute (e.code.toNat / 256) = some n) (herr : (s.cq n).error = false)
    (hlost : (s.cq n).lostSince = 0) (hroom : s.eventRoom n = true) (hreach : s.hostReach = true) (hl1 : s.inL1 = false) :
    deliverEvent s none e = moderate (hostWrite (s.numbered n) n e (s.cq n).seq) n := by
  have hplaced : deliverEvent s none e = placeEntry (s.numbered n) n e (s.cq n).seq := by
    simp [deliverEvent, hroute, herr, hlost, hroom, State.numbered]
  exact hplaced.trans (placeEntry_of_reach (s := s.numbered n) hreach hl1 _)

end Entries

/-! ## EVENTS_LOST and moderation (R56, R69) -/

section Lost

variable {s : State} {n : Nat}

theorem error_queueFails (s : State) (n : Nat) (e : PcieErr) : ((queueFails s true n e).cq n).error = true := by
  have hcq : (queueFails s true n e).porch.cq = (s.setCq n { s.cq n with error := true }).porch.cq := by simp [queueFails]
  have hget : (queueFails s true n e).cq n = (s.setCq n { s.cq n with error := true }).cq n := by simp only [State.cq, hcq]
  rw [hget, cq_setCq, if_pos rfl]

theorem cq_sendMsix (s : State) (v m : Nat) : (sendMsix s v).cq m = s.cq m := by
  unfold sendMsix
  split <;> rfl

theorem leaveL1_of_not_inL1 (h : s.inL1 = false) : leaveL1 s = s := by
  simp [leaveL1, h]

/-- With the link in L0 an interrupt goes out at once: the queue counts anew, and its unmasked vector is sent. -/
theorem interrupt_of_reach (hreach : s.hostReach = true) (hl1 : s.inL1 = false) :
    (∀ m, (interrupt s n).cq m = if m = n then { s.cq n with count := 0, timer := none, due := false } else s.cq m) ∧
    (s.masked (bits (s.reg (cqCfgA n)) 26 16) = false → (interrupt s n).out = .msix (bits (s.reg (cqCfgA n)) 26 16) :: s.out) := by
  have hstay : ∀ q, leaveL1 (s.setCq n q) = s.setCq n q := fun q => leaveL1_of_not_inL1 (s := s.setCq n q) hl1
  unfold interrupt
  simp only [hreach, if_true, hstay]
  refine ⟨fun m => ?_, fun hm => ?_⟩
  · rw [cq_sendMsix, cq_setCq, cq_setCq, cq_setCq]
    by_cases h : m = n <;> simp [h]
  · unfold sendMsix
    rw [if_neg (by simpa [State.masked, State.reg] using hm)]
    rfl

/-- EVENTS_LOST goes out: the host takes it, and the loss is reported; or it answers with an error, and the queue is in error. -/
theorem writeEventsLost_of_reach (hreach : s.hostReach = true) (hl1 : s.inL1 = false) (herr : (s.cq n).error = false)
    {x w : State}
    (hx : x = { s.numbered n with free := s.free + 1 }) (hw : w = hostWrite x n (eventsLostEntry s n) (s.cq n).seq) :
    writeEventsLost s n = match hostAnswer s.free with
      | none => moderate (w.setCq n { w.cq n with lostSince := 0 }) n
      | some e => belSignal (queueFails (loseWaited x n (eventsLostEntry s n)) true n e) := by
  have herrx : ((s.numbered n).cq n).error = false := by simpa [State.numbered] using herr
  have herrx' : (x.cq n).error = false := by subst hx; exact herrx
  have hwaited : writeWaited (s.numbered n) n (eventsLostEntry s n) (s.cq n).seq = match hostAnswer s.free with
      | none => w
      | some e => queueFails (loseWaited x n (eventsLostEntry s n)) true n e := by
    subst hw hx
    simp only [writeWaited, herrx, Bool.false_eq_true, if_false]
    rfl
  have hwritten : (w.cq n).error = false := by
    rw [hw, cq_hostWrite, if_pos rfl, error_advanced, herrx']
  have hfailed : ∀ e, ((queueFails (loseWaited x n (eventsLostEntry s n)) true n e).cq n).error = true :=
    fun e => error_queueFails _ n e
  have hsend : sendEventsLost s n = if ((writeWaited (s.numbered n) n (eventsLostEntry s n) (s.cq n).seq).cq n).error = true
      then writeWaited (s.numbered n) n (eventsLostEntry s n) (s.cq n).seq
      else (writeWaited (s.numbered n) n (eventsLostEntry s n) (s.cq n).seq).setCq n
        { (writeWaited (s.numbered n) n (eventsLostEntry s n) (s.cq n).seq).cq n with lostSince := 0 } := rfl
  simp only [writeEventsLost, not_holding hreach hl1, Bool.false_eq_true, if_false, hsend, hwaited]
  split
  · simp [hwritten]
  · simp [hfailed]

end Lost

/-- Settles O9: each part by the equation of what writes, in the state in which it writes. -/
theorem entriesAndInterruptsReachTheHost : Obligations.EntriesAndInterruptsReachTheHost := by
  unfold Obligations.EntriesAndInterruptsReachTheHost
  refine ⟨?ring, ?taken, ?lost, ?moderated⟩
  case ring =>
    intro s n e q
    refine ⟨out_hostWrite s n e q, ?_, fun m hm => by rw [cq_hostWrite, if_neg hm]⟩
    rw [cq_hostWrite, if_pos rfl]
    unfold Cq.advanced
    split <;> rfl
  case taken =>
    rintro s _ e rest hp hreach hl1 rfl
    refine ⟨fun hevt hen herr hfull => ?_, fun n hevt hroute herr hlost hroom => ?_⟩
    · rw [execEntryWrite_head hp (entryBlocked_completion hen hfull (not_holding hreach hl1)), hevt]
      exact congrArg (fun t => Outcome.next (settleBad t))
        (deliverCompletion_written (s := { s with porch := { s.porch with produced := rest } }) herr hreach hl1)
    · rw [execEntryWrite_head hp (entryBlocked_event hevt), hevt]
      exact congrArg Outcome.next
        (deliverEvent_written (s := { s with porch := { s.porch with produced := rest } }) hroute herr hlost hroom hreach hl1)
  case lost =>
    rintro s q _ rfl hen hevq herr hsince hroom
    have hexec : s.porch.d3hot = false → exec (.eventsLost q) s = .next (writeEventsLost s q) := by
      intro hd3
      refine congrArg Outcome.next (if_pos ?_)
      simp [hen, hevq, herr, hsince, hroom, hd3]
    refine ⟨fun x w hx hw hreach hl1 => ?_, fun hd3 hl1 => ?_⟩
    · have hd3 : s.porch.d3hot = false := by
        simp only [State.hostReach, Bool.and_eq_true, Bool.not_eq_true'] at hreach
        exact hreach.1
      refine (hexec hd3).trans (congrArg Outcome.next ((writeEventsLost_of_reach hreach hl1 herr hx hw).trans ?_))
      cases hostAnswer s.free <;> rfl
    · rw [hexec hd3]
      exact congrArg Outcome.next (if_pos (by simp [State.holding, hl1]))
  case moderated =>
    intro s q n ht hmt hle hreach hl1
    have hexec : exec (.moderationTimerExpiry q) s = .next (interrupt s q) := by
      change execModerationTimerExpiry q s = _
      simp [execModerationTimerExpiry, ht, hmt, hle]
    obtain ⟨hcq, hout⟩ := interrupt_of_reach (n := q) hreach hl1
    exact ⟨_, hexec, by rw [hcq, if_pos rfl], by rw [hcq, if_pos rfl], hout⟩

end Sys2Proof.Machine
end

section
/-!
PROOF. The registers that the Porch decides: the set-up of its queues (R40-R42, R82, R569, R570), and reads and writes by access type
(R15, R17, R29, R30).
-/
namespace Sys2Proof.Machine

open Host

/-! ## Fields of a masked word -/

/-- A mask that holds all of a field leaves the field. -/
theorem bits_and_of_ones {w m : Word} {hi lo : Nat} (hm : bits m hi lo = 2 ^ (hi + 1 - lo) - 1) :
    bits (w &&& m) hi lo = bits w hi lo := by
  unfold bits at hm ⊢
  rw [BitVec.toNat_and, Nat.shiftRight_and_distrib, Nat.and_mod_two_pow, hm, Nat.and_two_pow_sub_one_eq_mod, Nat.mod_mod]

/-- Bits set outside a field leave the field. -/
theorem bits_or_of_zeros {w m : Word} {hi lo : Nat} (hm : bits m hi lo = 0) : bits (w ||| m) hi lo = bits w hi lo := by
  unfold bits at hm ⊢
  rw [BitVec.toNat_or, Nat.shiftRight_or_distrib, Nat.or_mod_two_pow, hm, Nat.or_zero]

theorem bit_and_of_set {w m : Word} {i : Nat} (hm : bit m i = true) : bit (w &&& m) i = bit w i := by
  unfold bit at hm ⊢
  rw [BitVec.getLsbD_and, hm, Bool.and_true]

theorem bit_and_of_clear {w m : Word} {i : Nat} (hm : bit m i = false) : bit (w &&& m) i = false := by
  unfold bit at hm ⊢
  rw [BitVec.getLsbD_and, hm, Bool.and_false]

theorem bit_or_of_set {w m : Word} {i : Nat} (hm : bit m i = true) : bit (w ||| m) i = true := by
  unfold bit at hm ⊢
  rw [BitVec.getLsbD_or, hm, Bool.or_true]

theorem bit_or_of_clear {w m : Word} {i : Nat} (hm : bit m i = false) : bit (w ||| m) i = bit w i := by
  unfold bit at hm ⊢
  rw [BitVec.getLsbD_or, hm, Bool.or_false]

/-! ## A write of a queue's configuration -/

section Configurations

variable {s : State} {n : Nat} {v : Word}

/-- A write of an enabled queue's PCH_SQn_CFG is stored if it leaves SIZE and the binding, and else refused (R42). -/
theorem writeSqCfg_enabled (hen : s.sqEn n = true) :
    writeSqCfg s n v = if bits v 3 0 ≠ bits (s.reg (sqCfgA n)) 3 0 ∨ bits v 13 8 ≠ bits (s.reg (sqCfgA n)) 13 8
      then pchErrQ s 1 false n else s.setReg (sqCfgA n) (v &&& 0x800F_3F0F) := by
  unfold State.sqEn at hen
  simp only [writeSqCfg, hen, bits_and_of_ones (w := v) (m := 0x800F_3F0F) (hi := 3) (lo := 0) (by decide),
    bits_and_of_ones (w := v) (m := 0x800F_3F0F) (hi := 13) (lo := 8) (by decide), if_true]
  simp

/-- A write that enables a disabled queue starts it, unless its SIZE or the kind of its completion queue forbids that (R40, R41). -/
theorem writeSqCfg_enables (hen : s.sqEn n = false) (hv : bit v 31 = true) :
    writeSqCfg s n v = if bits v 3 0 < 4 ∨ 14 < bits v 3 0 ∨ s.evq (bits v 13 8) = true then pchErrQ s 1 false n
      else (s.setReg (sqCfgA n) (v &&& 0x800F_3F0F)).setSq n { head := 0, tail := 0, error := false, idle := false } := by
  unfold State.sqEn at hen
  have hv' : bit (v &&& 0x800F_3F0F) 31 = true := (bit_and_of_set (by decide)).trans hv
  simp only [writeSqCfg, hen, hv', bits_and_of_ones (w := v) (m := 0x800F_3F0F) (hi := 3) (lo := 0) (by decide),
    bits_and_of_ones (w := v) (m := 0x800F_3F0F) (hi := 13) (lo := 8) (by decide), Bool.false_eq_true, if_false, if_true,
    ← or_assoc]
  by_cases hsz : bits v 3 0 < 4 ∨ 14 < bits v 3 0
  · simp [hsz]
  · cases h : s.evq (bits v 13 8) <;> simp [hsz]

/-- A write of an enabled queue's PCH_CQn_CFG is stored if it leaves SIZE and kind and does not disable a queue in use (R42, R570). -/
theorem writeCqCfg_enabled (hen : s.cqEn n = true) (hv : bit v 31 = false) :
    writeCqCfg s n v = if bits v 4 0 ≠ bits (s.reg (cqCfgA n)) 4 0 ∨ bit v 8 ≠ s.evq n ∨ s.boundBusy n = true ∨ s.heldOf n ≠ 0
      then pchErrQ s 1 true n else s.setReg (cqCfgA n) (v &&& 0x87FF_031F) := by
  unfold State.cqEn at hen
  have hv' : bit (v &&& 0x87FF_031F) 31 = false := (bit_and_of_set (by decide)).trans hv
  simp only [writeCqCfg, hen, hv', bits_and_of_ones (w := v) (m := 0x87FF_031F) (hi := 4) (lo := 0) (by decide),
    bit_and_of_set (w := v) (m := 0x87FF_031F) (i := 8) (by decide), if_true, State.evq, ← or_assoc, Nat.pos_iff_ne_zero]
  by_cases hkeep : bits v 4 0 ≠ bits (s.reg (cqCfgA n)) 4 0 ∨ bit v 8 ≠ bit (s.reg (cqCfgA n)) 8
  · simp [hkeep]
  · by_cases hbusy : s.boundBusy n = true ∨ s.heldOf n ≠ 0
    · simp [hkeep, hbusy]
    · simp [hkeep, hbusy]

/-- A write that enables a disabled completion queue starts it, unless its SIZE or a queue bound to it forbids that (R40, R41). -/
theorem writeCqCfg_enables (hen : s.cqEn n = false) (hv : bit v 31 = true) :
    writeCqCfg s n v = if bits v 4 0 < 4 ∨ 16 < bits v 4 0 ∨ (bit v 8 = true ∧ s.boundEnabled n = true) then pchErrQ s 1 true n
      else (s.setReg (cqCfgA n) (v &&& 0x87FF_031F)).setCq n { lostSince := (s.cq n).lostSince } := by
  unfold State.cqEn at hen
  have hv' : bit (v &&& 0x87FF_031F) 31 = true := (bit_and_of_set (by decide)).trans hv
  simp only [writeCqCfg, hen, hv', bits_and_of_ones (w := v) (m := 0x87FF_031F) (hi := 4) (lo := 0) (by decide),
    bit_and_of_set (w := v) (m := 0x87FF_031F) (i := 8) (by decide), Bool.false_eq_true, if_false, if_true, ← or_assoc]
  by_cases hsz : bits v 4 0 < 4 ∨ 16 < bits v 4 0
  · simp [hsz]
  · by_cases hb : bit v 8 = true ∧ s.boundEnabled n = true
    · simp [hsz, hb]
    · simp [hsz, hb]

end Configurations

/-- Settles O11: an enabling write has EN set and a disabling one has it clear, and the other fields are the word's. -/
theorem queuesAreEnabledAndDisabled : Obligations.QueuesAreEnabledAndDisabled := by
  unfold Obligations.QueuesAreEnabledAndDisabled
  rintro s s' q v hon rfl
  have hset : bit (v ||| 0x8000_0000) 31 = true := bit_or_of_set (by decide)
  have hclear : bit (v &&& 0x7FFF_FFFF) 31 = false := bit_and_of_clear (by decide)
  have sqOn : exec (.sqEnable q v) s = .next (writeSqCfg (hostArrives s .host) q (v ||| 0x8000_0000)) :=
    porchWrite_of_coreOn hon fun s => writeSqCfg s q (v ||| 0x8000_0000)
  have sqOff : exec (.sqDisable q v) s = .next (writeSqCfg (hostArrives s .host) q (v &&& 0x7FFF_FFFF)) :=
    porchWrite_of_coreOn hon fun s => writeSqCfg s q (v &&& 0x7FFF_FFFF)
  have cqOn : exec (.cqEnable q v) s = .next (writeCqCfg (hostArrives s .host) q (v ||| 0x8000_0000)) :=
    porchWrite_of_coreOn hon fun s => writeCqCfg s q (v ||| 0x8000_0000)
  have cqOff : exec (.cqDisable q v) s = .next (writeCqCfg (hostArrives s .host) q (v &&& 0x7FFF_FFFF)) :=
    porchWrite_of_coreOn hon fun s => writeCqCfg s q (v &&& 0x7FFF_FFFF)
  have sqMask : v &&& 0x7FFF_FFFF &&& 0x800F_3F0F = v &&& (0x000F_3F0F : Word) := BitVec.and_assoc v _ _
  have cqMask : v &&& 0x7FFF_FFFF &&& 0x87FF_031F = v &&& (0x07FF_031F : Word) := BitVec.and_assoc v _ _
  have sqSize : bits (v &&& 0x7FFF_FFFF) 3 0 = bits v 3 0 := bits_and_of_ones (by decide)
  have sqBound : bits (v &&& 0x7FFF_FFFF) 13 8 = bits v 13 8 := bits_and_of_ones (by decide)
  have cqSize : bits (v &&& 0x7FFF_FFFF) 4 0 = bits v 4 0 := bits_and_of_ones (by decide)
  have cqKind : bit (v &&& 0x7FFF_FFFF) 8 = bit v 8 := bit_and_of_set (by decide)
  have sqSize' : bits (v ||| 0x8000_0000) 3 0 = bits v 3 0 := bits_or_of_zeros (by decide)
  have sqBound' : bits (v ||| 0x8000_0000) 13 8 = bits v 13 8 := bits_or_of_zeros (by decide)
  have cqSize' : bits (v ||| 0x8000_0000) 4 0 = bits v 4 0 := bits_or_of_zeros (by decide)
  have cqKind' : bit (v ||| 0x8000_0000) 8 = bit v 8 := bit_or_of_clear (by decide)
  refine ⟨fun hen hlo hhi hev => ?_, fun hen hbad => ?_, fun hen hsz hcq => ?_, fun hen hbad => ?_, fun hen hlo hhi hb => ?_,
    fun hen hbad => ?_, fun hen hsz hk hbusy hheld => ?_, fun hen hbad => ?_, fun hen hidle => ?_⟩
  · rw [sqOn, writeSqCfg_enables hen hset, sqSize', sqBound', if_neg (by simp [hev, hlo, hhi])]
  · rw [sqOn, writeSqCfg_enables hen hset, sqSize', sqBound', if_pos hbad]
  · rw [sqOff, writeSqCfg_enabled hen, sqSize, sqBound, if_neg (by simp [hsz, hcq]), sqMask]
  · rw [sqOff, writeSqCfg_enabled hen, sqSize, sqBound, if_pos hbad]
  · rw [cqOn, writeCqCfg_enables hen hset, cqSize', cqKind', if_neg (by simp_all)]
  · rw [cqOn, writeCqCfg_enables hen hset, cqSize', cqKind', if_pos hbad]
  · rw [cqOff, writeCqCfg_enabled hen hclear, cqSize, cqKind, if_neg (by simp [hsz, hk, hbusy, hheld]), cqMask]
  · rw [cqOff, writeCqCfg_enabled hen hclear, cqSize, cqKind, if_pos hbad]
  · have hnone : (s.porch.flights.any fun f => f.c.sq == q) = false := by simpa using hidle
    exact congrArg Outcome.next (if_pos (by simp [hen, hnone]))

/-! ## Reads and writes by access type -/

section Accesses

variable {s : State} {r : Requester} {a : Nat}

/-- A register that is no claim and not of the key window is read as its access type says (R15, R17). -/
theorem readAccess_plain (hon : s.regOn a = true) (hclaim : claimTarget a = none) (hwindow : isWindow a = false)
    (hlock : a ≠ iceA 0x04) :
    readAccess s r a = if isCounterLow a then (s.readReg r a, latchHigh s a)
      else if isRc a then (s.readReg r a, clearRc s a) else (s.readReg r a, s) := by
  simp [readAccess, hon, hclaim, hwindow, hlock]

theorem readReg_counterLow (hon : s.regOn a = true) (hlow : isCounterLow a = true) : s.readReg r a = low (s.counter a) := by
  simp [State.readReg, hon, hlow]

/-- A high word reads as the latest low read latched it (R17). -/
theorem readReg_counterHigh (hon : s.regOn (a + 4) = true) (hhigh : isCounterLow (a + 4) = false) (hlow : isCounterLow a = true) :
    s.readReg r (a + 4) = tget 0 s.hi a := by
  simp [State.readReg, hon, hhigh, hlow]

/-- A register that answers and has no peak of its own reads 0 after its clearing read. -/
theorem reg_clearRc (hhall : a ≠ 0x0030_002C) (hnear : a ≠ 0x0040_0008) (hfar : a ≠ 0x0040_0014) : (clearRc s a).reg a = 0 := by
  simp [clearRc, hhall, hnear, hfar]

/-- A plain register that answers stores the bits it defines (R15). -/
theorem writeReg_masked {v m : Word} (hon : s.regOn a = true) (hm : rwMask a = some m) : writeReg s r a v = s.setReg a (v &&& m) := by
  simp [writeReg, hon, hm]

theorem writeReg_off {v : Word} (hoff : s.regOn a = false) : writeReg s r a v = s := by
  simp [writeReg, hoff]

/-- PCH_ERR clears the bits written 1 (R15). -/
theorem writeReg_pchErr {v : Word} (hon : s.regOn pchErrA = true) :
    writeReg s r pchErrA v = s.setReg pchErrA (s.reg pchErrA &&& ~~~ v) := by
  have hm : rwMask pchErrA = none := by decide
  simp only [writeReg, hon, hm]
  rfl

end Accesses

/-- Settles O12: reads by the access type of the register, writes by its row. -/
theorem registersReadAndWriteByAccessType : Obligations.RegistersReadAndWriteByAccessType := by
  unfold Obligations.RegistersReadAndWriteByAccessType
  rintro s _ _ r a v rfl rfl
  have read : ∀ p, readAccess (settled (hostArrives s r) a.toNat) r a.toNat = p →
      registerRead s r a.toNat = readOut p.2 r a.toNat p.1 := by
    rintro p rfl
    rfl
  refine ⟨fun hon hrc hlow hclaim hwindow hlock => ⟨?_, reg_clearRc, fun h => ?_, fun h => ?_, fun h => ?_⟩,
    fun hon hlow hclaim hwindow hlock => ⟨?_, fun hon' hhigh => ?_⟩, rfl, fun m hon hm => ?_, fun hon ha => ?_, fun hoff => ?_⟩
  · have plain := readAccess_plain (r := r) hon hclaim hwindow hlock
    simp only [hlow, hrc, Bool.false_eq_true, if_false, if_true] at plain
    exact congrArg Outcome.next (read _ plain)
  · rw [h]; rfl
  · rw [h]; rfl
  · rw [h]; rfl
  · rw [← readReg_counterLow (r := r) hon hlow]
    exact congrArg Outcome.next (read _ ((readAccess_plain hon hclaim hwindow hlock).trans (if_pos hlow)))
  · exact (readReg_counterHigh (s := latchHigh _ _) hon' hhigh hlow).trans (tget_tset_self ..)
  · exact congrArg Outcome.next (writeReg_masked hon hm)
  · exact congrArg Outcome.next ((congrArg (writeReg _ r · v) ha).trans (writeReg_pchErr hon))
  · exact congrArg Outcome.next (writeReg_off hoff)

/-! ## Refused accesses and failed transfers -/

section Transfers

variable {s : State}

/-- The host's first read with the link in L0 ends WAKE_N (R521). -/
theorem readOut_of_wakeN {a : Nat} {v : Word} (hw : s.pwr.wakeN = true) (hl : s.porch.link = .l0) :
    readOut s .host a v =
      { s with pwr := { s.pwr with wakeN := false }, out := Out.read .host a v :: Out.wakeN false :: s.out } := by
  simp [readOut, hw, hl]

/-- A command's transfer goes on with host memory in reach. -/
theorem viaHost_of_reach (hreach : s.hostReach = true) (go : State → State) : viaHost s go = go (belSignal (leaveL1 s)) := by
  simp [viaHost, hreach]

theorem flights_loadWords (s : State) (c : Cmd) (ws : List Word) : (loadWords c ws s).porch.flights = s.porch.flights := by
  unfold loadWords
  induction (ws.take (bits (c.word 7) 13 0)).zipIdx generalizing s with
  | nil => rfl
  | cons w r ih => exact ih _

theorem flights_writeSpace (s : State) (e sp a : Nat) (v : Word) : (writeSpace s e sp a v).porch.flights = s.porch.flights := by
  unfold writeSpace
  split <;> rfl

theorem flights_copyWords (s : State) (c : Cmd) (ws : List Word) : (copyWords c ws s).porch.flights = s.porch.flights := by
  unfold copyWords
  induction (ws.take (bits (c.word 8) 14 0)).zipIdx generalizing s with
  | nil => rfl
  | cons w r ih => exact (ih _).trans (flights_writeSpace ..)

theorem flights_clearRc (s : State) (a : Nat) : (clearRc s a).porch.flights = s.porch.flights := by
  unfold clearRc
  repeat' split
  all_goals rfl

theorem flights_snapClear (s : State) (mask : Word) (n : Nat) : (snapClear s mask n).porch.flights = s.porch.flights := by
  have step : ∀ (t : State) (b : Bool) (a : Nat), (if b then clearRc t a else t).porch.flights = t.porch.flights := by
    intro t b a
    cases b
    · rfl
    · exact flights_clearRc t a
  simp only [snapClear, List.foldl_cons, List.foldl_nil]
  exact (step ..).trans ((step ..).trans (step ..))

theorem flights_telemCopy (s : State) (c : Cmd) (n : Nat) : (telemCopy c n s).porch.flights = s.porch.flights := by
  simp only [telemCopy]
  split
  · exact flights_snapClear ..
  · rfl

/-- A failed transfer completes its command with HOST_DMA where it left the commands in flight (R574). -/
theorem hostDma_of_takes {t : State} {op : BitVec 16} {c : Cmd} (h : s.takes ⟨op, c, 1, 1⟩)
    (ht : t.porch.flights = (s.begun ⟨op, c, 1, 1⟩).porch.flights) :
    hostDma op c t = (pchErr t 2).answer ⟨op, c, 1, 1⟩ stHostDma :=
  finish_of_takes h (by simpa using ht) _

end Transfers

/-- Settles O13: each transfer reaches its failure with the checks passed, and keeps the commands in flight. -/
theorem hostAccessesThatFailOrWake : Obligations.HostAccessesThatFailOrWake := by
  unfold Obligations.HostAccessesThatFailOrWake
  refine fun s => ⟨?refused, ?woken, ?failed⟩
  case refused =>
    rintro _ write beFull a n rfl hbad
    have hrefused : ¬(beFull && (decide (n = 1) || decide (n = 2))) = true := by
      rcases hbad with rfl | ⟨h1, h2⟩
      · simp
      · simp [h1, h2]
    exact if_neg hrefused
  case woken =>
    rintro x a _ rfl rfl hw hl
    exact congrArg Outcome.next (readOut_of_wakeN hw hl)
  case failed =>
    rintro c op _ ht hreach rfl
    have kept : (belSignal (leaveL1 (s.begun ⟨op, c, 1, 1⟩))).porch.flights = (s.begun ⟨op, c, 1, 1⟩).porch.flights := by simp
    have hreach' : ∀ p, (s.begun p).hostReach = true := fun _ => hreach
    have via : ∀ go, viaHost (s.begun ⟨op, c, 1, 1⟩) go = go (belSignal (leaveL1 (s.begun ⟨op, c, 1, 1⟩))) :=
      viaHost_of_reach hreach
    refine ⟨?frame, ?load, ?write, ?read, ?image, ?telem, ?flash⟩
    case frame =>
      rintro rfl ho hp hc
      refine congrArg Outcome.next ((runCmd_of_takes ht ho hp).trans ((checked_of_none hc).trans ((via _).trans ?_)))
      exact hostDma_of_takes ht kept
    case load =>
      rintro rfl ho hp hc
      refine congrArg Outcome.next ((runCmd_of_takes ht ho hp).trans ((checked_of_none hc).trans ((via _).trans ?_)))
      exact hostDma_of_takes ht ((flights_loadWords ..).trans kept)
    case write =>
      rintro rfl ho hp hc
      refine congrArg Outcome.next ((runCmd_of_takes ht ho hp).trans ((checked_of_none hc).trans ((via _).trans ?_)))
      exact hostDma_of_takes ht ((flights_copyWords ..).trans kept)
    case read =>
      rintro rfl ho hp hc _ rfl
      refine congrArg Outcome.next ((runCmd_of_takes ht ho hp).trans ((checked_of_none hc).trans ((via _).trans ?_)))
      exact hostDma_of_takes ht kept
    case image =>
      rintro rfl ho hc _ _ rfl rfl
      refine congrArg Outcome.next ((runCmd_of_takes ht ho rfl).trans ((checked_of_none hc).trans ((via _).trans ?_)))
      exact hostDma_of_takes ht kept
    case telem =>
      rintro rfl ho hc hnone _ rfl
      refine congrArg Outcome.next ((runCmd_of_takes ht (by simpa using ho) rfl).trans ((checked_of_none hc).trans ?_))
      have same : { s.begun ⟨0x0F10, c, 1, 1⟩ with pwr := { (s.begun ⟨0x0F10, c, 1, 1⟩).pwr with telem := none } } =
          s.begun ⟨0x0F10, c, 1, 1⟩ := by rw [← hnone]; rfl
      refine (if_neg (by simp [hreach'])).trans ((congrArg (viaHost · _) same).trans ((via _).trans ?_))
      exact hostDma_of_takes ht ((flights_telemCopy ..).trans kept)
    case flash =>
      rintro rfl ho hc hnone
      refine congrArg Outcome.next ((runCmd_of_takes ht (by simpa using ho) rfl).trans ((checked_of_none hc).trans ?_))
      have same : { s.begun ⟨0x0F20, c, 1, 1⟩ with pwr := { (s.begun ⟨0x0F20, c, 1, 1⟩).pwr with flashing := none } } =
          s.begun ⟨0x0F20, c, 1, 1⟩ := by rw [← hnone]; rfl
      refine (if_neg (by simp [hreach'])).trans ((congrArg (viaHost · _) same).trans ((via _).trans ?_))
      exact hostDma_of_takes ht kept

/-! ## Resets of the Porch -/

/-- No entry is held, no completion queue has run, and every register of the Porch's block but PCH_ERR reads as at reset. -/
def State.porchEmptied (s : State) : Prop :=
  s.porch.held = [] ∧ s.porch.cq = [] ∧ ∀ a, 0x0010_0000 ≤ a → a < 0x0020_0000 → a ≠ pchErrA → s.reg a = regReset a

section Resets

variable {s t : State}

theorem porchEmptied_of_eq (h : s.porchEmptied) (hheld : t.porch.held = s.porch.held) (hcq : t.porch.cq = s.porch.cq)
    (hreg : ∀ a, 0x0010_0000 ≤ a → a < 0x0020_0000 → a ≠ pchErrA → t.reg a = s.reg a) : t.porchEmptied := by
  obtain ⟨h1, h2, h3⟩ := h
  exact ⟨hheld.trans h1, hcq.trans h2, fun a hlo hhi hne => (hreg a hlo hhi hne).trans (h3 a hlo hhi hne)⟩

/-- With the same registers and the same queues the Porch stays empty. -/
theorem porchEmptied_of_regs (h : s.porchEmptied) (hheld : t.porch.held = s.porch.held) (hcq : t.porch.cq = s.porch.cq)
    (hregs : t.regs = s.regs) : t.porchEmptied :=
  porchEmptied_of_eq h hheld hcq fun a _ _ _ => by rw [State.reg, hregs]; rfl

/-- With nothing held, leaving L1 writes nothing. -/
theorem porchEmptied_leaveL1 (h : s.porchEmptied) : (leaveL1 s).porchEmptied := by
  unfold leaveL1
  split
  · have hw : writeHeld { s with porch := { s.porch with link := .l0 } } =
        { s with porch := { s.porch with link := .l0, held := [] } } := by
      simp [writeHeld, h.1]
    rw [hw]
    exact porchEmptied_of_regs h (by simp [h.1]) (by simp) (by simp)
  · exact h

theorem porchEmptied_belSignal (h : s.porchEmptied) : (belSignal s).porchEmptied := by
  have sent : ∀ (u : State) (v : Nat) (x : Option Nat), u.porchEmptied →
      ({ sendMsix u v with bell := { u.bell with hostSent := x } } : State).porchEmptied := by
    intro u v x hu
    unfold sendMsix
    split
    · exact porchEmptied_of_regs hu rfl rfl rfl
    · exact porchEmptied_of_regs hu rfl rfl rfl
  unfold belSignal
  split
  · exact porchEmptied_of_regs h rfl rfl rfl
  · split
    · exact h
    · have hl := porchEmptied_leaveL1 h
      dsimp only
      split
      · exact porchEmptied_of_regs hl rfl rfl rfl
      · exact porchEmptied_of_regs (sent _ _ _ hl) rfl rfl rfl

theorem porchEmptied_bump (h : s.porchEmptied) {a n : Nat} (ha : 0x0020_0000 ≤ a) : (s.bump a n).porchEmptied := by
  have kept : ∀ v, (s.setReg a v).porchEmptied := fun v =>
    porchEmptied_of_eq h rfl rfl fun b _ hb _ => by rw [reg_setReg, if_neg (by omega)]
  unfold State.bump
  dsimp only
  split
  · exact kept _
  · exact kept _

theorem porchEmptied_wakeTarget (h : s.porchEmptied) (n : Nat) : (wakeTarget s n).porchEmptied := by
  have hhost : (wakeHost s).porchEmptied := porchEmptied_of_regs h (by simp) (by simp) (by simp)
  have hbegin : (beginWake s 1 n).porchEmptied := porchEmptied_of_regs h (by simp) (by simp) (by simp)
  have hrise : ∀ r, ({ s with pwr := { s.pwr with rising := r } } : State).porchEmptied := fun _ => h
  unfold wakeTarget
  dsimp only
  repeat' split
  all_goals first
    | assumption
    | exact hrise _
    | exact porchEmptied_bump (by assumption) (by decide)

theorem porchEmptied_wakeHeld (a : State) (h : s.porchEmptied) : (wakeHeld a s).porchEmptied := by
  unfold wakeHeld
  generalize s.bell.pend.filter _ = l
  induction l generalizing s with
  | nil => exact h
  | cons n l ih => exact ih (porchEmptied_wakeTarget h n)

theorem porchEmptied_irqEdges (a : State) (h : s.porchEmptied) : (irqEdges a s).porchEmptied :=
  porchEmptied_of_regs h (by simp) (by simp) (by simp)

theorem porchEmptied_resignal (a : State) (h : s.porchEmptied) : (resignal a s).porchEmptied :=
  porchEmptied_irqEdges a (porchEmptied_belSignal (porchEmptied_wakeHeld a h))

theorem porchEmptied_pulse (h : s.porchEmptied) (n : Nat) : (pulse s n).porchEmptied := by
  have hheld : (wakeHeld s (pendSource s n)).porchEmptied :=
    porchEmptied_wakeHeld s (porchEmptied_of_regs h (by simp) (by simp) (by simp))
  unfold pulse
  dsimp only
  split
  · have hwoken : ∀ b : Bool, (if b then beginWake (wakeHeld s (pendSource s n)) 1 n else wakeHeld s (pendSource s n)).porchEmptied := by
      intro b
      cases b
      · exact hheld
      · exact porchEmptied_of_regs hheld (by simp) (by simp) (by simp)
    exact porchEmptied_irqEdges s (porchEmptied_belSignal (hwoken _))
  · split
    · split
      · exact porchEmptied_of_regs h (by simp) (by simp) (by simp)
      · exact h
    · exact h

theorem porchEmptied_pchErr (h : s.porchEmptied) (b : Nat) : (pchErr s b).porchEmptied :=
  porchEmptied_pulse (s := s.setReg _ _) (porchEmptied_of_eq h rfl rfl fun a _ _ hne => by rw [reg_setReg, if_neg hne]) 32

/-! The link keeps its state while it is not in L1. -/

theorem porch_sendMsix (s : State) (v : Nat) : ∃ p, (sendMsix s v).porch = { s.porch with pba := p } := by
  unfold sendMsix
  split
  · exact ⟨_, rfl⟩
  · exact ⟨_, rfl⟩

/-- Out of L1 a signal to the host changes no more of the Porch than its kept messages. -/
theorem porch_belSignal (h : s.inL1 = false) : ∃ p, (belSignal s).porch = { s.porch with pba := p } := by
  unfold belSignal
  rw [leaveL1_of_not_inL1 h]
  split
  · exact ⟨_, rfl⟩
  · split
    · exact ⟨_, rfl⟩
    · dsimp only
      split
      · exact ⟨_, rfl⟩
      · exact porch_sendMsix _ _

theorem link_belSignal (h : s.inL1 = false) : (belSignal s).porch.link = s.porch.link := by
  obtain ⟨p, hp⟩ := porch_belSignal h
  rw [hp]

theorem held_belSignal (h : s.inL1 = false) : (belSignal s).porch.held = s.porch.held := by
  obtain ⟨p, hp⟩ := porch_belSignal h
  rw [hp]

theorem inL1_of_link (hl : t.porch.link = s.porch.link) (h : s.inL1 = false) : t.inL1 = false := by
  rwa [State.inL1, hl]

theorem link_resignal (a : State) (h : s.inL1 = false) : (resignal a s).porch.link = s.porch.link := by
  simp [resignal, link_belSignal (inL1_of_link (t := wakeHeld a s) (by simp) h)]

theorem held_resignal (a : State) (h : s.inL1 = false) : (resignal a s).porch.held = s.porch.held := by
  simp [resignal, held_belSignal (inL1_of_link (t := wakeHeld a s) (by simp) h)]

/-- Out of L1 a pulse moves neither the link nor a held entry. -/
theorem link_held_pulse (h : s.inL1 = false) (n : Nat) :
    (pulse s n).porch.link = s.porch.link ∧ (pulse s n).porch.held = s.porch.held := by
  have kept : ∀ u : State, u.porch.link = s.porch.link → u.porch.held = s.porch.held →
      (irqEdges s (belSignal u)).porch.link = s.porch.link ∧ (irqEdges s (belSignal u)).porch.held = s.porch.held := by
    intro u hl hh
    simp [link_belSignal (inL1_of_link hl h), held_belSignal (inL1_of_link hl h), hl, hh]
  unfold pulse
  dsimp only
  split
  · apply kept
    · split <;> simp
    · split <;> simp
  · split
    · split <;> simp
    · exact ⟨rfl, rfl⟩

theorem link_pulse (h : s.inL1 = false) (n : Nat) : (pulse s n).porch.link = s.porch.link := (link_held_pulse h n).1

theorem link_pchErr (h : s.inL1 = false) (b : Nat) : (pchErr s b).porch.link = s.porch.link :=
  link_pulse (s := s.setReg _ _) h 32

/-- Every unit but the Porch and the Bellboard keeps its state. -/
def State.sameUnits (s t : State) : Prop :=
  t.objs = s.objs ∧ t.cel = s.cel ∧ t.pan = s.pan ∧ t.hall = s.hall ∧ t.prg = s.prg ∧ t.net = s.net ∧ t.ftb = s.ftb ∧
    t.ice = s.ice ∧ t.hat = s.hat ∧ t.bnd = s.bnd ∧ t.par = s.par ∧ t.dec = s.dec ∧ t.org = s.org ∧ t.enc = s.enc ∧ t.dmb = s.dmb ∧
    t.blv = s.blv

theorem sameUnits_pulse (s : State) (n : Nat) : s.sameUnits (pulse s n) := by simp [State.sameUnits]

theorem sameUnits_abandonLoad (s : State) : s.sameUnits (abandonLoad s) := by
  unfold abandonLoad
  split <;> simp [State.sameUnits]

theorem porch_abandonLoad (s : State) : (abandonLoad s).porch = s.porch := by
  unfold abandonLoad
  split <;> rfl

theorem regs_abandonLoad (s : State) : (abandonLoad s).regs = s.regs := by
  unfold abandonLoad
  split <;> rfl

/-- A register inside a range that is taken out reads as at reset. -/
theorem tget_tdelRange_inside {α : Type} (d : α) {lo hi a : Nat} (hlo : lo ≤ a) (hhi : a < hi) :
    ∀ t : Tab α, tget d (tdelRange t lo hi) a = d
  | [] => rfl
  | (b, v) :: r => by
    have ih := tget_tdelRange_inside d hlo hhi r
    unfold tdelRange at ih ⊢
    rw [List.filter_cons]
    split
    · next hb =>
      have hne : b ≠ a := by
        rintro rfl
        simp only [Bool.or_eq_true, decide_eq_true_eq] at hb
        omega
      rw [tget, if_neg hne, ih]
    · exact ih

end Resets

/-- What a reset of the Porch leaves (R38, R561): an empty Porch, discarded flights, and every unit as it was. -/
def State.afterReset (s : State) (link : Link) (t : State) : Prop :=
  t.porchEmptied ∧ t.porch.sq = [] ∧
    t.porch.flights = (s.porch.flights.filter fun f => !(s.porch.produced.any fun e => retires e f)).map
      (fun f => { f with discard := true }) ∧
    s.sameUnits t ∧ (link = .down → t.porch.link = .down)

section Resets

variable {s t : State} {link : Link}

theorem inL1_of_down (h : s.porch.link = .down) : s.inL1 = false := by simp [State.inL1, h]

/-- A step that keeps the Porch empty, its flights, the units and a link that is down keeps what a reset left. -/
theorem afterReset_of_keeps {u : State} (h : s.afterReset link t) (he : u.porchEmptied) (hsq : u.porch.sq = t.porch.sq)
    (hfl : u.porch.flights = t.porch.flights) (hunits : t.sameUnits u) (hlink : t.porch.link = .down → u.porch.link = .down) :
    s.afterReset link u := by
  obtain ⟨-, h2, h3, h4, h5⟩ := h
  refine ⟨he, hsq.trans h2, hfl.trans h3, ?_, fun hd => hlink (h5 hd)⟩
  simp only [State.sameUnits] at h4 hunits ⊢
  simp only [hunits, h4, and_self]

theorem afterReset_pulse (h : s.afterReset link t) (n : Nat) : s.afterReset link (pulse t n) :=
  afterReset_of_keeps h (porchEmptied_pulse h.1 n) (by simp) (by simp) (sameUnits_pulse t n)
    fun hd => (link_pulse (inL1_of_down hd) n).trans hd

theorem afterReset_abandonLoad (h : s.afterReset link t) : s.afterReset link (abandonLoad t) :=
  afterReset_of_keeps h (porchEmptied_of_regs h.1 (by rw [porch_abandonLoad]) (by rw [porch_abandonLoad]) (regs_abandonLoad t))
    (by rw [porch_abandonLoad]) (by rw [porch_abandonLoad]) (sameUnits_abandonLoad t) (by rw [porch_abandonLoad]; exact id)

theorem afterReset_resignal (a : State) (h : s.afterReset link t) : s.afterReset link (resignal a t) :=
  afterReset_of_keeps h (porchEmptied_resignal a h.1) (by simp) (by simp) (by simp [State.sameUnits])
    fun hd => (link_resignal a (inL1_of_down hd)).trans hd

theorem afterReset_pchErr (h : s.afterReset link t) (b : Nat) : s.afterReset link (pchErr t b) :=
  afterReset_of_keeps h (porchEmptied_pchErr h.1 b) (by simp) (by simp) (by simp [State.sameUnits])
    fun hd => (link_pchErr (inL1_of_down hd) b).trans hd

theorem afterReset_porchReset (s : State) (link : Link) : s.afterReset link (porchReset s link) := by
  unfold porchReset
  refine afterReset_pulse ?_ 34
  have hreset : ∀ t, s.afterReset link t → ∀ b : Bool, s.afterReset link (if b then pchErr t 3 else t) := by
    intro t ht b
    cases b
    · exact ht
    · exact afterReset_pchErr ht 3
  refine hreset _ (afterReset_resignal s (afterReset_abandonLoad ⟨⟨rfl, rfl, ?_⟩, rfl, rfl, ?_, id⟩)) _
  · intro a hlo hhi _
    exact tget_tdelRange_inside _ hlo hhi _
  · simp [State.sameUnits]

end Resets

/-- A pulse leaves a wake that is under way. -/
theorem wake_pulse {s : State} (h : s.pwr.wake.isSome = true) (n : Nat) : (pulse s n).pwr.wake = s.pwr.wake := by
  have hheld : (wakeHeld s (pendSource s n)).pwr.wake = s.pwr.wake := by
    rw [wake_wakeHeld s (by simpa using h)]; simp
  have hbegun : ∀ u c m, u.pwr.wake = s.pwr.wake → (beginWake u c m).pwr.wake = s.pwr.wake := fun u c m hu => by
    rw [beginWake_of_wake _ _ (by rwa [hu]), hu]
  unfold pulse
  dsimp only
  split
  · simp only [irqEdges_keeps, belSignal_keeps]
    split
    · exact hbegun _ _ _ hheld
    · exact hheld
  · split
    · split
      · exact hbegun _ _ _ rfl
      · rfl
    · rfl

/-- Settles O14: the three resets end in what `porchReset` leaves, and PERST_N's rise begins a wake that its pulse keeps. -/
theorem porchResetsLeaveTheDeviceRunning : Obligations.PorchResetsLeaveTheDeviceRunning := by
  unfold Obligations.PorchResetsLeaveTheDeviceRunning
  rintro s _ rfl
  refine ⟨fun i hi => ?_, fun hp => ?_⟩
  · obtain ⟨t, hexec, hreset, hdown, hperst⟩ : ∃ t, exec i s = .next t ∧
        (∃ link, s.afterReset link t) ∧ (i ≠ .flr → t.porch.link = .down) ∧ (i = .perstNAssert → t.porch.perst = true) := by
      have hd := afterReset_porchReset s .down
      simp only [List.mem_cons, List.not_mem_nil, or_false] at hi
      rcases hi with rfl | rfl | rfl
      · exact ⟨_, rfl, ⟨_, afterReset_porchReset s _⟩, fun h => absurd rfl h, nofun⟩
      · exact ⟨_, rfl, ⟨_, afterReset_pulse hd 33⟩, fun _ => (afterReset_pulse hd 33).2.2.2.2 rfl, nofun⟩
      · have hd' := afterReset_pulse (t := { porchReset s .down with
          porch := { (porchReset s .down).porch with perst := true }, pwr := { (porchReset s .down).pwr with wakeN := false } })
          (afterReset_of_keeps hd (porchEmptied_of_regs hd.1 rfl rfl rfl) rfl rfl (by simp [State.sameUnits]) id) 33
        exact ⟨_, rfl, ⟨_, hd'⟩, fun _ => hd'.2.2.2.2 rfl, fun _ => by simp⟩
    obtain ⟨link, ⟨hheld, hcq, hreg⟩, hsq, hfl, hunits, -⟩ := hreset
    refine ⟨t, hexec, hsq, hcq, hheld, hreg, fun f hf => ?_, fun f hf hkept => ?_, hunits, hdown, hperst⟩
    · rw [hfl] at hf
      obtain ⟨g, -, rfl⟩ := List.mem_map.mp hf
      rfl
    · rw [hfl]
      exact List.mem_map.mpr ⟨f, List.mem_filter.mpr ⟨hf, by simpa using hkept⟩, rfl⟩
  · let r : State := { s with porch := { s.porch with perst := false } }
    have hexec : exec .perstNRelease s = .next (pulse (if r.wakeEnabled 3 then beginWake r 3 53 else r) 53) := if_neg (by simp [hp])
    refine ⟨_, hexec, ?_, ?_, fun hen hw hst => ?_⟩
    · split <;> simp [r]
    · split <;> simp [r]
    · have hwoken : (beginWake r 3 53).pwr.wake.isSome = true := by simp [beginWake, r, hw, hst]
      rw [if_pos (show r.wakeEnabled 3 = true from hen), wake_pulse hwoken]
      exact Option.isSome_iff_ne_none.mp hwoken

/-! ## The return to D0 -/

section D0

variable {s t : State} {l : Link}

theorem lowLink_ne_down (l : LowLink) : lowLink l ≠ .down := by cases l <;> decide

/-- A change of the link between two states of which neither is link-down (R71). -/
theorem setLink_up (hs : s.porch.link ≠ .down) (hl : l ≠ .down) (hne : s.porch.link ≠ l) :
    setLink s l = pulse (resignal s { s with porch := { s.porch with link := l } }) 33 := by
  simp [setLink, hne, hl, hs]

/-- In D0 with the link in L0 and nothing held, and with the objects of `s`. -/
def State.resumed (s t : State) : Prop :=
  t.porch.d3hot = false ∧ t.porch.link = .l0 ∧ t.porch.held = [] ∧ t.objs = s.objs

theorem inL1_of_l0 (h : s.porch.link = .l0) : s.inL1 = false := by simp [State.inL1, h]

theorem resumed_of_keeps {u : State} (h : s.resumed t) (hd3 : u.porch.d3hot = t.porch.d3hot) (hlink : u.porch.link = t.porch.link)
    (hheld : u.porch.held = t.porch.held) (hobjs : u.objs = t.objs) : s.resumed u := by
  obtain ⟨h1, h2, h3, h4⟩ := h
  exact ⟨hd3.trans h1, hlink.trans h2, hheld.trans h3, hobjs.trans h4⟩

theorem resumed_sendMsix (h : s.resumed t) (v : Nat) : s.resumed (sendMsix t v) := by
  unfold sendMsix
  split
  · exact resumed_of_keeps h rfl rfl rfl rfl
  · exact resumed_of_keeps h rfl rfl rfl rfl

theorem resumed_setCq (h : s.resumed t) (n : Nat) (q : Cq) : s.resumed (t.setCq n q) := by
  obtain ⟨h1, h2, h3, h4⟩ := h
  exact ⟨h1, h2, h3, h4⟩

theorem resumed_interrupt (h : s.resumed t) (n : Nat) : s.resumed (interrupt t n) := by
  have hstay : ∀ q, leaveL1 (t.setCq n q) = t.setCq n q := fun q => leaveL1_of_not_inL1 (s := t.setCq n q) (inL1_of_l0 h.2.1)
  unfold interrupt
  dsimp only
  split
  · rw [hstay]
    exact resumed_sendMsix (resumed_setCq (resumed_setCq h n _) n _) _
  · exact resumed_setCq h n _

theorem resumed_sendEventsLost (h : s.resumed t) (n : Nat) : s.resumed (sendEventsLost t n) := by
  unfold sendEventsLost
  dsimp only
  split
  · exact resumed_of_keeps h (by simp) (by simp) (by simp) (by simp)
  · exact resumed_of_keeps h (by simp) (by simp) (by simp) (by simp)

theorem resumed_foldl {α : Type} {f : State → α → State} (hf : ∀ t x, s.resumed t → s.resumed (f t x)) (xs : List α) (t : State)
    (h : s.resumed t) : s.resumed (xs.foldl f t) := by
  induction xs generalizing t with
  | nil => exact h
  | cons x xs ih => exact ih (f t x) (hf t x h)

theorem resumed_sendUnmasked (h : s.resumed t) : s.resumed (sendUnmasked t) := by
  unfold sendUnmasked
  split
  · exact resumed_of_keeps h rfl rfl rfl rfl
  · exact h

theorem resumed_resignal (a : State) (h : s.resumed t) : s.resumed (resignal a t) :=
  resumed_of_keeps h (by simp) (link_resignal a (inL1_of_l0 h.2.1)) (held_resignal a (inL1_of_l0 h.2.1)) (by simp)

theorem resumed_pulse (h : s.resumed t) (n : Nat) : s.resumed (pulse t n) := by
  obtain ⟨hlink, hheld⟩ := link_held_pulse (inL1_of_l0 h.2.1) n
  exact resumed_of_keeps h (by simp) hlink hheld (by simp)

/-- The held entries are written with the link in L0. -/
theorem resumed_writeHeld (s : State) : s.resumed (writeHeld { s with porch := { s.porch with d3hot := false, link := .l0 } }) := by
  refine ⟨by simp, by simp, ?_, by simp⟩
  simp only [writeHeld, writeHeldFold_keeps]

end D0

/-- Settles O15: most parts are the event's own equation; the return to D0 resumes the Porch step by step. -/
theorem linkAndPowerStatesOfTheFunction : Obligations.LinkAndPowerStatesOfTheFunction := by
  unfold Obligations.LinkAndPowerStatesOfTheFunction
  intro s
  refine ⟨?low, ?down, ?back, ?trained, ?held, ?d3, ?d0, ?pme⟩
  case low =>
    rintro l _ hup rfl
    refine (if_neg hup).trans ?_
    by_cases hl : s.porch.link = lowLink l
    · simp only [setLink, hl, if_true]
    · rw [setLink_up hup (lowLink_ne_down l) hl, if_neg hl]
  case down =>
    intro hup
    exact congrArg Outcome.next (if_neg hup)
  case back =>
    intro hp hd3 hup
    change execLinkReturnsL0 s = _
    simp [execLinkReturnsL0, hp, hd3, hup]
  case trained =>
    intro hp hd3 hdown
    change execLinkReturnsL0 s = _
    simp [execLinkReturnsL0, hp, hd3, hdown]
  case held =>
    intro hp
    exact if_pos hp
  case d3 =>
    intro e hd3 hup
    exact if_neg (by simp [hd3, hup])
  case d0 =>
    intro hd3 hup
    refine ⟨_, if_neg (by simp [hd3, hup]), ?_⟩
    refine resumed_pulse (resumed_resignal s (resumed_sendUnmasked (resumed_foldl (fun t n ht => ?_) _ _
      (resumed_foldl (fun t n ht => resumed_sendEventsLost ht n) _ _ (resumed_writeHeld s))))) 33
    split
    · exact resumed_interrupt ht n
    · exact ht
  case pme =>
    rintro e _ rfl
    rfl

end Sys2Proof.Machine
end

section
/-!
PROOF. START, STOP and GET_STATE of every range of objects, and the grant of what a START waits for (R62, R65, R66, R246).
-/
namespace Sys2Proof.Machine

open Host

section Families

variable {s : State} {c : Cmd}

/-- START of a hatch-leg fails its first check: its bank's state decides (R246). -/
theorem startLegPort_hatchLeg (ht : s.takes ⟨0x0401, c, 1, 1⟩) (hn : c.num < 8192) (hp : s.legPowered c.num = true)
    (hleg : s.hatchLeg c.num = true) :
    exec (.startLegPort c) s = .next ((s.begun ⟨0x0401, c, 1, 1⟩).answer ⟨0x0401, c, 1, 1⟩
      (if s.legState c.num == .stopped then stBusy else stWrongState)) := by
  have hok : s.rangeFourOk c.num = true := by simp [State.rangeFourOk, legOk, hn]
  have hpow : s.rangeFourPowered c.num = true := by simp [State.rangeFourPowered, hn, hp]
  have hfail : ∀ l, firstFail ((s.begun ⟨0x0401, c, 1, 1⟩).hatchLegStart c.num ++ l) =
      some (if s.legState c.num == .stopped then stBusy else stWrongState) := fun l => if_pos hleg
  change Outcome.next (startCmd ..) = _
  unfold startCmd
  refine congrArg Outcome.next ((runCmd_of_takes ht hok hpow).trans ?_)
  rw [checked, hfail]
  exact finish_of_takes ht rfl _

theorem notReserved_passes {e : Nat} (hr : (s.eng e).reserved = true) : firstFail (s.notReserved e) = none := by
  simp [State.notReserved, firstFail, hr]

/-- START of a hatch whose bank is STOPPED ends at its last check (R246). -/
theorem onHatch_bankObject {op : BitVec 16} (ht : s.takes ⟨op, c, 1, 1⟩) (hp : s.hatchPowered c.num = true) :
    onHatch s op c false 0 = (s.begun ⟨op, c, 1, 1⟩).answer ⟨op, c, 1, 1⟩ stBankObject :=
  (runCmd_of_takes ht rfl hp).trans (finish_of_takes ht rfl _)

end Families

/-- Settles O16: every range's START passes the shared checks and its own. -/
theorem startLeavesTheObjectStarting : Obligations.StartLeavesTheObjectStarting := by
  unfold Obligations.StartLeavesTheObjectStarting
  intro s c hw
  refine ⟨fun ht ho hp hleg hs hc => ?_, fun ht ho hp hs hc => ?_, fun ht ho hp hs => ?_, fun ht ho hp hr hs => ?_,
    fun ht ho hp hs hc => ?_, fun ht ho hp hs hc => ?_, fun ht ho hp hs hc => ?_, fun ht ho hs hc => ?_,
    fun ht ho hp hs hc => ?_, startLegPort_hatchLeg, fun ht hn hp hs => ?_⟩
  · refine congrArg Outcome.next (startCmd_starts ht ho hp hw hs (if_neg (ne_true_of_eq_false hleg)) ?_)
    by_cases hn : c.num < 8192
    · exact (congrArg firstFail (if_pos hn)).trans (hc hn)
    · exact congrArg firstFail (if_neg hn)
  · exact congrArg Outcome.next (startCmd_starts ht ho hp hw hs rfl hc)
  · have hbank : ¬hatchOk c.num = true := by simp [State.bankOk, hatchOk] at ho ⊢; omega
    exact congrArg Outcome.next ((if_neg hbank).trans (startCmd_starts ht ho hp hw hs rfl rfl))
  · exact congrArg Outcome.next (startCmd_starts ht ho hp hw hs (notReserved_passes hr) rfl)
  · exact congrArg Outcome.next (startCmd_starts ht ho hp hw hs rfl hc)
  · exact congrArg Outcome.next (startCmd_starts ht ho hp hw hs rfl hc)
  · exact congrArg Outcome.next (startCmd_starts ht ho hp hw hs rfl hc)
  · exact congrArg Outcome.next (startCmd_starts ht ho rfl hw hs rfl hc)
  · exact congrArg Outcome.next (startCmd_starts ht ho hp hw hs rfl hc)
  · have hhatch : hatchOk c.num = true := by simpa [hatchOk] using hn
    have hexec : exec (.startBank c) s = .next (onHatch s 0x0801 c false 0) := by
      refine congrArg Outcome.next ((if_pos hhatch).trans ?_)
      rw [hs, hw]
      rfl
    exact hexec.trans (congrArg Outcome.next (onHatch_bankObject ht hp))

section Families

variable {s : State} {c : Cmd}

/-- STOP of a hatch-leg has nothing to drain: its bank's state decides (R246). -/
theorem stopLegPort_hatchLeg (h4 : bits (c.word 4) 31 1 = 0) (ht : s.takes ⟨0x0402, c, 1, 1⟩) (hp : s.legPowered c.num = true)
    (hleg : s.hatchLeg c.num = true) :
    exec (.stopLegPort c) s = .next ((s.begun ⟨0x0402, c, 1, 1⟩).answer ⟨0x0402, c, 1, 1⟩
      (if s.legState c.num == .stopped then stOk else stBusy)) := by
  refine (if_pos hleg).trans (congrArg Outcome.next ((runCmd_of_takes ht rfl hp).trans ?_))
  have hst : (s.begun ⟨0x0402, c, 1, 1⟩).legState c.num = s.legState c.num := rfl
  by_cases hs : s.legState c.num = .stopped
  · rw [checked_of_none (by simp only [firstFail, hst, hs, h4]; rfl), hs]
    exact finish_of_takes ht rfl _
  · rw [if_neg (by simpa using hs), checked]
    simp only [firstFail, hst, bne_iff_ne.mpr hs, if_true]
    exact finish_of_takes ht rfl _

end Families

/-- Settles O17: every range's STOP passes the shared checks, and a hatch or a hatch-leg ends at its own. -/
theorem stopDrainsARunningObject : Obligations.StopDrainsARunningObject := by
  unfold Obligations.StopDrainsARunningObject
  intro s c h4
  have pass : ∀ {u v x : State} {a b : Prop}, (a → u = v) ∧ (b → u = x) →
      (a → (Outcome.next u : Outcome State Fault Refusal) = .next v) ∧ (b → (Outcome.next u : Outcome State Fault Refusal) = .next x) :=
    fun h => ⟨fun ha => congrArg _ (h.1 ha), fun hb => congrArg _ (h.2 hb)⟩
  refine ⟨fun ht ho hp hleg => ?_, fun ht ho hp => pass (stopCmd_passes ht ho hp h4 rfl), fun ht ho hp => ?_, fun ht ho hp hr => ?_,
    fun ht ho hp => pass (stopCmd_passes ht ho hp h4 rfl), fun ht ho hp => pass (stopCmd_passes ht ho hp h4 rfl),
    fun ht ho hp => pass (stopCmd_passes ht ho hp h4 rfl), fun ht ho => pass (stopCmd_passes ht ho rfl h4 rfl),
    fun ht ho hp => pass (stopCmd_passes ht ho hp h4 rfl), fun ht _ hp hleg => stopLegPort_hatchLeg h4 ht hp hleg,
    fun ht hn hp hs => ?_⟩
  · have hexec : exec (.stopLegPort c) s = .next (stopCmd s 4 c (s.rangeFourOk c.num) (s.rangeFourPowered c.num) (fun _ => []) id
        fun s ab => if c.num < 8192 then legDrain s c.num ab else if c.num = 0x10100 then reachStopped s 4 c.num
          else portDrain s (c.num - 0x10000) ab) := if_neg (ne_true_of_eq_false hleg)
    rw [hexec]
    exact pass (stopCmd_passes ht ho hp h4 rfl)
  · have hbank : ¬hatchOk c.num = true := by simp [State.bankOk, hatchOk] at ho ⊢; omega
    have hexec : exec (.stopBank c) s = .next (stopCmd s 8 c (s.bankOk c.num) (s.bankPowered (c.num - 0x10000)) (fun _ => [])
        (fun s => s.setBankRun (c.num - 0x10000) {}) fun s ab => bankDrain s (c.num - 0x10000) ab) :=
      congrArg Outcome.next (if_neg hbank)
    rw [hexec]
    exact pass (stopCmd_passes ht ho hp h4 rfl)
  · exact pass (stopCmd_passes ht ho hp h4 (notReserved_passes hr))
  · have hhatch : hatchOk c.num = true := by simpa [hatchOk] using hn
    have hexec : exec (.stopBank c) s = .next (onHatch s 0x0802 c false 0) := by
      refine congrArg Outcome.next ((if_pos hhatch).trans ?_)
      rw [hs, h4]
      rfl
    exact hexec.trans (congrArg Outcome.next (onHatch_bankObject ht hp))

/-- Settles O18: every range answers through the shared GET_STATE, and a hatch or a hatch-leg for its bank. -/
theorem getStateReportsStateAndGeneration : Obligations.GetStateReportsStateAndGeneration := by
  unfold Obligations.GetStateReportsStateAndGeneration
  intro s c hw
  have zero : firstFail [(c.word 4 != 0, stBadField)] = none := by simp [firstFail, hw]
  refine ⟨fun ht ho hleg => ?_, fun ht ho => congrArg Outcome.next (getStateCmd_answers ht ho hw), fun ht hn => ?_,
    fun ht ho => ?_, fun ht hleg => ?_, fun ht ho => congrArg Outcome.next (getStateCmd_answers ht ho hw),
    fun ht ho => congrArg Outcome.next (getStateCmd_answers ht ho hw), fun ht ho => congrArg Outcome.next (getStateCmd_answers ht ho hw),
    fun ht ho => congrArg Outcome.next (getStateCmd_answers ht ho hw), fun ht ho => congrArg Outcome.next (getStateCmd_answers ht ho hw),
    fun ht ho => congrArg Outcome.next (getStateCmd_answers ht ho hw)⟩
  · exact (if_neg (ne_true_of_eq_false hleg)).trans (congrArg Outcome.next (getStateCmd_answers ht ho hw))
  · refine (if_pos hn).trans (congrArg Outcome.next ((runCmd_of_takes ht rfl rfl).trans ((checked_of_none zero).trans ?_)))
    exact complete_of_takes ht rfl ..
  · have hbank : ¬c.num < 96 := by simp [State.bankOk] at ho; omega
    exact (if_neg hbank).trans (congrArg Outcome.next (getStateCmd_answers ht ho hw))
  · refine (if_pos hleg).trans (congrArg Outcome.next ((runCmd_of_takes ht rfl rfl).trans ((checked_of_none zero).trans ?_)))
    exact complete_of_takes ht rfl ..

/-! ## The grant -/

/-- A grant whose checks name a status ends START with it: STOPPED, whatever the undoing leaves as it is. -/
theorem grant_refuses {s : State} {range num : Nat} {c : Cmd} {checks : List (Bool × Status)} {begins undo : State → State} {st : Status}
    (hs : s.starting (objKey range num) = true) (hc : (s.obj (objKey range num)).starter = some c) (hp : s.paused = false)
    (hf : ∀ f ∈ s.porch.flights, f.op = startOp range → f.c = c → f.discard = false) (h : firstFail checks = some st)
    (hobjs : ∀ t, (undo t).objs = t.objs) (hporch : ∀ t, (undo t).porch = t.porch) :
    (grant s range num checks begins undo).stopped (objKey range num) = true ∧
      (grant s range num checks begins undo).porch.produced = s.porch.produced ++ [s.completion ⟨startOp range, c, 1, 1⟩ st 0 0 0 0] := by
  have hgrant : grant s range num checks begins undo = undo ((s.setObj (objKey range num)
      { s.obj (objKey range num) with st := .stopped, starter := none, since := s.cyc }).answer ⟨startOp range, c, 1, 1⟩ st) := by
    unfold grant
    rw [if_pos (by simp [hs, hp]), h]
    simp only [settleStart, hc]
    exact congrArg undo (complete_of_notOvertaken (s := s.setObj _ _) hf st 0 0 0 0)
  rw [hgrant, State.stopped, State.obj, hobjs, hporch]
  refine ⟨?_, rfl⟩
  change (tget {} (tset {} s.objs _ _) _).st == .stopped
  rw [tget_tset_self]
  rfl

/-- Settles O19: the grant is one function of an object's range, number, checks and beginning. -/
theorem theGrantCompletesStart : Obligations.TheGrantCompletesStart := by
  unfold Obligations.TheGrantCompletesStart
  rintro s c waits _ _ hwaits rfl rfl
  have passes : ∀ {range num checks begins undo}, waits range num → firstFail checks = none →
      (Outcome.next (grant s range num checks begins undo) : Outcome State Fault Refusal) =
        .next (begins ((s.toRunning (objKey range num)).answer ⟨startOp range, c, 1, 1⟩ stOk)) := by
    rintro range num checks begins undo h hc
    rw [hwaits] at h
    obtain ⟨hstarting, hstarter, hpaused, hflights⟩ := h
    exact congrArg _ (grant_passes hstarting hstarter hpaused hflights hc)
  have refuses : ∀ {range num checks begins} {undo : State → State}, (∀ t, (undo t).objs = t.objs) → (∀ t, (undo t).porch = t.porch) →
      waits range num → ∀ st, firstFail checks = some st →
      ∃ t, (Outcome.next (grant s range num checks begins undo) : Outcome State Fault Refusal) = .next t ∧
        t.stopped (objKey range num) = true ∧
        t.porch.produced = s.porch.produced ++ [s.completion ⟨startOp range, c, 1, 1⟩ st 0 0 0 0] := by
    rintro range num checks begins undo hobjs hporch h st hc
    rw [hwaits] at h
    obtain ⟨hstarting, hstarter, hpaused, hflights⟩ := h
    exact ⟨_, rfl, grant_refuses hstarting hstarter hpaused hflights hc hobjs hporch⟩
  have kept : ∀ {α : Type} (f : State → α) (t : State), f (id t) = f t := fun _ _ => rfl
  exact ⟨fun n => ⟨passes, refuses (kept _) (kept _)⟩, fun n => passes, passes, fun n => ⟨passes, refuses (kept _) (kept _)⟩,
    fun n => passes, fun n => ⟨passes, refuses (fun _ => rfl) fun _ => rfl⟩, fun n => ⟨passes, refuses (kept _) (kept _)⟩,
    fun n => ⟨passes, refuses (fun _ => rfl) fun _ => rfl⟩, fun n => ⟨passes, refuses (kept _) (kept _)⟩,
    fun n => ⟨passes, refuses (kept _) (kept _)⟩, passes, refuses (kept _) (kept _)⟩


end Sys2Proof.Machine
end

section
/-!
PROOF. The ends of drains: an object that reaches STOPPED, and the time-outs that take it there (R65, R74).
-/
namespace Sys2Proof.Machine

open Host

/-! ## Reaching STOPPED -/

section Stopped

variable {s : State} {range num : Nat}

/-- Commands in flight that no reset discarded complete in order, and no object changes. -/
theorem finishAll_answers (op : BitVec 16) : ∀ (l : List Cmd) (s : State), (∀ f ∈ s.porch.flights, f.discard = false) →
    (finishAll op l s).porch.produced = s.porch.produced ++ l.map (fun c => s.completion ⟨op, c, 1, 1⟩ stOk 0 0 0 0) ∧
      (finishAll op l s).objs = s.objs
  | [], s, _ => by simp [finishAll]
  | c :: r, s, h => by
    have hc : finish s op c stOk = s.answer ⟨op, c, 1, 1⟩ stOk := complete_of_notOvertaken (fun f hf _ _ => h f hf) stOk 0 0 0 0
    obtain ⟨hproduced, hobjs⟩ := finishAll_answers op r (s.answer ⟨op, c, 1, 1⟩ stOk) h
    rw [finishAll, hc, hproduced, hobjs]
    exact ⟨List.append_assoc .., rfl⟩

theorem reachStopped_completes (h : ∀ f ∈ s.porch.flights, f.discard = false) :
    (reachStopped s range num).stopped (objKey range num) = true ∧
    (reachStopped s range num).porch.produced = s.porch.produced ++
      (s.obj (objKey range num)).stoppers.map (fun c => s.completion ⟨stopOp range, c, 1, 1⟩ stOk 0 0 0 0) ∧
    ∀ k, k ≠ objKey range num → (reachStopped s range num).obj k = s.obj k := by
  unfold reachStopped
  dsimp only
  generalize ho : ({ s.obj (objKey range num) with
    st := .stopped, starter := none, stoppers := [], abort := false, since := s.cyc } : ObjRec) = o
  obtain ⟨hproduced, hobjs⟩ := finishAll_answers (stopOp range) (s.obj (objKey range num)).stoppers (s.setObj (objKey range num) o) h
  refine ⟨?_, hproduced, fun k hk => ?_⟩
  · rw [State.stopped, State.obj, hobjs]
    change (tget {} (tset {} s.objs _ o) _).st == .stopped
    rw [tget_tset_self, ← ho]
    rfl
  · rw [State.obj, hobjs]
    exact tget_tset_ne _ _ _ _ hk

/-- A drain whose work has left takes its end, unless the holding buffer is full. -/
theorem drainEnd_of_done {done : Bool} {stop : State → State} (hd : s.draining (objKey range num) = true) (hdone : done = true)
    (hp : s.paused = false) : drainEnd s range num done stop = stop s :=
  if_pos (by simp [hd, hdone, hp])

end Stopped

/-- Settles O20: the shared end of a drain, range by range, and each time-out's own condition. -/
theorem drainingEndsInStopped : Obligations.DrainingEndsInStopped := by
  unfold Obligations.DrainingEndsInStopped
  refine ⟨fun s range num => reachStopped_completes, fun s hp => ?_, fun s => ?_⟩
  · have ends : ∀ {range num done stop}, s.draining (objKey range num) = true → done = true →
        (Outcome.next (drainEnd s range num done stop) : Outcome State Fault Refusal) = .next (stop s) :=
      fun hd hdone => congrArg _ (drainEnd_of_done hd hdone hp)
    refine ⟨fun n => ends, fun n => ends, fun hd => ends hd rfl, fun n => ends, fun n hd => ends hd rfl, fun n => ends,
      fun n hd hcur => ends hd (by simp [hcur]), fun n hd hframe hbusy => ends hd ?_,
      fun n hd hidle hframe => ends hd (by simp [hidle, hframe]), fun n hd hframe => ends hd (by simp [hframe]),
      fun n hd hnow => ends hd (by simp [hnow]), fun hd => ends hd rfl⟩
    simpa [hframe] using hbusy
  · refine ⟨?_, fun p hd ht => congrArg Outcome.next (if_pos ?_), fun e hd ht => congrArg Outcome.next (if_pos ?_),
      fun n hon hd ht => congrArg Outcome.next (if_pos ?_), fun n hrun hd hidle hframe ht => ⟨_, if_pos ?_⟩⟩
    · rintro l _ hd ht rfl
      exact congrArg Outcome.next (if_pos (by simpa using ⟨hd, ht⟩))
    · simpa using ⟨hd, ht⟩
    · simpa using ⟨hd, ht⟩
    · simpa using ⟨⟨hon, hd⟩, ht⟩
    · simpa using ⟨⟨⟨⟨hrun, hd⟩, hidle⟩, hframe⟩, ht⟩

end Sys2Proof.Machine
end

section
/-!
PROOF. The commands and frames of ports and legs (R66, R84-R90, R105, R107, R119).
-/
namespace Sys2Proof.Machine

open Host

/-- Settles O21: each command runs its own effect on the state in which it began. -/
theorem portCommandsHoldTheirPacket : Obligations.PortCommandsHoldTheirPacket := by
  unfold Obligations.PortCommandsHoldTheirPacket
  refine fun s c => ⟨fun p hp ht ho hpow hc => ?_, fun p hp ht ho hpow hc => ?_, fun hn ht hc => ?_⟩
  · have hnum : c.num - 0x10000 = p := by omega
    subst hnum
    refine congrArg Outcome.next ((runCmd_of_takes ht ho hpow).trans ((checked_of_none hc).trans ?_))
    refine finish_of_takes ht ?_ stOk
    rfl
  · have hnum : c.num - 0x10000 = p := by omega
    subst hnum
    refine congrArg Outcome.next ((runCmd_of_takes ht ho hpow).trans ((checked_of_none hc).trans ?_))
    refine finish_of_takes ht ?_ stOk
    rfl
  · refine congrArg Outcome.next ((runCmd_of_takes ht (by simpa using hn) rfl).trans ((checked_of_none hc).trans ?_))
    refine finish_of_takes ht ?_ stOk
    rfl

/-- FRAME_SEND with the host in reach queues the frame where the Hall admits its item. -/
theorem frameSend_sends {s t : State} {c : Cmd} {bytes : List Byte} {ok : Bool} (ht : s.takes ⟨0x0413, c, 1, 1⟩)
    (ho : s.portObjOk c.num = true) (hp : s.portPowered (c.num - 0x10000) = true) (hc : firstFail (s.frameSendChecks c) = none)
    (hreach : s.hostReach = true)
    (hwork : hallWork (belSignal (leaveL1 (s.begun ⟨0x0413, c, 1, 1⟩))) (portFlow (c.num - 0x10000)) 8 = (ok, t)) :
    exec (.frameSend c bytes) s = .next (finish (if ok then sendPort t (c.num - 0x10000)
      (if ptpFrame (bytes.take (bits (c.word 6) 13 0)) then 0 else 4) (Nat.max 60 (bits (c.word 6) 13 0))
      { tstamp := if bit (c.word 6) 16 then some c.tag else none,
        body := 1 :: (bytes.take (bits (c.word 6) 13 0)).map fun b => b.toNat } else t) 0x0413 c stOk) := by
  refine congrArg Outcome.next ((runCmd_of_takes ht ho hp).trans ((checked_of_none hc).trans
    ((viaHost_of_reach (s := s.begun _) hreach _).trans ?_)))
  dsimp only
  rw [hwork]
  dsimp only
  cases ok
  · simp only [Bool.not_false, Bool.false_eq_true, if_true, if_false]
  · simp only [Bool.not_true, Bool.false_eq_true, if_true, if_false]

/-- Settles O22: the command up to its transfer, the links by their conditions, and the parser by its first refusals. -/
theorem framesAndLinksOfPorts : Obligations.FramesAndLinksOfPorts := by
  unfold Obligations.FramesAndLinksOfPorts
  refine fun s => ⟨?send, ?head, fun p hrun hup hs => ?_, fun p hrun => ?_, fun p hup => ?_, ?frame⟩
  case send =>
    intro c bytes p t ok hp ht ho hpow hc hreach hwork
    have hnum : c.num - 0x10000 = p := by omega
    subst hnum
    exact frameSend_sends ht ho hpow hc hreach hwork
  case head =>
    rintro v _ rfl
    exact ⟨fun hon => ⟨congrArg Outcome.next (if_pos hon), rfl⟩, fun hoff => congrArg Outcome.next (if_neg (ne_true_of_eq_false hoff))⟩
  · exact congrArg Outcome.next (if_pos (by simp [hrun, hup, hs]))
  · exact congrArg Outcome.next (if_neg (by simp [hrun]))
  · exact congrArg Outcome.next (if_pos hup)
  case frame =>
    rintro p f t hw hup hs rfl
    refine ⟨congrArg Outcome.next (if_pos ?_), fun hfcs => ?_, fun hfcs hlen => ?_,
      fun hfcs hlen hmac => ?_⟩
    · change (s.working (portKey p) && (s.netPort p).linkUp && s.running) = true
      simp [hw, hup, hs]
    · exact if_pos (by simp [hfcs])
    · exact (if_neg (by simp [hfcs])).trans (if_pos hlen)
    · exact (if_neg (by simp [hfcs])).trans ((if_neg (by omega)).trans (if_pos hmac))

/-- A field of a word left 0 stands for its default. -/
theorem orDefault_toNat (w : Word) (d : Nat) : orDefault w.toNat d = if w = 0 then d else w.toNat := by
  by_cases h : w = 0
  · simp [orDefault, h]
  · have hne : w.toNat ≠ 0 := fun hz => h (BitVec.eq_of_toNat_eq hz)
    rw [orDefault, if_neg hne, if_neg h]

theorem toNat_append_word {n : Nat} (x : BitVec n) (y : Word) : (x ++ y).toNat = x.toNat * 2 ^ 32 + y.toNat := by
  rw [BitVec.toNat_append, ← Nat.shiftLeft_add_eq_or_of_lt y.isLt, Nat.shiftLeft_eq]

/-- Four words side by side are the number that the words make. -/
theorem append_four_words (a b c d : Word) :
    a ++ b ++ c ++ d = BitVec.ofNat 128 (((a.toNat * 2 ^ 32 + b.toNat) * 2 ^ 32 + c.toNat) * 2 ^ 32 + d.toNat) := by
  apply BitVec.eq_of_toNat_eq
  rw [toNat_append_word, toNat_append_word, toNat_append_word, BitVec.toNat_ofNat, Nat.mod_eq_of_lt]
  omega

/-- Settles O23: each command holds its own packet, and LEG_STATS answers from the state in which it began. -/
theorem legCommandsHoldTheirPacket : Obligations.LegCommandsHoldTheirPacket := by
  unfold Obligations.LegCommandsHoldTheirPacket
  refine fun s c ho hp => ⟨fun ht hc => ?_, fun ht hc => ?_, fun ht hc => ?_, fun ht hc => ?_, fun ht hzero => ?_⟩
  · simp only [← orDefault_toNat, append_four_words]
    refine congrArg Outcome.next ((runCmd_of_takes ht ho hp).trans ((checked_of_none hc).trans ?_))
    refine finish_of_takes ht ?_ stOk
    rfl
  · refine congrArg Outcome.next ((runCmd_of_takes ht ho hp).trans ((checked_of_none hc).trans ?_))
    refine finish_of_takes ht ?_ stOk
    rfl
  · refine congrArg Outcome.next ((runCmd_of_takes ht ho hp).trans ((checked_of_none hc).trans ?_))
    refine finish_of_takes ht ?_ stOk
    rfl
  · refine congrArg Outcome.next ((runCmd_of_takes ht ho hp).trans ((checked_of_none hc).trans ?_))
    refine finish_of_takes ht ?_ stOk
    rfl
  · refine congrArg Outcome.next ((runCmd_of_takes ht ho rfl).trans ((checked_of_none (by simp [firstFail, hzero])).trans ?_))
    refine complete_of_takes ht ?_ stOk _ _ _ _
    rfl

end Sys2Proof.Machine
end

section
/-!
PROOF. Connectivity and media of legs (R93-R104, R573).
-/
namespace Sys2Proof.Machine

open Host

/-- Settles O24: a request by the leg it names and how it authenticates, a time-out by its own condition. -/
theorem connectivityOfLegs : Obligations.ConnectivityOfLegs := by
  unfold Obligations.ConnectivityOfLegs
  refine fun s hrun => ⟨fun q l hleg hi hf => ?_, fun q l hleg hbad => ?_, fun q b t hleg hpunt => ?_,
    fun l g hserved hcfg hconn => ⟨fun hst ht => ?_, fun hsil ht => ?_⟩⟩
  · change execStunBindingRequest q s = _
    simp [execStunBindingRequest, hrun, hleg, hi, hf]
  · change execStunBindingRequest q s = _
    rcases hbad with h | h <;> simp [execStunBindingRequest, hrun, hleg, h]
  · change execStunBindingRequest q s = _
    simp only [execStunBindingRequest, hrun, hleg, hpunt, Bool.not_true, Bool.false_eq_true, if_false]
  · change execConsentExpiry l s = _
    simp only [execConsentExpiry, hcfg, hrun, hserved, hconn, hst, ht, decide_true]
    rfl
  · change execSilenceExpiry l s = _
    simp only [execSilenceExpiry, hcfg, hrun, hserved, hconn, ht, decide_true, bne_iff_ne.mpr hsil]
    rfl

/-! ## Packets, playout and reports -/

section Media

variable {s t : State} {l : Nat} {k : Rtp}

/-- A packet of an ACTIVE leg restarts its silence time, and its SSRC says where it goes (R98, R101). -/
theorem rtpPacket_unknown (hconn : (s.legRun l).conn = .active) (hnone : s.recvStream l k.ssrc = none) :
    rtpPacket s l k = unknownSsrc (heardAt s l k.stamp.toNat) l k.ssrc := by
  have hnone' : (heardAt s l k.stamp.toNat).recvStream l k.ssrc = none := hnone
  simp [rtpPacket, hconn, hnone']

/-- The stream's count of a packet that it received. -/
def State.counted (s : State) (l i : Nat) : State := s.setStream l i { s.stream l i with received := (s.stream l i).received + 1 }

theorem rtpPacket_media {i : Nat} {g : StreamCfg} (hconn : (s.legRun l).conn = .active) (hs : s.recvStream l k.ssrc = some (i, g))
    (hkind : g.kind ≠ 2) :
    rtpPacket s l k = commitTo ((heardAt s l k.stamp.toNat).counted l i) l i g k k.seq.toNat := by
  have hs' : (heardAt s l k.stamp.toNat).recvStream l k.ssrc = some (i, g) := hs
  simp [rtpPacket, hconn, hs', hkind, State.counted]

theorem rtpPacket_repair {i : Nat} {g r : StreamCfg} (hconn : (s.legRun l).conn = .active)
    (hs : s.recvStream l k.ssrc = some (i, g)) (hkind : g.kind = 2) (hr : tfind (s.legSet l).streams g.rtxOf = some r)
    (hsend : r.send = false) (hrkind : r.kind ≠ 2) :
    rtpPacket s l k = commitTo ((heardAt s l k.stamp.toNat).counted l i) l g.rtxOf r k k.osn.toNat := by
  have hs' : (heardAt s l k.stamp.toNat).recvStream l k.ssrc = some (i, g) := hs
  have hr' : tfind ((((heardAt s l k.stamp.toNat).counted l i)).legSet l).streams g.rtxOf = some r := hr
  unfold State.counted at hr'
  simp [rtpPacket, hconn, hs', hkind, hr', hsend, hrkind, State.counted]

theorem conn_of_active (h : s.conn l = .active) : (s.legRun l).conn = .active := by
  unfold State.conn at h
  split at h
  · exact h
  · exact absurd h (by decide)

theorem legRun_setLegRun_self (r : LegRun) : (s.setLegRun l r).legRun l = r := tget_tset_self ..

end Media

/-- Settles O25: a packet by its leg and stream, a deadline by its own condition. -/
theorem mediaOfLegs : Obligations.MediaOfLegs := by
  unfold Obligations.MediaOfLegs
  refine fun s hrun => ⟨?packet, fun l k hlive hconn => ?_, fun l i g hg hlive hsend hserved => ⟨fun hkind => ?_, fun hkind => ?_⟩,
    fun l stamp k hlive => ?_, fun l g t hcfg hconn => ⟨fun hdue ht hserved => ?_, fun hdue ht hccfb => ?_⟩⟩
  case packet =>
    rintro l k _ hlive hconn rfl
    have hexec : exec (.jitterBufferCommit l k) s = .next (rtpPacket s l k) :=
      congrArg Outcome.next (if_pos (by simp [hrun, hlive]))
    exact ⟨fun i g hs hkind => hexec.trans (congrArg _ (rtpPacket_media hconn hs hkind)),
      fun i g r hs hkind hr hsend hrkind => hexec.trans (congrArg _ (rtpPacket_repair hconn hs hkind hr hsend hrkind)),
      fun hnone => hexec.trans (congrArg _ (rtpPacket_unknown hconn hnone))⟩
  · refine congrArg Outcome.next ((if_pos (by simp [hrun, hlive])).trans ?_)
    exact if_pos (bne_iff_ne.mpr hconn)
  · change execAudioPlayoutDeadline l i s = _
    simp [execAudioPlayoutDeadline, hg, hrun, hlive, hserved, hsend, hkind]
  · change execVideoPlayoutDeadline l i s = _
    simp [execVideoPlayoutDeadline, hg, hrun, hlive, hserved, hsend, hkind]
  · change execRtcpReceived l stamp k s = _
    by_cases hconn : (s.legRun l).conn = .active
    · simp [execRtcpReceived, hrun, hlive, hconn]
    · simp [execRtcpReceived, hrun, hlive, hconn]
  · refine ⟨_, ?_, rfl, ?_⟩
    · change execRtcpInterval l s = _
      simp [execRtcpInterval, hdue, hcfg, hrun, hserved, conn_of_active hconn, ht]
    · unfold rtcpReports
      dsimp only
      rw [legRun_setLegRun_self]
      rfl
  · refine ⟨sendCcfb s l t, ?_, ?_⟩
    · change execCcfbInterval l s = _
      simp [execCcfbInterval, hdue, hcfg, hrun, hconn, hccfb, ht]
    · unfold sendCcfb
      dsimp only
      rw [legRun_setLegRun_self]

end Sys2Proof.Machine
end

section
/-!
PROOF. The Footbridge: its commands, beacons, peers and frames (R108-R114).
-/
namespace Sys2Proof.Machine

open Host

section Beacons

variable {s : State} {g : FtbCfg} {b : Beacon}

/-- A beacon that the running Footbridge looks at: an own sender is a conflict, one that does not authenticate a failure. -/
theorem beaconReceived_ofBridge (hcfg : s.ftb.cfg = some g) (hrun : s.isRunning ftbKey = true) (hs : s.running = true)
    (hv : b.version = 1) (hb : b.bridge.toNat = g.bridge) :
    exec (.beaconReceived b) s = .next (if !b.auth then authFail s b.src.val
      else if b.src.val = s.cascadeId then
        (if b.uid = Config.deviceUid then s.bump (ftbA 0x0C) 1 else idConflict (s.bump (ftbA 0x0C) 1) b)
      else peerBeacon s g b) := by
  change execBeaconReceived b s = _
  simp only [execBeaconReceived, hcfg, hrun, hs, hv, hb, bne_self_eq_false, Bool.not_true, Bool.or_self, Bool.false_eq_true, if_false]

theorem beaconReceived_ofAnother (hcfg : s.ftb.cfg = some g) (h : b.version ≠ 1 ∨ b.bridge.toNat ≠ g.bridge) :
    exec (.beaconReceived b) s = .next s := by
  have hother : (!s.isRunning ftbKey || !s.running || b.bridge.toNat != g.bridge || b.version != 1) = true := by
    rcases h with h | h
    · rw [bne_iff_ne.mpr h, Bool.or_true]
    · rw [bne_iff_ne.mpr h, Bool.or_true, Bool.true_or]
  change execBeaconReceived b s = _
  simp only [execBeaconReceived, hcfg, hother, if_true]

end Beacons

/-- Settles O26: the commands hold their packets, and each frame goes by its own conditions. -/
theorem footbridgeCommandsAndFrames : Obligations.FootbridgeCommandsAndFrames := by
  unfold Obligations.FootbridgeCommandsAndFrames
  refine fun s => ⟨fun c ht hn hp hc => ?_, fun c ht hn hc => ?_, fun g hcfg hrun hs => ⟨fun hd => ?_, fun b hv hb => ?_,
    fun b hb => beaconReceived_ofAnother hcfg hb⟩, fun p hrun hpres hlast => ?_, fun m hm => ?_, fun m hm hon => ?_⟩
  · refine congrArg Outcome.next ((runCmd_of_takes ht (by simpa using hn) hp).trans ((checked_of_none hc).trans ?_))
    refine finish_of_takes ht ?_ stOk
    rfl
  · refine congrArg Outcome.next ((runCmd_of_takes ht (by simpa using hn) rfl).trans ((checked_of_none hc).trans ?_))
    refine finish_of_takes ht ?_ stOk
    rfl
  · change execBeaconSend s = _
    simp [execBeaconSend, hcfg, hrun, hs, hd]
  · rw [beaconReceived_ofBridge hcfg hrun hs hv hb]
    refine ⟨fun ha hsrc => ?_, fun ha hsrc => ?_, fun ha => ?_⟩
    · rw [if_neg (by simp [ha]), if_neg hsrc]
    · rw [if_neg (by simp [ha]), if_pos hsrc]
    · rw [if_pos (by simp [ha]), authFail]
  · exact congrArg Outcome.next (if_pos (by simp [hrun, hpres, hlast]))
  · exact congrArg Outcome.next (if_neg (by simp [hm]))
  · refine congrArg Outcome.next ((if_neg (by simp [hm])).trans ?_)
    simp only [hon, Bool.and_true, authFail]

end Sys2Proof.Machine
end

section
/-!
PROOF. The Icehouse: the dispatch and the completion of jobs, previous keys and the alarm (R130-R149).
-/
namespace Sys2Proof.Machine

open Host

/-! ## An entry that was put -/

theorem tfind_tins_self {α : Type} (k : Nat) (v : α) : ∀ t : Tab α, (∀ e ∈ t, e.1 ≠ k) → tfind (tins t k v) k = some v
  | [], _ => by simp [tins, tfind]
  | (a, w) :: r, h => by
    have ha : a ≠ k := h (a, w) (by simp)
    unfold tins
    split
    · simp [tfind]
    · simp [tfind, ha, tfind_tins_self k v r fun e he => h e (by simp [he])]

theorem ne_of_mem_tdel {α : Type} (k : Nat) : ∀ (t : Tab α), ∀ e ∈ tdel t k, e.1 ≠ k
  | [], e, he => by simp [tdel] at he
  | (a, v) :: r, e, he => by
    unfold tdel at he
    split at he
    · exact ne_of_mem_tdel k r e he
    · next ha =>
      rcases List.mem_cons.mp he with rfl | he
      · exact ha
      · exact ne_of_mem_tdel k r e he

/-- An entry is found where it was put. -/
theorem tfind_tput_self {α : Type} (t : Tab α) (k : Nat) (v : α) : tfind (tput t k v) k = some v :=
  tfind_tins_self k v _ (ne_of_mem_tdel k t)

/-- A table made of a range holds each number's value. -/
theorem tget_map_range {α : Type} (d : α) (f : Nat → α) {n m : Nat} (h : m < n) : tget d ((List.range n).map fun i => (i, f i)) m = f m := by
  have scan : ∀ l : List Nat, m ∈ l → tget d (l.map fun i => (i, f i)) m = f m := by
    intro l
    induction l with
    | nil => intro hm; cases hm
    | cons a r ih =>
      intro hm
      by_cases ha : a = m
      · simp [tget, ha]
      · have hr : m ∈ r := by
          rcases List.mem_cons.mp hm with rfl | hm
          · exact absurd rfl ha
          · exact hm
        simpa [tget, ha] using ih hr
  exact scan _ (List.mem_range.mpr h)

/-! ## Dispatch -/

section Jobs

variable {s t : State} {core : Nat} {r : JobReq}

/-- A packet job on a slot without a key is counted, and no core takes it (R132). -/
theorem dispatchJob_noKey (hkind : r.kind ≠ .direct) (hmat : (s.slot r.slot).mat = none) :
    dispatchJob s core r = s.bump (iceA 0x18) 1 := by
  simp [dispatchJob, hkind, hmat]

/-- A receive job goes into its core with the slot's key and generation of that moment (R136). -/
theorem dispatchJob_receive {m : KeyMat} (hkind : r.kind ≠ .direct) (hsend : sends r.kind = false) (hmat : (s.slot r.slot).mat = some m) :
    ∃ j, tfind (dispatchJob s core r).ice.cores core = some j ∧ j.req = r ∧ j.mat = m ∧ j.gen = (s.slot r.slot).gen := by
  simp only [dispatchJob, hkind, hmat, hsend, Bool.false_and, Bool.false_eq_true, if_false]
  exact ⟨_, tfind_tput_self _ _ _, rfl, rfl, rfl⟩

/-- An idle core of a domain that is on takes the job that comes next by the classes (R130). -/
theorem iceJobDispatch_takes {core : Fin 16} {jobs q : List JobReq} (hs : s.running = true) (hd : s.dom 72 = true)
    (hidle : tfind s.ice.cores core = none)
    (hq : q = s.ice.queue ++ jobs.filter (fun r => r.kind != .direct && r.kind != .ftbSend)) (hr : pickJob s.ice.since3 q = some r) :
    exec (.iceJobDispatch core jobs) s = .next (dispatchJob { s with ice := { s.ice with
      queue := q.erase r, since3 := if r.cls.val = 3 then 0 else s.ice.since3 + 1 } } core r) := by
  subst hq
  change execIceJobDispatch core jobs s = _
  simp [execIceJobDispatch, hs, hd, hidle, hr]

/-! ## The alarm (R148, R149) -/

theorem closeBad_keeps (s : State) (p : Producer) :
    (closeBad s p).ice = s.ice ∧ (closeBad s p).gate = s.gate ∧ (closeBad s p).pwr = s.pwr := by
  unfold closeBad
  split
  · exact ⟨rfl, rfl, rfl⟩
  · simp [giveCells, State.closeOpen]

theorem endPackets_keeps (st : Status) : ∀ (l : List JobReq) (s : State),
    (l.foldl (fun s r => endPacket s r st) s).ice = s.ice ∧ (l.foldl (fun s r => endPacket s r st) s).gate = s.gate ∧
      (l.foldl (fun s r => endPacket s r st) s).pwr = s.pwr
  | [], _ => ⟨rfl, rfl, rfl⟩
  | r :: l, s => endPackets_keeps st l (endPacket s r st)

/-- With every slot named, no job is left. -/
theorem endJobs_all (s : State) (st : Status) :
    (endJobs s (fun _ => true) st).ice.cores = [] ∧ (endJobs s (fun _ => true) st).ice.queue = [] ∧
      (endJobs s (fun _ => true) st).gate = s.gate ∧ (endJobs s (fun _ => true) st).pwr = s.pwr := by
  have dropped : (dropJobs s fun _ => true).ice.cores = [] ∧ (dropJobs s fun _ => true).ice.queue = [] ∧
      (dropJobs s fun _ => true).gate = s.gate ∧ (dropJobs s fun _ => true).pwr = s.pwr := by
    unfold dropJobs
    dsimp only
    split
    · simp [closeBad_keeps]
    · simp
  unfold endJobs
  dsimp only
  split
  · simp [endDirect, endPackets_keeps, dropped]
  · simp [endPackets_keeps, dropped]

/-- An alarm has latched its cause, erased every slot and left no job. -/
def State.alarmErased (t : State) (cause : Nat) : Prop :=
  t.gate.alarm.getLsbD cause = true ∧ t.ice.alarmed = true ∧ t.ice.cores = [] ∧ t.ice.queue = [] ∧
    ∀ n, n < 16384 → (t.slot n).mat = none

theorem alarmErased_of_keeps {cause : Nat} {u : State} (h : t.alarmErased cause) (hice : u.ice = t.ice)
    (hgate : u.gate.alarm = t.gate.alarm) : u.alarmErased cause := by
  unfold State.alarmErased State.slot at h ⊢
  rw [hice, hgate]
  exact h

theorem alarmErased_slots {cause : Fin 5} {f : Nat → KeySlot} (hgate : s.gate.alarm.getLsbD cause = true) (hc : s.ice.cores = [])
    (hq : s.ice.queue = []) (hf : ∀ n, (f n).mat = none) (e : Bool) :
    State.alarmErased { s with ice := { s.ice with
      slots := (List.range 16384).map (fun n => (n, f n)), alarmed := true, entropy := e } } cause := by
  refine ⟨hgate, rfl, hc, hq, fun n hn => ?_⟩
  unfold State.slot
  rw [tget_map_range _ _ hn]
  exact hf n

/-- In Run, with no state being entered, no wake source acts (R519). -/
theorem wakeAllowed_of_running {b : Nat} (hs : s.running = true) (hent : s.pwr.entering = none) : s.wakeAllowed b = false := by
  have hstate : s.pwr.state = 0 := by simpa [State.running] using hs
  simp [State.wakeAllowed, hent, hstate]

/-- A cause's bit is set where it is or'd in. -/
theorem getLsbD_or_twoPow (v : BitVec 5) (cause : Fin 5) : (v ||| BitVec.ofNat 5 (2 ^ cause.val)).getLsbD cause = true := by
  rw [BitVec.getLsbD_or, BitVec.getLsbD_ofNat, Nat.testBit_two_pow_self]
  simp

/-- What an alarm does after it has erased the slots: its event, no wake in Run, and its source. -/
theorem alarmErased_reported {cause : Nat} {w0 w1 w2 w3 w4 : Word}
    (h : t.alarmErased cause ∧ t.running = true ∧ t.pwr.entering = none) :
    (pulse (if (if t.coreOn then event t 0x0513 w0 w1 w2 w3 w4 else t).wakeAllowed 6
      then gateAdvance (beginWake (if t.coreOn then event t 0x0513 w0 w1 w2 w3 w4 else t) 6 48)
      else if t.coreOn then event t 0x0513 w0 w1 w2 w3 w4 else t) 48).alarmErased cause := by
  obtain ⟨h, hs, hent⟩ := h
  have reported : ∀ b : Bool, (if b then event t 0x0513 w0 w1 w2 w3 w4 else t).alarmErased cause ∧
      (if b then event t 0x0513 w0 w1 w2 w3 w4 else t).wakeAllowed 6 = false := by
    intro b
    cases b
    · exact ⟨h, wakeAllowed_of_running hs hent⟩
    · refine ⟨alarmErased_of_keeps h (by simp) (by simp), wakeAllowed_of_running ?_ (by simpa using hent)⟩
      simpa [State.running] using hs
  obtain ⟨herased, hwake⟩ := reported t.coreOn
  rw [hwake]
  exact alarmErased_of_keeps herased (by simp) (by simp)

theorem iceAlarm_erases (cause : Fin 5) (hs : s.running = true) (hent : s.pwr.entering = none) (hd : s.dom 72 = true) :
    ∃ t, exec (.iceAlarm cause) s = .next t ∧ t.alarmErased cause := by
  have hon : s.iceOn = true := by
    have hstate : s.pwr.state = 0 := by simpa [State.running] using hs
    simp [State.iceOn, State.coreOn, hstate, hd]
  refine ⟨_, rfl, alarmErased_reported (Eq.mpr (congrArg
    (fun u : State => u.alarmErased cause ∧ u.running = true ∧ u.pwr.entering = none) (if_pos hon)) ?_)⟩
  obtain ⟨hcores, hqueue, hgate, hpwr⟩ := endJobs_all
    { s with gate := { s.gate with alarm := s.gate.alarm ||| BitVec.ofNat 5 (2 ^ cause.val) } } stAlarm
  generalize endJobs _ _ stAlarm = u at hcores hqueue hgate hpwr ⊢
  dsimp only at hgate hpwr ⊢
  have pulsed : ∀ (b : Prop) [Decidable b] (w : State), (w.alarmErased cause ∧ w.running = true ∧ w.pwr.entering = none) →
      (if b then pulse w 115 else w).alarmErased cause ∧ (if b then pulse w 115 else w).running = true ∧
        (if b then pulse w 115 else w).pwr.entering = none := by
    rintro b _ w ⟨herased, hrun, hnone⟩
    split
    · exact ⟨alarmErased_of_keeps herased (by simp) (by simp), by simpa [State.running] using hrun, by simpa using hnone⟩
    · exact ⟨herased, hrun, hnone⟩
  refine pulsed _ _ ⟨alarmErased_slots ?_ hcores hqueue (fun _ => rfl) _, ?_, ?_⟩
  · rw [hgate]
    exact getLsbD_or_twoPow _ cause
  · simpa [State.running, hpwr] using hs
  · simpa [hpwr] using hent

end Jobs

/-- Settles O29: an idle core's dispatch, a job's completion by its kind, and the alarm. -/
theorem cryptoJobsAndAlarms : Obligations.CryptoJobsAndAlarms := by
  unfold Obligations.CryptoJobsAndAlarms
  refine fun s => ⟨fun core jobs q r hs hd hidle hq hr => ?_, fun core x j t hj ht => ?_, fun n m t hold ht => ?_,
    fun cause hs hent hd => ?_⟩
  · have hexec := iceJobDispatch_takes hs hd hidle hq hr
    refine ⟨hexec, fun m hsend hkind hmat => ?_, fun hkind hmat => hexec.trans (congrArg _ (dispatchJob_noKey hkind hmat))⟩
    obtain ⟨j, hcore, hreq, hjmat, hgen⟩ := dispatchJob_receive (s := { s with ice := { s.ice with
      queue := q.erase r, since3 := if r.cls.val = 3 then 0 else s.ice.since3 + 1 } }) (core := core) hkind hsend hmat
    exact ⟨_, j, hexec, hcore, hreq, hjmat, hgen⟩
  · subst ht
    change (_ → execIceJobComplete core x s = _) ∧ (_ → _ → _ → execIceJobComplete core x s = _) ∧
      (∀ f, _ → _ → _ → execIceJobComplete core x s = _) ∧ (_ → _ → execIceJobComplete core x s = _)
    refine ⟨fun hk => ?_, fun hk hsend hf => ?_, fun f hk hsend hf => ?_, fun hk hsend => ?_⟩
    · simp [execIceJobComplete, hj, hk]
    · simp [execIceJobComplete, hj, hk, hsend, hf]
    · simp [execIceJobComplete, hj, hk, hsend, hf]
    · simp [execIceJobComplete, hj, hk, hsend]
  · change execOldKeyExpiry n s = _
    simp [execOldKeyExpiry, hold, ht]
  · exact iceAlarm_erases cause hs hent hd

end Sys2Proof.Machine
end

section
/-!
PROOF. Conferences: their commands, the block start, decoded frames and coded outputs (R157-R184).
-/
namespace Sys2Proof.Machine

open Host

section Conferences

variable {s t : State} {c : Cmd}

/-- Entries are refused by the settings of conferences and legs alone. -/
theorem loadEntries_begun (p : Packet) (n : Nat) : ∀ (es : List (Nat × RouteEntry)) (k : Nat) (t : List (Nat × RouteEntry)),
    loadEntries (s.begun p) n es k t = loadEntries s n es k t
  | [], _, _ => rfl
  | (l, e) :: r, k, t => by
    have href : (s.begun p).routeRefused n t l e = s.routeRefused n t l e := rfl
    simp only [loadEntries, href, loadEntries_begun p n r]

/-- ROUTE_LOAD writes entries up to the first refused one, and its status says how many stand (R184). -/
theorem routeLoad_answers {k : Nat} {t : List (Nat × RouteEntry)} {bad : Option Status} (ho : confOk c.num = true)
    (hp : s.confPowered c.num = true) (ht : s.takes ⟨0x0720, c, 1, 8⟩) (hc : firstFail (s.routeLoadChecks c) = none)
    (hload : loadEntries s c.num ((List.range (bits (c.word 4) 5 0)).map fun i => routeEntry c i) 0
      ((s.confSet c.num).bank !(s.confSet c.num).active) = (k, t, bad)) :
    exec (.routeLoad c) s = .next (((s.begun ⟨0x0720, c, 1, 8⟩).setConfSet c.num
      ((s.confSet c.num).setBank (!(s.confSet c.num).active) t)).answers ⟨0x0720, c, 1, 8⟩
      (match bad with | none => stOk | some st => if k = 0 then st else stOkPartial) (low k) 0 0 0) := by
  refine congrArg Outcome.next ((runCmd_of_takes ht ho hp).trans ((checked_of_none hc).trans ?_))
  dsimp only
  have hload' : loadEntries (s.begun ⟨0x0720, c, 1, 8⟩) c.num ((List.range (bits (c.word 4) 5 0)).map fun i => routeEntry c i) 0
      (((s.begun ⟨0x0720, c, 1, 8⟩).confSet c.num).bank !((s.begun ⟨0x0720, c, 1, 8⟩).confSet c.num).active) = (k, t, bad) :=
    (loadEntries_begun ..).trans hload
  rw [hload']
  cases bad with
  | none =>
    refine complete_of_takes ht ?_ _ _ _ _ _
    rfl
  | some st =>
    refine complete_of_takes ht ?_ _ _ _ _ _
    rfl

/-- A swap turns the active bank and leaves both banks (R175). -/
theorem swapNow_turns (s : State) (n b : Nat) (fade : Bool) :
    ((swapNow s n b fade).confSet n).active = !(s.confSet n).active ∧ ((swapNow s n b fade).confSet n).bankA = (s.confSet n).bankA ∧
      ((swapNow s n b fade).confSet n).bankB = (s.confSet n).bankB ∧ ((swapNow s n b fade).confRun n).swap = none := by
  simp [swapNow, State.confSet, State.confRun, State.setConfSet, State.setConfRun]

/-- A command's completion changes no conference. -/
theorem bnd_complete (s : State) (op : BitVec 16) (c : Cmd) (st : Status) (r0 r1 r2 r3 : Word) :
    (complete s op c st r0 r1 r2 r3).bnd = s.bnd := by simp

theorem routeSwap_running (ho : confOk c.num = true) (hp : s.confPowered c.num = true) (ht : s.takes ⟨0x0722, c, 1, 1⟩)
    (hc : firstFail (s.routeSwapChecks c) = none) (hrun : s.isRunning (confKey c.num) = true) :
    exec (.routeSwap c) s = .next (((s.begun ⟨0x0722, c, 1, 1⟩).setConfRun c.num { s.confRun c.num with
        swap := some (s.swapBlock c.num (dword (c.word 4) (c.word 5))) }).answers ⟨0x0722, c, 1, 1⟩ stOk
      (low (s.swapBlock c.num (dword (c.word 4) (c.word 5)))) (high (s.swapBlock c.num (dword (c.word 4) (c.word 5))))
      (if (s.confSet c.num).active then 0 else 1) 0) := by
  refine congrArg Outcome.next ((runCmd_of_takes ht ho hp).trans ((checked_of_none hc).trans ?_))
  have hrun' : (s.begun ⟨0x0722, c, 1, 1⟩).isRunning (confKey c.num) = true := hrun
  dsimp only
  rw [if_pos hrun', if_pos hrun']
  refine complete_of_takes ht ?_ _ _ _ _ _
  rfl

theorem routeSwap_stopped (ho : confOk c.num = true) (hp : s.confPowered c.num = true) (ht : s.takes ⟨0x0722, c, 1, 1⟩)
    (hc : firstFail (s.routeSwapChecks c) = none) (hrun : s.isRunning (confKey c.num) = false) :
    ∃ t, exec (.routeSwap c) s = .next t ∧ (t.confSet c.num).active = !(s.confSet c.num).active ∧
      (t.confSet c.num).bankA = (s.confSet c.num).bankA ∧ (t.confSet c.num).bankB = (s.confSet c.num).bankB ∧
      (t.confRun c.num).swap = none := by
  refine ⟨_, congrArg Outcome.next ((runCmd_of_takes ht ho hp).trans (checked_of_none hc)), ?_⟩
  have hrun' : ¬(s.begun ⟨0x0722, c, 1, 1⟩).isRunning (confKey c.num) = true := ne_true_of_eq_false hrun
  dsimp only
  rw [if_neg hrun', if_neg hrun']
  unfold State.confSet State.confRun
  rw [bnd_complete]
  exact swapNow_turns (s.begun ⟨0x0722, c, 1, 1⟩) c.num _ false

/-! ## Decoded and coded frames (R160, R167, R180, R181) -/

/-- Concealing draws free values alone. -/
theorem conceal_keeps {l dur : Nat} {x y : LegAudio} {own smp : List (Int × Int)} (h : conceal s l x dur own = (smp, y, t)) :
    t.regs = s.regs := by
  unfold conceal at h
  repeat' split at h
  all_goals
    obtain ⟨-, -, rfl⟩ := Prod.mk.inj h |>.imp id Prod.mk.inj
  all_goals rfl

/-- A counter reads the same after a count from the same registers. -/
theorem reg_bump_of_regs (h : t.regs = s.regs) (a n : Nat) : (t.bump a n).reg a = (s.bump a n).reg a := by
  have hreg : t.reg a = s.reg a := by rw [State.reg, h]; rfl
  simp only [State.bump, hreg]
  split <;> simp

/-- What a decode that is done leaves of its leg: the job gone, and its samples, unless it was late. -/
def LegAudio.decoded (x : LegAudio) (j : DecJob) (r : List DecJob) (smp : List (Int × Int)) : LegAudio :=
  { x with jobs := r, runs := if j.late then x.runs else x.runs ++ [{ start := j.start, smp := smp }] }

theorem runs_decoded (x : LegAudio) (j : DecJob) (r : List DecJob) (smp : List (Int × Int)) :
    (x.decoded j r smp).runs = x.runs ++ if j.late then [] else [{ start := j.start, smp := smp }] := by
  unfold LegAudio.decoded
  cases j.late <;> simp

theorem audioDecodeDone_heard {l : Fin 8192} {samples : List (Int × Int)} {j : DecJob} {r : List DecJob}
    (hj : (s.legAudio l).jobs = j :: r) (hlost : j.lost = false) :
    exec (.audioDecodeDone l samples false) s = .next (s.setLegAudio l
      (((s.legAudio l).heardFrame ((samples.take j.dur).map fun p => (clip24 p.1, clip24 p.2))).decoded j r
        ((samples.take j.dur).map fun p => (clip24 p.1, clip24 p.2)))) := by
  change execAudioDecodeDone l samples false s = _
  simp only [execAudioDecodeDone, hj, hlost, Bool.or_self, Bool.false_eq_true, if_false]
  rfl

theorem audioDecodeDone_concealed {l : Fin 8192} {samples smp : List (Int × Int)} {j : DecJob} {r : List DecJob} {x : LegAudio}
    (hj : (s.legAudio l).jobs = j :: r)
    (hx : conceal s l (s.legAudio l) j.dur ((samples.take j.dur).map fun p => (clip24 p.1, clip24 p.2)) = (smp, x, t)) :
    ∃ u, exec (.audioDecodeDone l samples true) s = .next u ∧ (u.legAudio l).jobs = r ∧
      (u.legAudio l).runs = x.runs ++ (if j.late then [] else [{ start := j.start, smp := smp }]) ∧
      u.reg (bndA 0x1C) = (s.bump (bndA 0x1C) 1).reg (bndA 0x1C) := by
  let v := (t.setLegAudio l (x.decoded j r smp)).bump (bndA 0x1C) 1
  have hreg : v.reg (bndA 0x1C) = (s.bump (bndA 0x1C) 1).reg (bndA 0x1C) :=
    reg_bump_of_regs (t := t.setLegAudio l (x.decoded j r smp)) (conceal_keeps (t := t) hx) _ _
  have haudio : v.legAudio l = x.decoded j r smp := by
    simp [v, State.legAudio, State.setLegAudio]
  have hexec : exec (.audioDecodeDone l samples true) s = .next (match v.legConf l with
      | some n => v.setConfRun n { v.confRun n with concealed := (v.confRun n).concealed + 1 }
      | none => v) := by
    change execAudioDecodeDone l samples true s = _
    simp only [execAudioDecodeDone, hj, hx, Bool.or_true, if_true]
    change (match v.legConf l with
      | some n => Outcome.next (v.setConfRun n { v.confRun n with concealed := (v.confRun n).concealed + 1 })
      | none => .next v) = _
    cases v.legConf l <;> rfl
  have result : ∀ u : State, u.bnd.legs = v.bnd.legs → u.regs = v.regs → (u.legAudio l).jobs = r ∧
      (u.legAudio l).runs = x.runs ++ (if j.late then [] else [{ start := j.start, smp := smp }]) ∧
      u.reg (bndA 0x1C) = (s.bump (bndA 0x1C) 1).reg (bndA 0x1C) := by
    intro u hlegs hregs
    have hu : u.legAudio l = x.decoded j r smp := by rw [State.legAudio, hlegs]; exact haudio
    refine ⟨by rw [hu]; rfl, by rw [hu, runs_decoded], ?_⟩
    rw [State.reg, hregs]
    exact hreg
  refine ⟨_, hexec, ?_⟩
  cases v.legConf l with
  | none => exact result v rfl rfl
  | some n => exact result _ rfl rfl

theorem audioEncodeDone_coded {n : Fin 1024} {o bytes : Nat} {j : AudioJob} (hj : (tget {} (s.confRun n).outs o).job = some j)
    (ht : t = s.setConfRun n { s.confRun n with outs := tset {} (s.confRun n).outs o { tget {} (s.confRun n).outs o with job := none } }) :
    (j.format.bytes bytes = 0 → exec (.audioEncodeDone n o bytes) s = .next t) ∧
    (∀ ok u, j.format.bytes bytes ≠ 0 → hallWork t (confFlow n) 1 = (ok, u) →
      exec (.audioEncodeDone n o bytes) s = .next (if ok then (j.legs.filter u.hearing).foldl
        (fun u l => sendAudio u l (j.format.bytes bytes) (j.format.stamp j.first)) u else u)) := by
  subst ht
  change (_ → execAudioEncodeDone n o bytes s = _) ∧ (∀ ok u, _ → _ → execAudioEncodeDone n o bytes s = _)
  refine ⟨fun hb => ?_, fun ok u hb hu => ?_⟩
  · simp only [execAudioEncodeDone, hj, hb, if_true]
  · simp only [execAudioEncodeDone, hj, hb, hu, if_false]
    cases ok <;> rfl


end Conferences

/-- Settles O30: each command runs its own effect, and each frame goes by its job. -/
theorem conferencesAndTheirBlocks : Obligations.ConferencesAndTheirBlocks := by
  unfold Obligations.ConferencesAndTheirBlocks
  refine ⟨fun s c ho hp => ⟨fun ht hc => ?_, fun ht hc => ?_, fun k t bad ht hc hload => ?_, fun ht hc => ?_,
      routeSwap_running ho hp, routeSwap_stopped ho hp, fun ht => ?_⟩,
    fun s => ⟨fun hs hb => ⟨?_, rfl⟩, fun hb => ?_, fun l samples own j r hj hown => ⟨fun hlost => ?_, fun smp x t hx => ?_⟩,
      fun n o bytes j t hj ht => audioEncodeDone_coded hj ht, fun n o bytes hj => ?_⟩⟩
  · refine congrArg Outcome.next ((runCmd_of_takes ht ho hp).trans ((checked_of_none hc).trans ?_))
    refine finish_of_takes ht ?_ stOk
    rfl
  · refine congrArg Outcome.next ((runCmd_of_takes ht ho hp).trans ((checked_of_none hc).trans ?_))
    refine finish_of_takes ht ?_ stOk
    rfl
  · refine (routeLoad_answers ho hp ht hc hload).trans ?_
    cases bad <;> rfl
  · refine congrArg Outcome.next ((runCmd_of_takes ht ho hp).trans ((checked_of_none hc).trans ?_))
    refine finish_of_takes ht ?_ stOk
    rfl
  · refine congrArg Outcome.next ((runCmd_of_takes ht ho rfl).trans ?_)
    refine complete_of_takes ht ?_ _ _ _ _ _
    rfl
  · exact if_neg (by simp [hs, hb])
  · exact if_pos (by simp [hb])
  · subst hown
    rw [audioDecodeDone_heard hj hlost]
    unfold LegAudio.decoded
    cases j.late <;> simp [LegAudio.heardFrame]
  · subst hown
    exact audioDecodeDone_concealed hj hx
  · change execAudioEncodeDone n o bytes s = _
    simp only [execAudioEncodeDone, hj]

end Sys2Proof.Machine
end

section
/-!
PROOF. The commands of the Dumbwaiter and the Pergola (R350-R362, R371-R388).
-/
namespace Sys2Proof.Machine

open Host

theorem flights_bump (s : State) (a n : Nat) : (s.bump a n).porch.flights = s.porch.flights := by simp

/-- The WRITE bits choose which shapers of a leg take their new value. -/
theorem shapers_written (x : LegPrg) (on : Nat → Bool) (f : Nat → Shaper) :
    [0, 1, 2, 3].foldl (fun (x : LegPrg) k => if on (k + 1) then x.setSvc k (f (k + 1)) else x)
      (if on 0 then { x with leg := f 0 } else x) =
    { x with leg := if on 0 then f 0 else x.leg, svc0 := if on 1 then f 1 else x.svc0, svc1 := if on 2 then f 2 else x.svc1,
             svc2 := if on 3 then f 3 else x.svc2, svc3 := if on 4 then f 4 else x.svc3 } := by
  simp only [List.foldl_cons, List.foldl_nil, Nat.zero_add, Nat.reduceAdd]
  cases on 0 <;> cases on 1 <;> cases on 2 <;> cases on 3 <;> cases on 4 <;> rfl

/-- FWD_KEYREQ of a RUNNING subscription runs its effect. -/
theorem fwdKeyreq_runs {s : State} {c : Cmd} (ho : subOk c.num = true) (ht : s.takes ⟨0x0D12, c, 1, 1⟩)
    (hrun : s.isRunning (subKey c.num) = true) (hres : bits (c.word 4) 31 3 = 0) :
    exec (.fwdKeyreq c) s = .next (finish (if bits (c.word 4) 2 0 = 0 then s.begun ⟨0x0D12, c, 1, 1⟩
      else askSource (s.begun ⟨0x0D12, c, 1, 1⟩) c.num (bits (c.word 4) 2 0) 3) 0x0D12 c stOk) := by
  have hc : firstFail (s.fwdKeyreqChecks c) = none := by simp [State.fwdKeyreqChecks, firstFail, hrun, hres]
  exact congrArg Outcome.next ((runCmd_of_takes ht ho rfl).trans (checked_of_none hc))

/-- FWD_CEILING stores its ceiling, and a RUNNING subscription is recomputed before the answer. -/
theorem fwdCeiling_stores {s t : State} {c : Cmd} (ho : subOk c.num = true) (ht : s.takes ⟨0x0D11, c, 1, 1⟩)
    (hc : firstFail (s.fwdCeilingChecks c) = none)
    (hx : t = (s.begun ⟨0x0D11, c, 1, 1⟩).setSubCfg c.num { s.subCfg c.num with
      maxS := bits (c.word 4) 1 0, maxT := bits (c.word 4) 3 2, pause := bit (c.word 4) 4 }) {u : State}
    (hu : u = if s.isRunning (subKey c.num) then
      (if (s.subCfg c.num).toPeer then peerTarget t c.num else recompute t (s.subCfg c.num).dest 2) else t) :
    exec (.fwdCeiling c) s = .next (complete u 0x0D11 c stOk (low (u.subPoints c.num)) 0 0 0) := by
  subst hu hx
  exact congrArg Outcome.next ((runCmd_of_takes ht ho rfl).trans (checked_of_none hc))

/-- The commands of a subscription run their effect on the state in which they began. -/
theorem subscriptionCommands_run {s : State} {c : Cmd} (ho : subOk c.num = true) :
    (s.takes ⟨0x0D11, c, 1, 1⟩ → firstFail (s.fwdCeilingChecks c) = none → s.stopped (subKey c.num) = true →
      exec (.fwdCeiling c) s = .next (((s.begun ⟨0x0D11, c, 1, 1⟩).setSubCfg c.num { s.subCfg c.num with
        maxS := bits (c.word 4) 1 0, maxT := bits (c.word 4) 3 2, pause := bit (c.word 4) 4 }).answers ⟨0x0D11, c, 1, 1⟩ stOk
          (low ((s.sub c.num).cur.getD 0 + (s.sub c.num).target.getD 0 * 16)) 0 0 0)) := by
  intro ht hc hstop
  have hrun : s.isRunning (subKey c.num) = false := by
    simp only [State.isRunning, State.stopped, beq_iff_eq] at hstop ⊢
    rw [hstop]; rfl
  rw [fwdCeiling_stores ho ht hc rfl (if_neg (ne_true_of_eq_false hrun)).symm]
  refine congrArg Outcome.next (complete_of_takes ht ?_ _ _ _ _ _)
  rfl

/-- Settles O46: each command runs its own effect on the state in which it began. -/
theorem egressCommands : Obligations.EgressCommands := by
  unfold Obligations.EgressCommands
  refine ⟨fun s c ho => ⟨fun ht hc => ?config, subscriptionCommands_run ho, fun t ht hc hrun hx => ⟨fun hpeer => ?peer, fun hleg => ?leg⟩,
    fun ht hrun hres => ⟨fun hm => ?noMask, fun hm => ?mask⟩, fun ht => ?stats⟩,
    fun s c => ⟨fun ho hp => ⟨fun x ht hc hx => ?shape, fun ht hc => ?queue, fun ht hc => ?police, fun ht hh => ?legStats⟩,
      fun p hn hpres hpow => ?port⟩⟩
  case config =>
    refine congrArg Outcome.next ((runCmd_of_takes ht ho rfl).trans ((checked_of_none hc).trans ?_))
    refine finish_of_takes ht ?_ stOk
    rfl
  case peer => exact fwdCeiling_stores ho ht hc hx ((if_pos hrun).trans (if_pos hpeer)).symm
  case leg => exact fwdCeiling_stores ho ht hc hx ((if_pos hrun).trans (if_neg (ne_true_of_eq_false hleg))).symm
  case noMask =>
    rw [fwdKeyreq_runs ho ht hrun hres, if_pos hm]
    refine congrArg Outcome.next (finish_of_takes ht ?_ stOk)
    rfl
  case mask => rw [fwdKeyreq_runs ho ht hrun hres, if_neg hm]
  case stats =>
    refine congrArg Outcome.next ((runCmd_of_takes ht ho rfl).trans ?_)
    refine complete_of_takes ht ?_ stOk _ _ _ _
    rfl
  case shape =>
    have hsh := hx.trans (shapers_written (s.legPrg c.num) (bit (c.word 4))
      (fun k => writeShaper s (c.word (5 + 2 * k)).toNat (c.word (6 + 2 * k)).toNat)).symm
    subst hsh
    refine congrArg Outcome.next ((runCmd_of_takes ht ho hp).trans ((checked_of_none hc).trans ?_))
    refine finish_of_takes ht ?_ stOk
    exact (flights_bump _ _ _).trans rfl
  case queue =>
    refine congrArg Outcome.next ((runCmd_of_takes ht ho hp).trans ((checked_of_none hc).trans ?_))
    refine (finish_of_takes ht ?_ stOk).trans ?_
    · rfl
    · simp only [qlimitDefault, Bool.or_eq_true, decide_eq_true_eq]
      rfl
  case police =>
    refine congrArg Outcome.next ((runCmd_of_takes ht ho hp).trans ((checked_of_none hc).trans ?_))
    refine finish_of_takes ht ?_ stOk
    rfl
  case legStats =>
    refine congrArg Outcome.next ((runCmd_of_takes ht ho rfl).trans ((checked_of_none
      (show firstFail [(s.hatchLeg c.num, stBusy)] = none by simp [firstFail, hh])).trans ?_))
    refine complete_of_takes ht ?_ stOk _ _ _ _
    rfl
  case port =>
    have hok : s.prgPortOk c.num = true := by simp [State.prgPortOk, hn, hpres]
    have hnum : c.num - 0x10000 = p := by omega
    subst hnum
    refine ⟨fun ht hc => ?_, fun ht hr hb => ?_, fun ht => ?_⟩
    · refine congrArg Outcome.next ((runCmd_of_takes ht hok hpow).trans ((checked_of_none hc).trans ?_))
      refine finish_of_takes ht ?_ stOk
      rfl
    · refine congrArg Outcome.next ((runCmd_of_takes ht hok hpow).trans ((checked_of_none (by simp [firstFail, hr, hb])).trans ?_))
      refine finish_of_takes ht ?_ stOk
      exact (flights_bump _ _ _).trans rfl
    · refine congrArg Outcome.next ((runCmd_of_takes ht hok rfl).trans ?_)
      refine complete_of_takes ht ?_ stOk _ _ _ _
      rfl

end Sys2Proof.Machine
end

section
/-!
PROOF. Packets meet their subscriptions; targets, key requests and repairs (R341-R360).
-/
namespace Sys2Proof.Machine

open Host

/-- A count changes registers alone. -/
theorem bump_eq_regs (s : State) (a n : Nat) : ∃ r, s.bump a n = { s with regs := r } := by
  unfold State.bump
  dsimp only
  split <;> exact ⟨_, rfl⟩

theorem descriptor_isRead {s : State} {k : FwdPkt} (hk : k.kind.val ≠ 1 ∨ (s.legSet k.src).cfg.any (fun g => g.ddId != 0) = true) :
    (k.kind.val != 1 || (((s.legSet k.src).cfg.map fun c => c.ddId).getD 0) != 0) = true := by
  rcases hk with hk | hk
  · simp [hk]
  · cases hcfg : (s.legSet k.src).cfg with
    | none => simp [hcfg] at hk
    | some g => simp [hcfg] at hk; simp [hk]

/-- A packet whose descriptor is read, before its subscriptions: an unreadable descriptor is counted. -/
theorem clonePacket_reads {s t : State} {k : FwdPkt}
    (hk : k.kind.val ≠ 1 ∨ (s.legSet k.src).cfg.any (fun g => g.ddId != 0) = true) (hp : k.padding = false)
    (ht : t = if k.dd = some none then s.bump (dmbA 0x1C) 1 else s) :
    clonePacket s k =
      if t.dmb.wanted.any fun w => w.1 == k.key' && w.2.1 == k.stream && w.2.2.1 == k.seq.toNat then serveRepair (holdPacket t k) k
      else
        let r := (((recordPacket t k).interleaved ((recordPacket t k).takers k)).foldl
          (serveSub (decide (tget 0 (t.src k.key').frame k.stream ≠ k.ts.toNat + 1)) k) (false, recordPacket t k))
        if r.1 then holdPacket r.2 k else r.2 := by
  have hread := descriptor_isRead hk
  unfold clonePacket
  dsimp only
  rw [if_pos hread, if_neg (by simp [hp]), ht]
  rcases hdd : k.dd with _ | (_ | d) <;> rfl

/-- The packet of a source either repairs what a leg still owes, or meets its subscriptions. -/
theorem clonePacket_serves {s t : State} {k : FwdPkt}
    (hk : k.kind.val ≠ 1 ∨ (s.legSet k.src).cfg.any (fun g => g.ddId != 0) = true) (hp : k.padding = false)
    (ht : t = if k.dd = some none then s.bump (dmbA 0x1C) 1 else s) :
    (∀ w ∈ s.dmb.wanted, w.1 = k.key' → w.2.1 = k.stream → w.2.2.1 = k.seq.toNat → clonePacket s k = serveRepair (holdPacket t k) k) ∧
    (∀ made u, (∀ w ∈ s.dmb.wanted, ¬ (w.1 = k.key' ∧ w.2.1 = k.stream ∧ w.2.2.1 = k.seq.toNat)) →
      (s.interleaved (s.takers k)).foldl (serveSub (tget 0 (s.src k.key').frame k.stream != k.ts.toNat + 1) k)
        (false, recordPacket t k) = (made, u) → clonePacket s k = if made then holdPacket u k else u) := by
  obtain ⟨r, hr⟩ : ∃ r, t = { s with regs := r } := by
    rw [ht]
    split
    · exact bump_eq_regs ..
    · exact ⟨s.regs, rfl⟩
  rw [clonePacket_reads hk hp ht]
  subst hr
  refine ⟨fun w hw h1 h2 h3 => if_pos ?_, fun made u hno hfold => (if_neg ?_).trans ?_⟩
  · exact List.any_eq_true.2 ⟨w, hw, by simp [h1, h2, h3]⟩
  · rw [List.any_eq_true]
    rintro ⟨w, hw, hm⟩
    exact hno w hw (by simpa [and_assoc] using hm)
  · have hb : decide (tget 0 (s.src k.key').frame k.stream ≠ k.ts.toNat + 1) =
        (tget 0 (s.src k.key').frame k.stream != k.ts.toNat + 1) := by
      rw [Bool.eq_iff_iff]; simp
    rw [← hb] at hfold
    exact (congrArg (fun r : Bool × State => if r.1 then holdPacket r.2 k else r.2) hfold)

theorem eq_of_lt_eight {a : Nat} (h : a < 8) : a = 0 ∨ a = 1 ∨ a = 2 ∨ a = 3 ∨ a = 4 ∨ a = 5 ∨ a = 6 ∨ a = 7 := by omega

theorem interleaved_pair (s : State) {n m : Nat} (hn : s.subPort n < 8) (hm : s.subPort m < 8) :
    s.interleaved [n, m] = if s.subPort n = s.subPort m ∨ s.subPort n < s.subPort m then [n, m] else [m, n] := by
  unfold State.interleaved
  generalize s.subPort = f at hn hm ⊢
  simp only [List.filter_cons, List.filter_nil]
  generalize f n = a at hn ⊢
  generalize f m = b at hm ⊢
  rcases eq_of_lt_eight hn with rfl | rfl | rfl | rfl | rfl | rfl | rfl | rfl <;>
    rcases eq_of_lt_eight hm with rfl | rfl | rfl | rfl | rfl | rfl | rfl | rfl <;> rfl

theorem recompute_notes (s : State) (l cause : Nat) : tget 0 (recompute s l cause).dmb.redone l = s.now + 1 := by
  simp only [recompute, tget_tset_self]

theorem recompute_of_noSubs {s : State} {l : Nat} (h : s.subsOf l = []) (cause : Nat) :
    recompute s l cause = { s with dmb := { s.dmb with redone := tset 0 s.dmb.redone l (s.now + 1) } } := by
  unfold recompute
  rw [h]
  rfl

theorem targetRecompute_due {s : State} {l : Fin 8192} (hon : s.commonOn = true)
    (h : tget 0 s.dmb.redone l = 0 ∨ tget 0 s.dmb.redone l - 1 + 7056000 ≤ s.now) :
    exec (.targetRecompute l) s = .next (recompute s l 1) :=
  congrArg Outcome.next (if_pos (by simpa [hon] using h))

theorem sub_setSub_self (s : State) (n : Nat) (x : SubRun) : (s.setSub n x).sub n = x := tget_tset_self ..

/-- A subscription that waits since an instant goes on waiting. -/
theorem noteWait_of_waiting {s : State} {n t : Nat} (ha : s.awaits n ≠ .nothing) (hh : s.heldUp n = false)
    (hw : (s.sub n).waitAt = some t) : noteWait s n = s := by
  unfold noteWait
  cases h : s.awaits n with
  | nothing => exact absurd h ha
  | up => simp [hh, hw]
  | indepDown => simp [hw]

/-- The expiry runs on the state that has noted the wait. -/
theorem keyWaitExpiry_runs {s : State} {n : Fin 16384} (hon : s.commonOn = true) (hrun : s.isRunning (subKey n) = true)
    {u : State} (hu : noteWait s n = u) :
    ((u.sub n).waitAt = none → exec (.keyWaitExpiry n) s = .next u) ∧
    (∀ t, (u.sub n).waitAt = some t → exec (.keyWaitExpiry n) s =
      if t + (u.subCfg n).keyWait ≤ u.now then
        .next (askSource (u.setSub n { u.sub n with waitAt := some u.now }) n (2 ^ (pointOf ((u.sub n).target.getD 0)).1) 3)
      else .next u) := by
  change (_ → execKeyWaitExpiry n s = _) ∧ ∀ t, _ → execKeyWaitExpiry n s = _
  unfold execKeyWaitExpiry
  rw [if_neg (by simp [hon, hrun]), hu]
  dsimp only
  exact ⟨fun hw => by rw [hw], fun t hw => by rw [hw]⟩

theorem keyWaitExpiry_repeats {s : State} {n : Fin 16384} (hon : s.commonOn = true) (hrun : s.isRunning (subKey n) = true) :
    (s.awaits n = .nothing → exec (.keyWaitExpiry n) s = .next (s.setSub n { s.sub n with waitAt := none })) ∧
    (∀ t, s.awaits n ≠ .nothing → s.heldUp n = false → (s.sub n).waitAt = some t →
      (t + (s.subCfg n).keyWait ≤ s.now → exec (.keyWaitExpiry n) s = .next
        (askSource (s.setSub n { s.sub n with waitAt := some s.now }) n (2 ^ (pointOf ((s.sub n).target.getD 0)).1) 3)) ∧
      (s.now < t + (s.subCfg n).keyWait → exec (.keyWaitExpiry n) s = .next s)) := by
  refine ⟨fun ha => ?_, fun t ha hh hw => ?_⟩
  · have hn : noteWait s n = s.setSub n { s.sub n with waitAt := none } := by simp only [noteWait, ha]
    exact (keyWaitExpiry_runs hon hrun hn).1 (by rw [sub_setSub_self])
  · rw [(keyWaitExpiry_runs hon hrun (noteWait_of_waiting ha hh hw)).2 t hw]
    exact ⟨fun hdue => if_pos hdue, fun hdue => if_neg (by omega)⟩

theorem nackReceived_one {s : State} (hon : s.commonOn = true) (hrun : s.running = true) (l : Fin 8192) (i : Fin 8) (q : BitVec 16) :
    exec (.nackReceived l i [q]) s = .next (serveNack l i s q) :=
  congrArg Outcome.next (if_pos (by simp [hon, hrun]))

/-- A NACK of one number: unknown, of a stream without RTX, or of a held packet. -/
theorem serveNack_cases (s : State) (l i : Nat) (q : BitVec 16) :
    ((∀ p ∈ (s.send l i).sent, p.seq ≠ q.toNat) → serveNack l i s q = s) ∧
    (∀ p, (s.send l i).sent.find? (fun p => p.seq == q.toNat) = some p → s.rtxOf l i = none →
      serveNack l i s q = s.bump (dmbA 0x24) 1) ∧
    (∀ p, (s.send l i).sent.find? (fun p => p.seq == q.toNat) = some p → (s.rtxOf l i).isSome = true → p.bytes ≠ 0 →
      s.heldPkt p = true → serveNack l i s q = resend s l i p p.bytes) := by
  unfold serveNack
  refine ⟨fun hno => ?_, fun p hp hr => ?_, fun p hp hr hb hh => ?_⟩
  · rw [List.find?_eq_none.2 (by simpa using hno)]
  · rw [hp]; simp [hr]
  · rw [hp]
    obtain ⟨r, hr⟩ := Option.isSome_iff_exists.1 hr
    simp [hr, hb, hh]

theorem dmb_releaseHandle (s : State) (h : Nat) : (releaseHandle s h).dmb = s.dmb := by
  unfold releaseHandle
  split <;> simp [giveCells]

/-- Giving back the handles of packets held leaves the Dumbwaiter's own record. -/
theorem dmb_releaseAll : ∀ (l : List HeldPkt) (s : State),
    (l.foldl (fun s h => match h.handle with | some n => releaseHandle s n | none => s) s).dmb = s.dmb
  | [], _ => rfl
  | a :: r, s => by
    refine (dmb_releaseAll r _).trans ?_
    dsimp only
    cases a.handle
    · rfl
    · exact dmb_releaseHandle ..

theorem retransmitHoldExpiry_releases (s : State) :
    (∃ t, exec .retransmitHoldExpiry s = .next t ∧ t.dmb.held = s.dmb.held.filter fun h => !decide (h.at' + 14112000 ≤ s.now)) ∧
    ((∀ h ∈ s.dmb.held, s.now < h.at' + 14112000) → exec .retransmitHoldExpiry s = .next s) := by
  refine ⟨⟨_, rfl, congrArg (fun d => d.held) (dmb_releaseAll _ _)⟩, fun hall => ?_⟩
  have hold : s.dmb.held.filter (fun h => decide (h.at' + 14112000 ≤ s.now)) = [] :=
    List.filter_eq_nil_iff.2 fun h hh => by have := hall h hh; simp; omega
  have hkept : s.dmb.held.filter (fun h => !decide (h.at' + 14112000 ≤ s.now)) = s.dmb.held :=
    List.filter_eq_self.2 fun h hh => by have := hall h hh; simp; omega
  change execRetransmitHoldExpiry s = _
  simp only [execRetransmitHoldExpiry, hold, hkept]
  rfl

/-- Settles O47: the packet by its first matching branch, the rest by what each event waits for. -/
theorem packetsTargetsAndRepairs : Obligations.PacketsTargetsAndRepairs := by
  unfold Obligations.PacketsTargetsAndRepairs
  refine fun s hon => ⟨fun k t hrun hk => ⟨fun hp => ?pad, fun hp ht => ?packet⟩, fun n m hn hm => interleaved_pair s hn hm,
    fun l hdue => ⟨_, targetRecompute_due hon hdue, recompute_notes s l 1, fun hno => recompute_of_noSubs hno 1⟩,
    fun l h0 hnow => congrArg Outcome.next (if_neg (by simp [h0]; omega)), fun n hrun => keyWaitExpiry_repeats hon hrun,
    fun l i q hrun => ?nack, (retransmitHoldExpiry_releases s).1, (retransmitHoldExpiry_releases s).2⟩
  case pad =>
    refine congrArg Outcome.next ((if_pos (by simp [hon, hrun])).trans ?_)
    have hread := descriptor_isRead hk
    unfold clonePacket
    dsimp only
    rw [if_pos hread, if_pos hp]
  case packet =>
    have hexec : exec (.packetClone k) s = .next (clonePacket s k) := congrArg Outcome.next (if_pos (by simp [hon, hrun]))
    rw [hexec]
    obtain ⟨hwant, hserve⟩ := clonePacket_serves hk hp ht
    exact ⟨fun w hw h1 h2 h3 => congrArg Outcome.next (hwant w hw h1 h2 h3),
      fun made u hno hfold => congrArg Outcome.next (hserve made u hno hfold)⟩
  case nack =>
    rw [nackReceived_one hon hrun]
    obtain ⟨hno, hrtx, hheld⟩ := serveNack_cases s l i q
    exact ⟨fun h => congrArg Outcome.next (hno h), fun p hp hr => congrArg Outcome.next (hrtx p hp hr),
      fun p hp hr hb hh => congrArg Outcome.next (hheld p hp hr hb hh)⟩

end Sys2Proof.Machine
end

section
/-!
PROOF. The load ladder (R403-R408).
-/
namespace Sys2Proof.Machine

open Host

theorem hall_setTarget (s : State) (n cause : Nat) (q : Option Nat) : (setTarget s n cause q).hall = s.hall := by
  unfold setTarget
  dsimp only
  split <;> rfl

theorem hall_peerTarget (s : State) (n : Nat) : (peerTarget s n).hall = s.hall := by
  unfold peerTarget
  dsimp only
  split
  · exact hall_setTarget ..
  · rfl

theorem hall_suspendEvent (s : State) (n est l : Nat) (on : Bool) : (suspendEvent s n est l on).hall = s.hall := by
  simp [suspendEvent]

theorem hall_putPoint (est cause : Nat) (s : State) (e : Nat × Option (Nat × Nat)) : (putPoint est cause s e).hall = s.hall := by
  unfold putPoint
  dsimp only
  split
  · split <;> simp [hall_suspendEvent, hall_setTarget]
  · split <;> simp [hall_suspendEvent, hall_setTarget]
  · exact hall_setTarget ..

/-- A fold of steps that each leave the Hall leaves it. -/
theorem hall_foldl {α : Type} {f : State → α → State} (hf : ∀ s a, (f s a).hall = s.hall) :
    ∀ (l : List α) (s : State), (l.foldl f s).hall = s.hall
  | [], _ => rfl
  | a :: r, s => (hall_foldl hf r (f s a)).trans (hf s a)

theorem hall_recompute (s : State) (l cause : Nat) : (recompute s l cause).hall = s.hall :=
  hall_foldl (hall_putPoint _ _) _ s

theorem hall_ladderMoved (s : State) : (ladderMoved s).hall = s.hall := hall_foldl (fun s l => hall_recompute s l 3) _ s

theorem hall_limit (s : State) (k p n m : Nat) : (s.limit k p n m).2.hall = s.hall := by
  unfold State.limit
  dsimp only
  repeat' split
  all_goals rfl

theorem hall_limitDue (s : State) (k p : Nat) : (s.limitDue k p).2.hall = s.hall := by
  unfold State.limitDue
  split
  · rfl
  · exact hall_limit ..

/-- HALL_DROP takes the lowest dropped priority with it, and leaves the rest of the Hall. -/
theorem hall_hallDropEvent (s : State) (r : Option (Nat × Nat)) :
    ∃ d, (hallDropEvent s r).hall = { s.hall with dropPrio := d } := by
  unfold hallDropEvent
  split
  · refine ⟨15, ?_⟩
    simp
  · exact ⟨s.hall.dropPrio, rfl⟩

/-- The Hall after a sample. -/
theorem hall_hallSample (s : State) : ∃ d, (hallSample s).hall = { s.hall with
    u := s.loadNow, computed := (ladderStep s s.loadNow).1, below := (ladderStep s s.loadNow).2,
    step := Nat.max (ladderStep s s.loadNow).1 s.forceMin, lastBlock := some (s.now / 70560), dropPrio := d } := by
  unfold hallSample
  dsimp only
  obtain ⟨d, hd⟩ := hall_hallDropEvent (State.limitDue _ _ _).2 (State.limitDue _ _ _).1
  refine ⟨d, hd.trans ?_⟩
  rw [hall_limitDue]
  split
  · rfl
  · simp

/-- The Hall after the event is the Hall after its own part of the sample. -/
theorem loadSample_samples {s : State} (hon : s.coreOn = true) (hb : s.hall.lastBlock ≠ some (s.now / 70560)) :
    ∃ t, exec .loadSample s = .next t ∧ t.hall = (hallSample s).hall := by
  refine ⟨_, if_neg (by simp [hon, hb]), ?_⟩
  split
  · rfl
  · exact (hall_foldl hall_peerTarget _ _).trans (hall_ladderMoved _)

/-- The highest step above the present one whose ENTER the sample reaches. -/
theorem risesTo_spec (s : State) (u : Nat) :
    (∀ n, s.risesTo u = some n → s.hall.computed < n ∧ n ≤ 4 ∧ s.enterAt n ≤ u ∧
      ∀ m, s.hall.computed < m → m ≤ 4 → s.enterAt m ≤ u → m ≤ n) ∧
    (s.risesTo u = none → ∀ m, s.hall.computed < m → m ≤ 4 → ¬ s.enterAt m ≤ u) := by
  unfold State.risesTo
  refine ⟨fun n hn => ?_, fun hn m hm h4 hu => ?_⟩
  · have hall : ∀ m, s.hall.computed < m → m ≤ 4 → s.enterAt m ≤ u → m ∈ [4, 3, 2, 1] := by
      intro m hm h4 _
      simp
      omega
    obtain ⟨hp, as, bs, hl, hbefore⟩ := List.find?_eq_some_iff_append.1 hn
    have hn4 : n ∈ [4, 3, 2, 1] := hl ▸ List.mem_append_right _ (List.mem_cons_self ..)
    simp only [Bool.and_eq_true, decide_eq_true_eq] at hp
    refine ⟨hp.1, by simp at hn4; omega, hp.2, fun m hm h4 hu => ?_⟩
    refine Nat.le_of_not_lt fun hlt => ?_
    have hsorted : List.Pairwise (· ≥ ·) (as ++ n :: bs) := hl ▸ (by decide)
    rcases List.mem_append.1 (hl ▸ hall m hm h4 hu) with hin | hin
    · have := hbefore m hin
      simp [hm, hu] at this
    · rcases List.mem_cons.1 hin with rfl | hin
      · omega
      · have := (List.pairwise_cons.1 (List.pairwise_append.1 hsorted).2.1).1 m hin
        omega
  · have := List.find?_eq_none.1 hn m (by simp; omega)
    simp [hm, hu] at this

/-- What a sample does to the computed step. -/
theorem ladderStep_spec (s : State) (u : Nat) :
    (∀ m, s.hall.computed < m → m ≤ 4 → s.enterAt m ≤ u → m ≤ (ladderStep s u).1) ∧
    (s.hall.computed < (ladderStep s u).1 → s.enterAt (ladderStep s u).1 ≤ u ∧ (ladderStep s u).1 ≤ 4) ∧
    ((ladderStep s u).1 < s.hall.computed → (ladderStep s u).1 = s.hall.computed - 1 ∧ u < s.exitAt s.hall.computed ∧
      s.hall.below.getD s.now + s.exitHold ≤ s.now) := by
  obtain ⟨hsome, hnone⟩ := risesTo_spec s u
  unfold ladderStep
  cases hr : s.risesTo u with
  | some n =>
    obtain ⟨hlt, h4, hent, hmax⟩ := hsome n hr
    exact ⟨hmax, fun _ => ⟨hent, h4⟩, fun h => absurd h (by dsimp only; omega)⟩
  | none =>
    have hno := hnone hr
    dsimp only
    split
    case isTrue hb =>
      simp only [Bool.and_eq_true, decide_eq_true_eq] at hb
      split
      case isTrue hh => exact ⟨fun m hm h4 hu => absurd hu (hno m hm h4), fun h => by dsimp only at h; omega, fun _ => ⟨rfl, hb.2, hh⟩⟩
      case isFalse =>
        exact ⟨fun m hm h4 hu => absurd hu (hno m hm h4), fun h => absurd h (Nat.lt_irrefl _), fun h => absurd h (Nat.lt_irrefl _)⟩
    case isFalse =>
      exact ⟨fun m hm h4 hu => absurd hu (hno m hm h4), fun h => absurd h (Nat.lt_irrefl _), fun h => absurd h (Nat.lt_irrefl _)⟩

/-- Settles O50: the sample through the rule of its step, the writes by the core domain. -/
theorem theLoadLadder : Obligations.TheLoadLadder := by
  unfold Obligations.TheLoadLadder
  refine fun s => ⟨fun hon hb => ?sample, fun h => if_pos (by simpa using h), fun r v s' n u hs' hon hu => ?writes,
    fun r v n hoff => ⟨congrArg Outcome.next (if_neg (ne_true_of_eq_false hoff)),
      congrArg Outcome.next (if_neg (ne_true_of_eq_false hoff))⟩⟩
  case sample =>
    obtain ⟨t, ht, hh⟩ := loadSample_samples hon hb
    obtain ⟨d, hd⟩ := hall_hallSample s
    refine ⟨t, ht, ?_⟩
    rw [hh, hd]
    exact ⟨rfl, rfl, rfl, ladderStep_spec s s.loadNow⟩
  case writes =>
    subst hs' hu
    refine ⟨congrArg Outcome.next (if_pos hon), fun hok => congrArg Outcome.next ((if_pos hon).trans (if_pos hok)),
      fun hbad => congrArg Outcome.next ((if_pos hon).trans (if_neg (ne_true_of_eq_false hbad)))⟩

end Sys2Proof.Machine
end

section
/-!
PROOF. What writing packets, giving cells back and reporting errors leave unchanged: every part of the machine but the Pantry, the
Porch's entries, the Pergola's counts, registers and outputs.
-/
namespace Sys2Proof.Machine

open Host

/-- The parts that no operation on packets touches. -/
def State.offPackets (s : State) :=
  (s.pending, s.cyc, s.objs, s.blv, s.cel, s.hall, s.net, s.ftb, s.ice, s.hat, s.bnd, s.par, s.dec, s.org, s.enc, s.dmb,
   s.pwr.state, s.pwr.entering, s.bell.levelStacks)

/-- A fold of steps that each keep a part keeps it. -/
theorem foldl_keeps {α β : Type} {f : State → α → State} {part : State → β} (hf : ∀ s a, part (f s a) = part s) :
    ∀ (l : List α) (s : State), part (l.foldl f s) = part s
  | [], _ => rfl
  | a :: r, s => (foldl_keeps hf r (f s a)).trans (hf s a)

theorem hall_of_offPackets {s t : State} (h : t.offPackets = s.offPackets) : t.hall = s.hall := by
  simp only [State.offPackets, Prod.mk.injEq] at h
  exact h.2.2.2.2.2.1

@[simp] theorem offPackets_bump (s : State) (a n : Nat) : (s.bump a n).offPackets = s.offPackets := by simp [State.offPackets]
@[simp] theorem offPackets_bumpSat (s : State) (a n : Nat) : (s.bumpSat a n).offPackets = s.offPackets := by simp [State.offPackets]
@[simp] theorem offPackets_bump64 (s : State) (a n : Nat) : (s.bump64 a n).offPackets = s.offPackets := by simp [State.offPackets]
@[simp] theorem offPackets_setReg (s : State) (a : Nat) (v : Word) : (s.setReg a v).offPackets = s.offPackets := rfl
@[simp] theorem offPackets_pulse (s : State) (n : Nat) : (pulse s n).offPackets = s.offPackets := by simp [State.offPackets]
@[simp] theorem offPackets_event (s : State) (c : BitVec 16) (o a b d e : Word) : (event s c o a b d e).offPackets = s.offPackets := by
  simp [State.offPackets]
@[simp] theorem offPackets_fresh (s : State) : s.fresh.2.offPackets = s.offPackets := rfl
@[simp] theorem offPackets_setPrg (s : State) (x : Pergola) : State.offPackets { s with prg := x } = s.offPackets := rfl
@[simp] theorem offPackets_setQueue (s : State) (q : Nat) (x : PQueue) : (s.setQueue q x).offPackets = s.offPackets := rfl
@[simp] theorem offPackets_setPool (s : State) (far : Bool) (p : Pool) : (s.setPool far p).offPackets = s.offPackets := by
  cases far <;> rfl
@[simp] theorem offPackets_giveCells (s : State) (far gap : Bool) (n : Nat) : (giveCells s far gap n).offPackets = s.offPackets :=
  offPackets_setPool ..

@[simp] theorem offPackets_emptyQueue (s : State) (q : Nat) : (emptyQueue s q).offPackets = s.offPackets :=
  foldl_keeps (fun s (e : QEntry) => offPackets_giveCells s e.far e.gap e.cells) _ s

@[simp] theorem offPackets_limit (s : State) (k p n m : Nat) : (s.limit k p n m).2.offPackets = s.offPackets := by
  unfold State.limit
  dsimp only
  repeat' split
  all_goals rfl

@[simp] theorem offPackets_poolLow (s : State) (far : Bool) : (poolLow s far).offPackets = s.offPackets := by
  simp [poolLow, apply_ite State.offPackets]

@[simp] theorem offPackets_takeCells (s : State) (far : Bool) : ∀ n, (takeCells s far n).offPackets = s.offPackets
  | 0 => rfl
  | n + 1 => by simp [takeCells, takeCell, offPackets_takeCells s far n]

@[simp] theorem offPackets_newCell (s : State) (far : Bool) (l : List Nat) : (newCell s far l).2.offPackets = s.offPackets := rfl
@[simp] theorem offPackets_newHandle (s : State) (far : Bool) : (newHandle s far).2.offPackets = s.offPackets := rfl
@[simp] theorem offPackets_newCells (far : Bool) : ∀ (n : Nat) (s : State) (l : List Nat), (newCells s far l n).2.offPackets = s.offPackets
  | 0, _, _ => rfl
  | n + 1, s, l => offPackets_newCells far n (newCell s far l).2 ((newCell s far l).1 :: l)

@[simp] theorem offPackets_linkGap (s : State) (q : Nat) (far : Bool) (n : Nat) : (linkGap s q far n).offPackets = s.offPackets := by
  simp [linkGap]

@[simp] theorem offPackets_recordDrop (s : State) (q : Nat) (far : Bool) : (recordDrop s q far).offPackets = s.offPackets := by
  unfold recordDrop
  dsimp only
  split
  · split <;> simp
  · split <;> simp

@[simp] theorem offPackets_flushPending (s : State) (q : Nat) (far : Bool) : (flushPending s q far).offPackets = s.offPackets := by
  unfold flushPending
  dsimp only
  split
  · rfl
  · split <;> simp

@[simp] theorem offPackets_countPoolDrop (s : State) (far : Bool) : (countPoolDrop s far).offPackets = s.offPackets := by
  simp [countPoolDrop]

@[simp] theorem offPackets_queueDropEvent (s : State) (q cause : Nat) : (queueDropEvent s q cause).offPackets = s.offPackets := by
  unfold queueDropEvent
  generalize queueObj q = o
  obtain ⟨obj, svc⟩ := o
  have hl := offPackets_limit s (objKey 0x0611 obj) ctPerSec 1 0
  dsimp only
  generalize State.limit _ _ _ _ _ = r at hl
  obtain ⟨_ | ⟨n, m⟩, t⟩ := r
  · exact hl
  · simpa using hl

@[simp] theorem offPackets_countQueueDrop (s : State) (q cause : Nat) : (countQueueDrop s q cause).offPackets = s.offPackets := by
  unfold countQueueDrop
  dsimp only
  rw [offPackets_queueDropEvent]
  rcases queueLeg q with _ | l
  · rcases queuePort q with _ | p
    · exact offPackets_bump ..
    · dsimp only
      split
      · exact (offPackets_setPrg ..).trans (offPackets_bump ..)
      · exact offPackets_bump ..
  · exact (offPackets_setPrg ..).trans ((offPackets_bump ..).trans (offPackets_bump ..))

/-- A peak changes registers alone. -/
theorem depthPeak_eq_regs (s : State) (q : Nat) : ∃ r, depthPeak s q = { s with regs := r } := by
  unfold depthPeak
  extract_lets b upd
  have hu : ∀ a, ∃ r, upd a = { s with regs := r } := fun a => ⟨_, rfl⟩
  clear_value upd b
  split
  · split
    · exact hu _
    · exact ⟨_, rfl⟩
  · split
    · split
      · exact hu _
      · exact ⟨_, rfl⟩
    · exact ⟨_, rfl⟩

@[simp] theorem offPackets_depthPeak (s : State) (q : Nat) : (depthPeak s q).offPackets = s.offPackets := by
  obtain ⟨r, hr⟩ := depthPeak_eq_regs s q
  rw [hr]
  rfl

@[simp] theorem offPackets_linkPacket (s : State) (q : Nat) (far : Bool) (h b c : Nat) (l : List Nat) (p : Pkt) :
    (linkPacket s q far h b c l p).offPackets = s.offPackets := by
  simp [linkPacket]

@[simp] theorem offPackets_commitCells (s : State) (q : Nat) (far : Bool) (h b c : Nat) (l : List Nat) (p : Pkt) :
    (commitCells s q far h b c l p).offPackets = s.offPackets := by
  simp [commitCells, apply_ite State.offPackets]

@[simp] theorem offPackets_sendPacket (s : State) (q bytes : Nat) (p : Pkt) : (sendPacket s q bytes p).offPackets = s.offPackets := by
  unfold sendPacket
  split
  · simp
  · split <;> simp

@[simp] theorem offPackets_sendLegAt (s : State) (l svc n : Nat) (o : Option Nat) (b : List Nat) :
    (sendLegAt s l svc n o b).offPackets = s.offPackets := offPackets_sendPacket ..
@[simp] theorem offPackets_sendLeg (s : State) (l svc n : Nat) (b : List Nat) : (sendLeg s l svc n b).offPackets = s.offPackets :=
  offPackets_sendPacket ..
@[simp] theorem offPackets_sendRtcp (s : State) (l n : Nat) (b : List Nat) : (sendRtcp s l n b).offPackets = s.offPackets :=
  offPackets_sendPacket ..
@[simp] theorem offPackets_sendPort (s : State) (p k n : Nat) (x : Pkt) : (sendPort s p k n x).offPackets = s.offPackets :=
  offPackets_sendPacket ..

@[simp] theorem offPackets_releaseHandle (s : State) (h : Nat) : (releaseHandle s h).offPackets = s.offPackets := by
  unfold releaseHandle
  split
  · exact offPackets_giveCells ..
  · simp

@[simp] theorem offPackets_writeLoose (s : State) (pool cls n : Nat) : (writeLoose s pool cls n).2.offPackets = s.offPackets := by
  unfold writeLoose
  split
  · simp
  · split
    · simp
    · refine (rfl : State.offPackets _ = State.offPackets _).trans ((offPackets_takeCells _ _ _).trans ?_)
      simp

@[simp] theorem offPackets_logError (s : State) (e : ErrRec) : (logError s e).offPackets = s.offPackets := by
  unfold logError
  dsimp only
  split
  · split
    · exact (offPackets_pulse ..).trans rfl
    · rfl
  · split
    · simp
    · exact (offPackets_pulse ..).trans ((rfl : State.offPackets _ = State.offPackets _).trans (offPackets_bump ..))

@[simp] theorem offPackets_wakeHeld (s0 s : State) : (wakeHeld s0 s).offPackets = s.offPackets := by simp [State.offPackets]
@[simp] theorem offPackets_irqEdges (s0 s : State) : (irqEdges s0 s).offPackets = s.offPackets := by simp [State.offPackets]
@[simp] theorem offPackets_pendSource (s : State) (n : Nat) : (pendSource s n).offPackets = s.offPackets := by simp [State.offPackets]
@[simp] theorem offPackets_leaveL1 (s : State) : (leaveL1 s).offPackets = s.offPackets := by simp [State.offPackets]
@[simp] theorem offPackets_sendMsix (s : State) (v : Nat) : (sendMsix s v).offPackets = s.offPackets := by simp [State.offPackets]

theorem levelStacks_sendMsix (s : State) (v : Nat) : (sendMsix s v).bell.levelStacks = s.bell.levelStacks := by simp

theorem offPackets_setBell (s : State) (b : Bell) (hb : b.levelStacks = s.bell.levelStacks) :
    State.offPackets { s with bell := b } = s.offPackets := by
  simp [State.offPackets, hb]

/-- Marking a double fault. -/
theorem offPackets_marked (s : State) (b : Bell) (g : Gate) (o : List Out) (hb : b.levelStacks = s.bell.levelStacks) :
    State.offPackets { s with bell := b, gate := g, out := o } = s.offPackets := by
  simp [State.offPackets, hb]

@[simp] theorem offPackets_doubleFault (s : State) : (doubleFault s).offPackets = s.offPackets := by
  unfold doubleFault
  extract_lets _ a _ _ b c
  have hb : b.offPackets = s.offPackets :=
    (offPackets_marked a _ _ _ rfl).trans (foldl_keeps offPackets_emptyQueue _ s)
  have hc : c.offPackets = s.offPackets := (offPackets_wakeHeld ..).trans ((offPackets_pendSource ..).trans hb)
  clear_value c
  rw [offPackets_irqEdges]
  split
  · exact hc
  · split
    · exact (offPackets_setBell (sendMsix _ _) _ (levelStacks_sendMsix ..).symm).trans ((offPackets_sendMsix ..).trans ((offPackets_leaveL1 c).trans hc))
    · exact (offPackets_marked c _ _ _ rfl).trans hc

@[simp] theorem offPackets_reportError (s : State) (src : Nat) (sev : Severity) (a b : Word) :
    (reportError s src sev a b).offPackets = s.offPackets := by
  have hl : ∀ e, (logError (s.bumpSat (0x0020_0020 + sevNum sev * 4) 1) e).offPackets = s.offPackets := fun e =>
    (offPackets_logError ..).trans (offPackets_bumpSat ..)
  unfold reportError
  extract_lets t u f o e v
  have hv : v.offPackets = s.offPackets := hl e
  clear_value v
  split
  · exact (offPackets_pulse ..).trans hv
  · split
    · exact (offPackets_pulse ..).trans ((offPackets_marked _ _ _ _ rfl).trans hv)
    · split
      · exact (offPackets_doubleFault v).trans hv
      · exact hv

@[simp] theorem offPackets_reportOpen (s : State) (src : Nat) (sev : Severity) : (reportOpen s src sev).offPackets = s.offPackets :=
  offPackets_reportError ..

end Sys2Proof.Machine
end

section
/-!
PROOF. The flows of the Hall: dispatch, done writes, timers and promotion (R394-R400).
-/
namespace Sys2Proof.Machine

open Host

/-- What reading a flow just stored gives. -/
theorem flow_setFlow_same (s : State) (f : Nat) (x : Flow) : (s.setFlow f x).flow f =
    if x.items.isEmpty && x.active.isNone then { x with join := 0, held := false, item := none } else x :=
  tget_tset_self ..

theorem flow_setFlow_active (s : State) (f : Nat) {x : Flow} (h : x.active.isSome = true) : (s.setFlow f x).flow f = x := by
  rw [flow_setFlow_same, if_neg (by cases hx : x.active <;> simp_all)]

/-- The background list's own times are all that its update changes. -/
theorem bgUpdate_eq (s : State) (g : Nat) :
    ∃ b p, bgUpdate s g = { s with hall := { s.hall with bgSince := b, promote := p } } := by
  unfold bgUpdate
  split
  · split <;> exact ⟨_, _, rfl⟩
  · exact ⟨_, _, rfl⟩

theorem flow_bgUpdate (s : State) (g f : Nat) : (bgUpdate s g).flow f = s.flow f := by
  obtain ⟨b, p, h⟩ := bgUpdate_eq s g
  rw [h]
  rfl

theorem nextJoin_bgUpdate (s : State) (g : Nat) : (bgUpdate s g).hall.nextJoin = s.hall.nextJoin := by
  obtain ⟨b, p, h⟩ := bgUpdate_eq s g
  rw [h]

/-- A part of the machine outside the Hall's background lists. -/
theorem bgUpdate_use (s : State) (g : Nat) :
    (bgUpdate s g).hall.genUse = s.hall.genUse ∧ (bgUpdate s g).hall.studyUse = s.hall.studyUse ∧
    (bgUpdate s g).now = s.now := by
  obtain ⟨b, p, h⟩ := bgUpdate_eq s g
  rw [h]
  exact ⟨rfl, rfl, rfl⟩

/-- An item of a timeout joins its flow behind the others. -/
theorem flow_joinItem (s : State) (f : Nat) (i : Item) :
    ((joinItem s f i).flow f).items = (s.flow f).items ++ [i] ∧ ((joinItem s f i).flow f).active = (s.flow f).active ∧
    ((s.flow f).timer = none → ((joinItem s f i).flow f).timer = none) := by
  unfold joinItem
  dsimp only
  rw [flow_bgUpdate, flow_setFlow_same, if_neg (by simp)]
  exact ⟨rfl, rfl, fun h => by rw [h]⟩

/-- A timer that fires joins its flow as a TIMEOUT item. -/
theorem flow_fireTimer (s : State) (f : Nat) {t : FlowTimer} (ht : (s.flow f).timer = some t) :
    ((fireTimer s f).flow f).timer = none ∧ ((fireTimer s f).flow f).active = (s.flow f).active ∧
    ((fireTimer s f).flow f).items = (s.flow f).items ++ [{ kind := .timeout, prio := t.prio, handle := none, due := t.due }] := by
  have hb : ((s.setFlow f { s.flow f with timer := none }).bump64 (halA 0x90) 1).flow f =
      (s.setFlow f { s.flow f with timer := none }).flow f := by simp [State.flow]
  have hx : ((s.setFlow f { s.flow f with timer := none }).flow f).items = (s.flow f).items ∧
      ((s.setFlow f { s.flow f with timer := none }).flow f).active = (s.flow f).active ∧
      ((s.setFlow f { s.flow f with timer := none }).flow f).timer = none := by
    rw [flow_setFlow_same]
    split <;> exact ⟨rfl, rfl, rfl⟩
  obtain ⟨hitems, hactive, htimer⟩ := hx
  unfold fireTimer
  dsimp only
  rw [ht]
  dsimp only
  obtain ⟨h1, h2, h3⟩ := flow_joinItem ((s.setFlow f { s.flow f with timer := none }).bump64 (halA 0x90) 1) f
    { kind := .timeout, prio := t.prio, handle := none, due := t.due }
  rw [hb] at h1 h2 h3
  exact ⟨h3 htimer, h2.trans hactive, h1.trans (by rw [hitems])⟩

/-- A flow as its done write leaves it: without items it is IDLE. -/
def Flow.released (x : Flow) (n : Nat) : Flow :=
  if x.items = [] then { x with active := none, item := none, join := 0, held := false }
  else { x with active := none, item := none, join := n }

theorem releaseFlow_eq (s : State) (f : Nat) : ∃ h, releaseFlow s f = { s with hall := h } := by
  unfold releaseFlow
  obtain ⟨b, p, h⟩ := bgUpdate_eq _ (flowGroup f)
  exact ⟨_, h⟩

theorem flow_releaseFlow (s : State) (f : Nat) : (releaseFlow s f).flow f = (s.flow f).released s.hall.nextJoin := by
  unfold releaseFlow
  rw [flow_bgUpdate]
  refine (flow_setFlow_same ..).trans ?_
  unfold Flow.released
  by_cases h : (s.flow f).items = []
  · rw [if_pos (by simp [h]), if_pos h]
  · rw [if_neg (by simp [h]), if_neg h]

theorem nextJoin_releaseFlow (s : State) (f : Nat) : (releaseFlow s f).hall.nextJoin = s.hall.nextJoin + 1 := by
  unfold releaseFlow
  rw [nextJoin_bgUpdate]

/-- A flow that stands as its done write left it is stored as it is, whatever its timer. -/
theorem flow_setTimer_released (s : State) (f : Nat) (x : Flow) (n : Nat) (t : Option FlowTimer) :
    (s.setFlow f { x.released n with timer := t }).flow f = { x.released n with timer := t } := by
  rw [flow_setFlow_same]
  unfold Flow.released
  by_cases h : x.items = []
  · simp [h]
  · simp [h]

/-- Arming the timer of a flow that a done write released. -/
theorem flow_armTimer_released {s : State} {f n : Nat} {x : Flow} (hx : s.flow f = x.released n) (t : FlowTimer) :
    (s.now < t.due → (armTimer s f t).flow f = { x.released n with timer := some t }) ∧
    (t.due ≤ s.now → ((armTimer s f t).flow f).timer = none ∧ ((armTimer s f t).flow f).items =
      (x.released n).items ++ [{ kind := .timeout, prio := t.prio, handle := none, due := t.due }]) := by
  have hset := flow_setTimer_released s f x n (some t)
  unfold armTimer
  rw [hx]
  dsimp only
  refine ⟨fun hnow => ?_, fun hnow => ?_⟩
  · rw [if_neg (by change ¬ t.due ≤ s.now; omega), hset]
  · rw [if_pos (by exact hnow)]
    obtain ⟨ht, -, hi⟩ := flow_fireTimer (t := t) (s.setFlow f { x.released n with timer := some t }) f (by rw [hset])
    exact ⟨ht, hi.trans (by rw [hset])⟩

theorem flowDone_runs {s : State} {k : Fin 20} {f : Nat} (h : s.serving k = some f) (arm : TimerArm) :
    exec (.flowDone k arm) s =
      .next (if flowClass f = 0 then armLeg (releaseFlow s f) f else setTimer (releaseFlow s f) f arm) := by
  change execFlowDone k arm s = _
  rw [execFlowDone, h]

/-- Dispatch: taking an item frees its entry. -/
theorem freeItem_of_noWait {s : State} (hw : s.hall.waiting = []) (f : Nat) (i : Item) :
    freeItem s f i = { s with hall := { s.hall with
      genUse := if i.kind = .timeout ∨ studyItem f i = true then s.hall.genUse else s.hall.genUse - 1,
      studyUse := if i.kind = .timeout ∨ studyItem f i = false then s.hall.studyUse else s.hall.studyUse - 1 } } := by
  unfold freeItem
  by_cases hk : i.kind = .timeout
  · simp [hk]
  · rw [if_neg (by simpa using hk), hw]
    cases hs : studyItem f i <;> simp [hk]

theorem bgServed_use (s : State) (g f : Nat) : (bgServed s g).flow f = s.flow f ∧
    (bgServed s g).hall.genUse = s.hall.genUse ∧ (bgServed s g).hall.studyUse = s.hall.studyUse := by
  unfold bgServed
  obtain ⟨h1, h2, -⟩ := bgUpdate_use { s with hall := { s.hall with
    bgSince := tdel s.hall.bgSince g, promote := s.hall.promote.filter (· != g) } } g
  exact ⟨flow_bgUpdate .., h1, h2⟩

/-- A fold of steps that each keep a property keeps it. -/
theorem foldl_invariant {α : Type} {f : State → α → State} {P : State → Prop} (hf : ∀ s a, P s → P (f s a)) :
    ∀ (l : List α) (s : State), P s → P (l.foldl f s)
  | [], _, h => h
  | a :: r, s, h => foldl_invariant hf r (f s a) (hf s a h)

/-- Discarding items leaves every flow where nothing of the Study waits, and every part but the Pantry and the Hall. -/
theorem flow_discardItems (f : Nat) (l : List Item) (s : State) (hw : s.hall.waiting = []) :
    (discardItems s f l).hall.flows = s.hall.flows := by
  refine (foldl_invariant (P := fun t => t.hall.flows = s.hall.flows ∧ t.hall.waiting = []) ?_ l s ⟨rfl, hw⟩).1
  rintro t i ⟨h1, h2⟩
  have hfree : ∀ u : State, u.hall = t.hall → (freeItem u f i).hall.flows = s.hall.flows ∧ (freeItem u f i).hall.waiting = [] := by
    intro u hu
    rw [freeItem_of_noWait (by rw [hu]; exact h2), hu]
    exact ⟨h1, h2⟩
  refine hfree _ ?_
  cases i.handle with
  | none => rfl
  | some h => exact hall_of_offPackets (offPackets_releaseHandle t h)

/-- A flow whose item i a core takes; a STOP item discards the rest and the timer. -/
def Flow.taken (x : Flow) (k c : Nat) (i : Item) (rest : List Item) (stop : Bool) : Flow :=
  { x with active := some (k, c), held := false, items := if stop then [] else rest, timer := if stop then none else x.timer, item := some i }

/-- The state in which a dispatch has stored its flow and freed the item's entry. -/
theorem flow_freed {u : State} (hw : u.hall.waiting = []) (f : Nat) {y : Flow} (hy : y.active.isSome = true) (i : Item) :
    (freeItem (u.setFlow f y) f i).flow f = y ∧ (freeItem (u.setFlow f y) f i).hall.waiting = [] ∧
    (freeItem (u.setFlow f y) f i).hall.genUse =
      (if i.kind = .timeout ∨ studyItem f i = true then u.hall.genUse else u.hall.genUse - 1) ∧
    (freeItem (u.setFlow f y) f i).hall.studyUse =
      (if i.kind = .timeout ∨ studyItem f i = false then u.hall.studyUse else u.hall.studyUse - 1) := by
  rw [freeItem_of_noWait (s := u.setFlow f y) hw]
  exact ⟨flow_setFlow_active u f hy, hw, rfl, rfl⟩

/-- What a dispatch leaves of a flow that it took an item from: the rest of its items, and the item in service. -/
theorem hallDispatch_takes {s : State} {k f : Nat} {x : Flow} {pr : Bool} {i : Item} {r : List Item} (stop : Bool)
    (hi : s.consumerIdle k = true) (hn : s.nextFlow (consumerGroup k) = (some (f, x), pr)) (hx : x.items = i :: r)
    (hs : (i.kind == .stop && flowClass f == 0) = stop) (hw : s.hall.waiting = []) :
    (hallDispatch s k).1 = some (f, i) ∧ (hallDispatch s k).2.flow f = x.taken k s.cyc i r stop ∧
    (stop = false →
      (hallDispatch s k).2.hall.genUse = (if i.kind = .timeout ∨ studyItem f i = true then s.hall.genUse else s.hall.genUse - 1) ∧
      (hallDispatch s k).2.hall.studyUse =
        (if i.kind = .timeout ∨ studyItem f i = false then s.hall.studyUse else s.hall.studyUse - 1)) := by
  obtain ⟨u, hu, hd⟩ : ∃ u : State, u.hall = s.hall ∧ hallDispatch s k = (some (f, i),
      let v := freeItem (u.setFlow f (x.taken k s.cyc i r stop)) f i
      let w := if stop then discardItems v f r else v
      if x.prio == 15 then bgServed w (consumerGroup k) else bgUpdate w (consumerGroup k)) := by
    refine ⟨(if pr then s.bump (halA (0x300 + consumerGroup k * 4)) 1 else s).bump64 (halA 0x98) 1, by cases pr <;> simp, ?_⟩
    have hc : ((if pr then s.bump (halA (0x300 + consumerGroup k * 4)) 1 else s).bump64 (halA 0x98) 1).cyc = s.cyc := by
      cases pr <;> simp
    unfold hallDispatch
    dsimp only
    rw [if_neg (by simp [hi]), hn]
    dsimp only
    rw [hx]
    dsimp only
    rw [hs, hc]
    rfl
  obtain ⟨h1, h2, h3, h4⟩ := flow_freed (u := u) (by rw [hu]; exact hw) f (y := x.taken k s.cyc i r stop) rfl i
  rw [hu] at h3 h4
  rw [hd]
  dsimp only
  generalize freeItem (u.setFlow f (x.taken k s.cyc i r stop)) f i = v at h1 h2 h3 h4 ⊢
  have hflow : (if stop then discardItems v f r else v).flow f = v.flow f := by
    cases stop
    · rfl
    · exact congrArg (fun l => tget {} l f) (flow_discardItems f r v h2)
  refine ⟨rfl, ?_, fun hns => ?_⟩
  · split
    · rw [(bgServed_use ..).1, hflow, h1]
    · rw [flow_bgUpdate, hflow, h1]
  · subst hns
    rw [← h3, ← h4]
    split
    · exact (bgServed_use v (consumerGroup k) f).2
    · exact ⟨(bgUpdate_use ..).1, (bgUpdate_use ..).2.1⟩

theorem offPackets_legByes (l : Nat) (es : List (Nat × StreamCfg)) (s : State) :
    (es.foldl (fun s e => sendRtcp s l 8 [4, l, e.2.ssrc.toNat]) s).offPackets = s.offPackets :=
  foldl_keeps (fun _ _ => offPackets_sendRtcp ..) es s

/-- The STOP item served: the Hall stays, and the leg has no connection. -/
theorem legStops_closes (s : State) (l : Nat) : (legStops s l).hall = s.hall ∧ ((legStops s l).legRun l).conn = .absent := by
  unfold legStops legCloses
  extract_lets byes
  refine ⟨?_, congrArg LegRun.conn (tget_tset_self ..)⟩
  change (byes.foldl (fun s e => sendRtcp s l 8 [4, l, e.2.ssrc.toNat]) s).hall = s.hall
  exact hall_of_offPackets (offPackets_legByes l byes s)

theorem hallDispatch_serves {s : State} {k : Fin 20} {f : Nat} {i : Item} (h : (hallDispatch s k).1 = some (f, i)) :
    exec (.hallDispatch k) s = .next (if (i.kind == .stop && flowClass f == 0) = true then legStops (hallDispatch s k).2 f
      else (hallDispatch s k).2) := by
  change execHallDispatch k s = _
  rw [execHallDispatch, h]

/-- What a done write of a flow that is no leg's does with its timer. -/
theorem setTimer_released {s : State} {f n : Nat} {x : Flow} (hx : s.flow f = x.released n) :
    ((setTimer s f .disarm).flow f = { x.released n with timer := none }) ∧
    (∀ (d : Dword) (p : Fin 16), s.now < d.toNat →
      ((setTimer s f (.waitAny d p)).flow f = { x.released n with timer := some { due := d.toNat, waitAny := true, prio := p } }) ∧
      ((setTimer s f (.deadline d p)).flow f = { x.released n with timer := some { due := d.toNat, waitAny := false, prio := p } })) ∧
    (∀ (d : Dword) (p : Fin 16), d.toNat ≤ s.now →
      (((setTimer s f (.waitAny d p)).flow f).timer = none ∧ ((setTimer s f (.waitAny d p)).flow f).items =
        (x.released n).items ++ [{ kind := .timeout, prio := p, handle := none, due := d.toNat }]) ∧
      (((setTimer s f (.deadline d p)).flow f).timer = none ∧ ((setTimer s f (.deadline d p)).flow f).items =
        (x.released n).items ++ [{ kind := .timeout, prio := p, handle := none, due := d.toNat }])) := by
  refine ⟨?_, fun d p hd => ⟨(flow_armTimer_released hx _).1 hd, (flow_armTimer_released hx _).1 hd⟩,
    fun d p hd => ⟨(flow_armTimer_released hx _).2 hd, (flow_armTimer_released hx _).2 hd⟩⟩
  change (s.setFlow f { s.flow f with timer := none }).flow f = _
  rw [hx]
  exact flow_setTimer_released s f x n none

/-- What a done write of a leg's flow does with its timer. -/
theorem armLeg_released {s : State} {f n : Nat} {x : Flow} (hx : s.flow f = x.released n) :
    (firstDue (s.legDeadlines f) = none → (armLeg s f).flow f = { x.released n with timer := none }) ∧
    (∀ d p, firstDue (s.legDeadlines f) = some (d, p) →
      (s.now < d → (armLeg s f).flow f = { x.released n with timer := some { due := d, waitAny := false, prio := p } }) ∧
      (d ≤ s.now → ((armLeg s f).flow f).timer = none ∧ ((armLeg s f).flow f).items =
        (x.released n).items ++ [{ kind := .timeout, prio := p, handle := none, due := d }])) := by
  unfold armLeg
  refine ⟨fun hd => ?_, fun d p hd => ?_⟩
  · rw [hd]
    change (s.setFlow f { s.flow f with timer := none }).flow f = _
    rw [hx]
    exact flow_setTimer_released s f x n none
  · rw [hd]
    exact flow_armTimer_released hx { due := d, waitAny := false, prio := p }

theorem flowHoldOver_holds {s : State} {f : Fin 65536} {k t : Nat} (ha : (s.flow f).active = some (k, t)) (hh : (s.flow f).held = false)
    (hd : t + 70560 < s.cyc) : ∃ u, exec (.flowHoldOver f) s = .next u ∧ u.flow f = { s.flow f with held := true } := by
  refine ⟨pulse (reportOpen ((s.setFlow f { s.flow f with held := true }).bump (halA 0x84) 1) 97 .deferred) 97, ?_, ?_⟩
  · change execFlowHoldOver f s = _
    unfold execFlowHoldOver
    dsimp only
    rw [ha]
    exact if_pos (by simp [hh, hd])
  · have hall : (pulse (reportOpen ((s.setFlow f { s.flow f with held := true }).bump (halA 0x84) 1) 97 .deferred) 97).hall =
        (s.setFlow f { s.flow f with held := true }).hall := hall_of_offPackets (by simp)
    rw [State.flow, hall]
    exact flow_setFlow_active s f (by rw [ha]; rfl)

/-- Settles O49: dispatch, done write and timers through what each leaves of the flow. -/
theorem flowsAreDispatched : Obligations.FlowsAreDispatched := by
  unfold Obligations.FlowsAreDispatched
  refine ⟨fun s k => ⟨⟨_, rfl⟩, fun hidle => ?busy, fun f x pr i r hidle hn hx hw => ⟨fun hns => ?take, fun hk hc => ?stop⟩⟩,
    fun s => ⟨fun k arm hs => ?serves, fun k f y hs hy => ?done, fun f hf => ?noTimer, fun f m hf => ?timer, fun g t hg => ?promote,
      fun g hg => ?noPromote, fun f k t hf => ⟨fun hh hd => flowHoldOver_holds hf hh hd, fun hno => ?noHold⟩, fun f hf => ?inactive⟩⟩
  case busy =>
    have hd : hallDispatch s k = (none, s) := if_pos (by simp [hidle])
    change execHallDispatch k s = _
    rw [execHallDispatch, hd]
  case take =>
    have hstop : (i.kind == .stop && flowClass f == 0) = false := by
      rw [Bool.eq_false_iff]
      simpa using hns
    obtain ⟨h1, h2, h3⟩ := hallDispatch_takes false hidle hn hx hstop hw
    exact ⟨_, (hallDispatch_serves h1).trans (congrArg Outcome.next (if_neg (ne_true_of_eq_false hstop))), h2, h3 rfl⟩
  case stop =>
    have hstop : (i.kind == .stop && flowClass f == 0) = true := by simp [hk, hc]
    obtain ⟨h1, h2, -⟩ := hallDispatch_takes true hidle hn hx hstop hw
    obtain ⟨hhall, hconn⟩ := legStops_closes (hallDispatch s k).2 f
    have hflow : (legStops (hallDispatch s k).2 f).flow f = x.taken k s.cyc i r true := by
      rw [State.flow, hhall]
      exact h2
    refine ⟨_, (hallDispatch_serves h1).trans (congrArg Outcome.next (if_pos hstop)), ?_, ?_, ?_, hconn⟩ <;> rw [hflow] <;> rfl
  case serves =>
    change execFlowDone k arm s = _
    rw [execFlowDone, hs]
  case done =>
    have hx : (releaseFlow s f).flow f = (s.flow f).released s.hall.nextJoin := flow_releaseFlow s f
    have hnow : (releaseFlow s f).now = s.now := by
      obtain ⟨h, hr⟩ := releaseFlow_eq s f
      rw [hr]
      rfl
    have hdl : (releaseFlow s f).legDeadlines f = s.legDeadlines f := by
      obtain ⟨h, hr⟩ := releaseFlow_eq s f
      rw [hr]
      rfl
    change y = (s.flow f).released s.hall.nextJoin at hy
    subst hy
    refine ⟨fun hc => ?_, fun arm hc => ?_⟩
    · obtain ⟨hdis, hfut, hpast⟩ := setTimer_released hx
      rw [hnow] at hfut hpast
      have hrun : ∀ arm, exec (.flowDone k arm) s = .next (setTimer (releaseFlow s f) f arm) := fun arm =>
        (flowDone_runs hs arm).trans (congrArg Outcome.next (if_neg hc))
      exact ⟨⟨_, hrun _, hx, nextJoin_releaseFlow s f⟩, ⟨_, hrun _, hdis⟩,
        fun d p hd => ⟨⟨_, hrun _, (hfut d p hd).1⟩, ⟨_, hrun _, (hfut d p hd).2⟩⟩,
        fun d p hd => ⟨⟨_, hrun _, (hpast d p hd).1⟩, ⟨_, hrun _, (hpast d p hd).2⟩⟩⟩
    · obtain ⟨hnone, hsome⟩ := armLeg_released hx
      rw [hdl] at hnone hsome
      rw [hnow] at hsome
      have hrun : exec (.flowDone k arm) s = .next (armLeg (releaseFlow s f) f) :=
        (flowDone_runs hs arm).trans (congrArg Outcome.next (if_pos hc))
      exact ⟨fun h => ⟨_, hrun, hnone h⟩, fun d p h hd => ⟨_, hrun, (hsome d p h).1 hd⟩, fun d p h hd => ⟨_, hrun, (hsome d p h).2 hd⟩⟩
  case noTimer =>
    change execHallTimeout f s = _
    rw [execHallTimeout, hf]
  case timer =>
    have hrun : exec (.hallTimeout f) s = .next (if m.due ≤ s.now then fireTimer s f else s) := by
      change execHallTimeout f s = _
      rw [execHallTimeout, hf]
    rw [hrun]
    exact ⟨fun hd => ⟨_, congrArg Outcome.next (if_pos hd), flow_fireTimer s f hf⟩,
      fun hd => congrArg Outcome.next (if_neg (by omega))⟩
  case promote =>
    change (_ → execPriorityPromotion g s = _) ∧ (_ → execPriorityPromotion g s = _)
    rw [execPriorityPromotion, hg]
    exact ⟨fun hd => if_pos hd, fun hd => if_neg (by omega)⟩
  case noPromote =>
    change execPriorityPromotion g s = _
    rw [execPriorityPromotion, hg]
  case noHold =>
    change execFlowHoldOver f s = _
    unfold execFlowHoldOver
    dsimp only
    rw [hf]
    refine if_neg ?_
    rcases hno with h | h
    · simp [h]
    · simp; omega
  case inactive =>
    change execFlowHoldOver f s = _
    unfold execFlowHoldOver
    dsimp only
    rw [hf]

end Sys2Proof.Machine
end

section
/-!
PROOF. Frames leave their ports in order, and the media queues are sampled (R368-R381).
-/
namespace Sys2Proof.Machine

open Host

/-- What the rest of a frame's start leaves after its queue and its port's time are set: TB0, the Pantry, and when the port is free. -/
structure SameWire (p : Nat) (s t : State) : Prop where
  tb0 : t.blv.tb0 = s.blv.tb0
  pan : t.pan = s.pan
  freeAt : (t.portPrg p).freeAt = (s.portPrg p).freeAt

theorem SameWire.trans {p : Nat} {s t u : State} (h : SameWire p s t) (g : SameWire p t u) : SameWire p s u :=
  ⟨g.tb0.trans h.tb0, g.pan.trans h.pan, g.freeAt.trans h.freeAt⟩

theorem SameWire.of_eq {p : Nat} {s t : State} (hb : t.blv = s.blv) (hp : t.pan = s.pan) (hg : t.prg = s.prg) : SameWire p s t :=
  ⟨by rw [hb], hp, by rw [State.portPrg, hg]; rfl⟩

theorem sameWire_refl (p : Nat) (s : State) : SameWire p s s := ⟨rfl, rfl, rfl⟩

theorem sameWire_bump (p : Nat) (s : State) (a n : Nat) : SameWire p s (s.bump a n) := .of_eq (by simp) (by simp) (by simp)
theorem sameWire_bump64 (p : Nat) (s : State) (a n : Nat) : SameWire p s (s.bump64 a n) := .of_eq (by simp) (by simp) (by simp)
theorem sameWire_pulse (p : Nat) (s : State) (n : Nat) : SameWire p s (pulse s n) := .of_eq (by simp) (by simp) (by simp)
theorem sameWire_event (p : Nat) (s : State) (c : BitVec 16) (o a b d e : Word) : SameWire p s (event s c o a b d e) :=
  .of_eq (by simp) (by simp) (by simp)
theorem sameWire_setLegPrg (p : Nat) (s : State) (l : Nat) (x : LegPrg) : SameWire p s (s.setLegPrg l x) := ⟨rfl, rfl, rfl⟩

theorem sameWire_setPortPrg {p : Nat} {s : State} {x : PortPrg} (h : x.freeAt = (s.portPrg p).freeAt) :
    SameWire p s (s.setPortPrg p x) := ⟨rfl, rfl, by simpa using h⟩

theorem sameWire_limit (p : Nat) (s : State) (k d n m : Nat) : SameWire p s (s.limit k d n m).2 := by
  unfold State.limit
  dsimp only
  repeat' split
  all_goals exact ⟨rfl, rfl, rfl⟩

theorem sameWire_launchLate (p : Nat) (s : State) (n : Nat) : SameWire p s (launchLate s p n) := by
  unfold launchLate
  dsimp only
  have h1 : SameWire p s ((s.setPortPrg p { s.portPrg p with
      late := (s.portPrg p).late + 1, lateMax := Nat.max (s.portPrg p).lateMax n }).bump (prgA 0x14) 1) :=
    SameWire.trans (t := s.setPortPrg p { s.portPrg p with
      late := (s.portPrg p).late + 1, lateMax := Nat.max (s.portPrg p).lateMax n }) (sameWire_setPortPrg rfl) (sameWire_bump ..)
  have h2 := h1.trans (sameWire_limit p _ (objKey 0x0612 p) ctPerSec 1 0)
  split
  case h_1 heq =>
    rw [heq] at h2
    refine (h2.trans ?_).trans (sameWire_pulse ..)
    exact (sameWire_event ..).trans (sameWire_setPortPrg (by simp [State.portPrg]))
  case h_2 heq =>
    rw [heq] at h2
    exact h2

theorem sameWire_pushTxts (p : Nat) (s : State) (e : Txts) : SameWire p s (pushTxts s e) := by
  have hl : ∀ (u : State) (n : Nat), SameWire p u (txtsLost u n) := by
    intro u n
    have h1 : SameWire p u (if n = 0 then u.limitDue (limitKey 0x0212 0) ctPerSec else u.limit (limitKey 0x0212 0) ctPerSec n 0).2 := by
      split
      · unfold State.limitDue
        split
        · exact sameWire_refl ..
        · exact sameWire_limit ..
      · exact sameWire_limit ..
    unfold txtsLost
    split
    case h_1 heq =>
      rw [heq] at h1
      exact h1.trans ((sameWire_event ..).trans (sameWire_pulse ..))
    case h_2 heq =>
      rw [heq] at h1
      exact h1
  unfold pushTxts
  dsimp only
  split
  · exact (sameWire_bump ..).trans (hl _ _)
  · have h1 : SameWire p s { s with blv := { s.blv with txts := s.blv.txts ++ [e] } } := ⟨rfl, rfl, rfl⟩
    split
    · exact h1.trans ((sameWire_event ..).trans (sameWire_pulse ..))
    · exact h1

/-- What a port's frame leaves: its bytes on the wire, its queue without it, and the port busy for its time. -/
structure Departed (s : State) (p q : Nat) (e : QEntry) (t : State) : Prop where
  out : ∃ o, t.out = Out.egress p (q :: Nat.max e.pkt.counted 60 :: s.now ::
    (if e.pkt.body.head? = some 10 then e.pkt.body.set beaconTb0 s.now else e.pkt.body)) e.pkt.net :: o
  entries : (t.queue q).entries = (s.queue q).entries.tail
  freeAt : (t.portPrg p).freeAt = s.now + s.txTime p e.pkt.counted

theorem freeHead_keeps (s : State) (q n : Nat) : ∃ x : Pantry, freeHead s q n = { s with pan := x } ∧
    tget {} x.queues q = { s.queue q with
      entries := (s.queue q).entries.drop n, read := (s.queue q).read - n, mark := (s.queue q).mark.map fun m => m - n } := by
  have hg : ∀ (l : List QEntry) (u : State), ∃ x : Pantry, l.foldl (fun s e => giveCells s e.far e.gap e.cells) u = { u with pan := x } := by
    intro l u
    refine foldl_invariant (P := fun t => ∃ x : Pantry, t = { u with pan := x }) ?_ l u ⟨u.pan, rfl⟩
    rintro t e ⟨x, rfl⟩
    unfold giveCells State.setPool
    split <;> exact ⟨_, rfl⟩
  obtain ⟨x, hx⟩ := hg ((s.queue q).entries.take n) s
  refine ⟨_, (by unfold freeHead; dsimp only; rw [hx]; rfl), tget_tset_self ..⟩

/-- The state of a frame's start once its port's time is set. -/
def wired (s : State) (p q : Nat) (e : QEntry) : State :=
  let u := debitAll (freeHead s q 1) p q ((freeHead s q 1).countedOn p e.pkt.counted)
  u.setPortPrg p { u.portPrg p with
    freeAt := u.now + u.txTime p e.pkt.counted, guardAt := none,
    guardIdle := (u.portPrg p).guardIdle + (match (u.portPrg p).guardAt with | some t => u.now - t | none => 0) }

theorem wired_spec (s : State) (p q : Nat) (e : QEntry) : (wired s p q e).now = s.now ∧
    ((wired s p q e).queue q).entries = (s.queue q).entries.tail ∧
    ((wired s p q e).portPrg p).freeAt = s.now + s.txTime p e.pkt.counted := by
  obtain ⟨x, hx, hq⟩ := freeHead_keeps s q 1
  unfold wired
  rw [hx]
  have hd : ∀ c, ∃ y : Pergola, debitAll { s with pan := x } p q c = { s with pan := x, prg := y } := by
    intro c
    unfold debitAll
    dsimp only
    split <;> exact ⟨_, rfl⟩
  obtain ⟨y, hy⟩ := hd (State.countedOn { s with pan := x } p e.pkt.counted)
  dsimp only
  rw [hy]
  refine ⟨rfl, ?_, ?_⟩
  · change (tget {} x.queues q).entries = _
    rw [hq]
    simp
  · rw [portPrg_setPortPrg, if_pos rfl]
    rfl

/-- A frame that starts leaves the port as it should. -/
theorem sendHead_departs (s : State) (p q : Nat) (e : QEntry) (fine : Nat) : Departed s p q e (sendHead s p q e fine) := by
  obtain ⟨hnow, hq, hfree⟩ := wired_spec s p q e
  have hwire : ∃ u, SameWire p (wired s p q e) u ∧ sendHead s p q e fine =
      { u with out := Out.egress p (q :: Nat.max e.pkt.counted 60 :: u.now ::
          (if e.pkt.body.head? == some 10 then e.pkt.body.set beaconTb0 u.now else e.pkt.body)) e.pkt.net :: u.out } := by
    unfold sendHead
    extract_lets _ _ _ _ _ idle s0 s1 s2 s3 _ s4 s5 s6 beacon s7 body
    refine ⟨s7, ?_, rfl⟩
    have h1 : SameWire p s0 s1 := by
      unfold s1
      split
      · exact sameWire_refl ..
      · exact sameWire_bump ..
    have h2 : SameWire p s1 s2 := by
      unfold s2
      split
      · split
        · exact sameWire_launchLate ..
        · exact sameWire_refl ..
      · exact sameWire_refl ..
    have h3 : SameWire p s2 s3 := (sameWire_bump64 ..).trans (sameWire_bump64 ..)
    have h4 : SameWire p s3 s4 := by
      unfold s4
      split
      · exact sameWire_setLegPrg ..
      · exact sameWire_refl ..
    have h5 : SameWire p s4 s5 := by
      unfold s5
      split
      · split
        · exact sameWire_setLegPrg ..
        · exact sameWire_refl ..
      · exact sameWire_refl ..
    have h6 : SameWire p s5 s6 := by
      unfold s6
      split
      · exact sameWire_pushTxts ..
      · exact sameWire_refl ..
    have h7 : SameWire p s6 s7 := by
      unfold s7
      split
      · exact sameWire_bump ..
      · exact sameWire_refl ..
    exact h1.trans (h2.trans (h3.trans (h4.trans (h5.trans (h6.trans h7)))))
  obtain ⟨u, hu, hs⟩ := hwire
  have hun : u.now = s.now := (congrArg BitVec.toNat hu.tb0).trans hnow
  rw [hs]
  refine ⟨⟨u.out, ?_⟩, ?_, hu.freeAt.trans hfree⟩
  · rw [hun]
    simp
  · change (tget {} u.pan.queues q).entries = _
    rw [hu.pan]
    exact hq

/-- A head that is a packet within its age stays at its queue's head. -/
theorem cleanHead_clean {s : State} {q : Nat}
    (h : ∀ a ∈ (s.queue q).entries.head?, a.gap = false ∧ (s.ageLimitOf q = 0 ∨ s.now - a.born ≤ s.ageLimitOf q)) (n : Nat) :
    cleanHead n q s = s := by
  cases n with
  | zero => rfl
  | succ n =>
    unfold cleanHead
    cases hq : (s.queue q).entries with
    | nil => rfl
    | cons e r =>
      obtain ⟨hg, ha⟩ := h e (by rw [hq]; rfl)
      dsimp only
      rw [if_neg (by simp [hg]), if_neg]
      rcases ha with ha | ha
      · simp [ha]
      · simp; omega

theorem foldl_cleanHead {s : State} : ∀ {l : List Nat},
    (∀ x ∈ l, ∀ a ∈ (s.queue x).entries.head?, a.gap = false ∧ (s.ageLimitOf x = 0 ∨ s.now - a.born ≤ s.ageLimitOf x)) →
    l.foldl (fun s q => cleanHead (s.queue q).entries.length q s) s = s
  | [], _ => rfl
  | a :: r, h => by
    rw [List.foldl_cons, cleanHead_clean (h a (List.mem_cons_self ..))]
    exact foldl_cleanHead fun x hx => h x (List.mem_cons_of_mem _ hx)

theorem drr_nil (s : State) (p k : Nat) : s.drr p k [] = none := by
  simp [State.drr, drrPick]

theorem tget_filter_kept {α : Type} (d : α) (p : Nat × α → Bool) (k : Nat) : ∀ t : Tab α, (∀ v, p (k, v) = true) →
    tget d (t.filter p) k = tget d t k
  | [], _ => rfl
  | (a, v) :: r, h => by
    have ih := tget_filter_kept d p k r h
    by_cases ha : a = k
    · subst ha
      simp [h v, tget]
    · rw [List.filter_cons]
      split <;> simp [tget, ha, ih]

/-- The only head of its order, once its deficit covers it, is served. -/
theorem drr_single {s : State} {p k q : Nat} {e : QEntry}
    (h : s.countedOn p e.pkt.counted ≤ tget 0 (s.portPrg p).deficits q + (s.portPrg p).quantum) :
    ∃ x : PortPrg, s.drr p k [(q, e)] = some ((q, e), x) := by
  unfold State.drr
  extract_lets x counted cur live d turn
  have hd : tget 0 d q = tget 0 (s.portPrg p).deficits q := tget_filter_kept _ _ _ _ fun v => by simp [live]
  cases hf : [(q, e)].find? fun c => c.1 == cur && decide (counted c.2 ≤ tget 0 d cur) with
  | some c =>
    have hc : c = (q, e) := by simpa using List.mem_of_find?_eq_some hf
    subst hc
    exact ⟨_, rfl⟩
  | none =>
    have hturn : turn = [(q, e)] := by
      unfold turn
      by_cases hq : cur < q
      · simp [hq]
      · simp [hq, Nat.le_of_not_lt hq]
    dsimp only
    rw [hturn]
    have hpick : drrPick counted x.quantum ([(q, e)].length * 64 + 1) d [(q, e)] =
        some ((q, e), tset 0 d q (tget 0 d q + x.quantum - counted e)) := if_pos (by rw [hd]; exact h)
    rw [hpick]
    exact ⟨_, rfl⟩

theorem findSome_order {α : Type} (f : Nat → Option α) {k : Nat} {y : α} (h2 : 2 ≤ k) (h6 : k ≤ 6)
    (hbefore : ∀ j, 2 ≤ j → j < k → f j = none) (hk : f k = some y) : [2, 3, 4, 5, 6].findSome? f = some y := by
  have hcases : k = 2 ∨ k = 3 ∨ k = 4 ∨ k = 5 ∨ k = 6 := by omega
  rcases hcases with rfl | rfl | rfl | rfl | rfl <;> simp [hk, hbefore]

/-- A port whose heads are packets of their age serves the head that the first order has. -/
theorem servePort_serves {s : State} {p fine k q : Nat} {e : QEntry} {l : List (Nat × QEntry)}
    (hclean : ∀ x ∈ s.portQueues p, ∀ a ∈ (s.queue x).entries.head?,
      a.gap = false ∧ (s.ageLimitOf x = 0 ∨ s.now - a.born ≤ s.ageLimitOf x))
    (h1 : 1 ≤ k) (h6 : k ≤ 6) (hbefore : ∀ j, j < k → 1 ≤ j → s.candidates p j = []) (hk : s.candidates p k = (q, e) :: l)
    (hgo : k = 1 ∨ (l = [] ∧ s.guarded p e = false ∧
      s.countedOn p e.pkt.counted ≤ tget 0 (s.portPrg p).deficits q + (s.portPrg p).quantum)) :
    Departed s p q e (servePort s p fine) := by
  unfold servePort
  rw [foldl_cleanHead hclean]
  dsimp only
  by_cases hone : k = 1
  · subst hone
    rw [hk]
    exact sendHead_departs ..
  · obtain ⟨rfl, hguard, hcover⟩ := hgo.resolve_left hone
    rw [hbefore 1 (by omega) (by omega)]
    obtain ⟨x, hx⟩ := drr_single (k := k) hcover
    have hpick := findSome_order (fun k => s.drr p k ((s.candidates p k).filter fun c => !s.guarded p c.2)) (by omega) h6
      (fun j hj hjk => by simp only [hbefore j hjk (by omega), List.filter_nil, drr_nil])
      (y := ((q, e), x)) (by rw [hk]; simpa [hguard] using hx)
    dsimp only
    rw [hpick]
    dsimp only
    obtain ⟨hout, hent, hfree⟩ := sendHead_departs (s.setPortPrg p x) p q e fine
    exact ⟨hout, hent, hfree⟩

theorem candidates_of_noQueues {s : State} {p : Nat} (h : s.portQueues p = []) (k : Nat) : s.candidates p k = [] := by
  rw [State.candidates, h]
  rfl

/-- A port with nothing queued stays as it is. -/
theorem servePort_empty {s : State} {p : Nat} (h : s.portQueues p = []) (fine : Nat) : servePort s p fine = s := by
  unfold servePort
  rw [h, List.foldl_nil]
  simp [candidates_of_noQueues h, drr_nil]

/-- The control queue of a port alone: its head, with a launch, is of order 1 and waits for its launch only. -/
theorem candidates_exact {s : State} {p : Nat} {e : QEntry} {r : List QEntry} {at' : Nat}
    (hq : s.portQueues p = [32768 + 5 * p]) (he : (s.queue (32768 + 5 * p)).entries = e :: r) (hg : e.gap = false)
    (hl : e.pkt.launch = some at') :
    s.candidates p 1 = if at' ≤ s.now then [(32768 + 5 * p, e)] else [] := by
  have hhead : s.headOf (32768 + 5 * p) = some e := by
    rw [State.headOf, he, List.find?_cons, hg]
    rfl
  have hord : headOrder (32768 + 5 * p) e = 1 := by
    unfold headOrder
    rw [if_neg (by omega)]
    have : (32768 + 5 * p - 32768) % 5 = 0 := by omega
    rw [this]
    simp [hl]
  have hel : s.eligible0 p (32768 + 5 * p) e = decide (at' ≤ s.now) := by
    simp [State.eligible0, hord, launchCome, hl]
  unfold State.candidates
  rw [hq]
  simp only [List.filterMap_cons, List.filterMap_nil, hhead, hord, hel]
  split <;> split <;> simp_all

theorem launchReached_starts {s : State} {p : Fin 8} (hf : s.portFree p = true) {q : Nat} {e : QEntry} {l : List (Nat × QEntry)}
    (hc : s.candidates p 1 = (q, e) :: l) :
    exec (.launchReached p) s = .next (sendHead s.fresh.2 p q e (Config.freeNat s.fresh.1 % 64)) := by
  change execLaunchReached p s = _
  rw [execLaunchReached, if_pos hf, hc]

theorem threeRegs_eq_regs (s : State) (d e f : Nat) (u v w : Word) :
    ∃ r, ((s.setReg d u).setReg e v).setReg f w = { s with regs := r } := ⟨_, rfl⟩

/-- Three registers written, one after the other. -/
theorem threeRegs (s : State) {d e f : Nat} (u v w : Word) (hde : d ≠ e) (hdf : d ≠ f) :
    (∃ r, ((s.setReg d u).setReg e v).setReg f w = { s with regs := r }) ∧ (((s.setReg d u).setReg e v).setReg f w).reg d = u ∧
    ∀ a, a ≠ d → a ≠ e → a ≠ f → (((s.setReg d u).setReg e v).setReg f w).reg a = s.reg a := by
  refine ⟨⟨_, rfl⟩, ?_, fun a h1 h2 h3 => ?_⟩
  · simp [reg_setReg, hde, hdf]
  · simp [reg_setReg, h1, h2, h3]

/-- Sampling a queue stores its depth and touches two further registers. -/
theorem sampleQueue_reg (s : State) (q : Nat) {d e f : Nat} (lim : Bool) (hde : d ≠ e) (hdf : d ≠ f) :
    (∃ r, sampleQueue s q d e f lim = { s with regs := r }) ∧ (sampleQueue s q d e f lim).reg d = (s.queue q).depthWord ∧
    ∀ a, a ≠ d → a ≠ e → a ≠ f → (sampleQueue s q d e f lim).reg a = s.reg a := by
  unfold sampleQueue
  extract_lets x n s1 s2
  exact threeRegs s x.depthWord _ _ hde hdf

theorem queue_of_regs {s t : State} {r : Tab Word} (h : t = { s with regs := r }) (x : Nat) : t.queue x = s.queue x := by
  subst h
  rfl

theorem parts_of_regs {s t : State} {r : Tab Word} (h : t = { s with regs := r }) : t.prg = s.prg ∧ t.pan = s.pan := by
  subst h
  exact ⟨rfl, rfl⟩

theorem reg_of_prg (u : State) (p : Pergola) (a : Nat) : State.reg { u with prg := p } a = u.reg a := rfl

theorem sampleQueue_eq_regs (s : State) (q d e f : Nat) (lim : Bool) : ∃ r, sampleQueue s q d e f lim = { s with regs := r } := by
  unfold sampleQueue
  extract_lets x n s1 s2
  exact threeRegs_eq_regs ..

section
variable {num dep del peak : Nat → Nat → Nat}

/-- The three media queues of a port, sampled in turn; a port's registers stand at the addresses of its queues' numbers. -/
def samplePort (num dep del peak : Nat → Nat → Nat) (s : State) (n : Nat) : State :=
  [1, 2, 3].foldl (fun s k => sampleQueue s (num n k) (dep n k) (del n k) (peak n k) false) s

/-- No two of the addresses that the samples write are one. -/
structure ApartRegs (dep del peak : Nat → Nat → Nat) : Prop where
  own : ∀ m k n j, k ≤ 3 → j ≤ 3 → (m, k) ≠ (n, j) → dep m k ≠ dep n j
  delay : ∀ m k n j, k ≤ 3 → j ≤ 3 → dep m k ≠ del n j
  top : ∀ m k n j, k ≤ 3 → j ≤ 3 → dep m k ≠ peak n j

/-- One queue's sample among the registers of all. -/
theorem sampleQueue_apart (h : ApartRegs dep del peak) (s : State) (n : Nat) {j : Nat} (hj : j ≤ 3) :
    let t := sampleQueue s (num n j) (dep n j) (del n j) (peak n j) false
    (∃ r, t = { s with regs := r }) ∧ t.reg (dep n j) = (s.queue (num n j)).depthWord ∧
    ∀ m k, k ≤ 3 → (m, k) ≠ (n, j) → t.reg (dep m k) = s.reg (dep m k) := by
  obtain ⟨h1, h2, h3⟩ := sampleQueue_reg s (num n j) false (h.delay n j n j hj hj) (h.top n j n j hj hj)
  exact ⟨h1, h2, fun m k hk hne => h3 _ (h.own m k n j hk hj hne) (h.delay m k n j hk hj) (h.top m k n j hk hj)⟩

theorem samplePort_reg (h : ApartRegs dep del peak) (s : State) (n : Nat) : (∃ r, samplePort num dep del peak s n = { s with regs := r }) ∧
    (∀ k, 1 ≤ k → k ≤ 3 → (samplePort num dep del peak s n).reg (dep n k) = (s.queue (num n k)).depthWord) ∧
    ∀ m k, m ≠ n → k ≤ 3 → (samplePort num dep del peak s n).reg (dep m k) = s.reg (dep m k) := by
  unfold samplePort
  simp only [List.foldl_cons, List.foldl_nil]
  obtain ⟨⟨r1, h1⟩, h1d, keep1⟩ := sampleQueue_apart h s n (j := 1) (by omega)
  generalize sampleQueue s _ _ _ _ _ = s1 at h1 h1d keep1 ⊢
  obtain ⟨⟨r2, h2⟩, h2d, keep2⟩ := sampleQueue_apart h s1 n (j := 2) (by omega)
  generalize sampleQueue s1 _ _ _ _ _ = s2 at h2 h2d keep2 ⊢
  obtain ⟨⟨r3, h3⟩, h3d, keep3⟩ := sampleQueue_apart h s2 n (j := 3) (by omega)
  generalize sampleQueue s2 _ _ _ _ _ = s3 at h3 h3d keep3 ⊢
  have hq1 : ∀ x, s1.queue x = s.queue x := queue_of_regs h1
  have hq2 : ∀ x, s2.queue x = s.queue x := fun x => (queue_of_regs h2 x).trans (hq1 x)
  refine ⟨⟨r3, by rw [h3, h2, h1]⟩, fun k h1k' h3k' => ?_, fun m k hm hk => ?_⟩
  · obtain rfl | rfl | rfl : k = 1 ∨ k = 2 ∨ k = 3 := by omega
    · rw [keep3 n 1 (by omega) (by simp), keep2 n 1 (by omega) (by simp), h1d]
    · rw [keep3 n 2 (by omega) (by simp), h2d, hq1]
    · rw [h3d, hq2]
  · rw [keep3 m k hk (by simp [hm]), keep2 m k hk (by simp [hm]), keep1 m k hk (by simp [hm])]

/-- Every port of a list sampled: the depths of its own queues stand in its registers. -/
theorem samplePorts_reg (h : ApartRegs dep del peak) : ∀ (l : List Nat) (s : State),
    (∃ r, l.foldl (samplePort num dep del peak) s = { s with regs := r }) ∧
    (∀ n k, n ∈ l → 1 ≤ k → k ≤ 3 → (l.foldl (samplePort num dep del peak) s).reg (dep n k) = (s.queue (num n k)).depthWord) ∧
    ∀ m k, m ∉ l → k ≤ 3 → (l.foldl (samplePort num dep del peak) s).reg (dep m k) = s.reg (dep m k)
  | [], s => ⟨⟨s.regs, rfl⟩, fun _ _ h => absurd h List.not_mem_nil, fun _ _ _ _ => rfl⟩
  | a :: r, s => by
    obtain ⟨⟨g, hg⟩, hin, hout⟩ := samplePort_reg h s a
    obtain ⟨⟨x, hx⟩, hrin, hrout⟩ := samplePorts_reg h r (samplePort num dep del peak s a)
    refine ⟨⟨x, by rw [List.foldl_cons, hx, hg]⟩, fun n k hn h1 h3 => ?_, fun m k hm hk => ?_⟩
    · rw [List.foldl_cons]
      by_cases hr : n ∈ r
      · rw [hrin n k hr h1 h3, hg]
        rfl
      · obtain rfl : n = a := (List.mem_cons.1 hn).resolve_right hr
        rw [hrout n k hr h3, hin k h1 h3]
    · rw [List.foldl_cons, hrout m k (fun h => hm (List.mem_cons_of_mem _ h)) hk,
        hout m k (fun h => hm (h ▸ List.mem_cons_self ..)) hk]

end

/-- The sample of one leg queue. -/
def sampleLeg (s : State) (q : Nat) : State :=
  sampleQueue s q (0x0084_0000 + q / 4 * 0x20 + q % 4 * 8) (0x0084_0004 + q / 4 * 0x20 + q % 4 * 8)
    (0x0088_0000 + q / 4 * 0x10 + q % 4 * 4) (s.limited ((s.legPort (q / 4)).getD 0) q)

theorem sampleLegs_regs (l : List Nat) (s : State) : ∃ r, l.foldl sampleLeg s = { s with regs := r } := by
  refine foldl_invariant (P := fun t => ∃ r, t = { s with regs := r }) ?_ l s ⟨s.regs, rfl⟩
  rintro t q ⟨r, rfl⟩
  exact sampleQueue_eq_regs ..

theorem portRegs_apart : ApartRegs (fun n k => prgPortA n (0x40 + k * 0x10)) (fun n k => prgPortA n (0x44 + k * 0x10))
    (fun n k => prgPortA n (0x48 + k * 0x10)) := by
  constructor
  · intro m k n j hk hj hne he
    simp only [prgPortA] at he
    exact hne (by simp only [Prod.mk.injEq]; omega)
  · intro m k n j hk hj he
    simp only [prgPortA] at he
    omega
  · intro m k n j hk hj he
    simp only [prgPortA] at he
    omega

/-- The samples of a block, written with the two steps above. -/
theorem queueSample_runs {s : State} (hon : s.commonOn = true) (hb : s.prg.sampleBlock ≠ some (s.now / 70560)) :
    exec .queueSample s = .next
      ((fun u : State => { u with prg := { u.prg with sampleBlock := some (s.now / 70560) } }) ((List.range 8).foldl
        (samplePort (fun n k => 32768 + n * 5 + k) (fun n k => prgPortA n (0x40 + k * 0x10)) (fun n k => prgPortA n (0x44 + k * 0x10))
          (fun n k => prgPortA n (0x48 + k * 0x10))) (s.sampledQueues.foldl sampleLeg s))) := by
  have hleg : (fun (s : State) q =>
      let l := q / 4
      let p := (s.legPort l).getD 0
      sampleQueue s q (0x0084_0000 + l * 0x20 + q % 4 * 8) (0x0084_0004 + l * 0x20 + q % 4 * 8)
        (0x0088_0000 + l * 0x10 + q % 4 * 4) (s.limited p q)) = sampleLeg := by
    delta sampleLeg
    rfl
  have hport : (fun s n => [1, 2, 3].foldl (fun s k =>
      sampleQueue s (32768 + n * 5 + k) (prgPortA n (0x40 + k * 0x10)) (prgPortA n (0x44 + k * 0x10))
        (prgPortA n (0x48 + k * 0x10)) false) s) =
      samplePort (fun n k => 32768 + n * 5 + k) (fun n k => prgPortA n (0x40 + k * 0x10)) (fun n k => prgPortA n (0x44 + k * 0x10))
        (fun n k => prgPortA n (0x48 + k * 0x10)) := by
    delta samplePort
    rfl
  rw [← hleg, ← hport]
  exact if_neg (by simp [hon, hb])

theorem queueSample_samples {s : State} (hon : s.commonOn = true) (hb : s.prg.sampleBlock ≠ some (s.now / 70560)) :
    ∃ t, exec .queueSample s = .next t ∧ t.prg = { s.prg with sampleBlock := some (s.now / 70560) } ∧ t.pan = s.pan ∧
      ∀ n k, n < 8 → 1 ≤ k → k ≤ 3 → t.reg (prgPortA n (0x40 + k * 0x10)) = (s.queue (32768 + n * 5 + k)).depthWord := by
  obtain ⟨r, hr⟩ := sampleLegs_regs s.sampledQueues s
  obtain ⟨⟨g, hg⟩, hin, -⟩ := samplePorts_reg (num := fun n k => 32768 + n * 5 + k) portRegs_apart (List.range 8)
    (s.sampledQueues.foldl sampleLeg s)
  have hrun := queueSample_runs hon hb
  generalize (List.range 8).foldl (samplePort _ _ _ _) (s.sampledQueues.foldl sampleLeg s) = u at hg hin hrun
  generalize s.sampledQueues.foldl sampleLeg s = v at hr hg hin
  obtain ⟨hprg, hpan⟩ := parts_of_regs hr
  obtain ⟨hprg', hpan'⟩ := parts_of_regs hg
  exact ⟨_, hrun, congrArg (fun p : Pergola => { p with sampleBlock := some (s.now / 70560) }) (hprg'.trans hprg),
    hpan'.trans hpan, fun n k hn h1 h3 => (reg_of_prg u _ _).trans
      ((hin n k (by simpa using hn) h1 h3).trans (congrArg PQueue.depthWord (queue_of_regs hr _)))⟩

/-- Settles O48: each start through what the frame leaves, the samples through the registers that they write. -/
theorem framesLeaveInOrder : Obligations.FramesLeaveInOrder := by
  unfold Obligations.FramesLeaveInOrder
  refine fun s => ⟨fun p fine => ⟨_, rfl⟩, fun p fine k q e l hf hclean h1 h6 hbefore hk hgo => ?serve, fun p fine hno => ?idle,
    fun p e r at' hf hq he hg hl => ⟨fun hnow => ?launch, fun hnow => ?early⟩, fun p hf => ?busy,
    fun hon hb => queueSample_samples hon hb, fun hno => ?sampled⟩
  case serve =>
    obtain ⟨hout, hent, hfree⟩ := servePort_serves (fine := fine) hclean h1 h6 hbefore hk hgo
    exact ⟨_, congrArg Outcome.next (if_pos hf), hout, hent, hfree⟩
  case idle =>
    by_cases hf : s.portFree p = true
    · have hq := hno.resolve_left (by simp [hf])
      exact congrArg Outcome.next ((if_pos hf).trans (servePort_empty hq fine))
    · exact congrArg Outcome.next (if_neg hf)
  case launch =>
    have hc := (candidates_exact hq he hg hl).trans (if_pos hnow)
    obtain ⟨hout, hent, hfree⟩ := sendHead_departs s.fresh.2 p (32768 + 5 * p) e (Config.freeNat s.fresh.1 % 64)
    refine ⟨_, launchReached_starts hf hc, hout, hent.trans ?_, hfree⟩
    change (s.queue (32768 + 5 * p)).entries.tail = r
    rw [he]
    rfl
  case early =>
    have hc := (candidates_exact hq he hg hl).trans (if_neg (by omega))
    change execLaunchReached p s = _
    rw [execLaunchReached, if_pos hf, hc]
  case busy => exact if_neg (by simp [hf])
  case sampled =>
    refine if_pos ?_
    rcases hno with h | h
    · simp [h]
    · simp [h]

end Sys2Proof.Machine
end

section
/-!
PROOF. A dropped packet leaves a gap marker, whose cell may bring the pool under its low mark: PAN_POOL_LOW then reports the drops counted
so far and counts anew (R425, R428).
-/
namespace Sys2Proof.Machine

open Host

/-- The near pool without a free data cell, its 256 reserved cells free and its low mark at 4,096 cells. -/
def fullPool : State :=
  { State.reset with
    pwr := { state := 0, dom := BitVec.allOnes 80 }
    regs := [(nearA 0x40, 4096)]
    pan := { near := { used := 98048 } } }

theorem choosePool_near {s : State} {cls : Nat} (h : ¬ s.admits false cls = true) : s.choosePool 0 cls = .error false :=
  if_neg h

theorem choosePool_fullPool : fullPool.choosePool (boundPool (.queue 0)).1 (boundPool (.queue 0)).2 = .error false := by
  have hpool : (boundPool (.queue 0)).1 = 0 := by decide
  have hnone : ¬ fullPool.admits false (boundPool (.queue 0)).2 = true := by decide
  rw [hpool]
  exact choosePool_near hnone

/-- The drops counted for the near pool after an operation. -/
def nearDrops (o : Outcome State Fault Refusal) : Nat :=
  match o with
  | .next t => t.pan.near.drops
  | _ => 0

theorem nearDrops_fullPool : nearDrops (exec (.packetWordWrite .boathouse (.queue 0)) fullPool) = 0 := by decide

/-- Refutes O51: in `fullPool` the first word of a packet for queue 0 finds no cell; the drop's own gap marker raises PAN_POOL_LOW, which
takes the count back to 0. The statement asks for one drop more than before. -/
theorem not_producersWritePackets : ¬ Obligations.ProducersWritePackets := by
  unfold Obligations.ProducersWritePackets
  intro h
  obtain ⟨-, hrefused, -⟩ := h.1 fullPool .boathouse
  obtain ⟨t, ht, -, hdrops, -⟩ := hrefused (.queue 0) false (by decide) choosePool_fullPool
  have hone : nearDrops (exec (.packetWordWrite .boathouse (.queue 0)) fullPool) = 1 := by
    rw [ht]
    exact hdrops
  exact absurd (nearDrops_fullPool.symm.trans hone) (by decide)

end Sys2Proof.Machine
end

section
/-!
PROOF. Refresh, calibration, the scrub floor and the keepers (R441-R452).
-/
namespace Sys2Proof.Machine

open Host

section
variable {s : State} {ch : Fin 8}

theorem refreshTick_due (hp : s.present ch = true) (rank : Fin 2) (bank : Fin 16) {k : Nat} (hk : k = rank.val * 16 + bank.val) :
    (s.ranks ≤ rank.val → exec (.refreshTick ch rank bank) s = .next s) ∧
    (rank.val < s.ranks → (s.chan ch).keeper = true → exec (.refreshTick ch rank bank) s = .next (if s.keeps ch rank bank then
      s.setChan ch { s.chan ch with postponed := tset 0 (s.chan ch).postponed k 0 } else s)) ∧
    (rank.val < s.ranks → (s.chan ch).keeper = false →
      ((s.chan ch).window = none → s.class1At (s.chan ch) k = false → exec (.refreshTick ch rank bank) s =
        .next (s.setChan ch { s.chan ch with postponed := tset 0 (s.chan ch).postponed k 0 })) ∧
      ((s.chan ch).window ≠ none ∨ s.class1At (s.chan ch) k = true →
        ((s.chan ch).owed k < 8 → exec (.refreshTick ch rank bank) s = .next (s.setChan ch { s.chan ch with
          postponed := tset 0 (s.chan ch).postponed k ((s.chan ch).owed k + 1) })) ∧
        (8 ≤ (s.chan ch).owed k → exec (.refreshTick ch rank bank) s = .next (s.bump (celA ch 0x14) 1)))) := by
  subst hk
  have hgo : ∀ h : rank.val < s.ranks, ¬ (!s.present ch || decide (s.ranks ≤ rank.val)) = true := fun h => by simp [hp, h]
  refine ⟨fun h => if_pos (by simp [h]), fun h hkeep => (if_neg (hgo h)).trans (if_pos hkeep), fun h hkeep => ?_⟩
  have hkeep' : ¬ (s.chan ch).keeper = true := by simp [hkeep]
  refine ⟨fun hw hc => (if_neg (hgo h)).trans ((if_neg hkeep').trans (if_neg (by simp [hw, hc]))), fun hheld => ?_⟩
  have hheld' : ((s.chan ch).window.isSome || s.class1At (s.chan ch) (rank.val * 16 + bank.val)) = true := by
    rcases hheld with hw | hc
    · simp [Option.isSome_iff_ne_none.2 hw]
    · simp [hc]
  exact ⟨fun ho => (if_neg (hgo h)).trans ((if_neg hkeep').trans ((if_pos hheld').trans (if_neg (by omega)))),
    fun ho => (if_neg (hgo h)).trans ((if_neg hkeep').trans ((if_pos hheld').trans (if_pos ho)))⟩

theorem calibrationDue_due (hp : s.present ch = true) :
    ((s.chan ch).keeper = false → (s.chan ch).calLast + (s.reg 0x0050_0010).toNat ≤ s.cyc →
      (s.chanIdle (s.chan ch) = true ∧ (s.chan ch).window = none → exec (.calibrationDue ch) s = .next (s.setChan ch { s.chan ch with
        calDue := some ((s.chan ch).calDue.getD s.cyc), window := some (s.cyc, false) })) ∧
      (s.chanIdle (s.chan ch) = false ∨ (s.chan ch).window ≠ none → exec (.calibrationDue ch) s = .next (s.setChan ch { s.chan ch with
        calDue := some ((s.chan ch).calDue.getD s.cyc) }))) ∧
    ((s.chan ch).keeper = true ∨ s.cyc < (s.chan ch).calLast + (s.reg 0x0050_0010).toNat → exec (.calibrationDue ch) s = .next s) := by
  change (_ → _ → (_ → execCalibrationDue ch s = _) ∧ (_ → execCalibrationDue ch s = _)) ∧ (_ → execCalibrationDue ch s = _)
  unfold execCalibrationDue
  extract_lets c due
  refine ⟨fun hk hc => ?_, fun h => if_pos (by rcases h with h | h <;> simp [c, h])⟩
  rw [if_neg (by simp [hp, c, hk]; omega)]
  refine ⟨fun ⟨hi, hw⟩ => if_pos (by simp [c, hi, hw]), fun h => if_neg ?_⟩
  rcases h with hi | hw
  · simp [c, hi]
  · simp [c, hw]

theorem calibrationForced_due :
    (s.calOver ch = true → (∀ n, n < 8 → s.forcedNow n = false) → (∀ n, n < ch.val → s.calOver n = false) →
      exec (.calibrationForced ch) s = .next ((s.setChan ch { s.chan ch with
        postponed := (s.chan ch).postponed.map (fun e => (e.1, Nat.min e.2 4)), window := some (s.cyc, true) }).bump (celA ch 0x18) 1)) ∧
    (s.calOver ch = false ∨ (∃ n, n < 8 ∧ s.forcedNow n = true) ∨ (∃ n, n < ch.val ∧ s.calOver n = true) →
      exec (.calibrationForced ch) s = .next s) := by
  refine ⟨fun hc hf hb => if_pos ?_, fun h => if_neg ?_⟩
  · simp only [hc, Bool.true_and, Bool.and_eq_true, Bool.not_eq_true', List.any_eq_false, List.mem_range]
    exact ⟨fun n hn => by simp [hf n hn], fun n hn => by simp [hb n hn]⟩
  · rintro hgo
    simp only [Bool.and_eq_true, Bool.not_eq_true', List.any_eq_false, List.mem_range] at hgo
    obtain ⟨⟨hc, hf⟩, hb⟩ := hgo
    rcases h with h | ⟨n, hn, h⟩ | ⟨n, hn, h⟩
    · simp [h] at hc
    · exact hf n hn h
    · exact hb n hn h

theorem chan_setChan_self (s : State) (n : Nat) (c : Chan) : (s.setChan n c).chan n = c := tget_tset_self ..

theorem calibrationWindowEnd_due :
    (∀ t f, (s.chan ch).window = some (t, f) →
      (t + 141 ≤ s.cyc → ∃ u, exec (.calibrationWindowEnd ch) s = .next u ∧ u.chan ch = { s.chan ch with
        window := none, calDue := none, calLast := (s.chan ch).calDue.getD s.cyc, postponed := [] } ∧ u.cel.mem = s.cel.mem) ∧
      (s.cyc < t + 141 → exec (.calibrationWindowEnd ch) s = .next s)) ∧
    ((s.chan ch).window = none → exec (.calibrationWindowEnd ch) s = .next s) := by
  change (∀ t f, _ → (_ → ∃ u, execCalibrationWindowEnd ch s = _ ∧ _) ∧ (_ → execCalibrationWindowEnd ch s = _)) ∧
    (_ → execCalibrationWindowEnd ch s = _)
  unfold execCalibrationWindowEnd
  dsimp only
  refine ⟨fun t f hw => ?_, fun hw => by rw [hw]⟩
  rw [hw]
  refine ⟨fun h => ?_, fun h => if_pos h⟩
  cases f <;> exact ⟨_, if_neg (by omega), chan_setChan_self .., rfl⟩

theorem scrubFloorExpiry_due (hp : s.present ch = true) :
    (s.cel.initDone = true ∧ (s.chan ch).keeper = false ∧ (s.chan ch).scrubProm = false ∧
        (s.chan ch).scrubLast + (s.reg 0x0050_0018).toNat ≤ s.cyc →
      exec (.scrubFloorExpiry ch) s = .next ((s.setChan ch { s.chan ch with scrubProm := true }).bump (celA ch 0x28) 1)) ∧
    (s.cel.initDone = false ∨ (s.chan ch).keeper = true ∨ (s.chan ch).scrubProm = true ∨
        s.cyc < (s.chan ch).scrubLast + (s.reg 0x0050_0018).toNat → exec (.scrubFloorExpiry ch) s = .next s) := by
  refine ⟨fun ⟨hi, hk, hs, hd⟩ => if_pos (by simp [hp, hi, hk, hs, hd]), fun h => if_neg ?_⟩
  rcases h with h | h | h | h <;> simp [h]

theorem keeperHandover_runs (hp : s.present ch = true) :
    (∀ t : State, s.pwr.entering = some (3, 4) → t = pulse (s.setChan ch { s.chan ch with keeper := true }) 89 →
      exec (.keeperHandover ch) s = .next (if t.keepersDone then switchOff t 3 else t)) ∧
    (s.pwr.entering ≠ some (3, 4) →
      exec (.keeperHandover ch) s = match s.pwr.wake with
        | some w => if (s.chan ch).keeper && w.left = 3 && 4 ≤ w.step then
            .next (pulse (s.setChan ch { s.chan ch with keeper := false, window := some (s.cyc, true) }) 89) else .next s
        | none => .next s) := by
  change (∀ t, _ → _ → execKeeperHandover ch s = _) ∧ (_ → execKeeperHandover ch s = _)
  unfold execKeeperHandover
  extract_lets c
  rw [if_neg (by simp [hp])]
  refine ⟨fun t he ht => by rw [he, ht]; rfl, fun he => ?_⟩
  split
  · exact absurd ‹_› he
  · cases s.pwr.wake <;> rfl

end

/-- Settles O54: each event by what it waits for. -/
theorem refreshCalibrationAndScrub : Obligations.RefreshCalibrationAndScrub := by
  unfold Obligations.RefreshCalibrationAndScrub
  refine fun s ch hp => ⟨fun rank bank k hk => refreshTick_due hp rank bank hk, (calibrationDue_due hp).1, (calibrationDue_due hp).2,
    calibrationForced_due.1, calibrationForced_due.2, calibrationWindowEnd_due.1, calibrationWindowEnd_due.2, (scrubFloorExpiry_due hp).1,
    (scrubFloorExpiry_due hp).2, fun h => if_pos h, fun h => if_neg (ne_true_of_eq_false h), (keeperHandover_runs hp).1, fun he hno => ?_,
    fun w he hw hk => ⟨fun hl hs => ?_, fun hno => ?_⟩⟩
  · rw [(keeperHandover_runs hp).2 he]
    cases hw : s.pwr.wake with
    | none => rfl
    | some w => exact if_neg (by simp [hno.resolve_left (by simp [hw])])
  · rw [(keeperHandover_runs hp).2 he, hw]
    exact if_pos (by simp [hk, hl, hs])
  · rw [(keeperHandover_runs hp).2 he, hw]
    exact if_neg (by rcases hno with h | h <;> simp [h])

end Sys2Proof.Machine
end

section
/-!
PROOF. Requests and training operations at the channels of the Cellar (R436-R460).
-/
namespace Sys2Proof.Machine

open Host

theorem cel_of_offPackets {s t : State} (h : t.offPackets = s.offPackets) : t.cel = s.cel := by
  simp only [State.offPackets, Prod.mk.injEq] at h
  exact h.2.2.2.2.1

@[simp] theorem cel_setSlotRun (s : State) (k : Nat) (x : SlotRun) : (s.setSlotRun k x).cel = s.cel := rfl

theorem cel_bump (s : State) (a n : Nat) : (s.bump a n).cel = s.cel := by simp

theorem cel_askLeg (s : State) (l i : Nat) (fir : Bool) : (askLeg s l i fir).cel = s.cel := by
  unfold askLeg
  extract_lets key soon
  split
  · rfl
  · split
    · exact (cel_of_offPackets (offPackets_sendRtcp ..)).trans rfl
    · rfl

theorem cel_slotAsks (s : State) (k : Nat) : (slotAsks s k).cel = s.cel := by
  unfold slotAsks
  dsimp only
  split
  · rfl
  · exact (cel_bump ..).trans (cel_askLeg ..)

theorem cel_runAsks (s : State) (k : Nat) : (runAsks s k).cel = s.cel := by
  unfold runAsks
  dsimp only
  split
  · rfl
  · split
    · simp [cel_slotAsks]
    · exact cel_slotAsks s k

theorem cel_beginTaint (s : State) (k : Nat) : (beginTaint s k).cel = s.cel := by
  simp [beginTaint, cel_runAsks]

theorem cel_limit (s : State) (k p n m : Nat) : (s.limit k p n m).2.cel = s.cel := cel_of_offPackets (offPackets_limit ..)

theorem cel_damage (s : State) (k : Nat) (bs : List (Nat × Nat)) : (damage s k bs).cel = s.cel := by
  unfold damage
  dsimp only
  split
  · rfl
  · rename_i c _
    have ht : ∀ u : State, u.cel = s.cel →
        (match u.limit (objKey 0x0A15 k) ctPerSec bs.length 0 with
          | (some (n, _), s) => event s 0x0A15 (low k) (low c.num) (low n) 0 0
          | (none, s) => s).cel = s.cel := by
      intro u hu
      have hl := cel_limit u (objKey 0x0A15 k) ctPerSec bs.length 0
      split
      case h_1 heq =>
        rw [heq] at hl
        simpa using hl.trans hu
      case h_2 heq =>
        rw [heq] at hl
        exact hl.trans hu
    refine ht _ ?_
    split
    · simp [cel_beginTaint]
    · simp

theorem cel_poisonRead (s : State) (a : Nat) (u : MemUse) : (poisonRead s a u).cel = s.cel := by
  unfold poisonRead
  split
  · exact cel_damage ..
  · rfl
  · rfl
  · rfl
  · dsimp only
    split
    · exact (cel_of_offPackets (offPackets_releaseHandle ..)).trans (by simp)
    · simp
  · rfl

/-- What an error report, or a scrub hand-over, leaves of a channel's queues and of memory's bytes. -/
structure SameQueues (n : Nat) (s t : State) : Prop where
  mem : t.cel.mem = s.cel.mem
  reads : (t.chan n).reads = (s.chan n).reads
  writes : (t.chan n).writes = (s.chan n).writes

theorem SameQueues.trans {n : Nat} {s t u : State} (h : SameQueues n s t) (g : SameQueues n t u) : SameQueues n s u :=
  ⟨g.mem.trans h.mem, g.reads.trans h.reads, g.writes.trans h.writes⟩

theorem SameQueues.of_cel {n : Nat} {s t : State} (h : t.cel = s.cel) : SameQueues n s t := by
  refine ⟨by rw [h], ?_, ?_⟩ <;> simp only [State.chan, h]

theorem SameQueues.of_setChan {n : Nat} {s : State} {c : Chan} (hr : c.reads = (s.chan n).reads) (hw : c.writes = (s.chan n).writes) :
    SameQueues n s (s.setChan n c) := by
  refine ⟨rfl, ?_, ?_⟩ <;> rw [chan_setChan_self] <;> assumption

theorem sameQueues_countCe (s : State) (n pa : Nat) : SameQueues n s (countCe s n pa) := by
  have h1 : SameQueues n s ((s.bump (celA n 0x04) 1).setReg (celA n 0x0C) (low (lineOf pa))) := .of_cel (by simp)
  unfold countCe
  extract_lets s1 s2 c times s3
  have h3 : SameQueues n s s3 := h1.trans (.of_setChan rfl rfl)
  split
  · have hl : SameQueues n s3 (s3.limit (objKey 0x0311 n) ctPerSec 1 0).2 := .of_cel (cel_limit ..)
    split
    case h_1 heq =>
      rw [heq] at hl
      refine h3.trans (hl.trans (.of_cel ?_))
      refine (cel_of_offPackets (offPackets_pulse ..)).trans ((cel_of_offPackets (offPackets_reportOpen ..)).trans ?_)
      exact cel_of_offPackets (offPackets_event ..)
    case h_2 heq =>
      rw [heq] at hl
      exact h3.trans hl
  · exact h3

theorem sameQueues_countUe (s : State) (n pa : Nat) (unit : Byte) : SameQueues n s (countUe s n pa unit) := by
  unfold countUe
  extract_lets s1 s2 a s3
  refine .of_cel ((cel_of_offPackets (offPackets_pulse ..)).trans ((cel_of_offPackets (offPackets_reportOpen ..)).trans ?_))
  exact (cel_of_offPackets (offPackets_event ..)).trans (by simp [s2, s1])

/-- A read changes no byte of memory and no queue of its channel. -/
theorem sameQueues_readLine (s : State) (n pa : Nat) (unit : Byte) (u : MemUse) : SameQueues n s (readLine s n pa unit u) := by
  unfold readLine
  extract_lets s1
  have h1 : SameQueues n s s1 := .of_cel (by simp [s1])
  split
  · exact h1
  · exact (h1.trans (sameQueues_countCe ..)).trans (.of_setChan rfl rfl)
  · exact (h1.trans (sameQueues_countUe ..)).trans (.of_cel (cel_poisonRead ..))

theorem sameQueues_inject (s : State) (n m beat : Nat) : SameQueues n s (inject s m beat) := by
  unfold inject
  extract_lets v
  split
  · exact ⟨rfl, rfl, rfl⟩
  · exact .of_cel rfl

/-- A write changes the bytes of its line that it names. -/
theorem writeLine_writes (s : State) (n : Nat) (r : MemReq) :
    (writeLine s n r).cel.mem = r.data.foldl (fun m d => tset 0 m (lineOf r.pa.toNat + d.1.val) d.2) s.cel.mem ∧
    ((writeLine s n r).chan n).reads = (s.chan n).reads ∧ ((writeLine s n r).chan n).writes = (s.chan n).writes := by
  unfold writeLine
  extract_lets line s1 s2 first
  obtain ⟨hm, hr, hw⟩ := sameQueues_inject s2 n n first
  have hs1 : s1.cel = s.cel := by simp [s1]
  refine ⟨hm.trans ?_, hr.trans ?_, hw.trans ?_⟩
  · exact congrArg (fun c : Cellar => r.data.foldl (fun m d => tset 0 m (line + d.1.val) d.2) c.mem) (hs1 : s1.cel = s.cel)
  · exact congrArg (fun c : Cellar => (tget {} c.chans n).reads) hs1
  · exact congrArg (fun c : Cellar => (tget {} c.chans n).writes) hs1

/-- The one request of an idle channel, as it stands in its queue. -/
def arrived (s : State) (n : Nat) (r : MemReq) : MemQ := { req := r, seq := (s.chan n).nextSeq, born := s.cyc, prom := false }

/-- A channel with nothing but the request that has just arrived. -/
structure Alone (s : State) (n : Nat) (r : MemReq) (t : State) : Prop where
  mem : t.cel.mem = s.cel.mem
  bank : ∀ pa, t.paBankKey pa = s.paBankKey pa
  window : (t.chan n).window = none
  prom : (t.chan n).scrubProm = false
  postponed : (t.chan n).postponed = (s.chan n).postponed
  queues : (t.chan n).reads = (if r.write then [] else [arrived s n r]) ∧ (t.chan n).writes = if r.write then [arrived s n r] else []

theorem acceptReq_alone {s : State} {n : Nat} {r : MemReq} (hwin : (s.chan n).window = none) (hprom : (s.chan n).scrubProm = false)
    (hr : (s.chan n).reads = []) (hw : (s.chan n).writes = []) : Alone s n r (acceptReq s n r) := by
  unfold acceptReq
  extract_lets c q c1 c2
  have hc1 : c1 = s.chan n := by simp [c1, c, hwin]
  cases hwr : r.write
  · rw [if_neg (by simp), if_neg (by simp [hc1, hr])]
    have hfind : c1.writes.reverse.find? (fun w => w.line == q.line) = none := by simp [hc1, hw]
    rw [hfind]
    dsimp only
    refine ⟨rfl, fun _ => rfl, ?_, ?_, ?_, ?_⟩
    all_goals rw [chan_setChan_self]
    · simpa [c2, hc1] using hwin
    · simpa [c2, hc1] using hprom
    · simp [c2, hc1]
    · simp [c2, hc1, hr, hw, hwr, q, arrived, c]
  · rw [if_pos rfl, if_neg (by simp [hc1, hw])]
    refine ⟨rfl, fun _ => rfl, ?_, ?_, ?_, ?_⟩
    all_goals rw [chan_setChan_self]
    · simpa [hc1] using hwin
    · simpa [hc1] using hprom
    · simp [hc1]
    · simp [hc1, hr, hw, hwr, q, arrived, c]

theorem eligible_alone (s : State) {c : Chan} {q : MemQ} (h : c.all = [q]) : s.eligible c q = true := by
  simp [State.eligible, h]

/-- A request alone at its channel is the one that issues. -/
theorem pickReq_alone (s : State) {c : Chan} {q : MemQ} {w : Bool} (hr : c.reads = if w then [] else [q])
    (hw : c.writes = if w then [q] else []) : s.pickReq c = some q := by
  have hall : c.all = [q] := by cases w <;> simp [Chan.all, hr, hw]
  have he := eligible_alone s hall
  unfold State.pickReq
  cases w
  · simp at hr hw
    simp [hr, hw, he, bestReq, State.batchDue]
  · simp at hr hw
    by_cases hb : c.batched q = true
    · simp [hr, hw, he, bestReq, hb]
    · simp [hr, hw, he, bestReq, hb, State.batchDue]

theorem memoryRequestIssue_one {s : State} {ch : Fin 8} {r : MemReq} (hp : s.present ch = true) (hi : s.cel.initDone = true)
    (hk : (s.chan ch).keeper = false) (hwin : (s.chan ch).window = none) (hprom : (s.chan ch).scrubProm = false)
    (hr : (s.chan ch).reads = []) (hw : (s.chan ch).writes = []) (hc : s.paChan r.pa.toNat = ch.val) :
    ∃ u, Alone s ch r u ∧ exec (.memoryRequestIssue ch [r]) s = .next (issueReq u ch (u.chan ch) (arrived s ch r)) := by
  have ha := acceptReq_alone (r := r) hwin hprom hr hw
  refine ⟨acceptReq s ch r, ha, ?_⟩
  change execMemoryRequestIssue ch [r] s = _
  unfold execMemoryRequestIssue
  rw [if_neg (by simp [hp, hi, hk])]
  have hmine : [r].filter (fun r => s.paChan r.pa.toNat == ch.val) = [r] := by simp [hc]
  dsimp only
  rw [hmine, List.foldl_cons, List.foldl_nil, if_neg (by simp [ha.window]), if_neg (by simp [ha.prom]),
    pickReq_alone _ ha.queues.1 ha.queues.2]

/-- A request alone that a postponed refresh does not hold back issues: its queue is empty then. -/
theorem issueReq_goes {s u : State} {n : Nat} {r : MemReq} (ha : Alone s n r u)
    (hgo : r.cls.val < 2 ∨ (s.chan n).owed (s.paBankKey r.pa.toNat) = 0) :
    (r.write = true → (issueReq u n (u.chan n) (arrived s n r)).cel.mem =
      r.data.foldl (fun m d => tset 0 m (lineOf r.pa.toNat + d.1.val) d.2) s.cel.mem) ∧
    (r.write = false → (issueReq u n (u.chan n) (arrived s n r)).cel.mem = s.cel.mem) ∧
    ((issueReq u n (u.chan n) (arrived s n r)).chan n).reads = [] ∧ ((issueReq u n (u.chan n) (arrived s n r)).chan n).writes = [] := by
  obtain ⟨hmem, hbank, -, -, hpost, hreads, hwrites⟩ := ha
  have hdrop : ∀ c : Chan, c.reads = (u.chan n).reads → c.writes = (u.chan n).writes →
      (c.drop (u.paBankKey r.pa.toNat) (arrived s n r)).reads = [] ∧ (c.drop (u.paBankKey r.pa.toNat) (arrived s n r)).writes = [] := by
    intro c hcr hcw
    simp only [Chan.drop, hcr, hcw, hreads, hwrites]
    cases r.write <;> simp
  unfold issueReq
  extract_lets k c t
  rw [if_neg]
  · have hc : c.reads = (u.chan n).reads ∧ c.writes = (u.chan n).writes := by
      unfold c
      split <;> exact ⟨rfl, rfl⟩
    obtain ⟨hdr, hdw⟩ := hdrop c hc.1 hc.2
    have ht : t.cel.mem = s.cel.mem ∧ (t.chan n).reads = [] ∧ (t.chan n).writes = [] := by
      refine ⟨hmem, ?_, ?_⟩
      · rw [chan_setChan_self]; exact hdr
      · rw [chan_setChan_self]; exact hdw
    obtain ⟨htm, htr, htw⟩ := ht
    have hq : (arrived s n r).req = r := rfl
    rw [hq]
    cases hw : r.write
    · obtain ⟨hm, hr, hw⟩ := sameQueues_readLine t n r.pa.toNat r.unit r.use
      rw [if_neg (by simp)]
      exact ⟨fun h => absurd h (by simp), fun _ => hm.trans htm, hr.trans htr, hw.trans htw⟩
    · obtain ⟨hm, hr, hw⟩ := writeLine_writes t n r
      rw [if_pos rfl]
      exact ⟨fun _ => hm.trans (by rw [htm]), fun h => absurd h (by simp), hr.trans htr, hw.trans htw⟩
  · have hk : (u.chan n).owed k = (s.chan n).owed (s.paBankKey r.pa.toNat) := by
      change tget 0 (u.chan n).postponed (u.paBankKey r.pa.toNat) = tget 0 (s.chan n).postponed (s.paBankKey r.pa.toNat)
      rw [hpost, hbank]
    rw [hk]
    simp only [Bool.and_eq_true, decide_eq_true_eq, not_and]
    intro h2
    change 2 ≤ r.cls.val at h2
    omega

/-- A request of class 2 or 3 waits for its bank's postponed refresh, which goes first. -/
theorem issueReq_waits {s u : State} {n : Nat} {r : MemReq} (ha : Alone s n r u) (h2 : 2 ≤ r.cls.val)
    (ho : 0 < (s.chan n).owed (s.paBankKey r.pa.toNat)) :
    (issueReq u n (u.chan n) (arrived s n r)).cel.mem = s.cel.mem ∧
    ((issueReq u n (u.chan n) (arrived s n r)).chan n).all.map MemQ.req = [r] ∧
    ((issueReq u n (u.chan n) (arrived s n r)).chan n).owed (s.paBankKey r.pa.toNat) =
      (s.chan n).owed (s.paBankKey r.pa.toNat) - 1 := by
  obtain ⟨hmem, hbank, -, -, hpost, hreads, hwrites⟩ := ha
  have hk : (u.chan n).owed (u.paBankKey r.pa.toNat) = (s.chan n).owed (s.paBankKey r.pa.toNat) := by
    rw [Chan.owed, Chan.owed, hpost, hbank]
  have hrun : issueReq u n (u.chan n) (arrived s n r) = u.setChan n { u.chan n with
      postponed := tset 0 (u.chan n).postponed (u.paBankKey r.pa.toNat) ((u.chan n).owed (u.paBankKey r.pa.toNat) - 1) } := by
    refine if_pos ?_
    change (decide (2 ≤ r.cls.val) && decide (0 < (u.chan n).owed (u.paBankKey r.pa.toNat))) = true
    simp [h2, hk, ho]
  rw [hrun, chan_setChan_self]
  refine ⟨hmem, ?_, ?_⟩
  · change ((u.chan n).reads ++ (u.chan n).writes).map MemQ.req = [r]
    rw [hreads, hwrites]
    cases r.write <;> rfl
  · change tget 0 (tset 0 _ _ _) _ = _
    rw [hbank, tget_tset_self, ← hbank, hk, hbank]

theorem agePromotion_runs {s : State} {ch : Fin 8} (hp : s.present ch = true) {due : MemQ → Bool}
    (hd : due = (fun q => !q.prom && decide (2 ≤ q.req.cls.val) && s.ageLimit q.req.cls.val != 0 &&
      decide (s.ageLimit q.req.cls.val ≤ s.memAge q))) :
    (0 < ((s.chan ch).all.filter due).length → exec (.agePromotion ch) s = .next ((s.setChan ch { s.chan ch with
      reads := (s.chan ch).reads.map (fun q => if due q then { q with prom := true } else q),
      writes := (s.chan ch).writes.map (fun q => if due q then { q with prom := true } else q) }).bump (celA ch 0x28)
        ((s.chan ch).all.filter due).length)) ∧
    (((s.chan ch).all.filter due).length = 0 → exec (.agePromotion ch) s = .next s) := by
  subst hd
  refine ⟨fun h => if_neg ?_, fun h => if_pos (by simp [h])⟩
  simp only [hp, Bool.not_true, Bool.or_false, decide_eq_true_eq]
  exact Nat.ne_of_gt h

end Sys2Proof.Machine
end

section
/-!
PROOF. The training registers and the other writes at the Cellar (R436, R454-R460).
-/
namespace Sys2Proof.Machine

open Host

theorem celA_ne {n a b : Nat} (h : a ≠ b) : celA n a ≠ celA n b := by
  simp only [celA]
  omega

theorem startTraining_keeps (s : State) (n : Nat) (v : Word) :
    (startTraining s n v).cel.mem = s.cel.mem ∧ (startTraining s n v).gate = s.gate ∧
    (∀ a, a ≠ celA n 0x104 → (startTraining s n v).reg a = s.reg a) ∧
    (bit v 31 = true → bits v 15 0 ≠ 0 → ((startTraining s n v).chan n).training = true) := by
  unfold startTraining
  extract_lets t
  have ht : ∀ a, a ≠ celA n 0x104 → t.reg a = s.reg a := fun a ha => by simp [t, ha]
  split
  · refine ⟨rfl, rfl, ht, fun _ _ => ?_⟩
    rw [chan_setChan_self]
  · refine ⟨rfl, rfl, ht, fun h1 h2 => (‹¬ (bit v 31 && decide (bits v 15 0 ≠ 0)) = true› (by simp [h1, h2])).elim⟩

theorem startTraining_stored (s : State) (n : Nat) (v : Word) (h : bit v 31 = false ∨ bits v 15 0 = 0) :
    startTraining s n v = s.setReg (celA n 0x104) (v &&& 0x7F00_FFFF) :=
  if_neg (by rcases h with h | h <;> simp [h])

/-- The bytes of a line, and no other, are written. -/
theorem writeBytes_elsewhere (s : State) {l a : Nat} (d : List (Fin 64 × Byte)) (h : a < l ∨ l + 64 ≤ a) :
    tget 0 (writeBytes s l d).cel.mem a = tget 0 s.cel.mem a := by
  change tget 0 (d.foldl (fun m d => tset 0 m (l + d.1.val) d.2) s.cel.mem) a = _
  generalize s.cel.mem = m
  induction d generalizing m with
  | nil => rfl
  | cons e r ih =>
    rw [List.foldl_cons, ih, tget_tset_ne]
    have := e.1.isLt
    omega

/-- Writing a pattern to lines: the channel's record stays, and so does every byte of another line. -/
theorem writeLines_keeps (d : List (Fin 64 × Byte)) : ∀ (l : List Nat) (s : State),
    (l.foldl (fun s l => writeBytes s l d) s).cel.chans = s.cel.chans ∧
    (l.foldl (fun s l => writeBytes s l d) s).cel.mem =
      l.foldl (fun m l => d.foldl (fun m d => tset 0 m (l + d.1.val) d.2) m) s.cel.mem ∧
    ∀ a, (∀ x ∈ l, a < x ∨ x + 64 ≤ a) → tget 0 (l.foldl (fun s l => writeBytes s l d) s).cel.mem a = tget 0 s.cel.mem a
  | [], _ => ⟨rfl, rfl, fun _ _ => rfl⟩
  | x :: r, s => by
    obtain ⟨hc, hm, ha⟩ := writeLines_keeps d r (writeBytes s x d)
    exact ⟨hc, hm, fun a h => (ha a fun y hy => h y (List.mem_cons_of_mem _ hy)).trans
      (writeBytes_elsewhere s d (h x (List.mem_cons_self ..)))⟩

/-- OP 0 with GO, once the registers take it. -/
theorem writePattern_runs {s : State} {n : Nat} {v : Word} (ht : s.trainable n = true) (hop : bits v 30 29 = 0) (hgo : bit v 31 = true) :
    ∃ u k, u.cel = (startTraining s n v).cel ∧ u.reg (celA n 0x104) = (startTraining s n v).reg (celA n 0x104) ∧
      writePattern s n v = (patternLines s n v).foldl
        (fun w l => writeBytes w l (patternLine (bit (s.reg (celA n 0x10C)) 31) k)) u := by
  obtain ⟨-, hgate, hreg, -⟩ := startTraining_keeps s n v
  have hlines : patternLines (startTraining s n v) n v = patternLines s n v := by
    have hc : (startTraining s n v).channels = s.channels := by rw [State.channels, State.channels, hgate]
    simp only [patternLines, paOf, hc, hreg _ (celA_ne (a := 0x108) (b := 0x104) (by omega))]
  refine ⟨{ startTraining s n v with free := (startTraining s n v).free + 64 }, (startTraining s n v).free, rfl, rfl, ?_⟩
  refine (if_neg (by simp [ht, hop])).trans ((if_neg (by simp [hgo])).trans ?_)
  rw [← hlines, ← hreg _ (celA_ne (a := 0x10C) (b := 0x104) (by omega))]
  rfl

/-- The pattern of OP 0 reaches the lines that it names, and no other byte. -/
theorem writePattern_writes {s : State} {n : Nat} {v : Word} (ht : s.trainable n = true) (hop : bits v 30 29 = 0) (hgo : bit v 31 = true)
    (hl : bits v 15 0 ≠ 0) :
    ((writePattern s n v).chan n).training = true ∧
    (∀ a, (∀ l ∈ patternLines s n v, a < l ∨ l + 64 ≤ a) → tget 0 (writePattern s n v).cel.mem a = tget 0 s.cel.mem a) ∧
    (bit (s.reg (celA n 0x10C)) 31 = false → (writePattern s n v).cel.mem = (patternLines s n v).foldl
      (fun m l => ((List.finRange 64).map fun i => (i, if i.val / 8 % 2 = 0 then (0x55 : Byte) else 0xAA)).foldl
        (fun m d => tset 0 m (l + d.1.val) d.2) m) s.cel.mem) := by
  obtain ⟨hmem, -, -, htrain⟩ := startTraining_keeps s n v
  obtain ⟨u, k, hcel, -, hrun⟩ := writePattern_runs ht hop hgo
  obtain ⟨hchans, hlines, helse⟩ := writeLines_keeps (patternLine (bit (s.reg (celA n 0x10C)) 31) k) (patternLines s n v) u
  have hum : u.cel.mem = s.cel.mem := (congrArg Cellar.mem hcel).trans hmem
  rw [hrun]
  refine ⟨?_, fun a ha => (helse a ha).trans (by rw [hum]), fun hp => ?_⟩
  · rw [State.chan, hchans, hcel]
    exact htrain hgo hl
  · rw [hlines, hum, hp]
    rfl

theorem writePattern_stored {s : State} {n : Nat} {v : Word} (ht : s.trainable n = true) (hop : bits v 30 29 = 0)
    (hno : bit v 31 = false ∨ bits v 15 0 = 0) :
    (writePattern s n v).reg (celA n 0x104) = v &&& 0x7F00_FFFF ∧ (writePattern s n v).cel = s.cel := by
  have hst := startTraining_stored s n v hno
  have hreg : (s.setReg (celA n 0x104) (v &&& 0x7F00_FFFF)).reg (celA n 0x104) = v &&& 0x7F00_FFFF := by simp
  cases hgo : bit v 31
  · have hrun : writePattern s n v = s.setReg (celA n 0x104) (v &&& 0x7F00_FFFF) :=
      (if_neg (by simp [ht, hop])).trans ((if_pos (by simp [hgo])).trans hst)
    rw [hrun]
    exact ⟨hreg, rfl⟩
  · have hlen : patternLines s n v = [] := by simp [patternLines, hno.resolve_left (by simp [hgo])]
    obtain ⟨u, k, hcel, hr, hrun⟩ := writePattern_runs ht hop hgo
    rw [hrun, hlen, List.foldl_nil, hr, hcel, hst]
    exact ⟨hreg, rfl⟩

theorem setFails_keeps (s : State) (n : Nat) (f : BitVec 72) :
    (setFails s n f).cel = s.cel ∧
    (setFails s n f).reg (celA n 0x110) = s.reg (celA n 0x110) ||| f.extractLsb' 0 32 ∧
    (setFails s n f).reg (celA n 0x114) = s.reg (celA n 0x114) ||| f.extractLsb' 32 32 ∧
    (setFails s n f).reg (celA n 0x118) = s.reg (celA n 0x118) ||| (f.extractLsb' 64 8).setWidth 32 := by
  have h1 : celA n 0x110 ≠ celA n 0x114 := celA_ne (by omega)
  have h2 : celA n 0x110 ≠ celA n 0x118 := celA_ne (by omega)
  have h3 : celA n 0x114 ≠ celA n 0x118 := celA_ne (by omega)
  unfold setFails
  extract_lets s1 s2
  refine ⟨rfl, ?_, ?_, ?_⟩ <;> simp [s2, s1, h1, h2, h3, h1.symm, h2.symm, h3.symm]

/-- A compare with GO sets the sticky fail bits of the lanes that fail. -/
theorem compareOp_runs {s : State} {n op : Nat} {v : Word} (ht : s.trainable n = true) (hop : bits v 30 29 = op) (f : BitVec 72)
    (hgo : bit v 31 = true) (hl : bits v 15 0 ≠ 0) :
    ((compareOp s n op v f).chan n).training = true ∧
    (compareOp s n op v f).reg (celA n 0x110) = s.reg (celA n 0x110) ||| f.extractLsb' 0 32 ∧
    (compareOp s n op v f).reg (celA n 0x114) = s.reg (celA n 0x114) ||| f.extractLsb' 32 32 ∧
    (compareOp s n op v f).reg (celA n 0x118) = s.reg (celA n 0x118) ||| (f.extractLsb' 64 8).setWidth 32 ∧
    (compareOp s n op v f).cel.mem = s.cel.mem := by
  have hrun : compareOp s n op v f = setFails (startTraining s n v) n f :=
    (if_neg (by simp [ht, hop])).trans (if_pos (by simp [hgo, hl]))
  obtain ⟨hmem, -, hreg, htrain⟩ := startTraining_keeps s n v
  obtain ⟨hcel, h1, h2, h3⟩ := setFails_keeps (startTraining s n v) n f
  rw [hrun, h1, h2, h3, hreg _ (celA_ne (by omega)), hreg _ (celA_ne (by omega)), hreg _ (celA_ne (by omega))]
  refine ⟨?_, rfl, rfl, rfl, (congrArg Cellar.mem hcel).trans hmem⟩
  rw [State.chan, hcel]
  exact htrain hgo hl

theorem compareOp_stored {s : State} {n op : Nat} {v : Word} (ht : s.trainable n = true) (hop : bits v 30 29 = op) (f : BitVec 72)
    (h : bit v 31 = false ∨ bits v 15 0 = 0) : compareOp s n op v f = s.setReg (celA n 0x104) (v &&& 0x7F00_FFFF) :=
  (if_neg (by simp [ht, hop])).trans ((if_neg (by rcases h with h | h <;> simp [h])).trans (startTraining_stored s n v h))

/-- Settles O53: requests through the queues of their channel, training through the registers and lines that it writes. -/
theorem requestsAndTrainingReachMemory : Obligations.RequestsAndTrainingReachMemory := by
  unfold Obligations.RequestsAndTrainingReachMemory
  refine ⟨⟨fun s ch => ⟨fun rs => ?any, fun rs hno => ?none, fun r hp hi hk hwin hprom hr hw hc => ?one,
    fun due hd hp => agePromotion_runs hp hd, fun hp => ?absent⟩, fun s r ch v f s' hs' => ?training⟩,
    fun s => ⟨fun c ht hn hl => ?layout, fun r v s' hs' => ?writes⟩⟩
  case any =>
    change ∃ t, execMemoryRequestIssue ch rs s = _
    unfold execMemoryRequestIssue
    extract_lets mine t c
    split
    · exact ⟨_, rfl⟩
    · split
      · exact ⟨_, rfl⟩
      · split
        · exact ⟨_, rfl⟩
        · split <;> exact ⟨_, rfl⟩
  case none =>
    refine if_pos ?_
    rcases hno with h | h | h <;> simp [h]
  case one =>
    obtain ⟨u, ha, hrun⟩ := memoryRequestIssue_one hp hi hk hwin hprom hr hw hc
    refine ⟨fun hgo => ?_, fun h2 ho => ⟨_, hrun, issueReq_waits ha h2 ho⟩⟩
    obtain ⟨hwrite, hread, h1, h2⟩ := issueReq_goes ha hgo
    exact ⟨fun h => ⟨_, hrun, hwrite h, h1, h2⟩, fun h => ⟨_, hrun, hread h, h1, h2⟩⟩
  case absent => exact if_pos (by simp [hp])
  case training =>
    subst hs'
    have hwp : exec (.trainingWritePattern r ch v) s = .next (writePattern (hostArrives s r) ch v) := rfl
    have hrc : exec (.trainingReadCompare r ch v f) s = .next (compareOp (hostArrives s r) ch 1 v f) := rfl
    have hxc : exec (.trainingRegisterCompare r ch v f) s = .next (compareOp (hostArrives s r) ch 2 v f) := rfl
    rw [hwp, hrc, hxc]
    generalize hostArrives s r = u
    refine ⟨fun ht hgo hl => ⟨fun hop => ⟨_, rfl, writePattern_writes ht hop hgo hl⟩, fun hop => ⟨_, rfl, compareOp_runs ht hop f hgo hl⟩,
      fun hop => ⟨_, rfl, compareOp_runs ht hop f hgo hl⟩⟩, fun ht hno => ⟨fun hop => congrArg Outcome.next (compareOp_stored ht hop f hno),
      fun hop => congrArg Outcome.next (compareOp_stored ht hop f hno), fun hop => ⟨_, rfl, writePattern_stored ht hop hno⟩⟩,
      fun ht => ⟨congrArg Outcome.next (if_pos (by simp [ht])), congrArg Outcome.next (if_pos (by simp [ht])),
        congrArg Outcome.next (if_pos (by simp [ht]))⟩, rfl⟩
  case layout =>
    refine congrArg Outcome.next ((runCmd_of_takes ht (by simpa using hn) rfl).trans ((checked_of_none
      (show firstFail [(!s.cel.laid, stWrongState)] = none by simp [firstFail, hl])).trans ?_))
    refine complete_of_takes ht ?_ stOk _ _ _ _
    rfl
  case writes =>
    subst hs'
    exact ⟨fun hon => congrArg Outcome.next (if_pos hon), fun hoff => congrArg Outcome.next (if_neg (ne_true_of_eq_false hoff)),
      fun ch ht => if_pos ht, fun ch ht => if_neg (ne_true_of_eq_false ht)⟩

end Sys2Proof.Machine
end

section
/-!
PROOF. Decode pipes: bands, fences, pictures, key requests and freezes (R252-R276).
-/
namespace Sys2Proof.Machine

open Host

/-! ## What is produced stays produced -/

theorem produced_queueFails (s : State) (q : Bool) (n : Nat) (e : PcieErr) :
    s.porch.produced <+: (queueFails s q n e).porch.produced := by
  cases q <;> simp [queueFails]

theorem produced_writeWaited (s : State) (n : Nat) (e : Entry) (seq : BitVec 16) :
    s.porch.produced <+: (writeWaited s n e seq).porch.produced := by
  unfold writeWaited
  split
  · simp
  · dsimp only
    split
    · simp [State.fresh]
    · refine List.IsPrefix.trans ?_ (produced_queueFails ..)
      simp [State.fresh]

theorem produced_writeHeld (s : State) : s.porch.produced <+: (writeHeld s).porch.produced :=
  foldl_invariant (P := fun t => s.porch.produced <+: t.porch.produced) (fun _ _ ht => ht.trans (produced_writeWaited ..)) _ _
    (List.prefix_refl _)

theorem produced_leaveL1 (s : State) : s.porch.produced <+: (leaveL1 s).porch.produced := by
  unfold leaveL1
  split
  · simpa using produced_writeHeld { s with porch := { s.porch with link := .l0 } }
  · exact List.prefix_refl _

theorem produced_belSignal (s : State) : s.porch.produced <+: (belSignal s).porch.produced := by
  unfold belSignal
  split
  · exact List.prefix_refl _
  · split
    · exact List.prefix_refl _
    · dsimp only
      split
      · exact produced_leaveL1 s
      · simpa using produced_leaveL1 s

/-- A pulse may let the link leave L1, whose held entries may fail: nothing that is produced goes. -/
theorem produced_pulse (s : State) (n : Nat) : s.porch.produced <+: (pulse s n).porch.produced := by
  unfold pulse
  split
  · dsimp only
    rw [irqEdges_keeps _ _ |>.2.2.2.2.2.2.2.2.1]
    refine List.IsPrefix.trans ?_ (produced_belSignal _)
    split <;> simp
  · split
    · split <;> simp
    · exact List.prefix_refl _

/-- An event whose source pulses at once is produced. -/
theorem event_isProduced (s : State) (code : BitVec 16) (o a b d e : Word) (n : Nat) :
    ∃ x ∈ (pulse (event s code o a b d e) n).porch.produced, x.evt = true ∧ x.code = code ∧ x.obj = o ∧ x.r0 = a ∧ x.r1 = b ∧
      x.r2 = d ∧ x.r3 = e := by
  obtain ⟨l, hl⟩ := produced_pulse (event s code o a b d e) n
  rw [← hl]
  exact ⟨_, List.mem_append_left _ (List.mem_append_right _ (List.mem_singleton.2 rfl)), rfl, rfl, rfl, rfl, rfl, rfl, rfl⟩

/-! ## Where the runs of the slots stand -/

@[simp] theorem slotRun_bump (s : State) (a n k : Nat) : (s.bump a n).slotRun k = s.slotRun k := by simp [State.slotRun]
@[simp] theorem slotRun_bump64 (s : State) (a n k : Nat) : (s.bump64 a n).slotRun k = s.slotRun k := by simp [State.slotRun]
@[simp] theorem slotRun_pulse (s : State) (n k : Nat) : (pulse s n).slotRun k = s.slotRun k := by simp [State.slotRun]
@[simp] theorem slotRun_event (s : State) (c : BitVec 16) (o a b d e : Word) (k : Nat) : (event s c o a b d e).slotRun k = s.slotRun k := by
  simp [State.slotRun]

/-- No taint run: nothing to switch. -/
theorem freezeSwitch_of_noTaint {s : State} {k : Nat} (h : (s.slotRun k).taint = none) : freezeSwitch s k = s := by
  unfold freezeSwitch
  dsimp only
  rw [h]

/-- A band whose references all stand, without damage, names the picture's first reference only. -/
theorem applyObs_clean {s : State} {k : Nat} {o : BandObs} {c : CurPic} (ht : (s.slotRun k).taint = none) (hc : (s.slotRun k).cur = some c)
    (hg : o.gap = none) (hd : o.damaged = []) (hr : ∀ r ∈ o.refs, ((s.slotRun k).ref r.1).any (fun q => !q.tainted) = true) :
    applyObs s k o = s.setSlotRun k { s.slotRun k with
      cur := some { c with firstRef := c.firstRef.orElse fun _ => o.refs.head?.map Prod.fst } } := by
  have hlost : (o.refs.filter fun r => ((s.slotRun k).ref r.1).isNone) = [] := by
    refine List.filter_eq_nil_iff.2 fun r h => ?_
    have := hr r h
    cases hq : (s.slotRun k).ref r.1 <;> simp_all
  unfold applyObs
  rw [freezeSwitch_of_noTaint ht]
  dsimp only
  rw [hc]
  dsimp only
  rw [hlost, hg, hd]
  refine (if_pos (by rfl)).trans ?_
  split
  case h_1 r heq =>
    have href := hr r (List.mem_of_find?_eq_some heq)
    have htaint := List.find?_some heq
    cases hq : (s.slotRun k).ref r.1 <;> simp_all
  case h_2 => rfl

/-- The pipe notes which slot it decodes and counts a change of slot: the slots and what is produced stay. -/
def State.pipeAt (s : State) (pipe k : Nat) : State :=
  let t := { s with dec := { s.dec with last := tset 0 s.dec.last pipe (k + 1) } }
  if tget 0 s.dec.last pipe ≠ 0 && tget 0 s.dec.last pipe ≠ k + 1 then t.bump (gldA pipe 8) 1 else t

theorem pipeAt_keeps (s : State) (pipe k : Nat) : (s.pipeAt pipe k).dec.runs = s.dec.runs ∧ (s.pipeAt pipe k).dec.cfgs = s.dec.cfgs ∧
    tget 0 (s.pipeAt pipe k).dec.last pipe = k + 1 ∧ (s.pipeAt pipe k).porch.produced = s.porch.produced := by
  unfold State.pipeAt
  dsimp only
  split <;> simp

theorem slotRun_pipeAt (s : State) (pipe k j : Nat) : (s.pipeAt pipe k).slotRun j = s.slotRun j :=
  congrArg (fun r => tget ({} : SlotRun) r j) (pipeAt_keeps s pipe k).1

/-- The picture under way, or the one that begins now. -/
def State.nextPicture (s : State) (k : Nat) (o : BandObs) : Bool × State :=
  if (s.slotRun k).cur.isSome then (true, s) else beginPicture s k o

/-- A band of the picture is decoded. -/
theorem decodeBand_decodes {s v : State} {pipe : Fin 24} {o : BandObs} {k : Nat} {c : CurPic} (hrun : s.running = true)
    (hdom : s.dom (28 + pipe) = true) (hp : s.pickSlot pipe = some k) (hgo : (s.pipeAt pipe k).nextPicture k o = (true, v))
    (hc : ((applyObs v k o).slotRun k).cur = some c) :
    ∃ t, exec (.decodeBandBoundary pipe o) s = .next t ∧ t.slotRun k = { (applyObs v k o).slotRun k with
        cur := some { c with decoded := c.decoded + 1, isRef := o.isRef, unref := o.unref } } ∧
      t.dec.last = (applyObs v k o).dec.last ∧ (∀ j, j ≠ k → t.slotRun j = (applyObs v k o).slotRun j) ∧
      t.porch.produced = (applyObs v k o).porch.produced := by
  have hexec : exec (.decodeBandBoundary pipe o) s =
      (if !((s.pipeAt pipe k).nextPicture k o).1 then .next ((s.pipeAt pipe k).nextPicture k o).2
       else match ((applyObs ((s.pipeAt pipe k).nextPicture k o).2 k o).slotRun k).cur with
         | none => .next (applyObs ((s.pipeAt pipe k).nextPicture k o).2 k o)
         | some c => .next (((applyObs ((s.pipeAt pipe k).nextPicture k o).2 k o).setSlotRun k
             { (applyObs ((s.pipeAt pipe k).nextPicture k o).2 k o).slotRun k with
             cur := some { c with decoded := c.decoded + 1, isRef := o.isRef, unref := o.unref } }).bump64 (gldA pipe 0x18)
               (c.w * bandRows c.h c.decoded))) := by
    change execDecodeBandBoundary pipe o s = _
    unfold execDecodeBandBoundary
    rw [if_neg (by simp [hrun, hdom]), hp]
    rfl
  rw [hexec, hgo]
  dsimp only
  rw [if_neg (by decide), hc]
  exact ⟨_, rfl, by simp, by simp [State.setSlotRun], fun j hj => by simp [hj], by simp [State.setSlotRun]⟩

/-- No picture begins: no band is decoded. -/
theorem decodeBand_ends {s v : State} {pipe : Fin 24} {o : BandObs} {k : Nat} (hrun : s.running = true)
    (hdom : s.dom (28 + pipe) = true) (hp : s.pickSlot pipe = some k) (hgo : (s.pipeAt pipe k).nextPicture k o = (false, v)) :
    exec (.decodeBandBoundary pipe o) s = .next v := by
  change execDecodeBandBoundary pipe o s = _
  unfold execDecodeBandBoundary
  rw [if_neg (by simp [hrun, hdom]), hp]
  refine (if_pos ?_).trans ?_
  · exact (congrArg (fun r : Bool × State => !r.1) hgo)
  · exact congrArg (fun r : Bool × State => Outcome.next r.2) hgo

theorem decodeBand_ofCurrent {s : State} {pipe : Fin 24} {o : BandObs} {k : Nat} {p : CurPic} (hrun : s.running = true)
    (hdom : s.dom (28 + pipe) = true) (hp : s.pickSlot pipe = some k) (ht : (s.slotRun k).taint = none) (hg : o.gap = none)
    (hd : o.damaged = []) (hc : (s.slotRun k).cur = some p)
    (hr : ∀ r ∈ o.refs, ((s.slotRun k).ref r.1).any (fun q => !q.tainted) = true) :
    ∃ t, exec (.decodeBandBoundary pipe o) s = .next t ∧
      t.slotRun k = { s.slotRun k with cur := some { p with
        decoded := p.decoded + 1, isRef := o.isRef, unref := o.unref,
        firstRef := p.firstRef.orElse fun _ => o.refs.head?.map Prod.fst } } ∧
      tget 0 t.dec.last pipe = k + 1 ∧ (∀ j, j ≠ k → t.slotRun j = s.slotRun j) ∧ t.porch.produced = s.porch.produced := by
  obtain ⟨u, hu⟩ : ∃ u, u = s.pipeAt pipe k := ⟨_, rfl⟩
  have hsl : ∀ j, u.slotRun j = s.slotRun j := fun j => hu ▸ slotRun_pipeAt s pipe k j
  have hkeep := pipeAt_keeps s pipe k
  rw [← hu] at hkeep
  have hcu : (u.slotRun k).cur = some p := (congrArg SlotRun.cur (hsl k)).trans hc
  have happ := applyObs_clean ((congrArg SlotRun.taint (hsl k)).trans ht) hcu hg hd (by simpa [hsl] using hr)
  have hgo : (s.pipeAt pipe k).nextPicture k o = (true, u) := hu ▸ if_pos (by simp [hcu])
  obtain ⟨t, hexec, hk, hlast, hother, hprod⟩ := decodeBand_decodes hrun hdom hp hgo (by rw [happ, slotRun_setSlotRun, if_pos rfl])
  rw [happ] at hk hlast hother hprod
  refine ⟨t, hexec, ?_, ?_, fun j hj => ?_, ?_⟩
  · simp [hk, hsl]
  · rw [hlast]
    exact hkeep.2.2.1
  · simp [hother j hj, hj, hsl]
  · rw [hprod]
    exact hkeep.2.2.2

/-! ## Pictures begin -/

theorem takeBuffer_keeps (x : SlotRun) (d : Nat) : ∃ l, (x.takeBuffer d).getD x = { x with store := l } := by
  unfold SlotRun.takeBuffer
  split
  · exact ⟨_, rfl⟩
  · split <;> exact ⟨_, rfl⟩

/-- The picture that begins is the one that waited, with no band decoded. -/
theorem takePicture_begins (s : State) (k : Nat) (w : WaitPic) (i : StreamInfo) (o : BandObs) :
    ∃ c, ((takePicture s k w i o).slotRun k).cur = some c ∧ c.num = w.num ∧ c.decoded = 0 ∧ c.final = 0 ∧
      ((takePicture s k w i o).slotRun k).waiting = (s.slotRun k).waiting ∧ ((takePicture s k w i o).slotRun k).needKey = false ∧
      ((takePicture s k w i o).slotRun k).taint = (s.slotRun k).taint := by
  obtain ⟨l, hl⟩ := takeBuffer_keeps (s.slotRun k) (s.slotCfg k).dpb
  have hf : ∀ (t : State) (n : Nat), State.slotRun { t with free := n } k = t.slotRun k := fun _ _ => rfl
  unfold takePicture
  dsimp only
  rw [hf, slotRun_setSlotRun, if_pos rfl, hl]
  exact ⟨_, rfl, rfl, rfl, rfl, rfl, rfl, rfl⟩

theorem recordMissing_keeps (s : State) (k n : Nat) (skip : Bool) :
    ∃ l, (recordMissing s k n skip).slotRun k = { s.slotRun k with store := l } := by
  unfold recordMissing
  split
  · exact ⟨(s.slotRun k).store, by simp⟩
  · exact ⟨_, by simp; rfl⟩

/-- A picture that is not decoded: nothing is decoded before a key picture. -/
theorem refusePicture_needsKey (s : State) (k : Nat) (w : WaitPic) (i : StreamInfo) (cause : Nat) :
    ((refusePicture s k w i cause).slotRun k).needKey = true ∧ ((refusePicture s k w i cause).slotRun k).cur = (s.slotRun k).cur ∧
      ((refusePicture s k w i cause).slotRun k).waiting = (s.slotRun k).waiting := by
  unfold refusePicture
  extract_lets x a b
  have ha : (a.slotRun k).cur = (s.slotRun k).cur ∧ (a.slotRun k).waiting = (s.slotRun k).waiting := by
    unfold a
    split <;> simp [x]
  obtain ⟨l, hl⟩ := recordMissing_keeps (a.bump (gldSlotA k 0x2C) 1) k w.num w.nonRef
  have hb : b.slotRun k = { a.slotRun k with store := l } := hl.trans (by simp)
  rw [slotRun_setSlotRun, if_pos rfl]
  exact ⟨rfl, (congrArg SlotRun.cur hb).trans ha.1, (congrArg SlotRun.waiting hb).trans ha.2⟩

/-- The head of the waiting pictures, of a stream that the slot knows. -/
theorem beginPicture_head {s : State} {k : Nat} {o : BandObs} {w : WaitPic} {r : List WaitPic} {i : StreamInfo}
    (hw : (s.slotRun k).waiting = w :: r) (hk : w.key = true ∨ (s.slotRun k).needKey = false) (hs : o.stream = none)
    (hn : o.newSeq = false) (hi : (s.slotRun k).info = some i) :
    beginPicture s k o =
      (let t := s.setSlotRun k { s.slotRun k with waiting := r }
       let t := t.setSlotRun k { t.slotRun k with info := some i }
       match (s.slotCfg k).refuses i o.excluded with
       | some cause => (false, refusePicture t k w i cause)
       | none => (true, takePicture t k w i o)) := by
  unfold beginPicture
  dsimp only
  rw [hw]
  dsimp only
  rw [if_neg (by rcases hk with hk | hk <;> simp [hk]), hs, hi]
  dsimp only [Option.orElse]
  rw [hn]
  rfl

theorem decodeBand_ofWaiting {s : State} {pipe : Fin 24} {o : BandObs} {k : Nat} {w : WaitPic} {r : List WaitPic} {i : StreamInfo}
    (hrun : s.running = true) (hdom : s.dom (28 + pipe) = true) (hp : s.pickSlot pipe = some k) (ht : (s.slotRun k).taint = none)
    (hg : o.gap = none) (hd : o.damaged = []) (hc : (s.slotRun k).cur = none) (hw : (s.slotRun k).waiting = w :: r)
    (hk : w.key = true ∨ (s.slotRun k).needKey = false) (hs : o.stream = none) (hn : o.newSeq = false) (hr : o.refs = [])
    (hi : (s.slotRun k).info = some i) :
    ((s.slotCfg k).refuses i o.excluded = none → ∃ t c, exec (.decodeBandBoundary pipe o) s = .next t ∧
      (t.slotRun k).cur = some c ∧ c.num = w.num ∧ c.decoded = 1 ∧ c.final = 0 ∧ (t.slotRun k).waiting = r ∧
      (t.slotRun k).needKey = false) ∧
    ((s.slotCfg k).refuses i o.excluded ≠ none → ∃ t, exec (.decodeBandBoundary pipe o) s = .next t ∧
      (t.slotRun k).cur = none ∧ (t.slotRun k).waiting = r ∧ (t.slotRun k).needKey = true) := by
  obtain ⟨u, hu⟩ : ∃ u, u = s.pipeAt pipe k := ⟨_, rfl⟩
  have hsl : u.slotRun k = s.slotRun k := hu ▸ slotRun_pipeAt s pipe k k
  have hcfg : u.slotCfg k = s.slotCfg k := congrArg (fun c => tget ({} : SlotCfg) c k) (hu ▸ (pipeAt_keeps s pipe k).2.1)
  rw [← hsl] at ht hc hw hk hi
  rw [← hcfg]
  obtain ⟨v, hv⟩ : ∃ v, v = ((u.setSlotRun k { u.slotRun k with waiting := r }).setSlotRun k
    { (u.setSlotRun k { u.slotRun k with waiting := r }).slotRun k with info := some i }) := ⟨_, rfl⟩
  have hvk : v.slotRun k = { u.slotRun k with waiting := r, info := some i } := by
    rw [hv]
    simp
  have hgo : u.nextPicture k o = _ := (if_neg (by simp [hc])).trans (beginPicture_head hw hk hs hn hi)
  refine ⟨fun hno => ?_, fun hyes => ?_⟩
  · obtain ⟨c, hcur, hnum, hdec, hfin, hwait, hkey, htaint⟩ := takePicture_begins v k w i o
    have hclean := applyObs_clean (o := o) (htaint.trans ((congrArg SlotRun.taint hvk).trans ht)) hcur hg hd (by simp [hr])
    have hgo : (s.pipeAt pipe k).nextPicture k o = (true, takePicture v k w i o) := by
      rw [← hu, hgo, hno, hv]
    obtain ⟨t, hexec, ht, -⟩ := decodeBand_decodes hrun hdom hp hgo (by rw [hclean, slotRun_setSlotRun, if_pos rfl])
    rw [hclean, slotRun_setSlotRun, if_pos rfl] at ht
    exact ⟨t, _, hexec, congrArg SlotRun.cur ht, hnum, congrArg (· + 1) hdec, hfin,
      (congrArg SlotRun.waiting ht).trans (hwait.trans (congrArg SlotRun.waiting hvk)), (congrArg SlotRun.needKey ht).trans hkey⟩
  · obtain ⟨cause, hcause⟩ := Option.ne_none_iff_exists'.1 hyes
    have hgo : (s.pipeAt pipe k).nextPicture k o = (false, refusePicture v k w i cause) := by
      rw [← hu, hgo, hcause, hv]
    obtain ⟨hkey, hcur, hwait⟩ := refusePicture_needsKey v k w i cause
    exact ⟨_, decodeBand_ends hrun hdom hp hgo, hcur.trans ((congrArg SlotRun.cur hvk).trans hc),
      hwait.trans (congrArg SlotRun.waiting hvk), hkey⟩

/-! ## Fences, and what runs at its time -/

theorem bandFinal_fences {s : State} {k : Fin 384} {p : CurPic} (hw : s.working (slotKey k) = true) (hc : (s.slotRun k).cur = some p)
    (hf : p.final < p.bands)
    (hd : (if p.sb128 then p.final / 2 * 2 + 4 else p.final + 2) ≤ p.decoded ∨ p.decoded = p.bands) :
    (p.shown = true → exec (.bandFinal k) s = .next (s.setSlotRun k { s.slotRun k with
      cur := some { p with final := p.final + 1, held := p.held || (p.final + 1 = 1 && s.orgUses k) },
      progress := fenceWord p.num (p.final + 1), lastPub := p.num })) ∧
    (p.shown = false → exec (.bandFinal k) s = .next (s.setSlotRun k { s.slotRun k with
      cur := some { p with final := p.final + 1 } })) := by
  have hd' : p.finalAt ≤ p.decoded ∨ p.decoded = p.bands := hd
  have hgo : (s.working (slotKey k) && p.final < p.bands && (p.finalAt ≤ p.decoded || p.decoded = p.bands)) = true := by
    simpa [hw, hf] using hd'
  have hexec := fun b => show exec (.bandFinal k) s = b ↔ execBandFinal k s = b from Iff.rfl
  simp only [hexec]
  unfold execBandFinal
  dsimp only
  rw [hc]
  dsimp only
  rw [if_pos hgo]
  exact ⟨fun h => if_pos h, fun h => if_neg (by simp [h])⟩

theorem bandFinal_waits {s : State} {k : Fin 384} {p : CurPic} (hc : (s.slotRun k).cur = some p) (hb : p.decoded < p.bands)
    (hd : p.decoded < (if p.sb128 then p.final / 2 * 2 + 4 else p.final + 2)) : exec (.bandFinal k) s = .next s := by
  have hd' : p.decoded < p.finalAt := hd
  change execBandFinal k s = _
  unfold execBandFinal
  dsimp only
  rw [hc]
  refine if_neg ?_
  have hne : p.decoded ≠ p.bands := by omega
  simp [hne]
  omega

theorem pruneHolds_keeps (s : State) (k : Nat) (b : Bool) : ∃ st old pg, (pruneHolds s k b).slotRun k =
    { s.slotRun k with store := st, oldPages := old, pages := pg } ∧ (pruneHolds s k b).objs = s.objs ∧
    (pruneHolds s k b).dec.late = s.dec.late := by
  unfold pruneHolds
  extract_lets x free st1 st2 old pg
  exact ⟨st2, old, pg, by simp [x], rfl, rfl⟩

theorem pictureComplete_stores {s : State} {k : Fin 384} {p : CurPic} (hr : s.isRunning (slotKey k) = true)
    (hc : (s.slotRun k).cur = some p) (hd : p.decoded = p.bands) (hf : p.final = p.bands) (ht : p.tainted = false)
    (hcl : p.clean = false) (hre : p.recovery = none) (hrec : (s.slotRun k).recov = none) :
    ∃ t, exec (.pictureCompleteFence k) s = .next t ∧
      (t.slotRun k).cur = none ∧ (t.slotRun k).pics = (s.slotRun k).pics + 1 ∧ (t.slotRun k).taints = (s.slotRun k).taints ∧
      (t.slotRun k).progress = (if p.shown then fenceWord p.num 31 else (s.slotRun k).progress) ∧
      (t.slotRun k).lastPub = (if p.shown then p.num else (s.slotRun k).lastPub) ∧
      tget 0 t.dec.late (k / 16) = tget 0 s.dec.late (k / 16) + (if p.deadline < s.now then 1 else 0) := by
  have hw : s.working (slotKey k) = true := by simp_all [State.working, State.isRunning]
  have hnd : ∀ t : State, t.objs = s.objs → t.draining (slotKey k) = false := by
    intro t h
    simp_all [State.isRunning, State.draining, State.obj]
  refine ⟨completePicture s k p, ?_, ?_⟩
  · change execPictureCompleteFence k s = _
    unfold execPictureCompleteFence
    rw [hc]
    exact congrArg Outcome.next (if_pos (by simp [hd, hf, hw]))
  · unfold completePicture
    extract_lets x n src q recov store taint a b c b1 dec d e1 esrc e f
    have hrecov : recov = none := by simp [recov, ht, hre, x, hrec]
    have he : e = d := if_neg (by simp [hcl, hrecov])
    have hcb : c = b := if_neg (by simp [ht])
    have hdk : d.slotRun k = a.slotRun k ∧ d.objs = s.objs ∧
        tget 0 d.dec.late (k / 16) = tget 0 s.dec.late (k / 16) + (if p.deadline < s.now then 1 else 0) := by
      have hnow : c.now = s.now := by simp [hcb, b, a, State.now, State.setSlotRun]
      have hcdec : c.dec = a.dec ∧ c.objs = s.objs := by simp [hcb, b, a, State.setSlotRun]
      have hlate : a.dec.late = s.dec.late := rfl
      unfold d
      rw [hnow]
      split
      · exact ⟨by simp [State.slotRun, dec, b1, hcdec], by simp [b1, hcdec], by simp [b1, hcdec, n, hlate]⟩
      · exact ⟨by simp [State.slotRun, hcdec], hcdec.2, by simp [hcdec, hlate]⟩
    obtain ⟨st, old, pg, hrun, hobjs, hlate⟩ := pruneHolds_keeps e k false
    have hak : a.slotRun k = { x with
      cur := none, store := store.filter (fun y => !(y.missing && !y.isRef)) ++ [q], recov := recov, w := p.w, h := p.h,
      pics := x.pics + 1, taints := x.taints + (if p.tainted then 1 else 0), taint := taint,
      progress := if p.shown then fenceWord p.num 31 else x.progress, lastPub := if p.shown then p.num else x.lastPub } := by
      simp [a]
    rw [if_neg (by rw [hnd f (hobjs.trans (he ▸ hdk.2.1))]; decide)]
    have hfk : f.slotRun k = { a.slotRun k with store := st, oldPages := old, pages := pg } := by
      rw [show f.slotRun k = _ from hrun, he, hdk.1]
    rw [hfk, hak]
    refine ⟨rfl, rfl, ?_, rfl, rfl, ?_⟩
    · simp [ht, x]
    · rw [hlate, he]
      exact hdk.2.2

theorem freezeTimeout_switches {s : State} {k : Fin 384} {t n : Nat} (ht : (s.slotRun k).taint = some (t, n))
    (hf : (s.slotCfg k).freeze = 2) (hs : (s.slotRun k).switched = false) (hd : t + (s.slotCfg k).freezeCt ≤ s.now)
    (hw : s.working (slotKey k) = true) : ∃ u, exec (.freezeTimeout k) s = .next u ∧
      u.slotRun k = { s.slotRun k with switched := true, frozen := false } ∧
      ((s.slotRun k).frozen = true → ∃ e ∈ u.porch.produced, e.evt = true ∧ e.code = 0x0A16 ∧ e.obj = low k ∧ e.r0 = 2) := by
  refine ⟨_, rfl, ?_⟩
  unfold freezeSwitch
  dsimp only
  rw [ht]
  dsimp only
  rw [if_pos (by simp [hf, hs, hd, hw])]
  split
  next hfr =>
    unfold decFreeze
    refine ⟨by simp, fun _ => ?_⟩
    obtain ⟨x, hx, hevt, hcode, hobj, hr0, -⟩ := event_isProduced _ _ _ _ _ _ _ (512 + k)
    exact ⟨x, hx, hevt, hcode, hobj, hr0⟩
  next hfr => exact ⟨by simp, fun h => absurd h hfr⟩

/-- Settles O42, each clause of the decode pipes by its own lemma. -/
theorem picturesBandsAndFences : Obligations.PicturesBandsAndFences := by
  unfold Obligations.PicturesBandsAndFences
  intro s
  refine ⟨?_, ?_, ?_, ?_, ?_, ?_⟩
  · exact fun pipe o k hrun hdom hp ht hg hd => ⟨fun p hc hr => decodeBand_ofCurrent hrun hdom hp ht hg hd hc hr,
      fun w r i hc hw hk hs hn hr hi => decodeBand_ofWaiting hrun hdom hp ht hg hd hc hw hk hs hn hr hi⟩
  · exact fun k p hw hc hf hd => bandFinal_fences hw hc hf hd
  · exact fun k p hc _ hb hd => bandFinal_waits hc hb hd
  · exact fun k p hr hc hd hf ht hcl hre hrec => pictureComplete_stores hr hc hd hf ht hcl hre hrec
  · intro k t hn ht hr
    have hexec : exec (.keyreqRepeat k) s = .next (if t ≤ s.now then runAsks s k else s) := by
      change execKeyreqRepeat k s = _
      unfold execKeyreqRepeat
      dsimp only
      rw [hn]
      simp [ht, hr]
    exact ⟨fun h => hexec.trans (congrArg Outcome.next (if_pos h)), fun h => hexec.trans (congrArg Outcome.next (if_neg (by omega)))⟩
  · exact fun k t n ht hf hs hd hw => freezeTimeout_switches ht hf hs hd hw
end Sys2Proof.Machine
end

section
/-!
PROOF. Canvases: frames, bands and their composition (R289-R300).
-/
namespace Sys2Proof.Machine

open Host

/-! ## What composing a band leaves of its canvas -/

/-- The parts that a band's composition reads, of canvas c and around it. -/
def State.composing (s : State) (c : Nat) :=
  ((s.pending, s.cel, s.bell.levelStacks, s.pwr.state, s.pwr.entering, s.objs, s.blv, s.dec, s.enc),
   (s.org.images, s.org.cfgs, s.org.busy), (s.canvas c).active, (s.canvas c).latched, (s.canvas c).frame, (s.canvas c).released,
   (s.canvas c).begun, (s.canvas c).frames)

theorem composing_iff {s t : State} {c : Nat} : t.composing c = s.composing c ↔
    ((t.pending = s.pending ∧ t.cel = s.cel ∧ t.bell.levelStacks = s.bell.levelStacks ∧ t.pwr.state = s.pwr.state ∧
      t.pwr.entering = s.pwr.entering ∧ t.objs = s.objs ∧ t.blv = s.blv ∧ t.dec = s.dec ∧ t.enc = s.enc) ∧
     (t.org.images = s.org.images ∧ t.org.cfgs = s.org.cfgs ∧ t.org.busy = s.org.busy) ∧
     (t.canvas c).active = (s.canvas c).active ∧ (t.canvas c).latched = (s.canvas c).latched ∧
     (t.canvas c).frame = (s.canvas c).frame ∧ (t.canvas c).released = (s.canvas c).released ∧
     (t.canvas c).begun = (s.canvas c).begun ∧ (t.canvas c).frames = (s.canvas c).frames) := by
  simp only [State.composing, Prod.mk.injEq]

@[simp] theorem composing_bump (s : State) (a n c : Nat) : (s.bump a n).composing c = s.composing c := by
  simp [State.composing, State.canvas]
@[simp] theorem composing_bump64 (s : State) (a n c : Nat) : (s.bump64 a n).composing c = s.composing c := by
  simp [State.composing, State.canvas]
@[simp] theorem composing_pulse (s : State) (n c : Nat) : (pulse s n).composing c = s.composing c := by
  simp [State.composing, State.canvas]
@[simp] theorem composing_event (s : State) (k : BitVec 16) (o a b d e : Word) (c : Nat) :
    (event s k o a b d e).composing c = s.composing c := by simp [State.composing, State.canvas]
@[simp] theorem composing_limit (s : State) (k p n m c : Nat) : (s.limit k p n m).2.composing c = s.composing c := by
  unfold State.limit
  dsimp only
  repeat' split
  all_goals rfl

/-- A canvas keeps what composition reads when its other fields change. -/
theorem composing_setCanvas (s : State) (c : Nat) (x : CanvasRun) (ha : x.active = (s.canvas c).active)
    (hl : x.latched = (s.canvas c).latched) (hf : x.frame = (s.canvas c).frame) (hr : x.released = (s.canvas c).released)
    (hb : x.begun = (s.canvas c).begun) (hn : x.frames = (s.canvas c).frames) : (s.setCanvas c x).composing c = s.composing c := by
  have hc : (s.setCanvas c x).canvas c = x := (canvas_setCanvas ..).trans (if_pos rfl)
  rw [composing_iff, hc]
  exact ⟨⟨rfl, rfl, rfl, rfl, rfl, rfl, rfl, rfl, rfl⟩, ⟨rfl, rfl, rfl⟩, ha, hl, hf, hr, hb, hn⟩

@[simp] theorem composing_noteBlocked (s : State) (c : Nat) : (noteBlocked s c).composing c = s.composing c := by
  unfold noteBlocked
  dsimp only
  split
  · exact (composing_pulse ..).trans (composing_setCanvas _ _ _ rfl rfl rfl rfl rfl rfl)
  · rfl

@[simp] theorem composing_endBlocked (s : State) (c : Nat) : (endBlocked s c).composing c = s.composing c := by
  unfold endBlocked
  dsimp only
  split
  · split
    · exact (composing_bump ..).trans (composing_setCanvas _ _ _ rfl rfl rfl rfl rfl rfl)
    · rfl
  · rfl

theorem composing_of_limit {s u : State} {k p n m : Nat} {x : Option (Nat × Nat)} (h : s.limit k p n m = (x, u)) (c : Nat) :
    u.composing c = s.composing c := by
  rw [← composing_limit s k p n m c, h]

@[simp] theorem composing_checkScale (s : State) (c i : Nat) (l : Layer) : (checkScale s c i l).composing c = s.composing c := by
  unfold checkScale
  extract_lets r
  split
  · rfl
  · rename_i x _
    extract_lets mark a b
    split
    · rfl
    · have ha : a.composing c = s.composing c := composing_setCanvas _ _ _ rfl rfl rfl rfl rfl rfl
      split
      · exact ha
      · split
        · exact ha
        · have hb : b.composing c = s.composing c := (composing_bump ..).trans ha
          split
          case h_1 heq => exact (composing_event ..).trans ((composing_of_limit heq c).trans hb)
          case h_2 heq => exact (composing_of_limit heq c).trans hb

@[simp] theorem composing_checkScales (s : State) (c : Nat) : (checkScales s c).composing c = s.composing c := by
  refine foldl_keeps (part := fun t : State => t.composing c) (fun t e => ?_) _ s
  split
  · exact composing_checkScale ..
  · rfl

@[simp] theorem composing_tornBand (s : State) (c k l : Nat) : (tornBand s c k l).composing c = s.composing c := by
  unfold tornBand
  extract_lets a r b
  have ha : a.composing c = s.composing c := composing_bump ..
  have hb : b.composing c = s.composing c := (composing_setCanvas a c { r with tornN := r.tornN + 1 } rfl rfl rfl rfl rfl rfl).trans ha
  split
  case h_1 heq => exact (composing_event ..).trans ((composing_of_limit heq c).trans hb)
  case h_2 heq => exact (composing_of_limit heq c).trans hb

@[simp] theorem composing_fetchBand (s : State) (c n : Nat) : (fetchBand s c n).composing c = s.composing c := by
  unfold fetchBand
  dsimp only
  exact (composing_bump64 ..).trans (composing_setCanvas _ _ _ rfl rfl rfl rfl rfl rfl)

/-! ## What a canvas shows -/

theorem picture_of_dec {s t : State} (h : t.dec = s.dec) (k n : Nat) : t.picture k n = s.picture k n := by
  unfold State.picture State.slotRun
  rw [h]

theorem layerReady_of_same {s t : State} {r x : CanvasRun} (h : t.dec = s.dec) (ha : x.active = r.active) (hl : x.latched = r.latched)
    (g : CanvasCfg) (i : Nat) (l : Layer) (n : Nat) : t.layerReady x g i l n = s.layerReady r g i l n := by
  unfold State.layerReady
  simp only [ha, hl, picture_of_dec h]

theorem slotSource_of_same {s t : State} {r x : CanvasRun} (h : t.dec = s.dec) (ha : x.active = r.active) (hl : x.latched = r.latched)
    (g : CanvasCfg) (i : Nat) (l : Layer) (n : Nat) : t.slotSource x g i l n = s.slotSource r g i l n := by
  have hp : ∀ k, t.picSrc k = s.picSrc k := by
    intro k
    funext m
    unfold State.picSrc State.slotRun
    rw [h]
  have ho : ∀ k m, t.olderShown k m = s.olderShown k m := by
    intro k m
    unfold State.olderShown State.slotRun
    rw [h]
  unfold State.slotSource
  simp only [hl, hp, ho, layerReady_of_same h ha hl]

/-- What a canvas shows follows what composition reads. -/
theorem shown_of_composing {s t : State} {c : Nat} (h : t.composing c = s.composing c) (n : Nat) : t.shown c n = s.shown c n := by
  obtain ⟨⟨-, -, -, -, -, -, -, hdec, -⟩, ⟨himg, hcfg, -⟩, hact, hlat, -⟩ := composing_iff.1 h
  have hg : t.canvasCfg c = s.canvasCfg c := congrArg (fun x => tget ({} : CanvasCfg) x c) hcfg
  unfold State.shown
  dsimp only
  rw [hact, hg]
  refine List.map_congr_left fun e _ => ?_
  unfold State.layerSource
  rw [slotSource_of_same hdec hact hlat, himg]

/-! ## Frames -/

theorem org_pruneAll (s : State) (f : Nat → Bool) : (pruneAll s f).org = s.org ∧ (pruneAll s f).enc = s.enc :=
  foldl_invariant (P := fun t => t.org = s.org ∧ t.enc = s.enc)
    (f := fun t (e : Nat × SlotRun) => pruneHolds t e.1 (f e.1)) (fun _ _ h => h) _ _ ⟨rfl, rfl⟩

theorem canvas_pruneAll (s : State) (f : Nat → Bool) (c : Nat) : (pruneAll s f).canvas c = s.canvas c :=
  congrArg (fun o : Orangery => tget ({} : CanvasRun) o.runs c) (org_pruneAll s f).1

/-- A frame that begins has released and composed nothing. -/
theorem beginFrame_begins (s : State) (c k : Nat) : ((beginFrame s c k).canvas c).frame = some k ∧
    ((beginFrame s c k).canvas c).released = 0 ∧ ((beginFrame s c k).canvas c).begun = 0 := by
  unfold beginFrame
  dsimp only
  rw [canvas_pruneAll, canvas_setCanvas, if_pos rfl]
  exact ⟨rfl, rfl, rfl⟩

theorem canvas_of_limit {s u : State} {k p n m : Nat} {x : Option (Nat × Nat)} (h : s.limit k p n m = (x, u)) (c : Nat) :
    u.canvas c = s.canvas c := by
  have hu : u = (s.limit k p n m).2 := (congrArg Prod.snd h).symm
  rw [hu]
  unfold State.limit
  dsimp only
  repeat' split
  all_goals rfl

@[simp] theorem canvas_pulse (s : State) (n c : Nat) : (pulse s n).canvas c = s.canvas c := by simp [State.canvas]
@[simp] theorem canvas_bump (s : State) (a n c : Nat) : (s.bump a n).canvas c = s.canvas c := by simp [State.canvas]
@[simp] theorem canvas_event (s : State) (k : BitVec 16) (o a b d e : Word) (c : Nat) : (event s k o a b d e).canvas c = s.canvas c := by
  simp [State.canvas]

/-- A frame that is skipped is counted; the frame under way goes on. -/
theorem skipFrame_counts (s : State) (c k : Nat) : ((skipFrame s c k).canvas c).skipN = (s.canvas c).skipN + 1 ∧
    ((skipFrame s c k).canvas c).frame = (s.canvas c).frame ∧ ((skipFrame s c k).canvas c).active = (s.canvas c).active := by
  unfold skipFrame
  extract_lets a l r first b
  have hr : r = s.canvas c := canvas_bump ..
  have hb : b.canvas c = { r with skipN := r.skipN + 1, skipFirst := first } := (canvas_setCanvas ..).trans (if_pos rfl)
  have hgo : ∀ t : State, t.canvas c = b.canvas c → (t.canvas c).skipN = (s.canvas c).skipN + 1 ∧
      (t.canvas c).frame = (s.canvas c).frame ∧ (t.canvas c).active = (s.canvas c).active := by
    intro t ht
    rw [ht, hb, hr]
    exact ⟨rfl, rfl, rfl⟩
  split
  case h_1 heq => exact hgo _ ((canvas_pulse ..).trans ((canvas_event ..).trans (canvas_of_limit heq c)))
  case h_2 heq => exact hgo _ ((canvas_pulse ..).trans (canvas_of_limit heq c))

section FrameStart

variable {s : State} {n : Fin 96} {k : Nat} (hk : (s.canvasCfg n).frameAt s.now = some k) (hrun : s.running = true)
  (hdf : s.bell.double = false) (hdom : s.dom (64 + n / 24) = true) (hr : s.isRunning (canvasKey n) = true)
  (hlast : (s.canvas n).lastK ≠ some k)

include hk hrun hdf hdom hr hlast

/-- The frame start of a RUNNING canvas: by the ladder, by the frame under way. -/
theorem canvasFrameStart_runs : exec (.canvasFrameStart n) s =
    (if s.halfRate && k % 2 = 1 then .next ((s.setCanvas n { s.canvas n with lastK := some k }).bump (canvasA n 0x1C) 1)
     else if (s.canvas n).frame.isSome && decide ((s.canvas n).begun < (s.canvasCfg n).bands) then
       .next (skipFrame (s.setCanvas n { s.canvas n with lastK := some k }) n k)
     else .next (beginFrame (s.setCanvas n { s.canvas n with lastK := some k }) n k)) := by
  change execCanvasFrameStart n s = _
  unfold execCanvasFrameStart
  dsimp only
  rw [hk]
  exact if_neg (by simp [hrun, hdf, hdom, hr, hlast])

theorem canvasFrameStart_begins (hstep : s.hall.step < 3 ∨ k % 2 = 0) (hf : (s.canvas n).frame = none) :
    exec (.canvasFrameStart n) s = .next (beginFrame (s.setCanvas n { s.canvas n with lastK := some k }) n k) := by
  have hhalf : ¬ (s.halfRate && k % 2 = 1) = true := by
    simp only [State.halfRate, Bool.and_eq_true, decide_eq_true_eq]
    omega
  rw [canvasFrameStart_runs hk hrun hdf hdom hr hlast, if_neg hhalf, if_neg (by simp [hf])]

theorem canvasFrameStart_skips (hstep : s.hall.step < 3) {j : Nat} (hf : (s.canvas n).frame = some j)
    (hb : (s.canvas n).begun < (s.canvasCfg n).bands) :
    ∃ t, exec (.canvasFrameStart n) s = .next t ∧ (t.canvas n).skipN = (s.canvas n).skipN + 1 ∧ (t.canvas n).frame = some j ∧
      (t.canvas n).active = (s.canvas n).active := by
  have hhalf : ¬ (s.halfRate && k % 2 = 1) = true := by
    simp only [State.halfRate, Bool.and_eq_true, decide_eq_true_eq]
    omega
  obtain ⟨hskip, hframe, hact⟩ := skipFrame_counts (s.setCanvas n { s.canvas n with lastK := some k }) n k
  rw [canvas_setCanvas, if_pos rfl] at hskip hframe hact
  rw [canvasFrameStart_runs hk hrun hdf hdom hr hlast, if_neg hhalf, if_pos (by simp [hf, hb])]
  exact ⟨_, rfl, hskip, hframe.trans hf, hact⟩

end FrameStart

/-! ## Bands -/

theorem bandRelease_atItsInstant {s : State} {n : Fin 96} {k : Nat} (hf : (s.canvas n).frame = some k) (hrun : s.running = true)
    (hw : s.working (canvasKey n) = true) (hb : (s.canvas n).released < (s.canvasCfg n).bands) :
    ((s.canvasCfg n).release k (s.canvas n).released ≤ s.now → ∃ t, exec (.bandRelease n) s = .next t ∧
      (t.canvas n).released = (s.canvas n).released + 1 ∧ (t.canvas n).begun = (s.canvas n).begun) ∧
    (s.now < (s.canvasCfg n).release k (s.canvas n).released → exec (.bandRelease n) s = .next s) := by
  have hexec : exec (.bandRelease n) s =
      (if (s.canvasCfg n).release k (s.canvas n).released ≤ s.now then
        .next (noteBlocked (s.setCanvas n { s.canvas n with released := (s.canvas n).released + 1 }) n) else .next s) := by
    change execBandRelease n s = _
    unfold execBandRelease
    dsimp only
    rw [hf]
    simp [hrun, hw, hb]
  refine ⟨fun h => ⟨_, hexec.trans (if_pos h), ?_⟩, fun h => hexec.trans (if_neg (by omega))⟩
  obtain ⟨-, -, -, -, -, hrel, hbeg, -⟩ := composing_iff.1
    (composing_noteBlocked (s.setCanvas n { s.canvas n with released := (s.canvas n).released + 1 }) n)
  rw [hrel, hbeg, canvas_setCanvas, if_pos rfl]
  exact ⟨rfl, rfl⟩

/-- The band as an idle pipe composes it. -/
def State.bandOf (s : State) (c k : Nat) : Placed :=
  { canvas := c, frame := k, band := (s.canvas c).begun, start := (s.canvasCfg c).start k,
    release := (s.canvasCfg c).release k (s.canvas c).begun, at' := s.now, w := (s.canvasCfg c).w, h := (s.canvasCfg c).h,
    rate := (s.canvasCfg c).rate, src := s.shown c (s.canvas c).begun }

/-- A composed band is under way in its pipe, and the next one of its canvas is to come. -/
theorem composeBand_begins (s : State) (pipe c k : Nat) :
    ∃ bad, tfind (composeBand s pipe c k).org.busy pipe = some { s.bandOf c k with bad := bad } ∧
      ((composeBand s pipe c k).canvas c).begun = (s.canvas c).begun + 1 := by
  unfold composeBand
  extract_lets g n a b d e f h org i
  have ha : a.composing c = s.composing c := composing_endBlocked s c
  have hb : b.composing c = s.composing c := by
    unfold b
    split
    · exact (composing_checkScales ..).trans ha
    · exact ha
  have hd : d.composing c = s.composing c := by
    unfold d
    split
    · exact (composing_tornBand ..).trans hb
    · exact hb
  have he : e.composing c = s.composing c := (composing_bump ..).trans hd
  obtain ⟨⟨-, -, -, -, -, -, hblv, -, -⟩, -, -⟩ := composing_iff.1 he
  have hf : f = { s.bandOf c k with bad := f.bad } := by
    have hnow : e.now = s.now := congrArg (fun x : Belvedere => x.tb0.toNat) hblv
    simp only [f, State.bandOf, hnow, shown_of_composing he]
    rfl
  obtain ⟨-, ⟨-, -, hbusy⟩, -, -, -, -, hbeg, -⟩ := composing_iff.1 (composing_noteBlocked (i.setCanvas c { i.canvas c with
    begun := n + 1, torn := false }) c)
  refine ⟨f.bad, ?_, ?_⟩
  · rw [hbusy, ← hf]
    exact tfind_tput_self ..
  · rw [hbeg, canvas_setCanvas, if_pos rfl]

theorem composeNext_picks {s : State} {pipe t c : Nat} (hrun : s.running = true) (hdf : s.bell.double = false)
    (hdom : s.dom (64 + pipe) = true) (hidle : tfind s.org.busy pipe = none)
    (hpick : earliest ((pipeCanvases pipe).filterMap fun c => (s.mayCompose c).map fun t => (t, c)) = some (t, c)) :
    composeNext s pipe = composeBand s pipe c ((s.canvas c).frame.getD 0) := by
  unfold composeNext
  rw [if_neg (by simp [hrun, hdf, hdom, hidle]), hpick]

theorem bandWaitExpiry_waits {s : State} {n : Fin 96} {k : Nat} (hf : (s.canvas n).frame = some k) (hrun : s.running = true)
    (hw : s.working (canvasKey n) = true) (hb : (s.canvas n).begun < (s.canvas n).released)
    (hu : (s.unready (s.canvas n) (s.canvasCfg n) (s.canvas n).begun).isSome = true) :
    ((s.canvasCfg n).release k (s.canvas n).begun + (s.canvasCfg n).waitCt ≤ s.now →
      exec (.bandWaitExpiry n) s = .next (composeNext (s.setCanvas n { s.canvas n with torn := true }) (n / 24))) ∧
    (s.now < (s.canvasCfg n).release k (s.canvas n).begun + (s.canvasCfg n).waitCt → exec (.bandWaitExpiry n) s = .next s) := by
  have hexec : exec (.bandWaitExpiry n) s =
      (if (s.canvasCfg n).release k (s.canvas n).begun + (s.canvasCfg n).waitCt ≤ s.now then
        .next (composeNext (s.setCanvas n { s.canvas n with torn := true }) (n / 24)) else .next s) := by
    change execBandWaitExpiry n s = _
    unfold execBandWaitExpiry
    dsimp only
    rw [hf]
    simp [hrun, hw, hb, hu]
  exact ⟨fun h => hexec.trans (if_pos h), fun h => hexec.trans (if_neg (by omega))⟩

theorem tfind_tdel_self {α : Type} (k : Nat) : ∀ t : Tab α, tfind (tdel t k) k = none
  | [] => rfl
  | e :: r => by
    by_cases h : e.1 = k
    · simpa [tdel, h] using tfind_tdel_self k r
    · simpa [tdel, tfind, h] using tfind_tdel_self k r

theorem bandPlaced_placed {s : State} {pipe : Fin 4} {b : Placed} (hb : tfind s.org.busy pipe = some b) (hrun : s.running = true)
    (hr : s.isRunning (canvasKey b.canvas) = true) :
    ∃ t, exec (.bandPlaced pipe) s = .next t ∧ tfind t.org.busy pipe = none ∧
      t.enc.placed = (if s.encTakes b.canvas && !s.bell.double
        then s.enc.placed ++ [{ b.done (s.canvasCfg b.canvas) with at' := s.now }] else s.enc.placed) ∧
      (t.canvas b.canvas).frames = (s.canvas b.canvas).frames + (if b.band + 1 = (s.canvasCfg b.canvas).bands then 1 else 0) ∧
      (b.band + 1 = (s.canvasCfg b.canvas).bands → (s.canvas b.canvas).frame = some b.frame → (t.canvas b.canvas).frame = none) := by
  have hnd : ∀ t : State, t.objs = s.objs → t.draining (canvasKey b.canvas) = false := by
    intro t h
    simp_all [State.isRunning, State.draining, State.obj]
  rw [show exec (.bandPlaced pipe) s = execBandPlaced pipe s from rfl]
  unfold execBandPlaced
  rw [hb]
  dsimp -zeta only
  rw [if_neg (by simp [hrun])]
  extract_lets c org a cut src d r last f e
  have hcut : cut = false := by
    change (a.draining (canvasKey b.canvas) && _) = false
    rw [hnd a rfl]
    rfl
  have hd : d.enc.placed = (if s.encTakes c && !s.bell.double
        then s.enc.placed ++ [{ b.done (s.canvasCfg c) with at' := s.now }] else s.enc.placed) ∧ d.org = a.org ∧ d.objs = s.objs := by
    have hd' : d = if s.encTakes c && !s.bell.double then place a { b.done (s.canvasCfg c) with at' := s.now } else a := by
      unfold d
      rw [hcut, Bool.not_false, Bool.and_true]
      rfl
    rw [hd']
    split
    · exact ⟨rfl, rfl, rfl⟩
    · exact ⟨rfl, rfl, rfl⟩
  obtain ⟨hplaced, horg, hobjs⟩ := hd
  have hdk : d.canvas c = s.canvas c := congrArg (fun o : Orangery => tget ({} : CanvasRun) o.runs c) horg |>.trans rfl
  have hcfg : d.canvasCfg c = s.canvasCfg c := congrArg (fun o : Orangery => tget ({} : CanvasCfg) o.cfgs c) horg |>.trans rfl
  obtain ⟨⟨-, -, -, -, -, heobjs, -, -, heenc⟩, ⟨-, -, hebusy⟩, -, -, heframe, -, -, heframes⟩ :=
    composing_iff.1 (composing_endBlocked f c)
  have hfk : f.canvas c = { r with
      oldLatched := [], frames := r.frames + (if last then 1 else 0), frame := if last && r.frame = some b.frame then none else r.frame } :=
    (canvas_setCanvas ..).trans (if_pos rfl)
  have hlast : last = (b.band + 1 = (s.canvasCfg c).bands) := congrArg (fun g : CanvasCfg => b.band + 1 = g.bands) hcfg
  rw [if_neg (by rw [hnd e (heobjs.trans hobjs), Bool.false_and]; exact Bool.false_ne_true)]
  have hprune : ∀ t : State, t = e ∨ t = pruneAll e (fun _ => false) → t.org = e.org ∧ t.enc = e.enc := by
    rintro t (rfl | rfl)
    · exact ⟨rfl, rfl⟩
    · exact org_pruneAll ..
  obtain ⟨horg', henc'⟩ := hprune (if last then pruneAll e fun _ => false else e) (by split <;> simp)
  refine ⟨_, rfl, ?_, ?_, ?_, ?_⟩
  · rw [horg', show e.org.busy = _ from hebusy]
    exact (congrArg (fun o : Orangery => tfind o.busy pipe) horg).trans (tfind_tdel_self ..)
  · rw [henc', show e.enc = _ from heenc]
    exact hplaced
  · have hframes : (f.canvas c).frames = r.frames + (if last then 1 else 0) := congrArg CanvasRun.frames hfk
    refine (congrArg (fun o : Orangery => (tget ({} : CanvasRun) o.runs c).frames) horg').trans ?_
    refine heframes.trans (hframes.trans ?_)
    rw [show r = s.canvas c from hdk]
    simp only [hlast, c]
  · intro hl hfr
    refine (congrArg (fun o : Orangery => (tget ({} : CanvasRun) o.runs c).frame) horg').trans ?_
    refine heframe.trans ((congrArg CanvasRun.frame hfk).trans (if_pos ?_))
    have hrf : r.frame = some b.frame := (congrArg CanvasRun.frame hdk).trans hfr
    have hl' : last := hlast ▸ hl
    simp [hl', hrf]

/-- Settles O44, each clause of the canvases by its own lemma. -/
theorem framesAndBandsOfCanvases : Obligations.FramesAndBandsOfCanvases := by
  unfold Obligations.FramesAndBandsOfCanvases
  intro s
  refine ⟨?_, ?_, ?_, ?_, ?_, ?_⟩
  · intro n k hk hrun hdf hdom hr hlast
    refine ⟨fun hstep hf => ⟨canvasFrameStart_begins hk hrun hdf hdom hr hlast hstep hf, beginFrame_begins ..⟩, fun hstep hodd => ?_,
      fun j hstep hf hb => canvasFrameStart_skips hk hrun hdf hdom hr hlast hstep hf hb⟩
    exact (canvasFrameStart_runs hk hrun hdf hdom hr hlast).trans (if_pos (by simp [State.halfRate, hstep, hodd]))
  · exact fun n k hf hrun hw hb => bandRelease_atItsInstant hf hrun hw hb
  · intro pipe t c k hrun hdf hdom hidle hpick hf
    obtain ⟨bad, hbusy, hbeg⟩ := composeBand_begins s pipe c k
    have hexec : exec (.bandCompose pipe) s = .next (composeBand s pipe c k) :=
      congrArg Outcome.next ((composeNext_picks hrun hdf hdom hidle hpick).trans (by rw [hf]; rfl))
    exact ⟨_, _, hexec, hbusy, rfl, rfl, rfl, rfl, hbeg, rfl, rfl, rfl⟩
  · intro pipe b hb
    refine congrArg Outcome.next ?_
    unfold composeNext
    exact if_pos (by simp [hb])
  · exact fun n k hf hrun hw hb hu => bandWaitExpiry_waits hf hrun hw hb hu
  · exact fun pipe b hb hrun hr => bandPlaced_placed hb hrun hr
end Sys2Proof.Machine
end

section
/-!
PROOF. Encodings: bands coded, units passed on, keys that fall due (R316-R332).
-/
namespace Sys2Proof.Machine

open Host

/-! ## Outputs are only added -/

theorem out_writeWaited (s : State) (n : Nat) (e : Entry) (q : BitVec 16) : s.out <:+ (writeWaited s n e q).out := by
  unfold writeWaited
  split
  · simp
  · dsimp only
    split
    · exact ⟨[_, _], rfl⟩
    · simp [State.fresh]

theorem out_leaveL1 (s : State) : s.out <:+ (leaveL1 s).out := by
  unfold leaveL1
  split
  · have h : s.out <:+ (writeHeld { s with porch := { s.porch with link := .l0 } }).out :=
      foldl_invariant (P := fun t => s.out <:+ t.out) (fun _ _ ht => ht.trans (out_writeWaited ..)) _ _ (List.suffix_refl _)
    simpa using h
  · exact List.suffix_refl _

theorem out_sendMsix (s : State) (v : Nat) : s.out <:+ (sendMsix s v).out := by
  unfold sendMsix
  split
  · exact List.suffix_refl _
  · exact List.suffix_cons ..

theorem out_belSignal (s : State) : s.out <:+ (belSignal s).out := by
  unfold belSignal
  split
  · exact List.suffix_refl _
  · split
    · exact List.suffix_refl _
    · dsimp only
      split
      · exact out_leaveL1 s
      · exact (out_leaveL1 s).trans (out_sendMsix ..)

theorem out_wakeHost (s : State) : s.out <:+ (wakeHost s).out := by
  unfold wakeHost
  repeat' split
  all_goals simp

theorem out_wakeTarget (s : State) (n : Nat) : s.out <:+ (wakeTarget s n).out := by
  unfold wakeTarget
  extract_lets t quad p u same
  have hu : s.out <:+ u.out := by
    unfold u
    split
    · exact out_wakeHost s
    · split
      · split <;> simp
      · split <;> simp
  split
  · exact hu
  · simpa using hu

theorem out_wakeHeld (a s : State) : s.out <:+ (wakeHeld a s).out :=
  foldl_invariant (P := fun t => s.out <:+ t.out) (fun _ _ ht => ht.trans (out_wakeTarget ..)) _ _ (List.suffix_refl _)

theorem out_irqEdges (a s : State) : s.out <:+ (irqEdges a s).out := by
  refine foldl_invariant (P := fun t => s.out <:+ t.out) (fun t _ ht => ht.trans ?_) _ _ (List.suffix_refl _)
  split
  · exact List.suffix_refl _
  · exact List.suffix_cons ..

theorem out_pulse (s : State) (n : Nat) : s.out <:+ (pulse s n).out := by
  unfold pulse
  split
  · dsimp only
    have hw : s.out <:+ (wakeHeld s (pendSource s n)).out :=
      (show s.out <:+ (pendSource s n).out by simp).trans (out_wakeHeld ..)
    refine (List.IsSuffix.trans ?_ (out_belSignal _)).trans (out_irqEdges ..)
    split
    · simpa using hw
    · exact hw
  · split
    · split <;> simp
    · exact List.suffix_refl _

/-! ## What coding leaves -/

/-- The parts that the end of a picture leaves; outputs are added to. -/
def State.coding (s : State) :=
  ((s.pending, s.cel, s.bell.levelStacks, s.pwr.state, s.pwr.entering, s.objs, s.blv, s.dec), s.enc.sets, s.enc.placed, s.enc.busy,
   s.enc.slow)

/-- A step that leaves these parts and only adds to the outputs. -/
def State.codesOn (s t : State) : Prop := t.coding = s.coding ∧ s.out <:+ t.out

theorem codesOn_refl (s : State) : s.codesOn s := ⟨rfl, List.suffix_refl _⟩

theorem State.codesOn.trans {s t u : State} (h : s.codesOn t) (h' : t.codesOn u) : s.codesOn u :=
  ⟨h'.1.trans h.1, h.2.trans h'.2⟩

theorem codesOn_pulse (s : State) (n : Nat) : s.codesOn (pulse s n) := ⟨by simp [State.coding], out_pulse s n⟩
theorem codesOn_bump (s : State) (a n : Nat) : s.codesOn (s.bump a n) := ⟨by simp [State.coding], by simp⟩
theorem codesOn_bump64 (s : State) (a n : Nat) : s.codesOn (s.bump64 a n) := ⟨by simp [State.coding], by simp⟩
theorem codesOn_eventSt (s : State) (k : BitVec 16) (st : Status) (o a b d e : Word) : s.codesOn (eventSt s k st o a b d e) :=
  ⟨rfl, List.suffix_refl _⟩
theorem codesOn_event (s : State) (k : BitVec 16) (o a b d e : Word) : s.codesOn (event s k o a b d e) := codesOn_eventSt ..
theorem codesOn_setEncRun (s : State) (c : Nat) (x : EncRun) : s.codesOn (s.setEncRun c x) := ⟨rfl, List.suffix_refl _⟩
theorem codesOn_setCanvas (s : State) (c : Nat) (x : CanvasRun) : s.codesOn (s.setCanvas c x) := ⟨rfl, List.suffix_refl _⟩

theorem codesOn_of_limit {s u : State} {k p n m : Nat} {x : Option (Nat × Nat)} (h : s.limit k p n m = (x, u)) : s.codesOn u := by
  have hu : u = (s.limit k p n m).2 := (congrArg Prod.snd h).symm
  rw [hu]
  unfold State.limit
  dsimp only
  repeat' split
  all_goals exact ⟨rfl, List.suffix_refl _⟩

theorem codesOn_endBlocked (s : State) (c : Nat) : s.codesOn (endBlocked s c) := by
  unfold endBlocked
  dsimp only
  split
  · split
    · exact (codesOn_setCanvas ..).trans (codesOn_bump ..)
    · exact codesOn_refl s
  · exact codesOn_refl s

theorem codesOn_endPic (s : State) (c k : Nat) (x : PicRun) : s.codesOn (endPic s c k x) := by
  unfold endPic
  extract_lets r g full q a b d
  have hb : s.codesOn b := (codesOn_setEncRun ..).trans ((codesOn_bump64 ..).trans (codesOn_bump64 ..))
  split
  · have hd : s.codesOn d := hb.trans (codesOn_bump ..)
    split
    case h_1 heq => exact hd.trans ((codesOn_of_limit heq).trans ((codesOn_eventSt ..).trans (codesOn_pulse ..)))
    case h_2 heq => exact hd.trans ((codesOn_of_limit heq).trans (codesOn_pulse ..))
  · exact hb

theorem codesOn_endPics (s : State) (c : Nat) (l : List PicRun) : s.codesOn (endPics s c l) := by
  unfold endPics
  extract_lets r g whole now a
  have ha : s.codesOn a :=
    foldl_invariant (P := fun t => s.codesOn t) (fun _ _ ht => ht.trans (codesOn_endPic ..)) _ _ (codesOn_refl s)
  split
  · exact ha.trans (codesOn_setEncRun ..)
  · exact ha

/-! ## Items of work -/

/-- An item that arrives changes the Hall, the Pantry and counts. -/
theorem coding_of_offPackets {s t : State} (h : t.offPackets = s.offPackets) : t.coding = s.coding := by
  simp only [State.offPackets, Prod.mk.injEq] at h
  simp only [State.coding, h]

@[simp] theorem coding_bgUpdate (s : State) (g : Nat) : (bgUpdate s g).coding = s.coding := by
  unfold bgUpdate
  split
  · split <;> rfl
  · rfl

@[simp] theorem coding_setFlow (s : State) (f : Nat) (x : Flow) : (s.setFlow f x).coding = s.coding := rfl

theorem coding_joinItem (s : State) (f : Nat) (i : Item) : (joinItem s f i).coding = s.coding := by
  unfold joinItem
  extract_lets x moves n timer h y t
  rw [coding_bgUpdate, coding_setFlow]
  unfold t
  split <;> rfl

theorem coding_hallDropEvent (s : State) (r : Option (Nat × Nat)) : (hallDropEvent s r).coding = s.coding := by
  cases r with
  | none => rfl
  | some r => exact (codesOn_pulse ..).1.trans (codesOn_event ..).1

theorem coding_dropItem (s : State) (i : Item) (b : Bool) : (dropItem s i b).coding = s.coding := by
  unfold dropItem
  extract_lets a d e p
  have ha : a.coding = s.coding := by
    unfold a
    split
    · exact coding_of_offPackets (offPackets_releaseHandle ..)
    · rfl
  have hd : d.coding = s.coding := by
    unfold d
    split
    · exact (codesOn_bump ..).1.trans ha
    · exact (codesOn_bump ..).1.trans ha
  exact (coding_hallDropEvent ..).trans ((coding_of_offPackets (offPackets_limit ..)).trans hd)

theorem coding_hallAdmit (s : State) (f : Nat) (i : Item) : (hallAdmit s f i).coding = s.coding := by
  unfold hallAdmit
  split
  · refine (codesOn_bump ..).1.trans ?_
    split
    · exact coding_of_offPackets (offPackets_releaseHandle ..)
    · rfl
  · split
    · split
      · exact coding_joinItem ..
      · rfl
    · split
      · exact coding_dropItem ..
      · split
        · exact coding_dropItem ..
        · exact coding_joinItem ..

theorem passTile_admitted {c k : Nat} {s t : State} {x : Nat × Nat × Nat} {ok : Bool}
    (h : hallWork s (canvasFlow c (if (s.encSet c).cfg.simulcast then x.1 else 0)) 5 = (ok, t)) :
    passTile c k s x = if ok then { t with out := Out.tile c x.1 k x.2.1 x.2.2 :: t.out } else t := by
  unfold passTile
  rw [h]

theorem coding_passTile (c k : Nat) (s : State) (x : Nat × Nat × Nat) : (passTile c k s x).coding = s.coding := by
  rcases h : hallWork s (canvasFlow c (if (s.encSet c).cfg.simulcast then x.1 else 0)) 5 with ⟨ok, t⟩
  have ht : t.coding = s.coding := by
    rw [show t = _ from (congrArg Prod.snd h).symm]
    exact coding_hallAdmit ..
  rw [passTile_admitted h]
  cases ok
  · exact ht
  · exact ht

theorem codesOn_parts {s t : State} (h : t.coding = s.coding) : t.objs = s.objs ∧ t.blv = s.blv ∧ t.enc.placed = s.enc.placed ∧
    t.enc.busy = s.enc.busy ∧ t.enc.slow = s.enc.slow := by
  simp only [State.coding, Prod.mk.injEq] at h
  obtain ⟨⟨-, -, -, -, -, hobjs, hblv, -⟩, -, hplaced, hbusy, hslow⟩ := h
  exact ⟨hobjs, hblv, hplaced, hbusy, hslow⟩

/-- A coded band: its units are passed on, its pipe is idle again, and a band that took too long is counted. -/
theorem bandCoded_passes {s : State} {pipe : Fin 12} {j : EncJob} (hrun : s.running = true) (hj : tfind s.enc.busy pipe = some j)
    (hr : s.isRunning (encKey j.band.canvas) = true) :
    ∃ t, exec (.bandCoded pipe) s = .next t ∧ tfind t.enc.busy pipe = none ∧ t.enc.placed = s.enc.placed ∧
      (j.tiles.foldl (passTile j.band.canvas j.band.frame)
        { s with enc := { s.enc with busy := tdel s.enc.busy pipe } }).out <:+ t.out ∧
      tget 0 t.enc.slow pipe = tget 0 s.enc.slow pipe +
        (if j.band.at' + (s.encRunning pipe).length * 19038 < s.now then 1 else 0) := by
  have hnd : ∀ t : State, t.objs = s.objs → t.draining (encKey j.band.canvas) = false := by
    intro t h
    simp_all [State.isRunning, State.draining, State.obj]
  rw [show exec (.bandCoded pipe) s = execBandCoded pipe s from rfl]
  unfold execBandCoded
  rw [hj]
  dsimp -zeta only
  rw [if_neg (by simp [hrun])]
  extract_lets c enc a slow b enc' d e
  obtain ⟨haobjs, hablv, haplaced, habusy, haslow⟩ := codesOn_parts (s := { s with enc := { s.enc with busy := tdel s.enc.busy pipe } })
    (t := a) (foldl_keeps (part := State.coding) (coding_passTile c j.band.frame) _ _)
  have hslow : slow = decide (j.band.at' + (s.encRunning pipe).length * 19038 < s.now) := by
    have hnow : a.now = s.now := congrArg (fun x : Belvedere => x.tb0.toNat) hablv
    have hrunning : a.encRunning pipe = s.encRunning pipe := by simp [State.encRunning, State.isRunning, State.obj, haobjs]
    unfold slow
    rw [hnow, hrunning]
  have hd : d.objs = s.objs ∧ d.enc.placed = s.enc.placed ∧ d.enc.busy = tdel s.enc.busy pipe ∧ a.out <:+ d.out ∧
      tget 0 d.enc.slow pipe = tget 0 s.enc.slow pipe + (if slow = true then 1 else 0) := by
    have hb : b.objs = a.objs ∧ b.out = a.out := by simp [b]
    unfold d
    split
    · refine ⟨by simp [hb, haobjs], by simp [enc', haplaced], by simp [enc', habusy], ?_, by simp [haslow]⟩
      exact List.IsSuffix.trans (hb.2 ▸ List.suffix_refl _) (out_pulse ..)
    · exact ⟨haobjs, haplaced, habusy, List.suffix_refl _, by rw [haslow, Nat.add_zero]⟩
  obtain ⟨hdobjs, hdplaced, hdbusy, hdout, hdslow⟩ := hd
  have he : d.codesOn e := (codesOn_endPics ..).trans (codesOn_endBlocked ..)
  obtain ⟨heobjs, -, heplaced, hebusy, heslow⟩ := codesOn_parts he.1
  rw [if_neg (by rw [hnd e (heobjs.trans hdobjs), Bool.false_and, Bool.false_and]; exact Bool.false_ne_true)]
  refine ⟨e, rfl, ?_, heplaced.trans hdplaced, hdout.trans he.2, ?_⟩
  · rw [hebusy, hdbusy]
    exact tfind_tdel_self ..
  · rw [heslow, hdslow, hslow]
    simp

/-! ## Bands taken -/

theorem codesOn_out (s : State) (l : List Out) : s.codesOn { s with out := l ++ s.out } := ⟨rfl, List.suffix_append ..⟩

theorem codesOn_beginPic (s : State) (c k layer : Nat) : s.codesOn (beginPic s c k layer) := by
  unfold beginPic
  extract_lets e g r start key t below switch intra n budget reserve t0 t1 ref o q
  split
  extract_lets floor x a b y z v
  split
  · exact ((codesOn_setEncRun ..).trans (codesOn_bump ..)).trans ((codesOn_event ..).trans (codesOn_pulse ..))
  · have hq : s.codesOn q := by
      unfold q
      split
      · exact codesOn_bump ..
      · exact codesOn_refl s
    have hput : s.codesOn v := hq.trans (codesOn_setEncRun q c z)
    split
    · exact hput.trans (codesOn_out v [_, _])
    · exact hput.trans (codesOn_out v [_])

theorem codesOn_sayKeys (s : State) (c k : Nat) (b : Tab Nat) : s.codesOn (sayKeys s c k b) := by
  refine foldl_invariant (P := fun t => s.codesOn t) (fun t _ ht => ht.trans ?_) _ _ (codesOn_refl s)
  extract_lets m
  split
  · exact codesOn_refl _
  · exact codesOn_event ..

theorem codesOn_beginPics (s : State) (c k start : Nat) : s.codesOn (beginPics s c k start) :=
  (foldl_invariant (P := fun t => s.codesOn t) (fun _ _ ht => ht.trans (codesOn_beginPic ..)) _ _ (codesOn_setEncRun ..)).trans
    (codesOn_sayKeys ..)

@[simp] theorem encRun_endBlocked (s : State) (c j : Nat) : (endBlocked s c).encRun j = s.encRun j := by
  unfold endBlocked
  dsimp only
  repeat' split
  all_goals simp [State.encRun, State.setCanvas]

@[simp] theorem produced_endBlocked (s : State) (c : Nat) : (endBlocked s c).porch.produced = s.porch.produced := by
  unfold endBlocked
  dsimp only
  repeat' split
  all_goals simp [State.setCanvas]

@[simp] theorem encRun_event (s : State) (k : BitVec 16) (o a b d e : Word) (j : Nat) : (event s k o a b d e).encRun j = s.encRun j := by
  simp [State.encRun]

theorem placed_of_codesOn {s t : State} (h : s.codesOn t) : t.enc.placed = s.enc.placed := (codesOn_parts h.1).2.2.1

/-- The band that is taken leaves the placed bands, whatever becomes of it. -/
theorem placed_takeBand (s : State) (n : Nat) (b : Placed) (codes : List BandCode) :
    (takeBand s n b codes).enc.placed = s.enc.placed.erase b := by
  unfold takeBand
  extract_lets c enc a r d e f g x work
  have ha : a.enc.placed = s.enc.placed.erase b := rfl
  split
  · refine (placed_of_codesOn (codesOn_endBlocked e c)).trans ?_
    unfold e
    split
    · exact ha
    · exact (placed_of_codesOn (codesOn_event ..)).trans ha
  · have hf : f.enc.placed = s.enc.placed.erase b := by
      unfold f
      split
      · exact (placed_of_codesOn (codesOn_beginPics ..)).trans ha
      · exact ha
    split
    · exact (placed_of_codesOn (codesOn_endBlocked ..)).trans hf
    · split
      exact (placed_of_codesOn (codesOn_bump ..)).trans hf

/-- A first band of another geometry is discarded, with its event. -/
theorem takeBand_misfits {s : State} {n : Nat} {b : Placed} {codes : List BandCode} (hidle : tfind s.enc.busy n = none)
    (hg : (s.encRun b.canvas).geom = false) (hf : (s.encRun b.canvas).fits b = false) :
    ((takeBand s n b codes).encRun b.canvas).geom = true ∧ ((takeBand s n b codes).encRun b.canvas).frame = none ∧
      tfind (takeBand s n b codes).enc.busy n = none ∧
      ∃ e ∈ (takeBand s n b codes).porch.produced, e.evt = true ∧ e.code = 0x0C13 ∧ e.obj = low b.canvas := by
  have hgo : ((s.encRun b.canvas).geom || !(s.encRun b.canvas).fits b) = true := by simp [hf]
  have hgeom : ¬ (s.encRun b.canvas).geom = true := by simp [hg]
  unfold takeBand
  extract_lets c enc a r d e f g x work
  rw [if_pos (show (r.geom || !r.fits b) = true from hgo)]
  have he : e = event d 0x0C13 (low c) (low (b.w + b.h * 65536)) (low b.rate) 0 0 := if_neg hgeom
  have hec : e.encRun c = { r with geom := true, frame := none, pics := [] } := by
    rw [he, encRun_event]
    exact (encRun_setEncRun ..).trans (if_pos rfl)
  have hbusy : e.enc.busy = s.enc.busy := by
    rw [he]
    exact (codesOn_parts (codesOn_event ..).1).2.2.2.1
  refine ⟨?_, ?_, ?_, ?_⟩
  · rw [encRun_endBlocked]
    exact congrArg EncRun.geom hec
  · rw [encRun_endBlocked]
    exact congrArg EncRun.frame hec
  · rw [(codesOn_parts (codesOn_endBlocked e c).1).2.2.2.1, hbusy]
    exact hidle
  · rw [produced_endBlocked, he]
    exact ⟨_, List.mem_append_right _ (List.mem_singleton.2 rfl), rfl, rfl, rfl⟩

/-- A later band of the frame under way is coded. -/
theorem takeBand_later {s : State} {n : Nat} {b : Placed} {codes : List BandCode} (hg : (s.encRun b.canvas).geom = false)
    (hf : (s.encRun b.canvas).fits b = true) (hb : b.band ≠ 0) (hframe : (s.encRun b.canvas).frame = some b.frame) :
    ∃ j, tfind (takeBand s n b codes).enc.busy n = some j ∧ j.band = b ∧
      ((takeBand s n b codes).encRun b.canvas).frame = some b.frame ∧ (takeBand s n b codes).porch.produced = s.porch.produced := by
  have hgo : ¬ ((s.encRun b.canvas).geom || !(s.encRun b.canvas).fits b) = true := by simp [hg, hf]
  unfold takeBand
  extract_lets c enc a r d e f g x work
  rw [if_neg (show ¬ (r.geom || !r.fits b) = true from hgo)]
  have hfa : f = a := if_neg hb
  have hx : x.frame = some b.frame := by
    unfold x
    rw [hfa]
    exact hframe
  rw [if_neg (by simp [hx])]
  split
  rename_i ps tiles cyc _
  extract_lets y v w
  have hv : v.enc.runs = y.enc.runs ∧ v.porch = y.porch := by simp [v]
  refine ⟨_, tfind_tput_self .., rfl, ?_, ?_⟩
  · have hy : y.encRun c = { x with pics := ps, lastBand := b.at' } := (encRun_setEncRun ..).trans (if_pos rfl)
    exact (congrArg (fun t => (tget ({} : EncRun) t c).frame) hv.1).trans ((congrArg EncRun.frame hy).trans hx)
  · have hy : y.porch.produced = s.porch.produced := by
      change f.porch.produced = _
      rw [hfa]
    exact (congrArg Porch.produced hv.2).trans hy

theorem bandEncodeStart_takes {s : State} {pipe : Fin 12} {codes : List BandCode} {b : Placed} (hrun : s.running = true)
    (hdom : s.dom (52 + pipe) = true) (hidle : tfind s.enc.busy pipe = none) (hpick : pickPlaced pipe s.enc.placed = some b) :
    exec (.bandEncodeStart pipe codes) s = .next (takeBand s pipe b codes) := by
  change execBandEncodeStart pipe codes s = _
  unfold execBandEncodeStart
  rw [if_neg (by simp [hrun, hdom, hidle]), hpick]

/-! ## Keys that fall due -/

theorem sumNat_append (l : List Nat) (n : Nat) : sumNat (l ++ [n]) = sumNat l + n := by simp [sumNat]

/-- The sum of the powers of two of the layers that a condition names: below 2^n, with the bits of those layers. -/
theorem layerMask_spec (p : Nat → Bool) : ∀ n, sumNat ((layersOf n).map fun j => if p j then 2 ^ j else 0) < 2 ^ n ∧
    ∀ i, i < n → (sumNat ((layersOf n).map fun j => if p j then 2 ^ j else 0)).testBit i = p i
  | 0 => ⟨by simp [layersOf, sumNat], fun i h => absurd h (Nat.not_lt_zero i)⟩
  | n + 1 => by
    obtain ⟨hlt, hbit⟩ := layerMask_spec p n
    rw [layersOf, List.range_succ, List.map_append, List.map_singleton, sumNat_append, ← layersOf]
    generalize sumNat ((layersOf n).map fun j => if p j then 2 ^ j else 0) = m at hlt hbit
    refine ⟨by split <;> omega, fun i hi => ?_⟩
    by_cases hp : p n = true
    · rw [if_pos hp, Nat.add_comm]
      rcases Nat.lt_succ_iff_lt_or_eq.1 hi with h | h
      · rw [Nat.testBit_two_pow_add_gt h, hbit i h]
      · rw [h, Nat.testBit_two_pow_add_eq, Nat.testBit_lt_two_pow hlt, hp]
        rfl
    · rw [if_neg hp, Nat.add_zero]
      rcases Nat.lt_succ_iff_lt_or_eq.1 hi with h | h
      · exact hbit i h
      · rw [h, Nat.testBit_lt_two_pow hlt]
        exact (Bool.eq_false_iff.2 hp).symm

/-- One layer's key is pending by its mask bit, unless one was. -/
theorem tget_pended (m cause i : Nat) : ∀ (l : List Nat) (t : Tab Nat),
    tget 0 (l.foldl (fun (t : Tab Nat) j => if m.testBit j && tget 0 t j == 0 then tset 0 t j cause else t) t) i =
      if i ∈ l ∧ m.testBit i = true ∧ tget 0 t i = 0 then cause else tget 0 t i
  | [], t => by simp
  | a :: r, t => by
    rw [List.foldl_cons, tget_pended m cause i r]
    by_cases ha : i = a
    · subst ha
      by_cases hset : (m.testBit i && tget 0 t i == 0) = true
      · rw [if_pos hset, tget_tset_self]
        have : m.testBit i = true ∧ tget 0 t i = 0 := by simpa using hset
        simp [this]
      · rw [if_neg hset]
        have : ¬ (m.testBit i = true ∧ tget 0 t i = 0) := by simpa using hset
        simp [this]
    · have hkeep : tget 0 (if m.testBit a && tget 0 t a == 0 then tset 0 t a cause else t) i = tget 0 t i := by
        split
        · exact tget_tset_ne _ _ _ _ ha
        · rfl
      rw [hkeep]
      simp [ha]

/-- The keys of a mask are pending, those that were keep their cause. -/
theorem keyPend_pendKeys (s : State) (c mask cause i : Nat) (hi : i < (s.encSet c).cfg.spatial)
    (h0 : tget 0 (s.encRun c).keyPend i = 0) :
    tget 0 ((pendKeys s c mask cause).encRun c).keyPend i =
      (if (if mask ≠ 0 && !(s.encSet c).cfg.simulcast then 2 ^ (s.encSet c).cfg.spatial - 1 else mask).testBit i then cause else 0) := by
  unfold pendKeys
  extract_lets g m r
  rw [encRun_setEncRun, if_pos rfl]
  refine (tget_pended m cause i _ _).trans ?_
  have hmem : i ∈ layersOf g.spatial := List.mem_range.2 hi
  have hr : tget 0 r.keyPend i = 0 := h0
  rw [hr]
  simp only [hmem, true_and, and_true]
  rfl

theorem keyIntervalExpiry_pends {s : State} {n : Fin 96} (hr : s.isRunning (encKey n) = true) (hk : (s.encSet n).cfg.keyInt ≠ 0) :
    ∃ t, exec (.keyIntervalExpiry n) s = .next t ∧ t.porch.produced = s.porch.produced ∧
      ∀ i, i < (s.encSet n).cfg.spatial → tget 0 (s.encRun n).keyPend i = 0 →
        ((s.encSet n).cfg.simulcast = true → tget 0 (t.encRun n).keyPend i =
          (if tget 0 (s.encRun n).lastKey i ≠ 0 ∧ since (s.encRun n).lastKey i s.now (s.encSet n).cfg.keyInt = true then 2 else 0)) ∧
        ((s.encSet n).cfg.simulcast = false → tget 0 (s.encRun n).lastKey 0 ≠ 0 →
          since (s.encRun n).lastKey 0 s.now (s.encSet n).cfg.keyInt = true → tget 0 (t.encRun n).keyPend i = 2) := by
  obtain ⟨m, hm⟩ : ∃ m, m = sumNat ((layersOf (s.encSet n).cfg.spatial).map fun i =>
    if tget 0 (s.encRun n).lastKey i != 0 && since (s.encRun n).lastKey i s.now (s.encSet n).cfg.keyInt then 2 ^ i else 0) := ⟨_, rfl⟩
  have hbit := hm ▸ (layerMask_spec (fun i => tget 0 (s.encRun n).lastKey i != 0 &&
    since (s.encRun n).lastKey i s.now (s.encSet n).cfg.keyInt) (s.encSet n).cfg.spatial).2
  have hexec : exec (.keyIntervalExpiry n) s = .next (pendKeys s n m 2) := by
    rw [hm]
    change execKeyIntervalExpiry n s = _
    unfold execKeyIntervalExpiry
    exact if_pos (by simp [hr, hk])
  refine ⟨_, hexec, rfl, fun i hi h0 => ?_⟩
  rw [keyPend_pendKeys s n m 2 i hi h0]
  refine ⟨fun hs => ?_, fun hs hlast hsince => ?_⟩
  · simp only [hs, Bool.not_true, Bool.and_false, Bool.false_eq_true, if_false, hbit i hi]
    simp
  · have hm0 : m ≠ 0 := by
      intro h
      have := hbit 0 (by omega)
      simp [h, hlast, hsince] at this
    have hall : (2 ^ (s.encSet n).cfg.spatial - 1).testBit i = true := by simp [Nat.testBit_two_pow_sub_one, hi]
    simp [hs, hm0, hall]

/-- Settles O45, each clause of the encodings by its own lemma. -/
theorem bandsOfEncodings : Obligations.BandsOfEncodings := by
  unfold Obligations.BandsOfEncodings
  intro s
  refine ⟨?_, ?_, ?_, ?_, ?_⟩
  · intro pipe codes b hrun hdom hidle hpick
    have hexec := bandEncodeStart_takes (codes := codes) hrun hdom hidle hpick
    refine ⟨⟨hexec, placed_takeBand ..⟩, fun hg hf => ⟨_, hexec, takeBand_misfits hidle hg hf⟩, fun hg hf hb hframe => ?_⟩
    obtain ⟨j, hj⟩ := takeBand_later (n := pipe) (codes := codes) hg hf hb hframe
    exact ⟨_, j, hexec, hj⟩
  · exact fun pipe j hrun hj hr => bandCoded_passes hrun hj hr
  · exact fun c k x ok t h => passTile_admitted h
  · intro pipe hidle
    change execBandCoded pipe s = _
    unfold execBandCoded
    rw [hidle]
  · exact fun n hr hk _ => keyIntervalExpiry_pends hr hk
end Sys2Proof.Machine
end

section
/-!
PROOF. Hatches: what their frames, entries and counts leave unchanged (R225-R243).
-/
namespace Sys2Proof.Machine

open Host

/-- The parts of the machine that the work of a hatch leaves. -/
def State.bankParts (s : State) :=
  (s.pending, s.cel, s.bell.levelStacks, s.pwr.state, s.pwr.entering, s.objs, s.blv, s.hat.cfgs, s.hat.legs)

/-- From s to t the work of hatch h leaves the parts around it, every other hatch, and what P reads of hatch h. -/
def State.keepsHatch {α : Type} (P : Hatch → α) (h : Nat) (s t : State) : Prop :=
  t.bankParts = s.bankParts ∧ (∀ j, j ≠ h → t.hatch j = s.hatch j) ∧ P (t.hatch h) = P (s.hatch h)

/-- A hatch without what its frames and entries change. -/
def Hatch.still (x : Hatch) : Hatch := { x with due := [], underN := 0, sent := 0, lastTx := [], acc := [] }

section Keeps

variable {α : Type} {P : Hatch → α} {h : Nat} {s t u : State}

theorem keepsHatch_refl (P : Hatch → α) (h : Nat) (s : State) : State.keepsHatch P h s s := ⟨rfl, fun _ _ => rfl, rfl⟩

theorem keepsHatch_trans (h₁ : State.keepsHatch P h s t) (h₂ : State.keepsHatch P h t u) : State.keepsHatch P h s u :=
  ⟨h₂.1.trans h₁.1, fun j hj => (h₂.2.1 j hj).trans (h₁.2.1 j hj), h₂.2.2.trans h₁.2.2⟩

/-- A step that leaves every hatch leaves what P reads of one. -/
theorem keepsHatch_of_ports (hp : t.hat.ports = s.hat.ports) (hb : t.bankParts = s.bankParts) : State.keepsHatch P h s t := by
  have hh : ∀ j, t.hatch j = s.hatch j := fun j => congrArg (fun x => tget ({} : Hatch) x j) hp
  exact ⟨hb, fun j _ => hh j, congrArg P (hh h)⟩

theorem keepsHatch_setHatch {x : Hatch} (hx : P x = P (s.hatch h)) : State.keepsHatch P h s (s.setHatch h x) :=
  ⟨rfl, fun _ hj => (hatch_setHatch ..).trans (if_neg hj), (congrArg P ((hatch_setHatch ..).trans (if_pos rfl))).trans hx⟩

/-- What reads a hatch without its frames and entries is left where that hatch is. -/
theorem keepsHatch_of_still (hP : ∀ x, P x = P x.still) (hk : State.keepsHatch Hatch.still h s t) : State.keepsHatch P h s t :=
  ⟨hk.1, hk.2.1, by rw [hP, hk.2.2, ← hP]⟩

end Keeps

theorem hat_pulse (s : State) (n : Nat) : (pulse s n).hat = s.hat := by simp
theorem hat_bump (s : State) (a n : Nat) : (s.bump a n).hat = s.hat := by simp
theorem hat_event (s : State) (k : BitVec 16) (o a b d e : Word) : (event s k o a b d e).hat = s.hat := by simp

theorem bankParts_pulse (s : State) (n : Nat) : (pulse s n).bankParts = s.bankParts := by simp [State.bankParts]
theorem bankParts_bump (s : State) (a n : Nat) : (s.bump a n).bankParts = s.bankParts := by simp [State.bankParts]
theorem bankParts_event (s : State) (k : BitVec 16) (o a b d e : Word) : (event s k o a b d e).bankParts = s.bankParts := by
  simp [State.bankParts]

theorem hat_of_limit {s u : State} {k p n m : Nat} {x : Option (Nat × Nat)} (h : s.limit k p n m = (x, u)) :
    u.hat = s.hat ∧ u.bankParts = s.bankParts ∧ u.porch = s.porch := by
  have hu : u = (s.limit k p n m).2 := (congrArg Prod.snd h).symm
  rw [hu]
  unfold State.limit
  dsimp only
  repeat' split
  all_goals exact ⟨rfl, rfl, rfl⟩

/-! ## Underruns, frames and entries -/

/-- Counting underruns touches the count of the hatch and the bank's note of its first one. -/
theorem keepsHatch_countUnder (s : State) (h n : Nat) : State.keepsHatch Hatch.still h s (countUnder s h n) := by
  unfold countUnder
  split
  · exact keepsHatch_refl ..
  · extract_lets b x a r first d
    have ha : State.keepsHatch Hatch.still h s a :=
      keepsHatch_trans (keepsHatch_setHatch (x := { x with underN := x.underN + n }) rfl)
        (keepsHatch_of_ports (congrArg Hatches.ports (hat_bump ..)) (bankParts_bump ..))
    have hd : State.keepsHatch Hatch.still h s d := keepsHatch_trans ha (keepsHatch_of_ports rfl rfl)
    split
    case h_1 heq =>
      obtain ⟨hhat, hparts, -⟩ := hat_of_limit heq
      refine keepsHatch_trans hd (keepsHatch_of_ports ?_ ?_)
      · simp [State.setBankRun, hhat]
      · rw [bankParts_pulse, bankParts_event]
        exact hparts
    case h_2 heq =>
      obtain ⟨hhat, hparts, -⟩ := hat_of_limit heq
      refine keepsHatch_trans hd (keepsHatch_of_ports ?_ ?_)
      · simp [hhat]
      · rw [bankParts_pulse]
        exact hparts

theorem bankRun_of_hat {s t : State} (h : t.hat = s.hat) (j : Nat) : t.bankRun j = s.bankRun j :=
  congrArg (fun x : Hatches => tget ({} : BankRun) x.runs j) h

/-- Of a bank, counting underruns touches the note of its first one. -/
theorem bankRun_countUnder (s : State) (h n j : Nat) :
    ∃ u, (countUnder s h n).bankRun j = { s.bankRun j with underHatch := u } := by
  unfold countUnder
  split
  · exact ⟨_, rfl⟩
  · extract_lets b x a r first d
    have ha : ∀ i, a.bankRun i = s.bankRun i := fun i => (bankRun_of_hat (hat_bump ..) i).trans rfl
    have hd : ∃ u, d.bankRun j = { s.bankRun j with underHatch := u } := by
      unfold d
      rw [bankRun_setBankRun]
      split
      · rename_i hj
        exact ⟨some first, by rw [hj, ← ha b]⟩
      · exact ⟨_, ha j⟩
    obtain ⟨u, hu⟩ := hd
    split
    case h_1 heq =>
      obtain ⟨hhat, -, -⟩ := hat_of_limit heq
      rw [bankRun_of_hat (hat_pulse ..), bankRun_of_hat (hat_event ..), bankRun_setBankRun]
      split
      · rename_i hj
        refine ⟨none, ?_⟩
        rw [bankRun_of_hat hhat, ← hj, hu]
      · exact ⟨u, (bankRun_of_hat hhat j).trans hu⟩
    case h_2 heq =>
      obtain ⟨hhat, -, -⟩ := hat_of_limit heq
      rw [bankRun_of_hat (hat_pulse ..), bankRun_of_hat hhat]
      exact ⟨u, hu⟩

theorem keepsHatch_flushTx (s : State) (h stop : Nat) : State.keepsHatch Hatch.still h s (flushTx s h stop) := by
  unfold flushTx
  extract_lets bk g r x n ks live wire last a b
  split
  · exact keepsHatch_refl ..
  · have ha : State.keepsHatch Hatch.still h s a := keepsHatch_setHatch (x := { x with sent := stop, lastTx := last }) rfl
    have hb : State.keepsHatch Hatch.still h s b := by
      unfold b
      split
      · exact ha
      · exact keepsHatch_trans ha (keepsHatch_of_ports rfl rfl)
    split
    · exact hb
    · exact keepsHatch_trans hb (keepsHatch_of_ports rfl rfl)

theorem keepsHatch_flushClocks (s : State) (b stop h : Nat) : State.keepsHatch Hatch.still h s (flushClocks s b stop) := by
  unfold flushClocks
  dsimp only
  split
  · exact keepsHatch_refl ..
  · exact keepsHatch_of_ports rfl rfl

theorem keepsHatch_closeRx (s : State) (h stop : Nat) (part : Bool) : State.keepsHatch Hatch.still h s (closeRx s h stop part) := by
  unfold closeRx
  extract_lets b x p m n lost unsaid a
  split
  · exact keepsHatch_refl ..
  · have ha : State.keepsHatch Hatch.still h s a := keepsHatch_setHatch (x := { x with due := _ }) rfl
    exact keepsHatch_trans ha (keepsHatch_countUnder ..)

theorem keepsHatch_commitBlock (s : State) (h b : Nat) : State.keepsHatch Hatch.still h s (commitBlock s h b) := by
  unfold commitBlock
  extract_lets mix a
  have ha : State.keepsHatch Hatch.still h s a := by
    refine foldl_invariant (P := fun t => State.keepsHatch Hatch.still h s t) (fun t e ht => keepsHatch_trans ht ?_) _ _ (keepsHatch_refl ..)
    exact keepsHatch_of_ports rfl rfl
  exact keepsHatch_trans ha (keepsHatch_setHatch (x := { a.hatch h with acc := [] }) rfl)

/-- The block before b is closed: the hatch has the block, its new receive entry, and no transmit entry yet. -/
theorem closeBlock_opens (s : State) (h b : Nat) :
    (closeBlock s h b).bankParts = s.bankParts ∧ (∀ j, j ≠ h → (closeBlock s h b).hatch j = s.hatch j) ∧
      ((closeBlock s h b).hatch h).still = { (s.hatch h).still with
        cur := { first := firstFrame (s.bankCfg (h / 8)).period b, isPart := false }, txBlock := some b, txEntry := none } := by
  unfold closeBlock
  extract_lets bk p x first src a y d
  have ha : State.keepsHatch (fun x => { x.still with cur := { first := firstFrame p b, isPart := false } }) h s a :=
    keepsHatch_setHatch (x := { x with cur := { x.cur with first := first } }) rfl
  have hd : State.keepsHatch Hatch.still h a d := by
    unfold d
    split
    · split
      · exact keepsHatch_commitBlock ..
      · split
        · exact keepsHatch_refl ..
        · exact keepsHatch_setHatch (x := { a.hatch h with due := _ }) rfl
    · exact keepsHatch_closeRx ..
  have hd' := keepsHatch_of_still (P := fun x => { x.still with cur := { first := firstFrame p b, isPart := false } }) (fun _ => rfl) hd
  obtain ⟨hparts, hothers, hstill⟩ := keepsHatch_trans ha hd'
  clear_value d
  refine ⟨hparts, fun j hj => (hatch_setHatch ..).trans ((if_neg hj).trans (hothers j hj)), ?_⟩
  rw [hatch_setHatch, if_pos rfl]
  exact congrArg (fun y : Hatch => { y with txBlock := some b, txEntry := none }) hstill

/-! ## Completions of a mask change -/

theorem produced_complete (s : State) (op : BitVec 16) (c : Cmd) (st : Status) (a b d e : Word) :
    s.porch.produced <+: (complete s op c st a b d e).porch.produced ∧ (complete s op c st a b d e).hat = s.hat := by
  refine ⟨?_, by simp⟩
  unfold complete
  split
  · split
    · exact List.IsPrefix.trans (by simp [State.setReg]) (produced_pulse ..)
    · exact List.prefix_append ..
  · exact List.prefix_append ..

theorem finishMasks_keeps (w : Word) : ∀ (l : List Cmd) (s : State),
    s.porch.produced <+: (finishMasks w l s).porch.produced ∧ (finishMasks w l s).hat = s.hat
  | [], s => ⟨List.prefix_refl _, rfl⟩
  | c :: r, s => by
    have hc := produced_complete s 0x0814 c stOk w 0 0 0
    have hr := finishMasks_keeps w r (complete s 0x0814 c stOk w 0 0 0)
    exact ⟨hc.1.trans hr.1, hr.2.trans hc.2⟩

theorem hatch_of_hat {s t : State} (h : t.hat = s.hat) (j : Nat) : t.hatch j = s.hatch j :=
  congrArg (fun x : Hatches => tget ({} : Hatch) x.ports j) h

/-! ## Masks -/

theorem maskgoWrite_applies {s u : State} {r : Requester} {h : Fin 96} {v m : Word} {land : Nat} {k : MaskChange} (hu : u = hostArrives s r)
    (hp : u.hatchPowered h = true) (hv : (bit v 0 || bit v 1) = true) (hm : m = (u.bankCfg (h / 8)).slotMask)
    (hk : k = ⟨(if land + 8 ≤ (u.bankCfg (h / 8)).bits then u.now / (u.bankCfg (h / 8)).period + 1
        else u.now / (u.bankCfg (h / 8)).period + 1 + 1),
      (if bit v 0 then some (u.reg (hatchA h 0) &&& m) else none), (if bit v 1 then some (u.reg (hatchA h 4) &&& m) else none),
      (u.hatch h).pend.isSome, (match (u.hatch h).pend with | some o => o.cmds | none => [])⟩) :
    (u.stopped (bankKey (h / 8)) = false → exec (.maskgoWrite r h v land) s = .next (u.setHatch h { u.hatch h with pend := some k })) ∧
    (u.stopped (bankKey (h / 8)) = true → ∃ w, exec (.maskgoWrite r h v land) s = .next w ∧ (w.hatch h).pend = none ∧
      (w.hatch h).rxAct = k.rx.getD (u.hatch h).rxAct ∧ (w.hatch h).txAct = k.tx.getD (u.hatch h).txAct) := by
  have hgo : exec (.maskgoWrite r h v land) s = .next (if u.stopped (bankKey (h / 8)) then u.setHatch h ((u.hatch h).takeMasks k)
      else u.setHatch h { u.hatch h with pend := some k }) := by
    change execMaskgoWrite r h v land s = _
    unfold execMaskgoWrite
    dsimp only
    rw [← hu, if_pos hp]
    unfold maskGo
    rw [if_neg (by rw [← Bool.not_or, hv]; decide)]
    dsimp only
    rw [List.append_nil, hk, hm] <;> rfl
  refine ⟨fun hs => hgo.trans (congrArg Outcome.next (if_neg (by simp [hs]))), fun hs => ⟨_, hgo.trans (congrArg Outcome.next (if_pos hs)), ?_⟩⟩
  rw [hatch_setHatch, if_pos rfl]
  exact ⟨rfl, rfl, rfl⟩

/-- The masks in force of a hatch. -/
def Hatch.masks (x : Hatch) : Word × Word := (x.rxAct, x.txAct)

/-- A mask whose frame has come takes force with its event. -/
theorem maskApply_applies {s : State} {h : Fin 96} {m : MaskChange} (hm : (s.hatch h).pend = some m)
    (hs : s.stopped (bankKey (h / 8)) = false) (hf : m.frame * (s.bankCfg (h / 8)).period ≤ s.now) :
    ∃ t, exec (.maskApply h) s = .next t ∧ (t.hatch h).pend = none ∧
      (t.hatch h).rxAct = m.rx.getD (s.hatch h).rxAct ∧ (t.hatch h).txAct = m.tx.getD (s.hatch h).txAct ∧
      (t.hatch h).applied = low m.frame ∧
      ∃ e ∈ t.porch.produced, e.evt = true ∧ e.code = 0x0810 ∧ e.obj = low h ∧ e.r0 = low m.frame := by
  rw [show exec (.maskApply h) s = execMaskApply h s from rfl]
  unfold execMaskApply
  extract_lets bk p
  rw [hm]
  dsimp -zeta only
  rw [if_neg (by rw [show s.stopped (bankKey bk) = false from hs, Bool.false_or, decide_eq_true_eq]; exact Nat.not_lt.2 hf)]
  extract_lets b inside a d1 d2 d x y f g z u v
  have hmasks : ∀ t w, State.keepsHatch Hatch.still h t w → State.keepsHatch Hatch.masks h t w :=
    fun _ _ => keepsHatch_of_still fun _ => rfl
  have ha : State.keepsHatch Hatch.masks h s a := by
    unfold a
    split
    · exact hmasks _ _ (keepsHatch_flushTx ..)
    · exact keepsHatch_refl ..
  have hy : State.keepsHatch Hatch.masks h s y := by
    unfold y
    split
    · exact ha
    · split
      · exact keepsHatch_trans (keepsHatch_trans ha (hmasks _ _ (keepsHatch_closeRx ..)))
          (keepsHatch_setHatch (x := { d2 with cur := { first := m.frame, isPart := true } }) rfl)
      · split
        · exact ha
        · exact keepsHatch_trans (keepsHatch_trans ha (hmasks _ _ (keepsHatch_closeRx ..)))
            (keepsHatch_setHatch (x := { x with cur := { first := m.frame, isPart := false } }) rfl)
  have hmy := hy.2.2
  clear_value y
  have hg : g.hatch h = { f with applied := low m.frame } := (hatch_setHatch ..).trans (if_pos rfl)
  have hu : ∃ r, u.hatch h = { f with applied := low m.frame, txReady := r } := by
    unfold u
    split
    · exact ⟨_, hg⟩
    · refine ⟨g.readySlots h, ((hatch_setHatch ..).trans (if_pos rfl)).trans ?_⟩
      exact congrArg (fun w : Hatch => { w with txReady := g.readySlots h }) hg
  obtain ⟨r, hr⟩ := hu
  obtain ⟨⟨l, hl⟩, hhat⟩ := finishMasks_keeps (low m.frame) m.cmds v
  have hv : (finishMasks (low m.frame) m.cmds v).hatch h = { f with applied := low m.frame, txReady := r } :=
    (hatch_of_hat hhat h).trans ((hatch_of_hat (hat_event ..) h).trans hr)
  refine ⟨_, rfl, ?_⟩
  rw [hv, ← hl]
  exact ⟨rfl, congrArg m.rx.getD (congrArg Prod.fst hmy), congrArg m.tx.getD (congrArg Prod.snd hmy), rfl,
    ⟨_, List.mem_append_left _ (List.mem_append_right _ (List.mem_singleton.2 rfl)), rfl, rfl, rfl, rfl⟩⟩

/-! ## Synthesisers, ramps and partners -/

theorem freshHatches_keeps (s : State) (b first : Nat) (part : Bool) : (∀ j, (freshHatches s b first part).bankRun j = s.bankRun j) ∧
    (freshHatches s b first part).objs = s.objs := by
  refine foldl_invariant (P := fun t => (∀ j, t.bankRun j = s.bankRun j) ∧ t.objs = s.objs) (fun t h ht => ?_) _ _ ⟨fun _ => rfl, rfl⟩
  exact ht

/-- A START that settles: the object's state, and nothing of the banks. -/
theorem settleStart_settles (s : State) (range num : Nat) (r : Option Status) :
    ((settleStart s range num r).obj (objKey range num)).st = (if r.isNone then .running else .stopped) ∧
      (settleStart s range num r).hat = s.hat := by
  unfold settleStart
  extract_lets k o t
  have ht : t.obj k = { o with st := if r.isNone then .running else .stopped, starter := none, since := s.cyc } := by
    change tget {} (tset {} s.objs k _) k = _
    exact tget_tset_self ..
  split
  · have hf : ∀ op c st, (finish t op c st).objs = t.objs ∧ (finish t op c st).hat = t.hat := by simp
    exact ⟨(congrArg (fun x => (tget ({} : ObjRec) x k).st) (hf ..).1).trans (congrArg ObjRec.st ht), (hf ..).2⟩
  · exact ⟨congrArg ObjRec.st ht, rfl⟩

theorem synthLock_starts {s : State} {b : Fin 12} (hs : s.starting (bankKey b) = true) (hm : (s.bankCfg b).master = true)
    (hin : s.cyc ≤ (s.bankRun b).startAt + 1411200) :
    ∃ t, exec (.synthLock b) s = .next t ∧ t.isRunning (bankKey b) = true ∧
      t.bankRun b = { s.bankRun b with locked := true, firstBlock := some (s.now / 70560 + 1),
                                       ramp := some (true, 70560 * (s.now / 70560 + 1)),
                                       clocked := firstFrame (s.bankCfg b).period (s.now / 70560 + 1) } := by
  rw [show exec (.synthLock b) s = execSynthLock b s from rfl]
  unfold execSynthLock
  extract_lets r n u
  rw [if_pos (by rw [hs, hm]; simpa using hin)]
  obtain ⟨hst, hhat⟩ := settleStart_settles (freshHatches u b (firstFrame (u.bankCfg b).period n) false) 8 (0x10000 + b) none
  refine ⟨_, rfl, ?_, ?_⟩
  · have hobjs : ∀ v k, (pulse v k).objs = v.objs := by simp
    refine (congrArg (fun x => (tget ({} : ObjRec) x (bankKey b)).st == .running) (hobjs ..)).trans ?_
    rw [show (tget ({} : ObjRec) _ (bankKey b)).st = _ from hst]
    rfl
  · rw [bankRun_of_hat (hat_pulse ..), bankRun_of_hat hhat, (freshHatches_keeps ..).1]
    exact (bankRun_setBankRun ..).trans (if_pos rfl)

theorem lockTimeout_fails {s : State} {b : Fin 12} (hs : s.starting (bankKey b) = true) (hm : (s.bankCfg b).master = true)
    (hout : (s.bankRun b).startAt + 1411200 < s.cyc) :
    ∃ t, exec (.lockTimeout b) s = .next t ∧ t.stopped (bankKey b) = true ∧
      ∀ c, (s.obj (bankKey b)).starter = some c → (∀ f ∈ s.porch.flights, f.op = 0x0801 → f.c = c → f.discard = false) →
        t.porch.produced = s.porch.produced ++ [s.completion ⟨0x0801, c, 1, 1⟩ stLockFail 0 0 0 0] := by
  have hexec : exec (.lockTimeout b) s = .next (settleStart s 8 (0x10000 + b) (some stLockFail)) :=
    congrArg Outcome.next (if_pos (by simp [hs, hm, hout]))
  refine ⟨_, hexec, ?_, fun c hc hf => ?_⟩
  · have hst := (settleStart_settles s 8 (0x10000 + b) (some stLockFail)).1
    change ((settleStart s 8 (0x10000 + b) (some stLockFail)).obj (objKey 8 (0x10000 + b))).st == _
    rw [hst]
    rfl
  · unfold settleStart
    extract_lets k o t
    have hk : o.starter = some c := hc
    rw [hk]
    refine (congrArg (fun u : State => u.porch.produced) (complete_of_notOvertaken (s := t) (lo := 1) (hi := 1) hf stLockFail 0 0 0 0)).trans ?_
    rfl

theorem hatchRampEnd_ends {s : State} {b : Fin 12} {t : Nat} (h : t + (s.bankCfg b).rampCt ≤ s.now) :
    ((s.bankRun b).ramp = some (true, t) → exec (.hatchRampEnd b) s = .next s) ∧
    ((s.bankRun b).ramp = some (false, t) → (s.bankRun b).stopAt = none → exec (.hatchRampEnd b) s = .next (s.setBankRun b
      { s.bankRun b with stopAt := some ((t + (s.bankCfg b).rampCt + 70559) / 70560 * 70560) })) := by
  rw [show exec (.hatchRampEnd b) s = execHatchRampEnd b s from rfl]
  unfold execHatchRampEnd
  extract_lets r
  refine ⟨fun hr => ?_, fun hr hst => ?_⟩
  · rw [show r.ramp = _ from hr]
    exact (if_neg (Nat.not_lt.2 h)).trans (if_pos rfl)
  · rw [show r.ramp = _ from hr]
    exact (if_neg (Nat.not_lt.2 h)).trans (if_neg (by simp [r, hst]))

/-- A departure of a partner that does not match: counted, with its event. -/
theorem partnerLeaves_departs {s : State} {b first : Nat} (hm : (s.bankRun b).isMatch = false) :
    ((partnerLeaves s b first).bankRun b).partner = false ∧
      ((partnerLeaves s b first).bankRun b).departures = (s.bankRun b).departures + 1 ∧
      ((partnerLeaves s b first).bankRun b).missed = (s.bankRun b).missed ∧
      ∃ e ∈ (partnerLeaves s b first).porch.produced, e.evt = true ∧ e.code = 0x0812 ∧ e.obj = low (0x10000 + b) ∧ e.r0 = low first := by
  unfold partnerLeaves
  extract_lets r a d
  have hd : d = a := if_neg (by rw [show r.isMatch = false from hm]; decide)
  have ha : a.bankRun b = { r with
      partner := false, isMatch := false, regular := 0, offPeriod := 0, flowTo := (if r.isMatch then some first else r.flowTo),
      departures := r.departures + 1 } :=
    (bankRun_setBankRun ..).trans (if_pos rfl)
  obtain ⟨e, he, hevt, hcode, hobj, hr0, -⟩ := event_isProduced d 0x0812 (low (0x10000 + b)) (low first) 0 0 0 (164 + b)
  have hrun : (pulse (event d 0x0812 (low (0x10000 + b)) (low first) 0 0 0) (164 + b)).bankRun b = a.bankRun b := by
    rw [bankRun_of_hat (hat_pulse ..), bankRun_of_hat (hat_event ..), hd]
  rw [hrun, ha]
  exact ⟨rfl, rfl, rfl, e, he, hevt, hcode, hobj, hr0⟩

/-- A matching partner is reported: its report is an event, and the edges missed are none. -/
theorem partnerArrives_reports (s : State) (b t n : Nat) :
    ((partnerArrives s b t n true).bankRun b).partner = true ∧ ((partnerArrives s b t n true).bankRun b).isMatch = true ∧
      ((partnerArrives s b t n true).bankRun b).missed = 0 ∧
      ∃ e ∈ (partnerArrives s b t n true).porch.produced, e.evt = true ∧ e.code = 0x0811 ∧ e.obj = low (0x10000 + b) := by
  unfold partnerArrives
  extract_lets r p k ppm gap a d
  have ha : (a.bankRun b).partner = true ∧ (a.bankRun b).isMatch = true ∧ (a.bankRun b).missed = 0 := by
    rw [show a.bankRun b = _ from (bankRun_setBankRun ..).trans (if_pos rfl)]
    exact ⟨rfl, rfl, rfl⟩
  have hd : (d.bankRun b).partner = true ∧ (d.bankRun b).isMatch = true ∧ (d.bankRun b).missed = 0 := by
    unfold d
    rw [if_pos rfl]
    refine foldl_invariant (P := fun u => (u.bankRun b).partner = true ∧ (u.bankRun b).isMatch = true ∧ (u.bankRun b).missed = 0)
      (fun u h hu => ?_) _ _ ha
    split
    · exact hu
    · obtain ⟨w, hw⟩ := bankRun_countUnder u h
        (gap.filter fun i => !r.lost.contains i && decide ((u.hatch h).cur.first ≤ i)).length b
      rw [hw]
      exact hu
  clear_value d
  rw [bankRun_of_hat (hat_pulse ..), bankRun_of_hat (hat_event ..)]
  obtain ⟨e, he, hevt, hcode, hobj, -⟩ := event_isProduced d 0x0811 (low (0x10000 + b)) (low (1 + 16 * nearRate 8 t)) (low n) (wordOfInt ppm)
    (low k) (164 + b)
  exact ⟨hd.1, hd.2.1, hd.2.2, e, he, hevt, hcode, hobj⟩

section FrameEdge

variable {s : State} {b : Fin 12} {n : Nat} (hm : (s.bankCfg b).master = false) (hw : s.working (bankKey b) = true)

include hm hw

theorem partnerFrameEdge_first (hp : s.bankPowered b = true) (he : (s.bankRun b).lastEdge = none) :
    exec (.partnerFrameEdge b n) s = .next (s.setBankRun b { s.bankRun b with lastEdge := some s.now, missed := 0 }) := by
  change execPartnerFrameEdge b n s = _
  unfold execPartnerFrameEdge
  extract_lets g r
  rw [if_neg (by simp [g, hm, hw, hp]), show r.lastEdge = none from he]

theorem partnerFrameEdge_present (hp : s.bankPowered b = true) {t : Nat} (he : (s.bankRun b).lastEdge = some t)
    (hpart : (s.bankRun b).partner = true) : exec (.partnerFrameEdge b n) s =
      .next (partnerGoesOn (s.setBankRun b { s.bankRun b with lastEdge := some s.now, missed := 0 }) b (s.now - t)) := by
  change execPartnerFrameEdge b n s = _
  unfold execPartnerFrameEdge
  extract_lets g r
  rw [if_neg (by simp [g, hm, hw, hp]), show r.lastEdge = some t from he]
  exact if_pos hpart

theorem partnerFrameEdge_eighth (hp : s.bankPowered b = true) {t : Nat} (he : (s.bankRun b).lastEdge = some t)
    (hpart : (s.bankRun b).partner = false) (hreg : (s.bankRun b).regular = 7) (hbc : (s.bankRun b).bitCount = n)
    (hbits : n = (s.bankCfg b).bits) (hnear : nearPeriod (s.bankRun b).period 1 (s.now - t) = true)
    (hall : nearPeriod (s.bankCfg b).period 8 (s.now - (s.bankRun b).winStart) = true) :
    ∃ u, exec (.partnerFrameEdge b n) s = .next u ∧
      (u.bankRun b).partner = true ∧ (u.bankRun b).isMatch = true ∧ (u.bankRun b).missed = 0 ∧
      ∃ e ∈ u.porch.produced, e.evt = true ∧ e.code = 0x0811 ∧ e.obj = low (0x10000 + b) := by
  rw [show exec (.partnerFrameEdge b n) s = execPartnerFrameEdge b n s from rfl]
  unfold execPartnerFrameEdge
  extract_lets g r
  rw [if_neg (by simp [g, hm, hw, hp]), show r.lastEdge = some t from he]
  dsimp -zeta only
  extract_lets q same k from' v all
  rw [if_neg (by rw [show r.partner = false from hpart]; decide)]
  have hsame : same = true := by simp [same, r, q, hreg, hbc, hnear]
  have hk : k = 8 := by
    unfold k
    rw [if_pos hsame, show r.regular = 7 from hreg]
  have hgood : (nearPeriod g.period 8 all && n == g.bits) = true := by
    have hwin : from' = (s.bankRun b).winStart := if_pos hsame
    have hnow : all = s.now - (s.bankRun b).winStart := by
      rw [← hwin]
      rfl
    rw [hnow, show nearPeriod g.period 8 _ = true from hall, hbits]
    simp [g]
  rw [if_pos (by omega), hgood]
  exact ⟨_, rfl, partnerArrives_reports ..⟩

theorem missingFrame_departs {t : Nat} (he : (s.bankRun b).lastEdge = some t) (hpart : (s.bankRun b).partner = true)
    (hmatch : (s.bankRun b).isMatch = false) (hmiss : (s.bankRun b).missed = 3)
    (hlate : t + (s.bankRun b).period * 4 + (s.bankRun b).period / 8 < s.now) : ∃ u, exec (.missingFrame b) s = .next u ∧
      (u.bankRun b).partner = false ∧ (u.bankRun b).departures = (s.bankRun b).departures + 1 ∧ (u.bankRun b).missed = 4 ∧
      ∃ e ∈ u.porch.produced, e.evt = true ∧ e.code = 0x0812 ∧ e.obj = low (0x10000 + b) ∧ e.r0 = low (s.bankRun b).firstMissing := by
  rw [show exec (.missingFrame b) s = execMissingFrame b s from rfl]
  unfold execMissingFrame
  extract_lets g r p flows
  rw [if_neg (by simp [g, hm, hw]), show r.lastEdge = some t from he]
  dsimp -zeta only
  extract_lets due k first a d
  have hr : r.missed = 3 := hmiss
  have hp : p = r.period := if_pos (by simp [r, hpart, hmatch])
  have hdue : due = t + r.period * 4 := by
    unfold due
    rw [hp, hr]
  have hlate' : t + r.period * 4 + r.period / 8 < s.now := hlate
  have hflows : flows = false := by simp [flows, r, hmatch]
  have hfirst : first = r.firstMissing := if_neg (by omega)
  have ha : (a.bankRun b).isMatch = r.isMatch ∧ (a.bankRun b).departures = r.departures ∧ (a.bankRun b).missed = r.missed + 1 := by
    rw [show a.bankRun b = _ from (bankRun_setBankRun ..).trans (if_pos rfl)]
    exact ⟨rfl, rfl, rfl⟩
  have hd : d = a := if_neg (by rw [hflows]; decide)
  rw [if_neg (by simp only [Bool.or_eq_true, decide_eq_true_eq]; omega), if_pos (by simp [hr, r, hpart]), hd, hfirst]
  obtain ⟨hgone, hdep, hmissed, hevent⟩ := partnerLeaves_departs (s := a) (b := b) (first := r.firstMissing) (ha.1.trans hmatch)
  exact ⟨_, rfl, hgone, hdep.trans (congrArg (· + 1) ha.2.1), hmissed.trans (ha.2.2.trans (congrArg (· + 1) hr)), hevent⟩

end FrameEdge
end Sys2Proof.Machine
end

section
/-!
PROOF. Blocks and rings of the hatches (R230-R236, R251).
-/
namespace Sys2Proof.Machine

open Host

/-! ## Transmit entries -/

/-- The block of a hatch and its receive entry. -/
def Hatch.block (x : Hatch) : Option Nat × RxEntry := (x.txBlock, x.cur)

theorem keepsHatch_countTx (s : State) (h off : Nat) : State.keepsHatch Hatch.block h s (countTx s h off) := by
  unfold countTx
  dsimp only
  exact keepsHatch_trans (keepsHatch_setHatch (x := { s.hatch h with lateBad := (s.hatch h).lateBad + 1 }) rfl)
    (keepsHatch_of_ports (congrArg Hatches.ports (hat_bump ..)) (bankParts_bump ..))

theorem keepsHatch_passHead (s : State) (h : Nat) (g : HatRing) : State.keepsHatch Hatch.block h s (passHead s h g) := by
  unfold passHead
  exact keepsHatch_setHatch rfl

/-- Taking entries from a ring moves its head and counts what is late or bad. -/
theorem keepsHatch_takeTx (h : Nat) (g : HatRing) (b : Nat) : ∀ (f : Nat) (s : State) (l : List TxHdr),
    State.keepsHatch Hatch.block h s (takeTx f s h g b l).2
  | 0, s, l => keepsHatch_refl ..
  | f + 1, s, l => by
    have hpass : ∀ (off : Nat) (r : List TxHdr), State.keepsHatch Hatch.block h s
        (takeTx f (passHead (countTx s h off) h g) h g b r).2 := fun off r =>
      keepsHatch_trans (keepsHatch_trans (keepsHatch_countTx s h off) (keepsHatch_passHead ..)) (keepsHatch_takeTx h g b f _ r)
    unfold takeTx
    dsimp only
    split
    · exact keepsHatch_refl ..
    · split
      · split
        · exact keepsHatch_refl ..
        · exact hpass _ _
      · split
        · exact hpass _ _
        · split
          · exact keepsHatch_refl ..
          · split
            · exact hpass _ _
            · split
              · exact hpass _ _
              · exact keepsHatch_passHead ..

theorem hat_leaveL1 (s : State) : (leaveL1 s).hat = s.hat ∧ (leaveL1 s).bankParts = s.bankParts := by simp [State.bankParts]
theorem hat_pchErr (s : State) (n : Nat) : (pchErr s n).hat = s.hat ∧ (pchErr s n).bankParts = s.bankParts := by
  simp [State.bankParts]

theorem keepsHatch_blockTx (s : State) (h b : Nat) (l : List TxHdr) (fail : Bool) :
    State.keepsHatch Hatch.block h s (blockTx s h b l fail).2 := by
  have hl : State.keepsHatch Hatch.block h s (leaveL1 s) :=
    keepsHatch_of_ports (congrArg Hatches.ports (hat_leaveL1 s).1) (hat_leaveL1 s).2
  unfold blockTx
  dsimp only
  split
  · exact keepsHatch_refl ..
  · split
    · split
      · exact keepsHatch_countTx ..
      · split
        · exact keepsHatch_trans (keepsHatch_trans hl
            (keepsHatch_of_ports (congrArg Hatches.ports (hat_pchErr ..).1) (hat_pchErr ..).2)) (keepsHatch_countTx ..)
        · exact keepsHatch_trans hl (keepsHatch_takeTx ..)
    · exact keepsHatch_takeTx ..

/-- An entry in main memory that is for the block, visible in time and of its frames is sent, and passes the head. -/
theorem blockTx_takes {s : State} {h b : Nat} {l : List TxHdr} {fail : Bool} {g : HatRing} {e : TxHdr} (hg : (s.hatch h).tx = some g)
    (hhost : g.host = false) (hfill : (s.hatch h).filled ≠ 0) (he : s.memEntry h g = some e) (hb : e.block = low b)
    (hvis : (s.hatch h).visible.headD 0 + 35280 ≤ 70560 * b) (hfr : e.frames = blockFrames (s.bankCfg (h / 8)).period b) :
    blockTx s h b l fail = (some e, passHead s h g) := by
  obtain ⟨f, hf⟩ := Nat.exists_eq_succ_of_ne_zero hfill
  unfold blockTx
  dsimp only
  rw [hg]
  dsimp only
  rw [if_neg (by simp [hhost]), hf]
  unfold takeTx
  dsimp only
  rw [if_neg hfill, if_neg (by simp [hhost]), he]
  have hd : (e.block - low b).toInt = 0 := by simp [hb]
  dsimp only
  rw [if_neg (by omega), if_neg (by omega), if_neg (by omega), if_neg (by simp [hfr])]

/-- What a hatch reads of its transmit ring. -/
def Hatch.ring (x : Hatch) : Option HatRing × Nat × List Nat × Nat × Nat := (x.tx, x.txHead, x.visible, x.pack, x.txTail)

theorem filled_of_ring {x y : Hatch} (h : x.ring = y.ring) : x.filled = y.filled := by
  simp only [Hatch.ring, Prod.mk.injEq] at h
  obtain ⟨htx, hhead, -, -, htail⟩ := h
  unfold Hatch.filled
  rw [htx, hhead, htail]

theorem bankCfg_of_parts {s t : State} (hp : t.bankParts = s.bankParts) (k : Nat) : t.bankCfg k = s.bankCfg k := by
  simp only [State.bankParts, Prod.mk.injEq] at hp
  obtain ⟨-, -, -, -, -, -, -, hcfgs, -⟩ := hp
  unfold State.bankCfg
  rw [hcfgs]

theorem cel_of_parts {s t : State} (hp : t.bankParts = s.bankParts) : t.cel = s.cel := by
  simp only [State.bankParts, Prod.mk.injEq] at hp
  exact hp.2.1

theorem memEntry_of_ring {s t : State} {h : Nat} (hp : t.bankParts = s.bankParts) (hr : (t.hatch h).ring = (s.hatch h).ring) (g : HatRing) :
    t.memEntry h g = s.memEntry h g := by
  simp only [Hatch.ring, Prod.mk.injEq] at hr
  obtain ⟨-, hhead, -, hpack, -⟩ := hr
  simp only [State.bankParts, Prod.mk.injEq] at hp
  obtain ⟨-, hcel, -, -, -, -, -, hcfgs, -⟩ := hp
  unfold State.memEntry State.entryAt State.memBytes State.memByte State.poisoned State.bankCfg
  dsimp only
  rw [hhead, hpack, hcel, hcfgs]

theorem bankParts_setBankRun (s : State) (b : Nat) (x : BankRun) : (s.setBankRun b x).bankParts = s.bankParts := rfl
theorem hatch_setBankRun (s : State) (b : Nat) (x : BankRun) (j : Nat) : (s.setBankRun b x).hatch j = s.hatch j := rfl

/-- The block before b is closed for hatch h of bank k, and what the bank lost long ago is forgotten. -/
def State.blockClosed (s : State) (h k b : Nat) : State :=
  let keep := firstFrame (s.bankCfg k).period b
  let t := closeBlock (flushClocks (flushTx s h keep) k keep) h b
  let r := t.bankRun k
  t.setBankRun k { r with lost := r.lost.filter fun i => decide (keep - 256 ≤ i) }

/-- What hatch h sends in a block of n frames from frame keep on, of the entry that was taken. -/
def State.blockSent (s : State) (h b keep n : Nat) (e : Option TxHdr) : State :=
  let ring := if (s.hatch h).tx.isSome then (s.hatch h).txAct &&& ~~~ s.legMask h true else 0
  let s := if e.isNone && ring != 0 then countUnder s h n else s
  let row := (List.range 32).foldl (fun t j => tset [] t j (s.slotRow h b e j)) []
  let s := s.setHatch h { s.hatch h with txEntry := e.map fun t => t.mask, txRow := row, rowFirst := keep }
  let s := s.setHatch h { s.hatch h with txReady := s.readySlots h }
  { s with free := s.free + 32 * n }

/-- A block start of a hatch, of a block that it has not yet taken. -/
theorem hatchBlockStart_runs {s : State} {h : Fin 96} {entries : List TxHdr} {fail : Bool} {k : Nat} (hk : (h / 8 : Fin 96).val = k)
    (hf : s.bankFrames k (s.now / 70560) = true) (ht : (s.hatch h).txBlock ≠ some (s.now / 70560)) :
    exec (.hatchBlockStart h entries fail) s =
      match blockTx (s.blockClosed h k (s.now / 70560)) h (s.now / 70560) entries fail with
      | (e, v) => .next (v.blockSent h (s.now / 70560) (firstFrame (s.bankCfg k).period (s.now / 70560))
          (blockFrames (s.bankCfg k).period (s.now / 70560)) e) := by
  subst hk
  have hgo : ¬ (!s.bankFrames (h / 8 : Fin 96).val (s.now / 70560) || (s.hatch h).txBlock == some (s.now / 70560)) = true := by
    rw [hf]
    simpa using ht
  change execHatchBlockStart h entries fail s = _
  unfold execHatchBlockStart
  refine (if_neg hgo).trans ?_
  unfold State.blockClosed State.blockSent
  dsimp only

theorem block_of_still {x y : Hatch} {c : RxEntry} {b : Option Nat} {e : Option Word}
    (h : x.still = { y.still with cur := c, txBlock := b, txEntry := e }) : x.block = (b, c) ∧ x.ring = y.ring :=
  ⟨(congrArg Hatch.block h :), (congrArg Hatch.ring h :)⟩

theorem ring_of_still {x y : Hatch} (h : x.still = y.still) : x.ring = y.ring := (congrArg Hatch.ring h :)

theorem blockClosed_opens (s : State) (h b : Nat) :
    (s.blockClosed h (h / 8) b).bankParts = s.bankParts ∧ (∀ j, j ≠ h → (s.blockClosed h (h / 8) b).hatch j = s.hatch j) ∧
      ((s.blockClosed h (h / 8) b).hatch h).block = (some b, { first := firstFrame (s.bankCfg (h / 8)).period b, isPart := false }) ∧
      ((s.blockClosed h (h / 8) b).hatch h).ring = (s.hatch h).ring := by
  unfold State.blockClosed
  extract_lets keep a r
  have ha : State.keepsHatch Hatch.still h s (flushClocks (flushTx s h keep) (h / 8) keep) :=
    keepsHatch_trans (keepsHatch_flushTx ..) (keepsHatch_flushClocks ..)
  obtain ⟨hcparts, hcothers, hcstill⟩ := closeBlock_opens (flushClocks (flushTx s h keep) (h / 8) keep) h b
  rw [bankCfg_of_parts ha.1] at hcstill
  obtain ⟨hblock, hring⟩ := block_of_still hcstill
  clear_value r
  exact ⟨(bankParts_setBankRun ..).trans (hcparts.trans ha.1),
    fun j hj => (hatch_setBankRun ..).trans ((hcothers j hj).trans (ha.2.1 j hj)),
    (congrArg Hatch.block (hatch_setBankRun ..)).trans hblock,
    (congrArg Hatch.ring (hatch_setBankRun ..)).trans (hring.trans (ring_of_still ha.2.2))⟩

theorem hatch_setFree (s : State) (n j : Nat) : State.hatch { s with free := n } j = s.hatch j := rfl

/-- What a hatch sends in a block leaves its block and its ring's head, and notes the entry. -/
theorem blockSent_keeps (s : State) (h b keep n : Nat) (e : Option TxHdr) :
    State.keepsHatch Hatch.block h s (s.blockSent h b keep n e) ∧
      ((s.blockSent h b keep n e).hatch h).txHead = (s.hatch h).txHead ∧
      ((s.blockSent h b keep n e).hatch h).txEntry = e.map fun t => t.mask := by
  unfold State.blockSent
  extract_lets ring u row old w old' x
  have hu : State.keepsHatch Hatch.still h s u := by
    unfold u
    split
    · exact keepsHatch_countUnder ..
    · exact keepsHatch_refl ..
  clear_value u
  have hx : x.hatch h = { u.hatch h with
      txEntry := e.map fun t => t.mask, txRow := row, rowFirst := keep, txReady := w.readySlots h } := by
    refine ((hatch_setHatch ..).trans (if_pos rfl)).trans ?_
    exact congrArg (fun y : Hatch => { y with txReady := w.readySlots h }) ((hatch_setHatch ..).trans (if_pos rfl))
  have hothers : ∀ j, j ≠ h → x.hatch j = s.hatch j := fun j hj =>
    (hatch_setHatch ..).trans ((if_neg hj).trans ((hatch_setHatch ..).trans ((if_neg hj).trans (hu.2.1 j hj))))
  have hparts : x.bankParts = u.bankParts := rfl
  refine ⟨⟨hparts.trans hu.1, hothers, ?_⟩, ?_, ?_⟩
  · rw [hatch_setFree, hx]
    exact (congrArg Hatch.block hu.2.2 :)
  · rw [hatch_setFree, hx]
    exact (congrArg Hatch.txHead hu.2.2 :)
  · rw [hatch_setFree, hx]

theorem hatchBlockStart_takes {s : State} {h : Fin 96} {entries : List TxHdr} {fail : Bool}
    (hf : s.bankFrames (h / 8) (s.now / 70560) = true) (ht : (s.hatch h).txBlock ≠ some (s.now / 70560)) :
    ∃ t, exec (.hatchBlockStart h entries fail) s = .next t ∧
      (t.hatch h).txBlock = some (s.now / 70560) ∧
      (t.hatch h).cur = { first := firstFrame (s.bankCfg (h / 8)).period (s.now / 70560), isPart := false } ∧
      (∀ j : Fin 96, j ≠ h → t.hatch j = s.hatch j) ∧ t.cel.mem = s.cel.mem ∧
      ∀ g e, (s.hatch h).tx = some g → g.host = false → (s.hatch h).filled ≠ 0 → s.memEntry h g = some e →
        e.block = low (s.now / 70560) → (s.hatch h).visible.headD 0 + 35280 ≤ 70560 * (s.now / 70560) →
        e.frames = blockFrames (s.bankCfg (h / 8)).period (s.now / 70560) →
        (t.hatch h).txHead = ((s.hatch h).txHead + 1) % 2 ^ g.size ∧ (t.hatch h).txEntry = some e.mask := by
  rw [hatchBlockStart_runs (k := h / 8) rfl hf ht]
  generalize s.now / 70560 = b
  obtain ⟨hparts, hothers, hblock, hring⟩ := blockClosed_opens s h b
  generalize s.blockClosed h (h / 8) b = d at hparts hothers hblock hring ⊢
  generalize hn : blockFrames (s.bankCfg (h / 8)).period b = n
  generalize hk : firstFrame (s.bankCfg (h / 8)).period b = keep at hblock ⊢
  have hv := keepsHatch_blockTx d h b entries fail
  rcases hx : blockTx d h b entries fail with ⟨x, v⟩
  rw [hx] at hv
  obtain ⟨hsent, hhead, hentry⟩ := blockSent_keeps v h b keep n x
  obtain ⟨hvparts, hvothers, hvblock⟩ := keepsHatch_trans hv hsent
  rw [hblock] at hvblock
  refine ⟨_, rfl, congrArg Prod.fst hvblock, congrArg Prod.snd hvblock, fun j hj => ?_, ?_, fun g e hg hhost hfill he hb hvis hfr => ?_⟩
  · have hj' : j.val ≠ h.val := fun hh => hj (Fin.ext hh)
    exact (hvothers j hj').trans (hothers j hj')
  · exact congrArg (fun c : Cellar => c.mem) (cel_of_parts (hvparts.trans hparts))
  · have hr := hring
    simp only [Hatch.ring, Prod.mk.injEq] at hr
    obtain ⟨htx, hhd, hvi, -, -⟩ := hr
    have htake : blockTx d h b entries fail = (some e, passHead d h g) :=
      blockTx_takes (htx.trans hg) hhost (by rw [filled_of_ring hring]; exact hfill) ((memEntry_of_ring hparts hring g).trans he) hb
        (by rw [hvi]; exact hvis) (by rw [bankCfg_of_parts hparts, hn]; exact hfr)
    obtain ⟨hxe, hvp⟩ := Prod.mk.inj (hx.symm.trans htake)
    rw [hhead, hentry, hxe, hvp]
    refine ⟨?_, rfl⟩
    rw [← hhd]
    exact congrArg Hatch.txHead ((hatch_setHatch ..).trans (if_pos rfl))

/-! ## Receive entries -/

theorem commitBlock_of_noLegs {s : State} {h : Nat} (hl : s.legSlots h false = []) (b : Nat) :
    commitBlock s h b = s.setHatch h { s.hatch h with acc := [] } := by
  unfold commitBlock
  rw [hl]
  rfl

/-- Entry d of hatch h is taken off those that are due; its frames leave the last samples. -/
def State.entryTaken (s : State) (h : Nat) (r : List RxDue) (last : Tab Int) (isLast : Bool) : State :=
  let s := s.setHatch h { s.hatch h with due := r, lastRx := last }
  if isLast then s.setHatch h { s.hatch h with acc := [] } else s

theorem entryTaken_keeps (s : State) (h : Nat) (r : List RxDue) (last : Tab Int) (isLast : Bool) :
    (s.entryTaken h r last isLast).bankParts = s.bankParts ∧
      ∃ acc, (s.entryTaken h r last isLast).hatch h = { s.hatch h with due := r, lastRx := last, acc := acc } := by
  have hself : (s.setHatch h { s.hatch h with due := r, lastRx := last }).hatch h = { s.hatch h with due := r, lastRx := last } :=
    (hatch_setHatch ..).trans (if_pos rfl)
  unfold State.entryTaken
  dsimp only
  split
  · refine ⟨rfl, [], ((hatch_setHatch ..).trans (if_pos rfl)).trans ?_⟩
    rw [hself]
  · exact ⟨rfl, _, hself⟩

/-- An entry that has ended of a hatch without hatch-legs goes to the hatch's ring. -/
theorem rxEntryWrite_runs {s : State} {h : Fin 96} {d : RxDue} {r : List RxDue} {g : HatRing} {k : Nat} (hk : (h / 8 : Fin 96).val = k)
    (hdue : (s.hatch h).due = d :: r) (hend : d.endAt ≤ s.now) (hlegs : s.legSlots h false = []) (hrx : (s.hatch h).rx = some g)
    (samples : List (List Int)) (fail : Bool) {p : List (List Int) × Tab Int}
    (hp : p = repeatLost (slotsOf d.mask) d.lost d.first (samples.take d.frames) (s.hatch h).lastRx) :
    exec (.rxEntryWrite h samples fail) s =
      .next (ringRx (s.entryTaken h r p.2
          (decide (d.first + d.frames = firstFrame (s.bankCfg k).period (d.first * (s.bankCfg k).period / 70560 + 1)))) h d d.mask
        (p.1.zipIdx.map fun (f : List Int × Nat) => (pickSlots (slotsOf d.mask) d.mask f.1).map fun v =>
          rampSample d.ramp (s.bankCfg k).rampCt ((d.first + f.2) * (s.bankCfg k).period) ((s.bankCfg k).carry v)) fail) := by
  subst hk
  change execRxEntryWrite h samples fail s = _
  unfold execRxEntryWrite
  extract_lets x bk cfg
  rw [show x.due = d :: r from hdue]
  dsimp -zeta only
  rw [if_neg (by omega)]
  extract_lets slots a legs w m ring b u
  have hl : a.legSlots h false = [] := hlegs
  have hw : w = a := by
    unfold w legs
    rw [hl]
    rfl
  have hm : m = d.mask := by
    have : w.legMask h false = 0 := by
      unfold State.legMask
      rw [hw, hl]
      rfl
    unfold m
    rw [show x.rx = some g from hrx, this]
    exact BitVec.and_allOnes
  have hu : u = s.entryTaken h r p.2 (decide (d.first + d.frames = firstFrame cfg.period (b + 1))) := by
    unfold u State.entryTaken
    rw [commitBlock_of_noLegs (by rw [hw]; exact hl), hw]
    simp only [decide_eq_true_eq]
    rw [hp]
  have hring : ring = p.1.zipIdx.map fun (f : List Int × Nat) => (pickSlots (slotsOf d.mask) d.mask f.1).map fun v =>
      rampSample d.ramp cfg.rampCt ((d.first + f.2) * cfg.period) (cfg.carry v) := by
    unfold ring
    rw [hm, hp]
  rw [hu, hm, hring]

/-- With room in a ring in main memory, the entry is written at the tail. -/
theorem ringRx_writes {s : State} {h : Nat} {d : RxDue} {m : Word} {g : HatRing} (hrx : (s.hatch h).rx = some g) (hhost : g.host = false)
    (hm : m ≠ 0) (hroom : ((s.hatch h).rxTail + 1) % 2 ^ g.size ≠ (s.hatch h).rxHead) (frames : List (List Int)) (fail : Bool) :
    ringRx s h d m frames fail =
      (s.writeMem (s.entryAt h g (s.hatch h).rxTail) (entryBytes d (s.bankCfg (h / 8)).period (s.hatch h).pack m frames)).setHatch h
        { s.hatch h with rxTail := ((s.hatch h).rxTail + 1) % 2 ^ g.size } := by
  unfold ringRx
  dsimp only
  rw [hrx]
  dsimp only
  rw [if_neg hm, if_neg hroom, if_neg (by simp [hhost])]

theorem ringRx_of_full {s : State} {h : Nat} {d : RxDue} {m : Word} {g : HatRing} (hrx : (s.hatch h).rx = some g)
    (hm : m ≠ 0) (hfull : ((s.hatch h).rxTail + 1) % 2 ^ g.size = (s.hatch h).rxHead) (frames : List (List Int)) (fail : Bool) :
    ringRx s h d m frames fail = dropRx s h := by
  unfold ringRx
  dsimp only
  rw [hrx]
  dsimp only
  rw [if_neg hm, if_pos hfull]

theorem dropRx_counts (s : State) (h : Nat) :
    (dropRx s h).bankParts = s.bankParts ∧ (dropRx s h).hatch h = { s.hatch h with drops := (s.hatch h).drops + 1 } := by
  unfold dropRx
  extract_lets x a
  have ha : a.bankParts = s.bankParts ∧ a.hatch h = { x with drops := x.drops + 1 } :=
    ⟨(bankParts_bump ..).trans rfl, (hatch_of_hat (hat_bump ..) h).trans ((hatch_setHatch ..).trans (if_pos rfl))⟩
  split
  case h_1 heq =>
    obtain ⟨hhat, hparts, -⟩ := hat_of_limit heq
    exact ⟨(bankParts_event ..).trans (hparts.trans ha.1), (hatch_of_hat (hat_event ..) h).trans ((hatch_of_hat hhat h).trans ha.2)⟩
  case h_2 heq =>
    obtain ⟨hhat, hparts, -⟩ := hat_of_limit heq
    exact ⟨hparts.trans ha.1, (hatch_of_hat hhat h).trans ha.2⟩

theorem length_wordBytes (w : Word) : (wordBytes w).length = 4 := rfl

/-- The header of an entry is its first 32 bytes (R231). -/
theorem take_entryBytes (d : RxDue) (p pack : Nat) (m : Word) (frames : List (List Int)) :
    (entryBytes d p pack m frames).take 32 = [low (d.first * p), high (d.first * p), low (d.first * p / 70560),
      low (d.frames + (if d.isPart then 2 ^ 16 else 0) + (if d.lost.isEmpty then 0 else 2 ^ 17)), m,
      (if d.lost.isEmpty then 0 else m), low d.first, (0 : Word)].flatMap wordBytes := by
  unfold entryBytes
  rw [List.flatMap_def]
  exact List.take_left' (by simp [length_wordBytes])

theorem writeMem_of_cel {s t : State} (h : t.cel = s.cel) (a : Nat) (l : List Byte) : (t.writeMem a l).cel.mem = (s.writeMem a l).cel.mem := by
  unfold State.writeMem
  rw [h]

section RxEntry

variable {s : State} {h : Fin 96} {d : RxDue} {r : List RxDue} {g : HatRing} (hdue : (s.hatch h).due = d :: r) (hend : d.endAt ≤ s.now)
  (hlegs : s.legSlots h false = []) (hrx : (s.hatch h).rx = some g) (hm : d.mask ≠ 0)

include hdue hend hlegs hrx hm

theorem rxEntryWrite_writes (hhost : g.host = false) {samples : List (List Int)} {fail : Bool} {k : BankCfg}
    {p : List (List Int) × Tab Int} {ring : List (List Int)} {bytes : List Byte} (hk : k = s.bankCfg (h / 8))
    (hp : p = repeatLost (slotsOf d.mask) d.lost d.first (samples.take d.frames) (s.hatch h).lastRx)
    (hring : ring = p.1.zipIdx.map (fun (f : List Int × Nat) => (pickSlots (slotsOf d.mask) d.mask f.1).map fun v =>
      rampSample d.ramp k.rampCt ((d.first + f.2) * k.period) (k.carry v)))
    (hbytes : bytes = entryBytes d k.period (s.hatch h).pack d.mask ring)
    (hroom : ((s.hatch h).rxTail + 1) % 2 ^ g.size ≠ (s.hatch h).rxHead) :
    ∃ t, exec (.rxEntryWrite h samples fail) s = .next t ∧ (t.hatch h).due = r ∧
      (t.hatch h).rxTail = ((s.hatch h).rxTail + 1) % 2 ^ g.size ∧ (t.hatch h).rxHead = (s.hatch h).rxHead ∧
      t.cel.mem = (s.writeMem (s.entryAt h g (s.hatch h).rxTail) bytes).cel.mem := by
  rw [rxEntryWrite_runs (k := h / 8) rfl hdue hend hlegs hrx samples fail hp, ← hk, ← hring]
  generalize decide (d.first + d.frames = firstFrame k.period (d.first * k.period / 70560 + 1)) = isLast
  obtain ⟨hparts, acc, hx⟩ := entryTaken_keeps s h r p.2 isLast
  generalize s.entryTaken h r p.2 isLast = w at hparts hx ⊢
  have htail : (w.hatch h).rxTail = (s.hatch h).rxTail := (congrArg Hatch.rxTail hx :)
  have hhead : (w.hatch h).rxHead = (s.hatch h).rxHead := (congrArg Hatch.rxHead hx :)
  have hpack : (w.hatch h).pack = (s.hatch h).pack := (congrArg Hatch.pack hx :)
  have hat : w.entryAt h g (s.hatch h).rxTail = s.entryAt h g (s.hatch h).rxTail := by
    unfold State.entryAt
    rw [bankCfg_of_parts hparts, hpack]
  rw [ringRx_writes ((congrArg Hatch.rx hx).trans hrx) hhost hm (by rw [htail, hhead]; exact hroom), htail, hat, hpack,
    bankCfg_of_parts hparts, ← hk, ← hbytes]
  have hself : ∀ t : State, ((t.setHatch h { w.hatch h with rxTail := ((s.hatch h).rxTail + 1) % 2 ^ g.size }).hatch h) =
      { w.hatch h with rxTail := ((s.hatch h).rxTail + 1) % 2 ^ g.size } := fun t => (hatch_setHatch ..).trans (if_pos rfl)
  refine ⟨_, rfl, ?_, ?_, ?_, ?_⟩
  · rw [hself]
    exact congrArg Hatch.due hx
  · rw [hself]
  · rw [hself]
    exact hhead
  · exact writeMem_of_cel (cel_of_parts hparts) _ _

theorem rxEntryWrite_drops (samples : List (List Int)) (fail : Bool)
    (hfull : ((s.hatch h).rxTail + 1) % 2 ^ g.size = (s.hatch h).rxHead) :
    ∃ t, exec (.rxEntryWrite h samples fail) s = .next t ∧ (t.hatch h).due = r ∧ (t.hatch h).drops = (s.hatch h).drops + 1 ∧
      (t.hatch h).rxTail = (s.hatch h).rxTail ∧ t.cel.mem = s.cel.mem := by
  rw [rxEntryWrite_runs (k := h / 8) rfl hdue hend hlegs hrx samples fail rfl]
  generalize repeatLost (slotsOf d.mask) d.lost d.first (samples.take d.frames) (s.hatch h).lastRx = p
  generalize decide (d.first + d.frames =
    firstFrame (s.bankCfg (h / 8)).period (d.first * (s.bankCfg (h / 8)).period / 70560 + 1)) = isLast
  obtain ⟨hparts, acc, hx⟩ := entryTaken_keeps s h r p.2 isLast
  generalize s.entryTaken h r p.2 isLast = w at hparts hx ⊢
  rw [ringRx_of_full ((congrArg Hatch.rx hx).trans hrx) hm
    ((congrArg (fun x : Hatch => (x.rxTail + 1) % 2 ^ g.size) hx).trans (hfull.trans (congrArg Hatch.rxHead hx).symm))]
  obtain ⟨hdparts, hdx⟩ := dropRx_counts w h
  refine ⟨_, rfl, ?_, ?_, ?_, congrArg Cellar.mem (cel_of_parts (hdparts.trans hparts))⟩
  · rw [hdx, hx]
  · rw [hdx, hx]
  · rw [hdx, hx]

end RxEntry

/-! ## Ring indices -/

/-- The times of the entries of a ring after its tail is written. -/
def Hatch.visibleTo (x : Hatch) (i now : Nat) : List Nat :=
  (x.visible ++ List.replicate (Hatch.filled { x with txTail := i } - x.visible.length) now).take (Hatch.filled { x with txTail := i })

theorem length_visibleTo (x : Hatch) (i now : Nat) : (x.visibleTo i now).length = Hatch.filled { x with txTail := i } := by
  unfold Hatch.visibleTo
  rw [List.length_take, List.length_append, List.length_replicate]
  omega

/-- Of the entries that were visible, those that the ring still holds keep their times. -/
theorem take_visibleTo (x : Hatch) (i now : Nat) :
    (x.visibleTo i now).take x.visible.length = x.visible.take (Hatch.filled { x with txTail := i }) := by
  unfold Hatch.visibleTo
  rw [List.take_take, Nat.min_comm, ← List.take_take, List.take_left' rfl]

section Ring

variable {s u : State} {r : Requester} {h : Fin 96} {g : HatRing} (hu : u = hostArrives s r) (hp : u.hatchPowered h = true)

include hu hp

theorem rxHeadWrite_eq (v : Word) : exec (.hatRxHeadWrite r h v) s = .next (writeRxHead u h v) := by
  subst hu
  exact congrArg Outcome.next (if_pos hp)

theorem txTailWrite_eq (v : Word) : exec (.hatTxTailWrite r h v) s = .next (writeTxTail u h v) := by
  subst hu
  exact congrArg Outcome.next (if_pos hp)

theorem rxHeadWrite_stores {v : Word} (hrx : (u.hatch h).rx = some g) (hv : bits v 9 0 < 2 ^ g.size) :
    exec (.hatRxHeadWrite r h v) s = .next (u.setHatch h { u.hatch h with rxHead := bits v 9 0 }) := by
  rw [rxHeadWrite_eq hu hp]
  unfold writeRxHead
  dsimp only
  rw [hrx]
  exact congrArg Outcome.next (if_pos hv)

theorem rxHeadWrite_counts {v : Word} (hbad : ∀ g, (u.hatch h).rx = some g → 2 ^ g.size ≤ bits v 9 0) :
    exec (.hatRxHeadWrite r h v) s = .next (u.bump (bankA (h / 8) 0x14) 1) := by
  rw [rxHeadWrite_eq hu hp]
  unfold writeRxHead
  dsimp only
  cases hrx : (u.hatch h).rx with
  | none => rfl
  | some g => exact congrArg Outcome.next (if_neg (Nat.not_lt.2 (hbad g hrx)))

theorem txTailWrite_stores {v : Word} (htx : (u.hatch h).tx = some g) (hv : bits v 9 0 < 2 ^ g.size) :
    ∃ t, exec (.hatTxTailWrite r h v) s = .next t ∧ (t.hatch h).txTail = bits v 9 0 ∧
      (t.hatch h).txHead = (u.hatch h).txHead ∧ (t.hatch h).visible.length = (t.hatch h).filled ∧
      (t.hatch h).visible.take (u.hatch h).visible.length = (u.hatch h).visible.take (t.hatch h).filled := by
  have hw : writeTxTail u h v =
      u.setHatch h { u.hatch h with txTail := bits v 9 0, visible := (u.hatch h).visibleTo (bits v 9 0) u.now } := by
    unfold writeTxTail
    dsimp only
    split
    case h_1 g' hg =>
      cases htx.symm.trans hg
      exact if_pos hv
    case h_2 hg => cases htx.symm.trans hg
  rw [txTailWrite_eq hu hp, hw]
  have hx : (u.setHatch h { u.hatch h with txTail := bits v 9 0, visible := (u.hatch h).visibleTo (bits v 9 0) u.now }).hatch h =
      { u.hatch h with txTail := bits v 9 0, visible := (u.hatch h).visibleTo (bits v 9 0) u.now } :=
    (hatch_setHatch ..).trans (if_pos rfl)
  refine ⟨_, rfl, ?_, ?_, ?_, ?_⟩ <;> rw [hx]
  · exact length_visibleTo ..
  · exact take_visibleTo ..

theorem txTailWrite_counts {v : Word} (hbad : ∀ g, (u.hatch h).tx = some g → 2 ^ g.size ≤ bits v 9 0) :
    exec (.hatTxTailWrite r h v) s = .next (u.bump (bankA (h / 8) 0x14) 1) := by
  rw [txTailWrite_eq hu hp]
  unfold writeTxTail
  dsimp only
  cases htx : (u.hatch h).tx with
  | none => rfl
  | some g => exact congrArg Outcome.next (if_neg (Nat.not_lt.2 (hbad g htx)))

end Ring

/-! ## The obligation -/

/-- Settles O40: a clause for each event of a mask, a bank's frames, a block and a ring. -/
theorem clocksPartnersAndRingsOfHatches : Obligations.ClocksPartnersAndRingsOfHatches := by
  unfold Obligations.ClocksPartnersAndRingsOfHatches
  refine ⟨fun s => ⟨?_, ?_, ?_, ?_, ?_, ?_⟩, fun s => ⟨?_, ?_, ?_, ?_, ?_⟩⟩
  · intro r h v m land u k hu hp hv hm hk
    exact maskgoWrite_applies hu hp hv hm hk
  · intro h m hm hs hf
    exact maskApply_applies hm hs hf
  · intro b hs hm
    exact ⟨fun hin => synthLock_starts hs hm hin, fun hout => lockTimeout_fails hs hm hout⟩
  · intro b t h
    exact hatchRampEnd_ends h
  · intro b n hm hw hp
    exact ⟨partnerFrameEdge_first hm hw hp, fun t he hpart => partnerFrameEdge_present hm hw hp he hpart,
      fun t he hpart hreg hbc hbits hnear hall => partnerFrameEdge_eighth hm hw hp he hpart hreg hbc hbits hnear hall⟩
  · intro b t hm hw he hpart hmatch hmiss hlate
    exact missingFrame_departs hm hw he hpart hmatch hmiss hlate
  · intro h entries fail hf ht
    exact hatchBlockStart_takes hf ht
  · intro h entries fail ht
    exact if_pos (by simp [ht])
  · intro h samples fail d r g hdue hend hlegs hrx hhost hm
    refine ⟨fun k p ring bytes hk hp hring hbytes hroom => ⟨?_, ?_⟩, rxEntryWrite_drops hdue hend hlegs hrx hm samples fail⟩
    · exact rxEntryWrite_writes hdue hend hlegs hrx hm hhost hk hp hring hbytes hroom
    · rw [hbytes]
      exact take_entryBytes ..
  · intro h samples fail hdue
    change execRxEntryWrite h samples fail s = _
    unfold execRxEntryWrite
    extract_lets x
    rw [show x.due = [] from hdue]
  · intro r h v u g hu hp
    refine ⟨fun hrx => ⟨rxHeadWrite_stores hu hp hrx, fun hv => rxHeadWrite_counts hu hp fun g' hg => ?_⟩,
      fun htx => ⟨txTailWrite_stores hu hp htx, fun hv => txTailWrite_counts hu hp fun g' hg => ?_⟩,
      fun hrx => rxHeadWrite_counts hu hp fun g' hg => ?_, fun htx => txTailWrite_counts hu hp fun g' hg => ?_⟩
    · cases hrx.symm.trans hg
      exact hv
    · cases htx.symm.trans hg
      exact hv
    · cases hrx.symm.trans hg
    · cases htx.symm.trans hg
end Sys2Proof.Machine
end

section
/-!
PROOF. The parts of the machine that its invariant reads, and the operations that leave them (R494, R517, R518): one frame rule for each,
in the order of the model. simp carries the rules through structure updates, conditions and folds; a proof that splits does so at a match.
-/
namespace Sys2Proof.Machine

open Host

/-- What the invariant reads, and the queue of commands. -/
def State.base (s : State) := (s.pending, s.cel.mem, s.bell.levelStacks, s.pwr.state, s.pwr.entering)

@[simp] theorem base_mk (pending out free cyc regs cnt hi objs limits porch bell blv pwr gate boot cel pan hall prg net ftb ice hat bnd par
    dec org enc dmb) :
    State.base ⟨pending, out, free, cyc, regs, cnt, hi, objs, limits, porch, bell, blv, pwr, gate, boot, cel, pan, hall, prg, net, ftb, ice,
      hat, bnd, par, dec, org, enc, dmb⟩ = (pending, cel.mem, bell.levelStacks, pwr.state, pwr.entering) := rfl

@[simp] theorem base_eta (s : State) : (s.pending, s.cel.mem, s.bell.levelStacks, s.pwr.state, s.pwr.entering) = s.base := rfl

@[simp] theorem base_ite (c : Prop) [Decidable c] (a b : State) : (if c then a else b).base = if c then a.base else b.base :=
  apply_ite ..

@[simp] theorem base_snd_ite {α : Type} (c : Prop) [Decidable c] (a b : α × State) :
    (if c then a else b).2.base = if c then a.2.base else b.2.base := by
  split <;> rfl

@[simp] theorem base_foldl {α : Type} {f : State → α → State} (hf : ∀ s a, (f s a).base = s.base) (l : List α) (s : State) :
    (l.foldl f s).base = s.base := foldl_keeps hf l s

/-- The state of a result is as the result's. -/
theorem base_of_eq {α : Type} {p : α × State} {x : α} {u : State} (h : p = (x, u)) : u.base = p.2.base := by rw [h]

@[simp] theorem base_foldl_snd {α β : Type} {f : β × State → α → β × State} (hf : ∀ p a, (f p a).2.base = p.2.base) :
    ∀ (l : List α) (p : β × State), (l.foldl f p).2.base = p.2.base
  | [], _ => rfl
  | a :: r, p => (base_foldl_snd hf r (f p a)).trans (hf p a)

theorem base_setPwr {s : State} {p : Power} (hs : p.state = s.pwr.state) (he : p.entering = s.pwr.entering) :
    State.base { s with pwr := p } = s.base := by
  unfold State.base
  rw [hs, he]

theorem base_setBell {s : State} {b : Bell} {g : Gate} {o : List Out} (hb : b.levelStacks = s.bell.levelStacks) :
    State.base { s with bell := b, gate := g, out := o } = s.base := by
  unfold State.base
  rw [hb]

/-- Another Cellar with the same bytes of main memory. -/
theorem base_setCel {s : State} {x : Cellar} (h : x.mem = s.cel.mem) : State.base { s with cel := x } = s.base := by
  unfold State.base
  rw [h]

theorem base_setBlv (s : State) (x : Belvedere) : State.base { s with blv := x } = s.base := rfl
theorem base_setFtb (s : State) (x : Ftb) : State.base { s with ftb := x } = s.base := rfl
theorem base_setBnd (s : State) (x : Bandstand) : State.base { s with bnd := x } = s.base := rfl
theorem base_setOut (s : State) (x : List Out) : State.base { s with out := x } = s.base := rfl
theorem base_setPrg (s : State) (x : Pergola) : State.base { s with prg := x } = s.base := rfl
theorem base_setPorch (s : State) (x : Porch) : State.base { s with porch := x } = s.base := rfl
theorem base_setGate (s : State) (x : Gate) : State.base { s with gate := x } = s.base := rfl
theorem base_setBoot (s : State) (x : Boot) : State.base { s with boot := x } = s.base := rfl

/-! ## Shared operations -/

@[simp] theorem base_setReg (s : State) (a : Nat) (v : Word) : (s.setReg a v).base = s.base := by simp [State.base, -base_eta]
@[simp] theorem base_bump (s : State) (a n : Nat) : (s.bump a n).base = s.base := by simp [State.base, -base_eta]
@[simp] theorem base_bumpSat (s : State) (a n : Nat) : (s.bumpSat a n).base = s.base := by simp [State.base, -base_eta]
@[simp] theorem base_bump64 (s : State) (a n : Nat) : (s.bump64 a n).base = s.base := by simp [State.base, -base_eta]
@[simp] theorem base_fresh (s : State) : (s.fresh.2).base = s.base := by simp [State.fresh]

@[simp] theorem base_limit (s : State) (key period n m : Nat) : (s.limit key period n m).2.base = s.base := by
  unfold State.limit
  dsimp only
  repeat' split
  all_goals rfl

theorem base_of_limit {s u : State} {k p n m : Nat} {x : Option (Nat × Nat)} (h : s.limit k p n m = (x, u)) : u.base = s.base :=
  (base_of_eq h).trans (base_limit ..)

@[simp] theorem base_limitDue (s : State) (key period : Nat) : (s.limitDue key period).2.base = s.base := by simp [State.limitDue]
@[simp] theorem base_setSq (s : State) (n : Nat) (q : Sq) : (s.setSq n q).base = s.base := by simp [State.base, -base_eta]
@[simp] theorem base_setCq (s : State) (n : Nat) (q : Cq) : (s.setCq n q).base = s.base := by simp [State.base, -base_eta]

@[simp] theorem base_hostWrite (s : State) (n : Nat) (e : Entry) (seq : BitVec 16) : (hostWrite s n e seq).base = s.base := by
  simp [State.base, -base_eta]

@[simp] theorem base_pendSource (s : State) (n : Nat) : (pendSource s n).base = s.base := by simp [State.base, -base_eta]

@[simp] theorem base_queueFails (s : State) (isCq : Bool) (n : Nat) (e : PcieErr) : (queueFails s isCq n e).base = s.base := by
  simp [State.base, -base_eta]

@[simp] theorem base_loseWaited (s : State) (n : Nat) (e : Entry) : (loseWaited s n e).base = s.base := by simp [State.base, -base_eta]

@[simp] theorem base_writeWaited (s : State) (n : Nat) (e : Entry) (seq : BitVec 16) : (writeWaited s n e seq).base = s.base := by
  simp [State.base, -base_eta]

@[simp] theorem base_writeHeld (s : State) : (writeHeld s).base = s.base := by simp [State.base, -base_eta]
@[simp] theorem base_leaveL1 (s : State) : (leaveL1 s).base = s.base := by simp [State.base, -base_eta]
@[simp] theorem base_sendMsix (s : State) (v : Nat) : (sendMsix s v).base = s.base := by simp [State.base, -base_eta]
@[simp] theorem base_sendUnmasked (s : State) : (sendUnmasked s).base = s.base := by simp [State.base, -base_eta]
@[simp] theorem base_belSignal (s : State) : (belSignal s).base = s.base := by simp [State.base, -base_eta]
@[simp] theorem base_wakeHost (s : State) : (wakeHost s).base = s.base := by simp [State.base, -base_eta]
@[simp] theorem base_checkWake (s : State) : (checkWake s).base = s.base := by simp [State.base, -base_eta]
@[simp] theorem base_beginWake (s : State) (cause src : Nat) : (beginWake s cause src).base = s.base := by simp [State.base, -base_eta]
@[simp] theorem base_wakeTarget (s : State) (n : Nat) : (wakeTarget s n).base = s.base := by simp [State.base, -base_eta]

@[simp] theorem base_wakeHeld (a b : State) : (wakeHeld a b).base = b.base := by
  unfold wakeHeld
  simp

@[simp] theorem base_irqEdges (a b : State) : (irqEdges a b).base = b.base := by
  unfold irqEdges
  simp

@[simp] theorem base_resignal (a b : State) : (resignal a b).base = b.base := by
  unfold resignal
  simp

@[simp] theorem base_pulse (s : State) (n : Nat) : (pulse s n).base = s.base := by simp [State.base, -base_eta]
@[simp] theorem base_interrupt (s : State) (n : Nat) : (interrupt s n).base = s.base := by simp [State.base, -base_eta]
@[simp] theorem base_moderate (s : State) (n : Nat) : (moderate s n).base = s.base := by simp [State.base, -base_eta]

@[simp] theorem base_placeEntry (s : State) (n : Nat) (e : Entry) (seq : BitVec 16) : (placeEntry s n e seq).base = s.base := by
  simp [State.base, -base_eta]

@[simp] theorem base_pchErr (s : State) (b : Nat) : (pchErr s b).base = s.base := by simp [State.base, -base_eta]

@[simp] theorem base_pchErrQ (s : State) (b : Nat) (isCq : Bool) (n : Nat) : (pchErrQ s b isCq n).base = s.base := by
  simp [State.base, -base_eta]

@[simp] theorem base_complete (s : State) (op : BitVec 16) (c : Cmd) (st : Status) (r0 r1 r2 r3 : Word) :
    (complete s op c st r0 r1 r2 r3).base = s.base := by simp [State.base, -base_eta]

@[simp] theorem base_finish (s : State) (op : BitVec 16) (c : Cmd) (st : Status) : (finish s op c st).base = s.base := by
  simp [State.base, -base_eta]

@[simp] theorem base_eventSt (s : State) (code : BitVec 16) (st : Status) (obj r0 r1 r2 r3 : Word) :
    (eventSt s code st obj r0 r1 r2 r3).base = s.base := by simp [eventSt]

@[simp] theorem base_event (s : State) (code : BitVec 16) (obj r0 r1 r2 r3 : Word) : (event s code obj r0 r1 r2 r3).base = s.base := by
  simp [State.base, -base_eta]

@[simp] theorem base_beginCmd (s : State) (op : BitVec 16) (c : Cmd) : (beginCmd s op c).base = s.base := by simp [beginCmd]

@[simp] theorem base_runCmd {body : State → State} (hb : ∀ t, (body t).base = t.base) (s : State) (op : BitVec 16) (c : Cmd)
    (lo hi : Nat) (ok pw : Bool) : (runCmd s op c lo hi ok pw body).base = s.base := by
  unfold runCmd
  simp [hb]

@[simp] theorem base_checked {go : State → State} {s : State} (hg : (go s).base = s.base) (op : BitVec 16) (c : Cmd)
    (l : List (Bool × Status)) : (checked s op c l go).base = s.base := by
  unfold checked
  split
  · exact base_finish ..
  · exact hg

@[simp] theorem base_setObj (s : State) (k : Nat) (o : ObjRec) : (s.setObj k o).base = s.base := by simp [State.base, -base_eta]
@[simp] theorem base_bumpGen (s : State) (k : Nat) : (bumpGen s k).base = s.base := by simp [bumpGen]
@[simp] theorem base_setNetPort (s : State) (p : Nat) (x : NetPort) : (s.setNetPort p x).base = s.base := by simp [State.base, -base_eta]
@[simp] theorem base_setLegSet (s : State) (l : Nat) (x : LegSet) : (s.setLegSet l x).base = s.base := by simp [State.base, -base_eta]
@[simp] theorem base_setLegRun (s : State) (l : Nat) (x : LegRun) : (s.setLegRun l x).base = s.base := by simp [State.base, -base_eta]
@[simp] theorem base_readOut (s : State) (r : Requester) (a : Nat) (v : Word) : (readOut s r a v).base = s.base := by simp [readOut]
@[simp] theorem base_hostArrives (s : State) (r : Requester) : (hostArrives s r).base = s.base := by simp [State.base, -base_eta]

/-! ## The Pantry -/

@[simp] theorem base_setPool (s : State) (far : Bool) (p : Pool) : (s.setPool far p).base = s.base := by simp [State.base, -base_eta]
@[simp] theorem base_poolLow (s : State) (far : Bool) : (poolLow s far).base = s.base := by simp [poolLow]
@[simp] theorem base_takeCell (s : State) (far : Bool) : (takeCell s far).base = s.base := by simp [takeCell]

@[simp] theorem base_takeCells (s : State) (far : Bool) : ∀ n, (takeCells s far n).base = s.base
  | 0 => rfl
  | n + 1 => (base_takeCell ..).trans (base_takeCells s far n)

@[simp] theorem base_giveCells (s : State) (far gap : Bool) (n : Nat) : (giveCells s far gap n).base = s.base := by simp [giveCells]
@[simp] theorem base_newCell (s : State) (far : Bool) (besides : List Nat) : (newCell s far besides).2.base = s.base := by simp [newCell]
@[simp] theorem base_newHandle (s : State) (far : Bool) : (newHandle s far).2.base = s.base := by simp [newHandle]

@[simp] theorem base_newCells (far : Bool) : ∀ (n : Nat) (s : State) (got : List Nat), (newCells s far got n).2.base = s.base
  | 0, _, _ => rfl
  | n + 1, s, got => (base_newCells far n ..).trans (base_newCell s far got)

@[simp] theorem base_setQueue (s : State) (q : Nat) (p : PQueue) : (s.setQueue q p).base = s.base := by simp [State.base, -base_eta]
@[simp] theorem base_linkGap (s : State) (q : Nat) (far : Bool) (n : Nat) : (linkGap s q far n).base = s.base := by simp [linkGap]

@[simp] theorem base_recordDrop (s : State) (q : Nat) (far : Bool) : (recordDrop s q far).base = s.base := by
  unfold recordDrop
  dsimp only
  repeat' split
  all_goals simp

@[simp] theorem base_flushPending (s : State) (q : Nat) (far : Bool) : (flushPending s q far).base = s.base := by simp [flushPending]
@[simp] theorem base_countPoolDrop (s : State) (far : Bool) : (countPoolDrop s far).base = s.base := by simp [countPoolDrop]

@[simp] theorem base_queueDropEvent (s : State) (q cause : Nat) : (queueDropEvent s q cause).base = s.base := by
  unfold queueDropEvent
  dsimp only
  split <;> rename_i h <;> simp [base_of_limit h]

@[simp] theorem base_countQueueDrop (s : State) (q cause : Nat) : (countQueueDrop s q cause).base = s.base := by
  unfold countQueueDrop
  dsimp only
  repeat' split
  all_goals simp

@[simp] theorem base_depthPeak (s : State) (q : Nat) : (depthPeak s q).base = s.base := by simp [depthPeak]

@[simp] theorem base_linkPacket (s : State) (q : Nat) (far : Bool) (h bytes cells : Nat) (rest : List Nat) (pkt : Pkt) :
    (linkPacket s q far h bytes cells rest pkt).base = s.base := by simp [linkPacket]

@[simp] theorem base_commitCells (s : State) (q : Nat) (far : Bool) (h bytes cells : Nat) (rest : List Nat) (pkt : Pkt) :
    (commitCells s q far h bytes cells rest pkt).base = s.base := by simp [commitCells]

@[simp] theorem base_sendPacket (s : State) (q bytes : Nat) (pkt : Pkt) : (sendPacket s q bytes pkt).base = s.base := by
  unfold sendPacket
  split <;> simp

@[simp] theorem base_writeLoose (s : State) (pool cls bytes : Nat) : (writeLoose s pool cls bytes).2.base = s.base := by
  unfold writeLoose
  dsimp only
  repeat' split
  all_goals simp

@[simp] theorem base_releaseHandle (s : State) (h : Nat) : (releaseHandle s h).base = s.base := by
  unfold releaseHandle
  split <;> simp

@[simp] theorem base_setOpen (s : State) (p : Producer) (o : OpenPkt) : (s.setOpen p o).base = s.base := by simp [State.base, -base_eta]
@[simp] theorem base_closeOpen (s : State) (p : Producer) : (s.closeOpen p).base = s.base := by simp [State.closeOpen]

@[simp] theorem base_dropBound (s : State) (b : Bound) (far : Bool) : (dropBound s b far).base = s.base := by
  unfold dropBound
  split <;> simp

@[simp] theorem base_writeWord (s : State) (p : Producer) (o : OpenPkt) (n : Nat) : (writeWord s p o n).2.base = s.base := by
  simp [writeWord]

@[simp] theorem base_openPacket (s : State) (p : Producer) (b : Bound) : (openPacket s p b).base = s.base := by
  unfold openPacket
  dsimp only
  split <;> simp

@[simp] theorem base_closeBad (s : State) (p : Producer) : (closeBad s p).base = s.base := by
  unfold closeBad
  split <;> simp

@[simp] theorem base_freeHead (s : State) (q n : Nat) : (freeHead s q n).base = s.base := by simp [freeHead]
@[simp] theorem base_emptyQueue (s : State) (q : Nat) : (emptyQueue s q).base = s.base := by simp [emptyQueue]
@[simp] theorem base_logError (s : State) (e : ErrRec) : (logError s e).base = s.base := by simp [logError]

@[simp] theorem base_doubleFault (s0 : State) : (doubleFault s0).base = s0.base := by
  unfold doubleFault
  extract_lets a b bell gate c d x sent bell' gate'
  have hb : b.base = s0.base := base_foldl base_emptyQueue _ _
  have hd : d.base = s0.base := (base_wakeHeld ..).trans ((base_pendSource ..).trans ((base_setBell rfl).trans hb))
  rw [base_irqEdges, ← hd]
  clear_value d
  split
  · rfl
  · split
    · have hsent : sent.base = d.base := (base_sendMsix ..).trans (base_leaveL1 d)
      have hstacks : bell'.levelStacks = sent.bell.levelStacks := by simp [bell', sent]
      exact (base_setBell (g := sent.gate) (o := sent.out) hstacks).trans hsent
    · exact base_setBell rfl

@[simp] theorem base_reportError (s : State) (src : Nat) (sev : Severity) (i0 i1 : Word) : (reportError s src sev i0 i1).base = s.base := by
  simp [reportError]

@[simp] theorem base_reportOpen (s : State) (src : Nat) (sev : Severity) : (reportOpen s src sev).base = s.base := by simp [reportOpen]

/-! ## The Hall -/

@[simp] theorem base_setFlow (s : State) (f : Nat) (x : Flow) : (s.setFlow f x).base = s.base := by simp [State.base, -base_eta]
@[simp] theorem base_bgUpdate (s : State) (g : Nat) : (bgUpdate s g).base = s.base := by simp [bgUpdate]
@[simp] theorem base_joinItem (s : State) (f : Nat) (i : Item) : (joinItem s f i).base = s.base := by simp [joinItem]

@[simp] theorem base_hallDropEvent (s : State) (r : Option (Nat × Nat)) : (hallDropEvent s r).base = s.base := by
  unfold hallDropEvent
  split <;> simp

@[simp] theorem base_dropItem (s : State) (i : Item) (flowLimit : Bool) : (dropItem s i flowLimit).base = s.base := by
  unfold dropItem
  split <;> simp

@[simp] theorem base_hallAdmit (s : State) (f : Nat) (i : Item) : (hallAdmit s f i).base = s.base := by
  unfold hallAdmit
  dsimp only
  repeat' split
  all_goals simp

@[simp] theorem base_hallWork (s : State) (f prio : Nat) : (hallWork s f prio).2.base = s.base := by simp [hallWork]
@[simp] theorem base_doorbellItem (s : State) (q : Nat) : (doorbellItem s q).base = s.base := by simp [doorbellItem]

@[simp] theorem base_freeItem (s : State) (f : Nat) (i : Item) : (freeItem s f i).base = s.base := by
  unfold freeItem
  dsimp only
  repeat' split
  all_goals simp

@[simp] theorem base_discardItems (s : State) (f : Nat) (l : List Item) : (discardItems s f l).base = s.base := by
  unfold discardItems
  refine base_foldl (fun s i => ?_) _ _
  rw [base_freeItem]
  split <;> simp

@[simp] theorem base_bgServed (s : State) (g : Nat) : (bgServed s g).base = s.base := by simp [bgServed]

@[simp] theorem base_hallDispatch (s : State) (k : Nat) : (hallDispatch s k).2.base = s.base := by
  unfold hallDispatch
  dsimp only
  repeat' split
  all_goals simp

@[simp] theorem base_fireTimer (s : State) (f : Nat) : (fireTimer s f).base = s.base := by
  unfold fireTimer
  dsimp only
  split <;> simp

@[simp] theorem base_armTimer (s : State) (f : Nat) (t : FlowTimer) : (armTimer s f t).base = s.base := by simp [armTimer]
@[simp] theorem base_releaseFlow (s : State) (f : Nat) : (releaseFlow s f).base = s.base := by simp [releaseFlow]

@[simp] theorem base_setTimer (s : State) (f : Nat) (arm : TimerArm) : (setTimer s f arm).base = s.base := by
  unfold setTimer
  split <;> simp

@[simp] theorem base_dropFlow (s : State) (f : Nat) : (dropFlow s f).base = s.base := by simp [dropFlow]
@[simp] theorem base_hallSample (s : State) : (hallSample s).base = s.base := by simp [hallSample]
@[simp] theorem base_writeLadder (s : State) (n : Nat) (v : Word) : (writeLadder s n v).base = s.base := by simp [writeLadder]

/-! ## The lifecycle of objects -/

@[simp] theorem base_finishAll (op : BitVec 16) : ∀ (l : List Cmd) (s : State), (finishAll op l s).base = s.base
  | [], _ => rfl
  | c :: r, s => (base_finishAll op r _).trans (base_finish ..)

@[simp] theorem base_reachStopped (s : State) (range num : Nat) : (reachStopped s range num).base = s.base := by
  unfold reachStopped
  simp

@[simp] theorem base_startCmd {note begun : State → State} (hn : ∀ t, (note t).base = t.base) (hb : ∀ t, (begun t).base = t.base)
    (s : State) (range : Nat) (c : Cmd) (ok pw : Bool) (g1 g3 : State → List (Bool × Status)) :
    (startCmd s range c ok pw g1 g3 note begun).base = s.base := by
  unfold startCmd
  refine base_runCmd (fun t => base_checked ?_ ..) ..
  split <;> simp [hn, hb]

@[simp] theorem base_stopCmd {undo : State → State} {drain : State → Bool → State} (hu : ∀ t, (undo t).base = t.base)
    (hd : ∀ t ab, (drain t ab).base = t.base) (s : State) (range : Nat) (c : Cmd) (ok pw : Bool) (g1 : State → List (Bool × Status)) :
    (stopCmd s range c ok pw g1 undo drain).base = s.base := by
  unfold stopCmd
  refine base_runCmd (fun t => base_checked ?_ ..) ..
  dsimp only
  split
  · simp
  · rw [base_finish, hu, base_setObj]
    split <;> simp
  · simp [hd]
  · simp [hd]

@[simp] theorem base_getStateCmd (s : State) (range : Nat) (c : Cmd) (objOk powered : Bool) (r2 : State → Word) :
    (getStateCmd s range c objOk powered r2).base = s.base := by
  unfold getStateCmd
  simp

@[simp] theorem base_settleStart (s : State) (range num : Nat) (refused : Option Status) :
    (settleStart s range num refused).base = s.base := by
  unfold settleStart
  dsimp only
  split <;> simp

@[simp] theorem base_viaHost {go : State → State} (hg : ∀ t, (go t).base = t.base) (s : State) : (viaHost s go).base = s.base := by
  unfold viaHost
  simp [hg]

/-! ## The Belvedere -/

@[simp] theorem base_timeLock (s : State) (two : Bool) (state : Word) (offset : Int) : (timeLock s two state offset).base = s.base := by
  simp [timeLock]

@[simp] theorem base_enterHoldover (s : State) (two : Bool) : (enterHoldover s two).base = s.base := by simp [enterHoldover]
@[simp] theorem base_armBase (s : State) (two : Bool) (en : Bool) : (armBase s two en).base = s.base := by simp [armBase]
@[simp] theorem base_timeStepped (s : State) (obj : Word) (off : Nat) : (timeStepped s obj off).base = s.base := by simp [timeStepped]
@[simp] theorem base_applyStep (s : State) (num : Nat) (off : Nat) : (applyStep s num off).base = s.base := by simp [applyStep]
@[simp] theorem base_setRate (s : State) (num : Nat) (r : Int) : (setRate s num r).base = s.base := by simp [setRate]

@[simp] theorem base_firstLock (s : State) (two : Bool) : (firstLock s two).base = s.base := by
  unfold firstLock
  exact (base_timeLock ..).trans ((base_timeStepped ..).trans (base_setBlv ..))

@[simp] theorem base_relock (s : State) (two : Bool) (off : Int) : (relock s two off).base = s.base := by simp [relock]

@[simp] theorem base_setStampPort (s : State) (n : Nat) (p : StampPort) : (s.setStampPort n p).base = s.base := by
  simp [State.base, -base_eta]

@[simp] theorem base_loadComp (s : State) (n rx tx : Nat) : (loadComp s n rx tx).base = s.base := by simp [loadComp]

@[simp] theorem base_txtsLost (s : State) (n : Nat) : (txtsLost s n).base = s.base := by
  have h : ∀ x u, (if n = 0 then s.limitDue (limitKey 0x0212 0) ctPerSec else s.limit (limitKey 0x0212 0) ctPerSec n 0) = (x, u) →
      u.base = s.base := fun x u hu => (base_of_eq hu).trans (by simp)
  unfold txtsLost
  split <;> rename_i hu <;> simp [h _ _ hu]

@[simp] theorem base_pushTxts (s : State) (e : Txts) : (pushTxts s e).base = s.base := by simp [pushTxts]
@[simp] theorem base_latchBases (s : State) : (latchBases s).base = s.base := by simp [latchBases]
@[simp] theorem base_setPin (s : State) (k : Nat) (p : Pin) : (s.setPin k p).base = s.base := by simp [State.base, -base_eta]

@[simp] theorem base_servoState (s : State) (two : Bool) (st : Nat) (off path : Int) : (servoState s two st off path).base = s.base := by
  simp [servoState]

@[simp] theorem base_servoFrame (s : State) (two : Bool) : (servoFrame s two).base = s.base := by simp [servoFrame]

/-! ## The Pergola -/

@[simp] theorem base_setLegPrg (s : State) (l : Nat) (x : LegPrg) : (s.setLegPrg l x).base = s.base := by simp [State.base, -base_eta]
@[simp] theorem base_setPortPrg (s : State) (p : Nat) (x : PortPrg) : (s.setPortPrg p x).base = s.base := by simp [State.base, -base_eta]

@[simp] theorem base_cleanHead (q : Nat) : ∀ (n : Nat) (s : State), (cleanHead n q s).base = s.base
  | 0, _ => rfl
  | n + 1, s => by
    unfold cleanHead
    split
    · rfl
    · simp [base_cleanHead q n]

@[simp] theorem base_debitAll (s : State) (p q c : Nat) : (debitAll s p q c).base = s.base := by simp [debitAll]

@[simp] theorem base_launchLate (s : State) (p late : Nat) : (launchLate s p late).base = s.base := by
  unfold launchLate
  dsimp only
  split <;> rename_i h <;> simp [base_of_limit h]

@[simp] theorem base_sendHead (s : State) (p q : Nat) (e : QEntry) (fine : Nat) : (sendHead s p q e fine).base = s.base := by
  unfold sendHead
  extract_lets bytes freeAt s1 s2 x idle s3 s4 s5 s6 y s7 s8 s9 beacon s10 body
  have h4 : s4.base = s.base := by
    have h3 : s3.base = s.base := (base_setPortPrg ..).trans ((base_debitAll ..).trans (base_freeHead ..))
    unfold s4
    rw [base_ite, base_bump, h3, ite_self]
  have h5 : s5.base = s4.base := by
    unfold s5
    clear_value s4
    split <;> simp
  have h7 : s7.base = s5.base := by
    unfold s7
    rw [base_ite, base_setLegPrg, ite_self]
    exact (base_bump64 ..).trans (base_bump64 ..)
  have h8 : s8.base = s7.base := by
    unfold s8
    clear_value s7
    split <;> simp
  have h9 : s9.base = s8.base := by
    unfold s9
    clear_value s8
    split <;> simp
  have h10 : s10.base = s9.base := by
    unfold s10
    rw [base_ite, base_bump, ite_self]
  exact (base_setOut ..).trans (h10.trans (h9.trans (h8.trans (h7.trans (h5.trans h4)))))

@[simp] theorem base_servePort (s : State) (p : Nat) (fine : Nat) : (servePort s p fine).base = s.base := by
  unfold servePort
  dsimp only
  repeat' split
  all_goals simp

@[simp] theorem base_policeDrop (s : State) (l c : Nat) : (policeDrop s l c).base = s.base := by
  unfold policeDrop
  dsimp only
  split <;> rename_i h <;> simp [base_of_limit h]

@[simp] theorem base_police (s : State) (l p bytes stamp : Nat) : (police s l p bytes stamp).2.base = s.base := by simp [police]

@[simp] theorem base_sampleQueue (s : State) (q depthA delayA peakA : Nat) (lim : Bool) :
    (sampleQueue s q depthA delayA peakA lim).base = s.base := by simp [sampleQueue]

/-! ## The Packets -/

@[simp] theorem base_sendLegAt (s : State) (l svc payload : Nat) (launch : Option Nat) (body : List Nat) :
    (sendLegAt s l svc payload launch body).base = s.base := by simp [sendLegAt]

@[simp] theorem base_sendLeg (s : State) (l svc payload : Nat) (body : List Nat) : (sendLeg s l svc payload body).base = s.base := by
  simp [sendLeg]

@[simp] theorem base_sendRtcp (s : State) (l rtcp : Nat) (body : List Nat) : (sendRtcp s l rtcp body).base = s.base := by simp [sendRtcp]
@[simp] theorem base_sendPort (s : State) (p k bytes : Nat) (pkt : Pkt) : (sendPort s p k bytes pkt).base = s.base := by simp [sendPort]

@[simp] theorem base_sendFtb (s : State) (g : FtbCfg) (peer type k payload : Nat) (body : List Nat) :
    (sendFtb s g peer type k payload body).base = s.base := by simp [sendFtb]

@[simp] theorem base_setStream (s : State) (l i : Nat) (x : StreamRun) : (s.setStream l i x).base = s.base := by
  simp [State.base, -base_eta]

@[simp] theorem base_nextSeq (s : State) (l i : Nat) : (nextSeq s l i).2.base = s.base := by simp [nextSeq]

/-! ## The Bandstand -/

@[simp] theorem base_setConfSet (s : State) (c : Nat) (x : ConfSet) : (s.setConfSet c x).base = s.base := by simp [State.base, -base_eta]
@[simp] theorem base_setConfRun (s : State) (c : Nat) (x : ConfRun) : (s.setConfRun c x).base = s.base := by simp [State.base, -base_eta]
@[simp] theorem base_setLegAudio (s : State) (l : Nat) (x : LegAudio) : (s.setLegAudio l x).base = s.base := by simp [State.base, -base_eta]
@[simp] theorem base_commitLevel (s : State) (l level : Nat) : (commitLevel s l level).base = s.base := by simp [commitLevel]
@[simp] theorem base_rampOut (s : State) (c b l : Nat) : (rampOut s c b l).base = s.base := by simp [rampOut]

@[simp] theorem base_applyChange (s : State) (c b : Nat) (h : SelChange) : (applyChange s c b h).base = s.base := by
  unfold applyChange
  dsimp only
  repeat' split
  all_goals simp

@[simp] theorem base_selectBlock (s : State) (c b : Nat) : (selectBlock s c b).base = s.base := by simp [selectBlock]
@[simp] theorem base_swapNow (s : State) (c b : Nat) (fade : Bool) : (swapNow s c b fade).base = s.base := by simp [swapNow]
@[simp] theorem base_contribution (s : State) (c b l : Nat) : (contribution s c b l).2.base = s.base := by simp [contribution]
@[simp] theorem base_setPeer (s : State) (p : Nat) (x : Peer) : (s.setPeer p x).base = s.base := by simp [State.base, -base_eta]
@[simp] theorem base_peersTaken (s : State) (b : Nat) : (peersTaken s b).base = s.base := by simp [peersTaken]

@[simp] theorem base_countClips (s : State) (c n : Nat) : (countClips s c n).base = s.base := by
  unfold countClips
  dsimp only
  split
  · rfl
  · split <;> rename_i h <;> simp [base_of_limit h]

@[simp] theorem base_feedOutput (s : State) (c : Nat) (two : Bool) (f : OutFeed) : (feedOutput s c two f).base = s.base := by
  simp [feedOutput]

@[simp] theorem base_closeFrames (s : State) (c b : Nat) : (closeFrames s c b).base = s.base := by simp [closeFrames]

@[simp] theorem base_sendAudio (s : State) (l bytes ts : Nat) : (sendAudio s l bytes ts).base = s.base := by
  unfold sendAudio
  split <;> simp

@[simp] theorem base_releaseAudio (s : State) (l dur : Nat) (lost : Bool) : (releaseAudio s l dur lost).base = s.base := by
  unfold releaseAudio
  split <;> simp

@[simp] theorem base_conceal (s : State) (l : Nat) (x : LegAudio) (dur : Nat) (own : List (Int × Int)) :
    (conceal s l x dur own).2.2.base = s.base := by
  unfold conceal
  dsimp only
  repeat' split
  all_goals simp

@[simp] theorem base_lateDecodes (s : State) (b : Nat) : (lateDecodes s b).base = s.base := by
  unfold lateDecodes
  refine base_foldl (fun s e => ?_) _ _
  dsimp only
  split
  · rfl
  · split <;> simp

@[simp] theorem base_fadeBlock (s : State) (b l : Nat) : (fadeBlock s b l).base = s.base := by simp [fadeBlock]

@[simp] theorem base_mixConf (s : State) (c b : Nat) : (mixConf s c b).2.base = s.base := by
  unfold mixConf
  simp

@[simp] theorem base_sendMix (s : State) (p b : Nat) (recs : List (List Nat)) : (sendMix s p b recs).base = s.base := by
  unfold sendMix
  split <;> simp

@[simp] theorem base_blockBandstand (s : State) (b : Nat) : (blockBandstand s b).base = s.base := by
  unfold blockBandstand
  extract_lets cs s1 s2 s3 s4 s5 keep
  have h3 : s3.base = s.base := by
    refine (base_foldl (fun t c => ?_) _ _).trans ((base_foldl (fun t c => base_closeFrames t c b) _ _).trans (base_lateDecodes s b))
    split <;> simp
  have h5 : s5.base = s.base :=
    (base_foldl (fun t l => base_fadeBlock t b l) _ _).trans ((base_foldl (fun t c => base_selectBlock t c b) _ _).trans h3)
  split
  rename_i recs t ht
  have hmix : t.base = s5.base := by
    refine (base_of_eq ht).trans ((base_foldl_snd (fun p c => ?_) _ _).trans rfl)
    exact base_mixConf p.2 c b
  extract_lets s6 s7 bnd
  have h6 : s6.base = t.base := base_foldl (fun u p => by simp) _ _
  have h7 : s7.base = s.base := (base_peersTaken ..).trans (h6.trans (hmix.trans h5))
  exact (base_setBnd ..).trans h7

/-! ## The Bellboard -/

@[simp] theorem base_writeTargetCtrl (s : State) (t : Nat) (v : Word) : (writeTargetCtrl s t v).base = s.base := by simp [writeTargetCtrl]
@[simp] theorem base_writeSrcCfg (s : State) (n : Nat) (v : Word) : (writeSrcCfg s n v).base = s.base := by simp [writeSrcCfg]
@[simp] theorem base_writeWatch (s : State) (w : Nat) (v : Word) : (writeWatch s w v).base = s.base := by simp [writeWatch]

@[simp] theorem base_errDone (s : State) (r : Requester) : (errDone s r).base = s.base := by
  unfold errDone
  split <;> simp

@[simp] theorem base_errInject (s : State) (v : Word) : (errInject s v).base = s.base := by
  unfold errInject
  dsimp only
  split <;> simp

@[simp] theorem base_logPop (s : State) : (logPop s).base = s.base := by simp [logPop]

/-! ## Decoding -/

@[simp] theorem base_setSlotRun (s : State) (k : Nat) (x : SlotRun) : (s.setSlotRun k x).base = s.base := by simp [State.base, -base_eta]
@[simp] theorem base_pruneHolds (s : State) (k : Nat) (start : Bool) : (pruneHolds s k start).base = s.base := by simp [pruneHolds]

@[simp] theorem base_recordMissing (s : State) (k n : Nat) (skip : Bool) : (recordMissing s k n skip).base = s.base := by
  simp [recordMissing]

@[simp] theorem base_pictureMissing (s : State) (k : Nat) (skip : Bool) : (pictureMissing s k skip).base = s.base := by
  simp [pictureMissing]

@[simp] theorem base_releasePicture (s : State) (k : Nat) (key nonRef : Bool) : (releasePicture s k key nonRef).base = s.base := by
  simp [releasePicture]

@[simp] theorem base_askLeg (s : State) (l i : Nat) (fir : Bool) : (askLeg s l i fir).base = s.base := by
  unfold askLeg
  split <;> simp

@[simp] theorem base_slotAsks (s : State) (k : Nat) : (slotAsks s k).base = s.base := by simp [slotAsks]
@[simp] theorem base_runAsks (s : State) (k : Nat) : (runAsks s k).base = s.base := by simp [runAsks]
@[simp] theorem base_decFreeze (s : State) (k how : Nat) : (decFreeze s k how).base = s.base := by simp [decFreeze]

@[simp] theorem base_freezeSwitch (s : State) (k : Nat) : (freezeSwitch s k).base = s.base := by
  unfold freezeSwitch
  dsimp only
  split <;> simp

@[simp] theorem base_taintCur (s : State) (k : Nat) : (taintCur s k).base = s.base := by
  unfold taintCur
  dsimp only
  split <;> simp

@[simp] theorem base_beginTaint (s : State) (k : Nat) : (beginTaint s k).base = s.base := by simp [beginTaint]
@[simp] theorem base_refTaint (s : State) (k num : Nat) (name sub : Word) : (refTaint s k num name sub).base = s.base := by simp [refTaint]

@[simp] theorem base_damage (s : State) (k : Nat) (bs : List (Nat × Nat)) : (damage s k bs).base = s.base := by
  unfold damage
  dsimp only
  split
  · rfl
  · split <;> rename_i h <;> simp [base_of_limit h]

@[simp] theorem base_applyObs (s : State) (k : Nat) (o : BandObs) : (applyObs s k o).base = s.base := by
  unfold applyObs
  dsimp only
  repeat' split
  all_goals simp

@[simp] theorem base_streamSeen (s : State) (k n : Nat) (i : StreamInfo) (newSeq : Bool) : (streamSeen s k n i newSeq).base = s.base := by
  simp [streamSeen]

@[simp] theorem base_refusePicture (s : State) (k : Nat) (w : WaitPic) (i : StreamInfo) (cause : Nat) :
    (refusePicture s k w i cause).base = s.base := by simp [refusePicture]

@[simp] theorem base_takePicture (s : State) (k : Nat) (w : WaitPic) (i : StreamInfo) (o : BandObs) :
    (takePicture s k w i o).base = s.base := by simp [takePicture]

@[simp] theorem base_beginPicture (s : State) (k : Nat) (o : BandObs) : (beginPicture s k o).2.base = s.base := by
  unfold beginPicture
  dsimp only
  repeat' split
  all_goals simp

@[simp] theorem base_endTaint (s : State) (k n : Nat) : (endTaint s k n).base = s.base := by
  unfold endTaint
  dsimp only
  split <;> simp

@[simp] theorem base_slotStopped (s : State) (k : Nat) : (slotStopped s k).base = s.base := by simp [slotStopped]
@[simp] theorem base_completePicture (s : State) (k : Nat) (c : CurPic) : (completePicture s k c).base = s.base := by simp [completePicture]
@[simp] theorem base_slotReserve (s : State) (k : Nat) : (slotReserve s k).base = s.base := by simp [slotReserve]
@[simp] theorem base_slotDrain (s : State) (k : Nat) (ab : Bool) : (slotDrain s k ab).base = s.base := by simp [slotDrain]

/-! ## The Orangery -/

@[simp] theorem base_setCanvas (s : State) (c : Nat) (x : CanvasRun) : (s.setCanvas c x).base = s.base := by simp [State.base, -base_eta]
@[simp] theorem base_noteBlocked (s : State) (c : Nat) : (noteBlocked s c).base = s.base := by simp [noteBlocked]

@[simp] theorem base_endBlocked (s : State) (c : Nat) : (endBlocked s c).base = s.base := by
  unfold endBlocked
  dsimp only
  split <;> simp

@[simp] theorem base_commitDone (s : State) (c seq outcome : Nat) (frame : Word) (left : Nat) :
    (commitDone s c seq outcome frame left).base = s.base := by simp [commitDone]

@[simp] theorem base_commitEnds (s : State) (c seq outcome left : Nat) : (commitEnds s c seq outcome left).base = s.base := by
  simp [commitEnds]

@[simp] theorem base_handleCommit (s : State) (c k : Nat) : (handleCommit s c k).base = s.base := by
  unfold handleCommit
  dsimp only
  split <;> simp

@[simp] theorem base_pruneAll (s : State) (start : Nat → Bool) : (pruneAll s start).base = s.base := by simp [pruneAll]
@[simp] theorem base_holdPicture (s : State) (k n : Nat) : (holdPicture s k n).base = s.base := by simp [holdPicture]
@[simp] theorem base_latchLayers (s : State) (c : Nat) : (latchLayers s c).base = s.base := by simp [latchLayers]
@[simp] theorem base_beginFrame (s : State) (c k : Nat) : (beginFrame s c k).base = s.base := by simp [beginFrame]

@[simp] theorem base_skipFrame (s : State) (c k : Nat) : (skipFrame s c k).base = s.base := by
  unfold skipFrame
  dsimp only
  split <;> rename_i h <;> simp [base_of_limit h]

@[simp] theorem base_checkScale (s : State) (c : Nat) (i : Nat) (l : Layer) : (checkScale s c i l).base = s.base := by
  unfold checkScale
  dsimp only
  split
  · rfl
  · split
    · rfl
    · split
      · simp
      · split
        · simp
        · split <;> rename_i h <;> simp [base_of_limit h]

@[simp] theorem base_checkScales (s : State) (c : Nat) : (checkScales s c).base = s.base := by simp [checkScales]

@[simp] theorem base_tornBand (s : State) (c k layer : Nat) : (tornBand s c k layer).base = s.base := by
  unfold tornBand
  dsimp only
  split <;> rename_i h <;> simp [base_of_limit h]

@[simp] theorem base_fetchBand (s : State) (c n : Nat) : (fetchBand s c n).base = s.base := by simp [fetchBand]

@[simp] theorem base_composeBand (s : State) (pipe c k : Nat) : (composeBand s pipe c k).base = s.base := by
  unfold composeBand
  dsimp only
  split <;> simp

@[simp] theorem base_composeNext (s : State) (pipe : Nat) : (composeNext s pipe).base = s.base := by
  unfold composeNext
  split
  · rfl
  · split <;> simp

@[simp] theorem base_canvasStopped (s : State) (c : Nat) : (canvasStopped s c).base = s.base := by simp [canvasStopped]
@[simp] theorem base_place (s : State) (b : Placed) : (place s b).base = s.base := by simp [place]

@[simp] theorem base_poisonFetch (s : State) (c i : Nat) (bs : List (Nat × Nat)) : (poisonFetch s c i bs).base = s.base := by
  simp [poisonFetch]

@[simp] theorem base_canvasReserve (s : State) (c : Nat) : (canvasReserve s c).base = s.base := by simp [canvasReserve]
@[simp] theorem base_canvasBegins (s : State) (c : Nat) : (canvasBegins s c).base = s.base := by simp [canvasBegins]

@[simp] theorem base_canvasDrain (s : State) (c : Nat) (ab : Bool) : (canvasDrain s c ab).base = s.base := by
  unfold canvasDrain
  dsimp only
  split <;> simp

@[simp] theorem base_putImage (s : State) (c : Cmd) (m : Image) : (putImage s c m).base = s.base := by simp [putImage]

@[simp] theorem base_imageLoad {go : State → State} (hg : ∀ t, (go t).base = t.base) (c : Cmd) (s : State) : (imageLoad c s go).base = s.base :=
  base_runCmd (fun t => base_checked (base_viaHost hg t) ..) ..

/-! ## Encoding -/

@[simp] theorem base_setEncSet (s : State) (c : Nat) (x : EncSet) : (s.setEncSet c x).base = s.base := by simp [State.base, -base_eta]
@[simp] theorem base_setEncRun (s : State) (c : Nat) (x : EncRun) : (s.setEncRun c x).base = s.base := by simp [State.base, -base_eta]
@[simp] theorem base_beginPic (s : State) (c k layer : Nat) : (beginPic s c k layer).base = s.base := by simp [beginPic]
@[simp] theorem base_sayKeys (s : State) (c k : Nat) (before : Tab Nat) : (sayKeys s c k before).base = s.base := by simp [sayKeys]
@[simp] theorem base_beginPics (s : State) (c k start : Nat) : (beginPics s c k start).base = s.base := by simp [beginPics]

@[simp] theorem base_endPic (s : State) (c k : Nat) (x : PicRun) : (endPic s c k x).base = s.base := by
  unfold endPic
  dsimp only
  split
  · split <;> rename_i h <;> simp [base_of_limit h]
  · simp

@[simp] theorem base_endPics (s : State) (c : Nat) (before : List PicRun) : (endPics s c before).base = s.base := by simp [endPics]

@[simp] theorem base_takeBand (s : State) (n : Nat) (b : Placed) (codes : List BandCode) : (takeBand s n b codes).base = s.base := by
  simp [takeBand]

@[simp] theorem base_encStopped (s : State) (c : Nat) : (encStopped s c).base = s.base := by simp [encStopped]
@[simp] theorem base_passTile (c k : Nat) (s : State) (t : Nat × Nat × Nat) : (passTile c k s t).base = s.base := by simp [passTile]
@[simp] theorem base_pendKeys (s : State) (c mask cause : Nat) : (pendKeys s c mask cause).base = s.base := by simp [pendKeys]
@[simp] theorem base_encReserve (s : State) (c : Nat) : (encReserve s c).base = s.base := by simp [encReserve]
@[simp] theorem base_encBegins (s : State) (c : Nat) : (encBegins s c).base = s.base := by simp [encBegins]
@[simp] theorem base_encDrain (s : State) (c : Nat) (ab : Bool) : (encDrain s c ab).base = s.base := by simp [encDrain]

/-! ## Operands of engines -/

@[simp] theorem base_setEng (s : State) (e : Nat) (x : Engine) : (s.setEng e x).base = s.base := by simp [State.base, -base_eta]
@[simp] theorem base_setRun (s : State) (e : Nat) (r : EngRun) : (s.setRun e r).base = s.base := by simp [State.base, -base_eta]
@[simp] theorem base_setProg (s : State) (e a : Nat) (v : Word) : (s.setProg e a v).base = s.base := by simp [State.base, -base_eta]
@[simp] theorem base_setData (s : State) (e a : Nat) (v : Word) : (s.setData e a v).base = s.base := by simp [State.base, -base_eta]
@[simp] theorem base_setShared (s : State) (e a : Nat) (v : Word) : (s.setShared e a v).base = s.base := by simp [State.base, -base_eta]
@[simp] theorem base_write24 (s : State) (e a : Nat) (v : BitVec 24) : (s.write24 e a v).base = s.base := by simp [State.base, -base_eta]

/-! ## The Domains -/

@[simp] theorem base_clearRegs (s : State) (lo hi : Nat) : (clearRegs s lo hi).base = s.base := by simp [clearRegs]
@[simp] theorem base_clearParlour (s : State) (p : Nat) (keep : Bool) : (clearParlour s p keep).base = s.base := by simp [clearParlour]
@[simp] theorem base_clearDecPipe (s : State) (n : Nat) (keep : Bool) : (clearDecPipe s n keep).base = s.base := by simp [clearDecPipe]
@[simp] theorem base_clearEncPipe (s : State) (n : Nat) (keep : Bool) : (clearEncPipe s n keep).base = s.base := by simp [clearEncPipe]
@[simp] theorem base_clearOrgPipe (s : State) (n : Nat) (keep : Bool) : (clearOrgPipe s n keep).base = s.base := by simp [clearOrgPipe]
@[simp] theorem base_clearQuad (s : State) (q : Nat) (keep : Bool) : (clearQuad s q keep).base = s.base := by simp [clearQuad]
@[simp] theorem base_clearIcehouse (s : State) : (clearIcehouse s).base = s.base := by simp [clearIcehouse]
@[simp] theorem base_clearPair (s : State) (j : Nat) (keep : Bool) : (clearPair s j keep).base = s.base := by simp [clearPair]
@[simp] theorem base_clearBanks (s : State) (g : Nat) (keep : Bool) : (clearBanks s g keep).base = s.base := by simp [clearBanks]
@[simp] theorem base_clearDomain (s : State) (d : Nat) (keep : Bool) : (clearDomain s d keep).base = s.base := by simp [clearDomain]
@[simp] theorem base_clearCommon (s : State) : (clearCommon s).base = s.base := by simp [clearCommon]
@[simp] theorem base_layMemory (s : State) : (layMemory s).base = s.base := by simp [layMemory]
@[simp] theorem base_setKeepers (s : State) : (setKeepers s).base = s.base := by simp [setKeepers]
@[simp] theorem base_loseQuarters (s : State) : (loseQuarters s).base = s.base := by simp [loseQuarters]
@[simp] theorem base_restoreConfig (old s : State) : (restoreConfig old s).base = s.base := rfl

/-! ## The Power -/

@[simp] theorem base_voutAll (s : State) : (voutAll s).base = s.base := by simp [voutAll]
@[simp] theorem base_powerUp (s : State) : (powerUp s).base = s.base := by simp [powerUp]

@[simp] theorem base_gateAdvance (s : State) : (gateAdvance s).base = s.base := by
  unfold gateAdvance
  split <;> simp

@[simp] theorem base_seqAdvance (s : State) : (seqAdvance s).base = s.base := by simp [seqAdvance]
@[simp] theorem base_setWatched (s : State) : (setWatched s).base = s.base := by simp [setWatched]
@[simp] theorem base_setRail (s : State) (r : Nat) (x : Rail) : (s.setRail r x).base = s.base := by simp [State.base, -base_eta]
@[simp] theorem base_setVolt (s : State) (r p : Nat) : (setVolt s r p).base = s.base := by simp [setVolt]
@[simp] theorem base_railTo (s : State) (r p : Nat) : (railTo s r p).base = s.base := by simp [railTo]
@[simp] theorem base_domainStep (s : State) (c : Cmd) : (domainStep s c).2.base = s.base := by simp [domainStep]
@[simp] theorem base_runpointStep (s : State) (c : Cmd) : (runpointStep s c).2.base = s.base := by simp [runpointStep]
@[simp] theorem base_railStep (s : State) (c : Cmd) : (railStep s c).2.base = s.base := by simp [railStep]

@[simp] theorem base_allDomainsOff (s : State) : (allDomainsOff s).base = s.base := by
  unfold allDomainsOff
  exact (base_setPwr rfl rfl).trans (base_foldl (fun s d => base_clearDomain s d true) _ _)

@[simp] theorem base_clearAlarm (s : State) (b : BitVec 5) : (clearAlarm s b).base = s.base := by simp [clearAlarm]
@[simp] theorem base_alarmClearStep (s : State) (c : Cmd) : (alarmClearStep s c).2.base = s.base := by simp [alarmClearStep]
@[simp] theorem base_clampRails (s : State) : (clampRails s).base = s.base := by simp [clampRails]
@[simp] theorem base_sensorRead (s : State) (k : Nat) (t : Int) : (sensorRead s k t).base = s.base := by simp [sensorRead]

/-! ## The Cellar -/

@[simp] theorem base_setChan (s : State) (n : Nat) (c : Chan) : (s.setChan n c).base = s.base := by
  unfold State.setChan
  dsimp only
  repeat' split
  all_goals simp

@[simp] theorem base_countCe (s : State) (n pa : Nat) : (countCe s n pa).base = s.base := by
  unfold countCe
  dsimp only
  split
  · split <;> rename_i h <;> simp [base_of_limit h]
  · simp

@[simp] theorem base_countUe (s : State) (n pa : Nat) (unit : Byte) : (countUe s n pa unit).base = s.base := by simp [countUe]

@[simp] theorem base_poisonRead (s : State) (a : Nat) (u : MemUse) : (poisonRead s a u).base = s.base := by
  unfold poisonRead
  split <;> simp

@[simp] theorem base_readLine (s : State) (n pa : Nat) (unit : Byte) (u : MemUse) : (readLine s n pa unit u).base = s.base := by
  unfold readLine
  dsimp only
  split <;> simp

@[simp] theorem base_inject (s : State) (n beat : Nat) : (inject s n beat).base = s.base := by simp [inject]

@[simp] theorem base_acceptReq (s : State) (n : Nat) (r : MemReq) : (acceptReq s n r).base = s.base := by
  unfold acceptReq
  dsimp only
  repeat' split
  all_goals simp

@[simp] theorem base_scrubStep (s : State) (n : Nat) : (scrubStep s n).base = s.base := by
  unfold scrubStep
  dsimp only
  repeat' split
  all_goals simp

@[simp] theorem base_startTraining (s : State) (n : Nat) (v : Word) : (startTraining s n v).base = s.base := by simp [startTraining]
@[simp] theorem base_setFails (s : State) (n : Nat) (f : BitVec 72) : (setFails s n f).base = s.base := by simp [setFails]

@[simp] theorem base_compareOp (s : State) (n op : Nat) (v : Word) (f : BitVec 72) : (compareOp s n op v f).base = s.base := by
  simp [compareOp]

/-! ## The Boot -/

@[simp] theorem base_bootFail (s : State) (err : Nat) : (bootFail s err).base = s.base := by simp [bootFail]
@[simp] theorem base_imageFail (s : State) (err : Nat) : (imageFail s err).base = s.base := by simp [imageFail]
@[simp] theorem base_tell (n : Nat) (s : State) : (tell n s).base = s.base := by simp [tell]
@[simp] theorem base_verifyImage (s : State) : (verifyImage s).base = s.base := by simp [verifyImage]
@[simp] theorem base_loadGo (s : State) (v : Word) : (loadGo s v).base = s.base := by simp [loadGo]
@[simp] theorem base_programFlash (s : State) (off : Nat) (bs : List Byte) : (programFlash s off bs).base = s.base := by simp [programFlash]
@[simp] theorem base_scrambleFlash (s : State) (off n : Nat) : (scrambleFlash s off n).base = s.base := by simp [scrambleFlash]

@[simp] theorem base_flashWrite {go : State → State} (hg : ∀ t, (go t).base = t.base) (c : Cmd) (s : State) :
    (flashWrite c s go).base = s.base := by
  unfold flashWrite
  refine base_runCmd (fun t => base_checked ?_ ..) ..
  split
  · rfl
  · rw [base_viaHost hg]
    rfl

/-! ## The Dumbwaiter -/

@[simp] theorem base_setSubCfg (s : State) (n : Nat) (x : SubCfg) : (s.setSubCfg n x).base = s.base := by simp [State.base, -base_eta]
@[simp] theorem base_setSub (s : State) (n : Nat) (x : SubRun) : (s.setSub n x).base = s.base := by simp [State.base, -base_eta]
@[simp] theorem base_setSrc (s : State) (k : Nat) (x : SrcRun) : (s.setSrc k x).base = s.base := by simp [State.base, -base_eta]
@[simp] theorem base_setSend (s : State) (l i : Nat) (x : SendRun) : (s.setSend l i x).base = s.base := by simp [State.base, -base_eta]
@[simp] theorem base_setTarget (s : State) (n cause : Nat) (q : Option Nat) : (setTarget s n cause q).base = s.base := by simp [setTarget]

@[simp] theorem base_suspendEvent (s : State) (n est low' : Nat) (on : Bool) : (suspendEvent s n est low' on).base = s.base := by
  simp [suspendEvent]

@[simp] theorem base_putPoint (est cause : Nat) (s : State) (e : Nat × Option (Nat × Nat)) : (putPoint est cause s e).base = s.base := by
  unfold putPoint
  dsimp only
  split <;> simp

@[simp] theorem base_recompute (s : State) (l cause : Nat) : (recompute s l cause).base = s.base := by simp [recompute]
@[simp] theorem base_ladderMoved (s : State) : (ladderMoved s).base = s.base := by simp [ladderMoved]
@[simp] theorem base_peerTarget (s : State) (n : Nat) : (peerTarget s n).base = s.base := by simp [peerTarget]

@[simp] theorem base_askSource (s : State) (n mask cause : Nat) : (askSource s n mask cause).base = s.base := by
  unfold askSource
  dsimp only
  split <;> simp

@[simp] theorem base_noteWait (s : State) (n : Nat) : (noteWait s n).base = s.base := by
  unfold noteWait
  split <;> simp

@[simp] theorem base_passKey (s : State) (l i : Nat) : (passKey s l i).base = s.base := by
  unfold passKey
  split <;> simp

@[simp] theorem base_switchTo (s : State) (n q cause : Nat) (ts : Word) : (switchTo s n q cause ts).base = s.base := by simp [switchTo]
@[simp] theorem base_fall (s : State) (n q : Nat) (ts : Word) : (fall s n q ts).base = s.base := by simp [fall]

@[simp] theorem base_lowerPoint (s : State) (n : Nat) (indep : Bool) (ts : Word) : (lowerPoint s n indep ts).base = s.base := by
  unfold lowerPoint
  dsimp only
  split <;> simp

@[simp] theorem base_raisePoint (s : State) (n : Nat) (indep boundary : Bool) (k : FwdPkt) (p : Nat × Nat) :
    (raisePoint s n indep boundary k p).base = s.base := by
  unfold raisePoint
  dsimp only
  repeat' split
  all_goals simp

@[simp] theorem base_ddBytes (s : State) (k : FwdPkt) (fresh : Bool) : (ddBytes s k fresh).2.base = s.base := by simp [ddBytes]

@[simp] theorem base_reOffset (s : State) (x : SendRun) (from' : Nat × Nat) (restart : Bool) (k : FwdPkt) :
    (reOffset s x from' restart k).2.base = s.base := by simp [reOffset]

@[simp] theorem base_cloneLeg (s : State) (n l i : Nat) (k : FwdPkt) (p : Nat × Nat) : (cloneLeg s n l i k p).base = s.base := by
  unfold cloneLeg
  split <;> simp

@[simp] theorem base_clonePeer (s : State) (n : Nat) (g : SubCfg) (k : FwdPkt) (p : Nat × Nat) : (clonePeer s n g k p).base = s.base := by
  unfold clonePeer
  dsimp only
  repeat' split
  all_goals simp

@[simp] theorem base_serveSub (boundary : Bool) (k : FwdPkt) (acc : Bool × State) (n : Nat) :
    (serveSub boundary k acc n).2.base = acc.2.base := by
  unfold serveSub
  extract_lets s g indep old
  split
  rename_i l t _
  extract_lets p mine s1 s2 s3 s4 x before s5 made old'
  have h4 : s4.base = s.base := by
    have h1 : s1.base = s.base := by
      unfold s1
      rw [base_ite, base_setSub, ite_self]
    have h3 : s3.base = s.base := by
      unfold s3
      rw [base_ite, base_lowerPoint, ite_self]
      exact (base_peerTarget ..).trans h1
    unfold s4
    rw [base_ite, base_noteWait, base_raisePoint, h3, h1, ite_self]
  have h5 : s5.base = s4.base := by
    unfold s5
    rw [base_ite, base_clonePeer, base_cloneLeg, ite_self]
  clear_value s5
  clear_value s4
  change _ = s.base
  rw [← h4]
  split
  · exact base_reachStopped ..
  · split
    · rfl
    · extract_lets ends u
      have hu : u.base = s4.base := (base_setSub ..).trans h5
      split
      · change State.base (ite ..) = _
        rw [base_ite, base_reachStopped, hu, ite_self]
      · split
        · exact base_bump ..
        · rfl

@[simp] theorem base_recordPacket (s : State) (k : FwdPkt) : (recordPacket s k).base = s.base := by simp [recordPacket]

@[simp] theorem base_resend (s : State) (l i : Nat) (p : SentPkt) (payload : Nat) : (resend s l i p payload).base = s.base := by
  unfold resend
  dsimp only
  repeat' split
  all_goals simp

@[simp] theorem base_serveRepair (s : State) (k : FwdPkt) : (serveRepair s k).base = s.base := by
  unfold serveRepair
  refine (base_foldl (fun s w => ?_) _ _).trans (by simp)
  dsimp only
  split <;> simp

@[simp] theorem base_holdPacket (s : State) (k : FwdPkt) : (holdPacket s k).base = s.base := by simp [holdPacket]

@[simp] theorem base_clonePacket (s : State) (k : FwdPkt) : (clonePacket s k).base = s.base := by
  unfold clonePacket
  simp

@[simp] theorem base_wantPacket (s : State) (l i : Nat) (p : SentPkt) : (wantPacket s l i p).base = s.base := by simp [wantPacket]

@[simp] theorem base_serveNack (l i : Nat) (s : State) (q : BitVec 16) : (serveNack l i s q).base = s.base := by
  unfold serveNack
  split <;> simp

@[simp] theorem base_subReserve (s : State) (n : Nat) : (subReserve s n).base = s.base := by simp [subReserve]
@[simp] theorem base_subBegins (s : State) (n : Nat) : (subBegins s n).base = s.base := by simp [subBegins]
@[simp] theorem base_subDrain (s : State) (n : Nat) (ab : Bool) : (subDrain s n ab).base = s.base := by simp [subDrain]

/-! ## Engines: costs and flags -/

@[simp] theorem base_dspCycles (s : State) (ct : Nat) : (dspCycles s ct).2.base = s.base := by simp [dspCycles]

@[simp] theorem base_settle (s : State) (e : Nat) : (settle s e).base = s.base := by
  unfold settle
  split <;> simp

@[simp] theorem base_account (s : State) (e : Nat) (c : Cost) : (account s e c).base = s.base := by simp [account]
@[simp] theorem base_engFault (s : State) (e cause : Nat) : (engFault s e cause).base = s.base := by simp [engFault]
@[simp] theorem base_goOn (s : State) (e : Nat) (x : EngRun) (c : Cost) : (goOn s e x c).base = s.base := by simp [goOn]

@[simp] theorem base_goTo (s : State) (e : Nat) (x : EngRun) (c : Cost) (pc : Nat) (loops : List LoopEnt) :
    (goTo s e x c pc loops).base = s.base := by simp [goTo]

@[simp] theorem base_stallNow (s : State) (e : Nat) : (stallNow s e).base = s.base := by simp [stallNow]

@[simp] theorem base_engOp {go : EngRun → Word → State} {s : State} (hg : ∀ r w, (go r w).base = s.base) (e op : Nat) :
    (engOp s e op go).base = s.base := by
  unfold engOp
  simp [hg]

@[simp] theorem base_engCtl {go : EngRun → Word → State} {s : State} (hg : ∀ r w, (go r w).base = s.base) (e op : Nat) :
    (engCtl s e op go).base = s.base := by
  unfold engCtl
  simp [hg]

/-! ## Engines: instructions -/

@[simp] theorem base_engHalted (s : State) (e cause : Nat) : (engHalted s e cause).base = s.base := by simp [engHalted]
@[simp] theorem base_setFlags (s : State) (e : Nat) (m : BitVec 24) : (setFlags s e m).base = s.base := by simp [setFlags]
@[simp] theorem base_blockFlags (s : State) : (blockFlags s).base = s.base := by simp [blockFlags]
@[simp] theorem base_setTurn (s : State) (p k : Nat) : (s.setTurn p k).base = s.base := by simp [State.setTurn]

@[simp] theorem base_dualMac (s : State) (e : Nat) (r : EngRun) (w : Word) (f : Int → Int → Int) : (dualMac s e r w f).base = s.base := by
  simp [dualMac]

@[simp] theorem base_accAlu (s : State) (e : Nat) (r : EngRun) (w : Word) (f : Int → Int → Int) : (accAlu s e r w f).base = s.base := by
  simp [accAlu]

@[simp] theorem base_wordAlu (s : State) (e : Nat) (r : EngRun) (w : Word) (f : BitVec 24 → BitVec 24 → BitVec 24) :
    (wordAlu s e r w f).base = s.base := by simp [wordAlu]

@[simp] theorem base_branch (s : State) (e : Nat) (r : EngRun) (t : Nat) : (branch s e r t).base = s.base := by simp [branch]
@[simp] theorem base_writeMboxIn (s : State) (e k : Nat) (v : Word) : (writeMboxIn s e k v).base = s.base := by simp [writeMboxIn]
@[simp] theorem base_writeEflags (s : State) (e : Nat) (v : Word) : (writeEflags s e v).base = s.base := by simp [writeEflags]
@[simp] theorem base_zeroEngine (s : State) (e : Nat) : (zeroEngine s e).base = s.base := by simp [zeroEngine]

@[simp] theorem base_engLoad {go : State → State} (hg : ∀ t, (go t).base = t.base) (c : Cmd) (s : State) : (engLoad c s go).base = s.base :=
  base_runCmd (fun t => base_checked (base_viaHost hg t) ..) ..

@[simp] theorem base_loadWords (c : Cmd) (data : List Word) (s : State) : (loadWords c data s).base = s.base := by simp [loadWords]
@[simp] theorem base_engStart (s : State) (e : Nat) : (engStart s e).base = s.base := by simp [engStart]

/-! ## The Icehouse -/

@[simp] theorem base_setSlot (s : State) (n : Nat) (k : KeySlot) : (s.setSlot n k).base = s.base := by simp [State.base, -base_eta]
@[simp] theorem base_ftbKeyWritten (s : State) (n : Nat) : (ftbKeyWritten s n).base = s.base := by simp [ftbKeyWritten]
@[simp] theorem base_endDirect (s : State) (st : Status) : (endDirect s st).base = s.base := by simp [endDirect]
@[simp] theorem base_dropJobs (s : State) (f : Nat → Bool) : (dropJobs s f).base = s.base := by simp [dropJobs]
@[simp] theorem base_endPacket (s : State) (r : JobReq) (st : Status) : (endPacket s r st).base = s.base := by simp [endPacket]
@[simp] theorem base_endJobs (s : State) (f : Nat → Bool) (st : Status) : (endJobs s f st).base = s.base := by simp [endJobs]
@[simp] theorem base_eraseSlot (s : State) (n : Nat) : (eraseSlot s n).2.base = s.base := by simp [eraseSlot]

@[simp] theorem base_commitKey (s : State) (n : Nat) (m : KeyMat) (rocSet : Bool) (roc : Nat) :
    (commitKey s n m rocSet roc).base = s.base := by simp [commitKey]

@[simp] theorem base_keyWriteBody (s : State) (c : Cmd) : (keyWriteBody s c).base = s.base := by
  unfold keyWriteBody
  dsimp only
  repeat' split
  all_goals simp

@[simp] theorem base_keyEraseBody (s : State) (c : Cmd) : (keyEraseBody s c).base = s.base := by
  unfold keyEraseBody
  dsimp only
  repeat' split
  all_goals simp

@[simp] theorem base_keyQueryBody (s : State) (c : Cmd) : (keyQueryBody s c).base = s.base := by simp [keyQueryBody]
@[simp] theorem base_eraseBlock (s : State) : (eraseBlock s).base = s.base := by simp [eraseBlock]

@[simp] theorem base_keyCascadeBody (s : State) (c : Cmd) : (keyCascadeBody s c).base = s.base := by
  unfold keyCascadeBody
  dsimp only
  repeat' split
  all_goals simp

@[simp] theorem base_keyAlarmClearBody (s : State) (c : Cmd) : (keyAlarmClearBody s c).base = s.base := by simp [keyAlarmClearBody]
@[simp] theorem base_keyBody (s : State) (op : BitVec 16) (c : Cmd) : (keyBody s op c).base = s.base := by simp [keyBody]
@[simp] theorem base_iceDenied (s : State) : (iceDenied s).base = s.base := by simp [iceDenied]

@[simp] theorem base_iceArrive (s : State) (op : BitVec 16) (c : Cmd) : (iceArrive s op c).base = s.base := by
  unfold iceArrive
  split <;> simp

@[simp] theorem base_windowFree (s : State) : (windowFree s).base = s.base := by simp [windowFree]
@[simp] theorem base_touchWindow (s : State) (r : Requester) : (touchWindow s r).base = s.base := by simp [touchWindow]

@[simp] theorem base_writeIceLock (s : State) (r : Requester) (v : Word) : (writeIceLock s r v).base = s.base := by
  unfold writeIceLock
  dsimp only
  repeat' split
  all_goals simp

@[simp] theorem base_winStat (s : State) (st : Status) : (winStat s st).base = s.base := by simp [winStat]

@[simp] theorem base_windowOp (s : State) (v : Word) : (windowOp s v).base = s.base := by
  unfold windowOp
  split <;> simp

@[simp] theorem base_startDirect (s : State) (v : Word) : (startDirect s v).base = s.base := by simp [startDirect]

@[simp] theorem base_writeWindow (s : State) (r : Requester) (a : Nat) (v : Word) : (writeWindow s r a v).base = s.base := by
  simp [writeWindow]

@[simp] theorem base_takeIndex (s : State) (r : JobReq) : (takeIndex s r).2.base = s.base := by simp [takeIndex]

@[simp] theorem base_dispatchJob (s : State) (core : Nat) (r : JobReq) : (dispatchJob s core r).base = s.base := by
  unfold dispatchJob
  dsimp only
  repeat' split
  all_goals simp

@[simp] theorem base_endReceive (s : State) (j : IceJob) (x : AuthResult) : (endReceive s j x).base = s.base := by simp [endReceive]
@[simp] theorem base_setRegBytes (s : State) (a : Nat) (bs : List Nat) : (setRegBytes s a bs).base = s.base := by simp [setRegBytes]
@[simp] theorem base_endDirectJob (s : State) (j : IceJob) : (endDirectJob s j).base = s.base := by simp [endDirectJob]

/-! ## Ports -/

@[simp] theorem base_frameSend {go : State → State} (hg : ∀ t, (go t).base = t.base) (c : Cmd) (s : State) : (frameSend c s go).base = s.base :=
  base_runCmd (fun t => base_checked (base_viaHost hg t) ..) ..

@[simp] theorem base_netPunt (s : State) (x : Punt) : (netPunt s x).base = s.base := by simp [netPunt]

@[simp] theorem base_punt (s : State) (p len reason leg : Nat) (stamp : Word) (ptp : Option Rxts) (bs : List Byte) (fail : Bool) :
    (punt s p len reason leg stamp ptp bs fail).2.base = s.base := by simp [punt]

@[simp] theorem base_puntFrame (s : State) (p : Nat) (f : Frame) (reason leg : Nat) (ptp : Option Rxts) :
    (puntFrame s p f reason leg ptp).base = s.base := by simp [puntFrame]

@[simp] theorem base_writePuntHead (s : State) (v : Word) : (writePuntHead s v).base = s.base := by simp [writePuntHead]
@[simp] theorem base_portLink (s : State) (p : Nat) (up : Bool) : (portLink s p up).base = s.base := by simp [portLink]
@[simp] theorem base_dropPortQueues (s : State) (p : Nat) : (dropPortQueues s p).base = s.base := by simp [dropPortQueues]
@[simp] theorem base_linkFalls (s : State) (p : Nat) : (linkFalls s p).base = s.base := by simp [linkFalls]
@[simp] theorem base_portDrained (s : State) (p : Nat) : (portDrained s p).base = s.base := by simp [portDrained]
@[simp] theorem base_portDrain (s : State) (p : Nat) (ab : Bool) : (portDrain s p ab).base = s.base := by simp [portDrain]

@[simp] theorem base_legItem (s : State) (l prio bytes : Nat) : (legItem s l prio bytes).base = s.base := by
  unfold legItem
  split <;> rename_i h <;> simp [base_of_eq h]

@[simp] theorem base_countStray (s : State) (ls : List Nat) : (countStray s ls).base = s.base := by simp [countStray]

@[simp] theorem base_steer (s : State) (p i : Nat) (f : Frame) : (steer s p i f).base = s.base := by
  unfold steer
  dsimp only
  repeat' split
  all_goals simp

@[simp] theorem base_parseDrop (s : State) (p : Nat) : (parseDrop s p).base = s.base := by simp [parseDrop]
@[simp] theorem base_servoAsks (s : State) (two : Bool) : (servoAsks s two).base = s.base := by simp [servoAsks]

@[simp] theorem base_ptpArrives (s : State) (p : Nat) (f : Frame) (eth isEvent : Bool) (addr : Nat) :
    (ptpArrives s p f eth isEvent addr).base = s.base := by
  unfold ptpArrives
  split <;> simp

@[simp] theorem base_parseUdp (s : State) (p : Nat) (f : Frame) : (parseUdp s p f).base = s.base := by
  unfold parseUdp
  split <;> simp

@[simp] theorem base_ftbArrives (s : State) (p : Nat) (f : Frame) : (ftbArrives s p f).base = s.base := by
  unfold ftbArrives
  split
  · simp
  · split
    · rfl
    · split <;> rename_i h <;> simp [base_of_eq h]

@[simp] theorem base_parse (s : State) (p : Nat) (f : Frame) : (parse s p f).base = s.base := by simp [parse]
@[simp] theorem base_countFec (s : State) (p : Nat) (f : Frame) : (countFec s p f).base = s.base := by simp [countFec]

/-! ## The Legs -/

@[simp] theorem base_countL4 (s : State) (l : Nat) : (countL4 s l).base = s.base := by simp [countL4]
@[simp] theorem base_rtcpDraw (s : State) (g : LegCfg) : (rtcpDraw s g).2.base = s.base := by simp [rtcpDraw]
@[simp] theorem base_legEvent (s : State) (code : BitVec 16) (l : Nat) : (legEvent s code l).base = s.base := by simp [legEvent]

@[simp] theorem base_latch (s : State) (l : Nat) (ip : IpAddr) (udp stamp : Nat) : (latch s l ip udp stamp).base = s.base := by
  unfold latch
  split <;> simp

@[simp] theorem base_openStreams (s : State) (l : Nat) : (openStreams s l).base = s.base := by simp [openStreams]

@[simp] theorem base_legOpens (s : State) (l : Nat) : (legOpens s l).base = s.base := by
  unfold legOpens
  split <;> simp

@[simp] theorem base_legCloses (s : State) (l : Nat) : (legCloses s l).base = s.base := by simp [legCloses]
@[simp] theorem base_legDrained (s : State) (l : Nat) : (legDrained s l).base = s.base := by simp [legDrained]
@[simp] theorem base_legDrain (s : State) (l : Nat) (ab : Bool) : (legDrain s l ab).base = s.base := by simp [legDrain]
@[simp] theorem base_legStops (s : State) (l : Nat) : (legStops s l).base = s.base := by simp [legStops]
@[simp] theorem base_unknownPeer (s : State) (q : Stun) (buf : Option Nat) : (unknownPeer s q buf).base = s.base := by simp [unknownPeer]
@[simp] theorem base_stunAnswer (s : State) (l : Nat) (q : Stun) : (stunAnswer s l q).base = s.base := by simp [stunAnswer]

@[simp] theorem base_stunMoves (s : State) (l : Nat) (q : Stun) : (stunMoves s l q).base = s.base := by
  unfold stunMoves
  dsimp only
  split <;> simp

@[simp] theorem base_departLeg (s : State) (l cause : Nat) : (departLeg s l cause).base = s.base := by simp [departLeg]
@[simp] theorem base_heardAt (s : State) (l t : Nat) : (heardAt s l t).base = s.base := by simp [heardAt]
@[simp] theorem base_loseFrame (s : State) (l i : Nat) (due : Nat) : (loseFrame s l i due).base = s.base := by simp [loseFrame]

@[simp] theorem base_playAudio (l i : Nat) (c : StreamCfg) : ∀ (n : Nat) (s : State), (playAudio l i c n s).base = s.base
  | 0, _ => rfl
  | n + 1, s => by
    unfold playAudio
    dsimp only
    split
    · rfl
    · split <;> simp [base_playAudio l i c n]

@[simp] theorem base_playOut (s : State) (l i : Nat) (c : StreamCfg) : (playOut s l i c).base = s.base := by
  exact base_playAudio ..

@[simp] theorem base_loseTo (s : State) (l i e due : Nat) : (loseTo s l i e due).base = s.base := by simp [loseTo]

@[simp] theorem base_commitAudio (s : State) (l i : Nat) (c : StreamCfg) (k : Rtp) (e : Nat) (ts : Int) :
    (commitAudio s l i c k e ts).base = s.base := by simp [commitAudio]

@[simp] theorem base_releaseWhole (l i : Nat) : ∀ (n : Nat) (s : State), (releaseWhole l i n s).base = s.base
  | 0, _ => rfl
  | n + 1, s => by
    unfold releaseWhole
    dsimp only
    split
    · rfl
    · rw [base_releaseWhole l i n]
      split <;> simp

@[simp] theorem base_discardLate (l i : Nat) : ∀ (n : Nat) (s : State), (discardLate l i n s).base = s.base
  | 0, _ => rfl
  | n + 1, s => by
    unfold discardLate
    dsimp only
    split
    · rfl
    · split
      · rfl
      · rw [base_discardLate l i n, base_releaseWhole]
        split <;> simp

@[simp] theorem base_playVideo (s : State) (l i : Nat) : (playVideo s l i).base = s.base := by
  unfold playVideo
  dsimp only
  repeat' split
  all_goals simp

@[simp] theorem base_nackGap (s : State) (l : Nat) (c : StreamCfg) (hi : Option Nat) (e : Nat) : (nackGap s l c hi e).base = s.base := by
  unfold nackGap
  split <;> simp

@[simp] theorem base_commitVideo (s : State) (l i : Nat) (c : StreamCfg) (k : Rtp) (e : Nat) (ts : Int) :
    (commitVideo s l i c k e ts).base = s.base := by simp [commitVideo]

@[simp] theorem base_commitTo (s : State) (l i : Nat) (c : StreamCfg) (k : Rtp) (seq : Nat) : (commitTo s l i c k seq).base = s.base := by
  simp [commitTo]

@[simp] theorem base_unknownSsrc (s : State) (l : Nat) (ssrc : Word) : (unknownSsrc s l ssrc).base = s.base := by
  unfold unknownSsrc
  dsimp only
  split <;> rename_i h <;> simp [base_of_limit h]

@[simp] theorem base_rtpPacket (s : State) (l : Nat) (k : Rtp) : (rtpPacket s l k).base = s.base := by
  unfold rtpPacket
  dsimp only
  repeat' split
  all_goals simp

@[simp] theorem base_armLeg (s : State) (l : Nat) : (armLeg s l).base = s.base := by
  unfold armLeg
  split <;> simp

@[simp] theorem base_legBegins (s : State) (l : Nat) : (legBegins s l).base = s.base := by simp [legBegins]
@[simp] theorem base_estimate (s : State) (l : Nat) (pkts : List FbPkt) : (estimate s l pkts).base = s.base := by simp [estimate]

@[simp] theorem base_rtcpPacket (s : State) (l : Nat) (k : Rtcp) (stamp : Nat) : (rtcpPacket s l k stamp).base = s.base := by
  unfold rtcpPacket
  dsimp only
  repeat' split
  all_goals simp

@[simp] theorem base_rtcpReports (s : State) (l : Nat) (g : LegCfg) : (rtcpReports s l g).base = s.base := by simp [rtcpReports]
@[simp] theorem base_sendCcfb (s : State) (l : Nat) (t : Nat) : (sendCcfb s l t).base = s.base := by simp [sendCcfb]

/-! ## The Footbridge -/

@[simp] theorem base_stopLinks (s : State) : (stopLinks s).base = s.base := by simp [stopLinks]

@[simp] theorem base_ftbDrain (s : State) (ab : Bool) : (ftbDrain s ab).base = s.base := by
  unfold ftbDrain
  extract_lets a b f c
  have hc : c.base = s.base := (base_setFtb ..).trans ((base_foldl (fun s p => base_setPeer ..) _ _).trans (base_stopLinks s))
  rw [← hc]
  clear_value c
  split
  · exact base_reachStopped ..
  · rfl

@[simp] theorem base_linksDrained (s : State) : (linksDrained s).base = s.base := by simp [linksDrained]
@[simp] theorem base_sendBeacon (s : State) (g : FtbCfg) : (sendBeacon s g).base = s.base := by simp [sendBeacon]

@[simp] theorem base_peerArrived (s : State) (p : Nat) (changed : Bool) (uid : Dword) : (peerArrived s p changed uid).base = s.base := by
  simp [peerArrived]

@[simp] theorem base_peerSync (s : State) (p : Nat) (off : Int) (flags : Bool) : (peerSync s p off flags).base = s.base := by
  simp [peerSync]

@[simp] theorem base_peerBeacon (s : State) (g : FtbCfg) (b : Beacon) : (peerBeacon s g b).base = s.base := by simp [peerBeacon]

@[simp] theorem base_idConflict (s : State) (b : Beacon) : (idConflict s b).base = s.base := by
  unfold idConflict
  split <;> rename_i h <;> simp [base_of_limit h]

@[simp] theorem base_authFail (s : State) (p : Nat) : (authFail s p).base = s.base := by simp [authFail]
@[simp] theorem base_holdMix (s : State) (m : MixFrame) : (holdMix s m).base = s.base := by simp [holdMix]

/-! ## The Hatches -/

@[simp] theorem base_setBankRun (s : State) (b : Nat) (x : BankRun) : (s.setBankRun b x).base = s.base := by simp [State.base, -base_eta]
@[simp] theorem base_setHatch (s : State) (h : Nat) (x : Hatch) : (s.setHatch h x).base = s.base := by simp [State.base, -base_eta]

@[simp] theorem base_countUnder (s : State) (h n : Nat) : (countUnder s h n).base = s.base := by
  unfold countUnder
  dsimp only
  split
  · rfl
  · split <;> rename_i h <;> simp [base_of_limit h]

@[simp] theorem base_markLost (s : State) (b : Nat) (ks : List Nat) : (markLost s b ks).base = s.base := by simp [markLost]
@[simp] theorem base_closeRx (s : State) (h stop : Nat) (isPart : Bool) : (closeRx s h stop isPart).base = s.base := by simp [closeRx]

@[simp] theorem base_dropRx (s : State) (h : Nat) : (dropRx s h).base = s.base := by
  unfold dropRx
  dsimp only
  split <;> rename_i h <;> simp [base_of_limit h]

@[simp] theorem base_to48 (s : State) (hz p b first : Nat) (vs : List Int) : (to48 s hz p b first vs).2.2.base = s.base := by
  unfold to48
  split <;> simp

@[simp] theorem base_commitBlock (s : State) (h b : Nat) : (commitBlock s h b).base = s.base := by simp [commitBlock]

@[simp] theorem base_feedLeg (s : State) (h slot l : Nat) (d : RxDue) (vs : List Int) : (feedLeg s h slot l d vs).base = s.base := by
  simp [feedLeg]

@[simp] theorem base_countTx (s : State) (h off : Nat) : (countTx s h off).base = s.base := by simp [countTx]
@[simp] theorem base_passHead (s : State) (h : Nat) (g : HatRing) : (passHead s h g).base = s.base := by simp [passHead]

@[simp] theorem base_takeTx (h : Nat) (g : HatRing) (b : Nat) : ∀ (f : Nat) (s : State) (l : List TxHdr),
    (takeTx f s h g b l).2.base = s.base
  | 0, _, _ => rfl
  | f + 1, s, l => by
    unfold takeTx
    dsimp only
    split
    · rfl
    · split <;> simp [base_takeTx h g b f]

@[simp] theorem base_blockTx (s : State) (h b : Nat) (hdrs : List TxHdr) (fail : Bool) : (blockTx s h b hdrs fail).2.base = s.base := by
  unfold blockTx
  dsimp only
  repeat' split
  all_goals simp

@[simp] theorem base_flushTx (s : State) (h stop : Nat) : (flushTx s h stop).base = s.base := by simp [flushTx]
@[simp] theorem base_flushClocks (s : State) (bk stop : Nat) : (flushClocks s bk stop).base = s.base := by simp [flushClocks]
@[simp] theorem base_closeBlock (s : State) (h b : Nat) : (closeBlock s h b).base = s.base := by simp [closeBlock]

@[simp] theorem base_writeRxHead (s : State) (h : Nat) (v : Word) : (writeRxHead s h v).base = s.base := by
  unfold writeRxHead
  split <;> simp

@[simp] theorem base_writeTxTail (s : State) (h : Nat) (v : Word) : (writeTxTail s h v).base = s.base := by
  unfold writeTxTail
  dsimp only
  split <;> simp

@[simp] theorem base_writeMask (s : State) (h off : Nat) (v : Word) : (writeMask s h off v).base = s.base := by simp [writeMask]

@[simp] theorem base_maskGo (s : State) (h : Nat) (rx tx : Bool) (land : Nat) (cmds : List Cmd) :
    (maskGo s h rx tx land cmds).base = s.base := by simp [maskGo]

@[simp] theorem base_finishMasks (r0 : Word) : ∀ (l : List Cmd) (s : State), (finishMasks r0 l s).base = s.base
  | [], _ => rfl
  | c :: r, s => (base_finishMasks r0 r _).trans (base_complete ..)

@[simp] theorem base_cutMasks (s : State) (h : Nat) (m : Word) : (cutMasks s h m).base = s.base := by simp [cutMasks]

@[simp] theorem base_freshHatches (s : State) (b first : Nat) (part : Bool) : (freshHatches s b first part).base = s.base := by
  simp [freshHatches]

@[simp] theorem base_bankStart (s : State) (b : Nat) : (bankStart s b).base = s.base := by simp [bankStart]
@[simp] theorem base_bankDrain (s : State) (b : Nat) (ab : Bool) : (bankDrain s b ab).base = s.base := by simp [bankDrain]

@[simp] theorem base_bankStopped (s : State) (b : Nat) : (bankStopped s b).base = s.base := by
  unfold bankStopped
  extract_lets r p
  split
  · rfl
  · rename_i t _
    extract_lets n s1 s2 s3 s4 s5 s6
    have h2 : s2.base = s.base := by
      have h1 : s1.base = s.base := by
        unfold s1
        rw [base_ite, base_foldl fun t h => (base_closeRx ..).trans (base_flushTx ..), ite_self]
      exact (base_flushClocks ..).trans h1
    have h4 : s4.base = s.base := by
      unfold s4
      rw [base_ite, base_setOut, base_setOut, h2, ite_self]
    have h5 : s5.base = s4.base := by
      refine base_foldl (fun t h => ?_) _ _
      dsimp only
      split <;> simp
    rw [base_ite, base_reachStopped]
    have h6 : s6.base = s.base := (base_setBankRun ..).trans (h5.trans h4)
    rw [h6, ite_self]

@[simp] theorem base_partnerLeaves (s : State) (b first : Nat) : (partnerLeaves s b first).base = s.base := by simp [partnerLeaves]

@[simp] theorem base_partnerArrives (s : State) (b t n : Nat) (good : Bool) : (partnerArrives s b t n good).base = s.base := by
  simp [partnerArrives]

@[simp] theorem base_partnerGoesOn (s : State) (b q : Nat) : (partnerGoesOn s b q).base = s.base := by simp [partnerGoesOn]

/-! ## The Objects -/

@[simp] theorem base_confBegins (s : State) (c : Nat) : (confBegins s c).base = s.base := by simp [confBegins]

@[simp] theorem base_confStopped (s : State) (c : Nat) : (confStopped s c).base = s.base := by
  unfold confStopped
  dsimp only
  split <;> simp

@[simp] theorem base_confDrain (s : State) (c : Nat) (ab : Bool) : (confDrain s c ab).base = s.base := by simp [confDrain]

@[simp] theorem base_onHatch (s : State) (op : BitVec 16) (c : Cmd) (wrong : Bool) (reserved : Nat) :
    (onHatch s op c wrong reserved).base = s.base := by
  unfold onHatch
  simp

@[simp] theorem base_slotUndo (s : State) (k : Nat) : (slotUndo s k).base = s.base := by simp [slotUndo]
@[simp] theorem base_encUndo (s : State) (c : Nat) : (encUndo s c).base = s.base := by simp [encUndo]

@[simp] theorem base_grant {begins undo : State → State} (hb : ∀ t, (begins t).base = t.base) (hu : ∀ t, (undo t).base = t.base)
    (s : State) (range num : Nat) (l : List (Bool × Status)) : (grant s range num l begins undo).base = s.base := by
  unfold grant
  split
  · split <;> simp [hb, hu]
  · rfl

@[simp] theorem base_drainEnd {stop : State → State} (hs : ∀ t, (stop t).base = t.base) (s : State) (range num : Nat) (done : Bool) :
    (drainEnd s range num done stop).base = s.base := by
  unfold drainEnd
  simp [hs]

/-! ## The Porch -/

@[simp] theorem base_takeTurn (s : State) (n : Nat) : (takeTurn s n).base = s.base := by simp [takeTurn]

@[simp] theorem base_queueError (s : State) (isCq : Bool) (n : Nat) (e : PcieErr) : (queueError s isCq n e).base = s.base := by
  simp [queueError]

@[simp] theorem base_settleBad (s : State) : (settleBad s).base = s.base := by
  unfold settleBad
  refine base_foldl (fun s f => ?_) _ _
  split <;> simp

@[simp] theorem base_retire (s : State) (e : Entry) : (retire s e).base = s.base := by
  unfold retire
  split <;> simp

@[simp] theorem base_loseEvent (s : State) (n : Nat) : (loseEvent s n).base = s.base := by simp [loseEvent]
@[simp] theorem base_sendEventsLost (s : State) (n : Nat) : (sendEventsLost s n).base = s.base := by simp [sendEventsLost]
@[simp] theorem base_writeEventsLost (s : State) (n : Nat) : (writeEventsLost s n).base = s.base := by simp [writeEventsLost]

@[simp] theorem base_deliverEvent (s : State) (err : Option PcieErr) (e : Entry) : (deliverEvent s err e).base = s.base := by
  unfold deliverEvent
  dsimp only
  repeat' split
  all_goals simp

@[simp] theorem base_doorbellWake (s : State) : (doorbellWake s).base = s.base := by simp [doorbellWake]
@[simp] theorem base_writeSqTail (s : State) (n : Nat) (v : Word) : (writeSqTail s n v).base = s.base := by simp [writeSqTail]
@[simp] theorem base_writeCqHead (s : State) (n : Nat) (v : Word) : (writeCqHead s n v).base = s.base := by simp [writeCqHead]
@[simp] theorem base_writeSqCfg (s : State) (n : Nat) (v : Word) : (writeSqCfg s n v).base = s.base := by simp [writeSqCfg]
@[simp] theorem base_writeCqCfg (s : State) (n : Nat) (v : Word) : (writeCqCfg s n v).base = s.base := by simp [writeCqCfg]
@[simp] theorem base_abandonLoad (s : State) : (abandonLoad s).base = s.base := by simp [abandonLoad]
@[simp] theorem base_trainLink (s : State) : (trainLink s).base = s.base := by simp [trainLink]
@[simp] theorem base_setLink (s : State) (l : Link) : (setLink s l).base = s.base := by simp [setLink]
@[simp] theorem base_sendKept (s : State) : (sendKept s).base = s.base := by simp [sendKept]

/-! ## Registers -/

@[simp] theorem base_clearRc (s : State) (a : Nat) : (clearRc s a).base = s.base := by simp [clearRc]
@[simp] theorem base_latchHigh (s : State) (a : Nat) : (latchHigh s a).base = s.base := by simp [latchHigh]

@[simp] theorem base_settled (s : State) (a : Nat) : (settled s a).base = s.base := by
  unfold settled
  split <;> simp

@[simp] theorem base_setBounded (s : State) (a : Nat) (v : Word) (ok : Bool) (mask : Word) : (setBounded s a v ok mask).base = s.base := by
  simp [setBounded]

@[simp] theorem base_writeBase (s : State) (isCq : Bool) (n a : Nat) (v : Word) : (writeBase s isCq n a v).base = s.base := by
  simp [writeBase]

@[simp] theorem base_writePorch (s : State) (a : Nat) (v : Word) : (writePorch s a v).base = s.base := by
  unfold writePorch
  dsimp only
  repeat' split
  all_goals simp

@[simp] theorem base_writeHall (s : State) (a : Nat) (v : Word) : (writeHall s a v).base = s.base := by simp [writeHall]
@[simp] theorem base_writePantry (s : State) (a : Nat) (v : Word) : (writePantry s a v).base = s.base := by simp [writePantry]
@[simp] theorem base_writeMrs (s : State) (n : Nat) (v : Word) : (writeMrs s n v).base = s.base := by simp [writeMrs]
@[simp] theorem base_writeBlv (s : State) (a : Nat) (v : Word) : (writeBlv s a v).base = s.base := by simp [writeBlv]

@[simp] theorem base_writeParlour (s : State) (a : Nat) (v : Word) : (writeParlour s a v).base = s.base := by
  unfold writeParlour
  dsimp only
  repeat' split
  all_goals simp

@[simp] theorem base_writeHat (s : State) (a : Nat) (v : Word) : (writeHat s a v).base = s.base := by
  unfold writeHat
  extract_lets o h
  clear_value o h
  split
  · split <;> simp
  · rfl

/-! ## Host transfers -/

@[simp] theorem base_snapClear (s : State) (mask : Word) (n : Nat) : (snapClear s mask n).base = s.base := by simp [snapClear]

@[simp] theorem base_telem {go : State → State} (hg : ∀ t, (go t).base = t.base) (c : Cmd) (s : State) : (telem c s go).base = s.base := by
  unfold telem
  refine base_runCmd (fun t => base_checked ?_ ..) ..
  split
  · rfl
  · rw [base_viaHost hg]
    rfl

@[simp] theorem base_telemCopy (c : Cmd) (n : Nat) (s : State) : (telemCopy c n s).base = s.base := by simp [telemCopy]
@[simp] theorem base_freeWords (s : State) (n : Nat) : (freeWords s n).2.base = s.base := by simp [freeWords]
@[simp] theorem base_partWritten (s : State) (n : Nat) : (partWritten s n).2.base = s.base := by simp [partWritten]
@[simp] theorem base_hostDma (op : BitVec 16) (c : Cmd) (s : State) : (hostDma op c s).base = s.base := by simp [hostDma]

/-! ## An idle cycle -/

@[simp] theorem base_tickQueues (s : State) : (tickQueues s).base = s.base := by simp [tickQueues]
@[simp] theorem base_tickBases (s : State) : (tickBases s).base = s.base := by simp [tickBases]
@[simp] theorem base_tick (s : State) : (tick s).base = s.base := by simp [tick]

end Sys2Proof.Machine
end

section
/-!
PROOF. Commands and events that leave what the invariant reads.
-/
namespace Sys2Proof.Machine

open Host

/-- What the invariant reads of a next state. -/
def nextBase : Outcome State Fault Refusal → Option (List Instr × Tab Byte × Tab (List Nat) × Nat × Option (Nat × Nat))
  | .next s => some s.base
  | _ => none

@[simp] theorem nextBase_next (s : State) : nextBase (.next s) = some s.base := rfl

@[simp] theorem nextBase_ite (c : Prop) [Decidable c] (a b : Outcome State Fault Refusal) :
    nextBase (if c then a else b) = if c then nextBase a else nextBase b :=
  apply_ite ..

@[simp] theorem nextBase_porchWrite {go : State → State} (hg : ∀ t, (go t).base = t.base) (s : State) :
    nextBase (porchWrite s go) = some s.base := by
  unfold porchWrite
  simp [hg]

/-! ## The Pantry -/

@[simp] theorem nextBase_execPacketWordWrite (p : Producer) (b : Bound) (s : State) :
    nextBase (execPacketWordWrite p b s) = some s.base := by
  unfold execPacketWordWrite
  split <;> simp

@[simp] theorem nextBase_execPacketCommit (p : Producer) (last : Fin 8) (info : PktInfo) (s : State) :
    nextBase (execPacketCommit p last info s) = some s.base := by
  unfold execPacketCommit
  split
  · rfl
  · split
    · rfl
    · split <;> rename_i h <;> simp [base_of_eq h]

@[simp] theorem nextBase_execCommitLoose (p : Producer) (last : Fin 8) (s : State) : nextBase (execCommitLoose p last s) = some s.base := by
  unfold execCommitLoose
  split
  · rfl
  · split
    · rfl
    · split <;> rename_i h <;> simp [base_of_eq h]

@[simp] theorem nextBase_execCloseBad (p : Producer) (s : State) : nextBase (execCloseBad p s) = some s.base := by simp [execCloseBad]

@[simp] theorem nextBase_execEnqueue (h : Nat) (q : Fin 33792) (info : PktInfo) (s : State) :
    nextBase (execEnqueue h q info s) = some s.base := by
  unfold execEnqueue
  split <;> simp

@[simp] theorem nextBase_execHandleRelease (h : Nat) (s : State) : nextBase (execHandleRelease h s) = some s.base := by
  simp [execHandleRelease]

@[simp] theorem nextBase_execMark (p : Producer) (s : State) : nextBase (execMark p s) = some s.base := by
  unfold execMark
  split <;> simp

@[simp] theorem nextBase_execWrewind (p : Producer) (s : State) : nextBase (execWrewind p s) = some s.base := by
  unfold execWrewind
  dsimp only
  repeat' split
  all_goals simp

@[simp] theorem nextBase_execRead (q : Fin 33792) (s : State) : nextBase (execRead q s) = some s.base := by
  unfold execRead
  dsimp only
  split <;> simp

@[simp] theorem nextBase_execQueueMark (q : Fin 33792) (s : State) : nextBase (execQueueMark q s) = some s.base := by simp [execQueueMark]

@[simp] theorem nextBase_execRewind (q : Fin 33792) (s : State) : nextBase (execRewind q s) = some s.base := by
  unfold execRewind
  dsimp only
  split <;> simp

@[simp] theorem nextBase_execRelease (q : Fin 33792) (s : State) : nextBase (execRelease q s) = some s.base := by simp [execRelease]
@[simp] theorem nextBase_execUnmark (q : Fin 33792) (s : State) : nextBase (execUnmark q s) = some s.base := by simp [execUnmark]

/-! ## The Hall -/

@[simp] theorem nextBase_execHallTimeout (f : Fin 65536) (s : State) : nextBase (execHallTimeout f s) = some s.base := by
  unfold execHallTimeout
  split <;> simp

@[simp] theorem nextBase_execPriorityPromotion (g : Fin 5) (s : State) : nextBase (execPriorityPromotion g s) = some s.base := by
  unfold execPriorityPromotion
  split <;> simp

@[simp] theorem nextBase_execFlowHoldOver (f : Fin 65536) (s : State) : nextBase (execFlowHoldOver f s) = some s.base := by
  unfold execFlowHoldOver
  dsimp only
  split <;> simp

@[simp] theorem nextBase_execLadderForceWrite (r : Requester) (v : Word) (s : State) :
    nextBase (execLadderForceWrite r v s) = some s.base := by simp [execLadderForceWrite]

@[simp] theorem nextBase_execLadderThresholdWrite (r : Requester) (n : Fin 4) (v : Word) (s : State) :
    nextBase (execLadderThresholdWrite r n v s) = some s.base := by simp [execLadderThresholdWrite]

/-! ## The Belvedere -/

@[simp] theorem nextBase_execTimeArm (c : Cmd) (s : State) : nextBase (execTimeArm c s) = some s.base := by simp [execTimeArm]
@[simp] theorem nextBase_execTimeStep (c : Cmd) (s : State) : nextBase (execTimeStep c s) = some s.base := by simp [execTimeStep]
@[simp] theorem nextBase_execTimeRate (c : Cmd) (s : State) : nextBase (execTimeRate c s) = some s.base := by simp [execTimeRate]
@[simp] theorem nextBase_execTimeRead (c : Cmd) (s : State) : nextBase (execTimeRead c s) = some s.base := by simp [execTimeRead]
@[simp] theorem nextBase_execTimeTb0Lock (c : Cmd) (s : State) : nextBase (execTimeTb0Lock c s) = some s.base := by simp [execTimeTb0Lock]

@[simp] theorem nextBase_execRelockSlewDone (s : State) : nextBase (execRelockSlewDone s) = some s.base := by
  unfold execRelockSlewDone
  dsimp only
  split <;> simp

@[simp] theorem nextBase_execTimePortComp (c : Cmd) (s : State) : nextBase (execTimePortComp c s) = some s.base := by
  simp [execTimePortComp]

@[simp] theorem nextBase_execTxtsPop (r : Requester) (v : Word) (s : State) : nextBase (execTxtsPop r v s) = some s.base := by
  simp [execTxtsPop]

@[simp] theorem nextBase_execBaseLatch (r : Requester) (v : Word) (s : State) : nextBase (execBaseLatch r v s) = some s.base := by
  simp [execBaseLatch]

@[simp] theorem nextBase_execTimePin (c : Cmd) (s : State) : nextBase (execTimePin c s) = some s.base := by simp [execTimePin]

@[simp] theorem nextBase_execCaptureEdge (k : Fin 8) (rising : Bool) (s : State) : nextBase (execCaptureEdge k rising s) = some s.base := by
  simp [execCaptureEdge]

@[simp] theorem nextBase_execSoftwareStamp (k : Fin 8) (s : State) : nextBase (execSoftwareStamp k s) = some s.base := by
  unfold execSoftwareStamp
  dsimp only
  split <;> simp

@[simp] theorem nextBase_execTriggerEdge (k : Fin 8) (s : State) : nextBase (execTriggerEdge k s) = some s.base := by simp [execTriggerEdge]
@[simp] theorem nextBase_execTimeServo (c : Cmd) (s : State) : nextBase (execTimeServo c s) = some s.base := by simp [execTimeServo]

/-! ## The Pergola -/

@[simp] theorem nextBase_execPortFrameStart (p : Fin 8) (fine : Fin 64) (s : State) :
    nextBase (execPortFrameStart p fine s) = some s.base := by simp [execPortFrameStart]

@[simp] theorem nextBase_execLaunchReached (p : Fin 8) (s : State) : nextBase (execLaunchReached p s) = some s.base := by
  unfold execLaunchReached
  dsimp only
  repeat' split
  all_goals simp

@[simp] theorem nextBase_execQueueSample (s : State) : nextBase (execQueueSample s) = some s.base := by
  unfold execQueueSample
  extract_lets b t u
  have ht : t.base = s.base := base_foldl (fun v q => base_sampleQueue ..) _ _
  have hu : u.base = t.base := base_foldl (fun v n => base_foldl (fun w k => base_sampleQueue ..) _ _) _ _
  split
  · rfl
  · exact congrArg some ((base_setPrg ..).trans (hu.trans ht))

@[simp] theorem nextBase_execPrgLegShape (c : Cmd) (s : State) : nextBase (execPrgLegShape c s) = some s.base := by simp [execPrgLegShape]
@[simp] theorem nextBase_execPrgLegQueue (c : Cmd) (s : State) : nextBase (execPrgLegQueue c s) = some s.base := by simp [execPrgLegQueue]
@[simp] theorem nextBase_execPrgPolice (c : Cmd) (s : State) : nextBase (execPrgPolice c s) = some s.base := by simp [execPrgPolice]

@[simp] theorem nextBase_execPrgPortConfig (c : Cmd) (s : State) : nextBase (execPrgPortConfig c s) = some s.base := by
  simp [execPrgPortConfig]

@[simp] theorem nextBase_execPrgPortShape (c : Cmd) (s : State) : nextBase (execPrgPortShape c s) = some s.base := by
  simp [execPrgPortShape]

@[simp] theorem nextBase_execPrgLegStats (c : Cmd) (s : State) : nextBase (execPrgLegStats c s) = some s.base := by simp [execPrgLegStats]

@[simp] theorem nextBase_execPrgPortStats (c : Cmd) (s : State) : nextBase (execPrgPortStats c s) = some s.base := by
  simp [execPrgPortStats]

/-! ## The Bandstand -/

@[simp] theorem nextBase_execAudioEncodeDone (n : Fin 1024) (output bytes : Nat) (s : State) :
    nextBase (execAudioEncodeDone n output bytes s) = some s.base := by
  unfold execAudioEncodeDone
  dsimp only
  split <;> simp

@[simp] theorem nextBase_execAudioDecodeDone (l : Fin 8192) (samples : List (Int × Int)) (concealed : Bool) (s : State) :
    nextBase (execAudioDecodeDone l samples concealed s) = some s.base := by
  unfold execAudioDecodeDone
  dsimp only
  repeat' split
  all_goals simp

@[simp] theorem nextBase_execConfConfig (c : Cmd) (s : State) : nextBase (execConfConfig c s) = some s.base := by simp [execConfConfig]
@[simp] theorem nextBase_execConfFormat (c : Cmd) (s : State) : nextBase (execConfFormat c s) = some s.base := by simp [execConfFormat]

@[simp] theorem nextBase_execRouteLoad (c : Cmd) (s : State) : nextBase (execRouteLoad c s) = some s.base := by
  unfold execRouteLoad
  refine congrArg some (base_runCmd (fun t => base_checked ?_ ..) ..)
  dsimp only
  split <;> simp

@[simp] theorem nextBase_execRouteCopy (c : Cmd) (s : State) : nextBase (execRouteCopy c s) = some s.base := by simp [execRouteCopy]
@[simp] theorem nextBase_execRouteSwap (c : Cmd) (s : State) : nextBase (execRouteSwap c s) = some s.base := by simp [execRouteSwap]
@[simp] theorem nextBase_execConfStats (c : Cmd) (s : State) : nextBase (execConfStats c s) = some s.base := by simp [execConfStats]

/-! ## The Bellboard -/

@[simp] theorem nextBase_execSourcePulse (n : Fin 1024) (s : State) : nextBase (execSourcePulse n s) = some s.base := by
  simp [execSourcePulse]

@[simp] theorem nextBase_execPendSet (r : Requester) (v : Word) (s : State) : nextBase (execPendSet r v s) = some s.base := by
  simp [execPendSet]

@[simp] theorem nextBase_execPendClear (r : Requester) (v : Word) (s : State) : nextBase (execPendClear r v s) = some s.base := by
  simp [execPendClear]

@[simp] theorem nextBase_execTargetDisableWrite (r : Requester) (t : Fin 21) (v : Word) (s : State) :
    nextBase (execTargetDisableWrite r t v s) = some s.base := by simp [execTargetDisableWrite]

@[simp] theorem nextBase_execSourceConfigWrite (r : Requester) (n : Fin 1024) (v : Word) (s : State) :
    nextBase (execSourceConfigWrite r n v s) = some s.base := by simp [execSourceConfigWrite]

@[simp] theorem nextBase_execWatchWrite (r : Requester) (w : Fin 64) (v : Word) (s : State) :
    nextBase (execWatchWrite r w v s) = some s.base := by simp [execWatchWrite]

@[simp] theorem nextBase_execErrorReport (n : Fin 1024) (sev : Severity) (i0 i1 : Word) (s : State) :
    nextBase (execErrorReport n sev i0 i1 s) = some s.base := by simp [execErrorReport]

@[simp] theorem nextBase_execAlertNAssert (s : State) : nextBase (execAlertNAssert s) = some s.base := by simp [execAlertNAssert]

@[simp] theorem nextBase_execErrDone (r : Requester) (v : Word) (s : State) : nextBase (execErrDone r v s) = some s.base := by
  simp [execErrDone]

@[simp] theorem nextBase_execErrInject (r : Requester) (v : Word) (s : State) : nextBase (execErrInject r v s) = some s.base := by
  simp [execErrInject]

@[simp] theorem nextBase_execLogPop (r : Requester) (v : Word) (s : State) : nextBase (execLogPop r v s) = some s.base := by
  simp [execLogPop]

/-! ## Decoding -/

@[simp] theorem nextBase_execDecodeBandBoundary (pipe : Fin 24) (o : BandObs) (s : State) :
    nextBase (execDecodeBandBoundary pipe o s) = some s.base := by
  unfold execDecodeBandBoundary
  dsimp only
  repeat' split
  all_goals simp

@[simp] theorem nextBase_execBandFinal (k : Fin 384) (s : State) : nextBase (execBandFinal k s) = some s.base := by
  unfold execBandFinal
  dsimp only
  split <;> simp

@[simp] theorem nextBase_execPictureCompleteFence (k : Fin 384) (s : State) : nextBase (execPictureCompleteFence k s) = some s.base := by
  unfold execPictureCompleteFence
  split <;> simp

@[simp] theorem nextBase_execKeyreqRepeat (k : Fin 384) (s : State) : nextBase (execKeyreqRepeat k s) = some s.base := by
  unfold execKeyreqRepeat
  dsimp only
  split <;> simp

@[simp] theorem nextBase_execFreezeTimeout (k : Fin 384) (s : State) : nextBase (execFreezeTimeout k s) = some s.base := by
  simp [execFreezeTimeout]

@[simp] theorem nextBase_execDecConfig (c : Cmd) (s : State) : nextBase (execDecConfig c s) = some s.base := by simp [execDecConfig]
@[simp] theorem nextBase_execDecKeyreq (c : Cmd) (s : State) : nextBase (execDecKeyreq c s) = some s.base := by simp [execDecKeyreq]
@[simp] theorem nextBase_execDecStats (c : Cmd) (s : State) : nextBase (execDecStats c s) = some s.base := by simp [execDecStats]

@[simp] theorem nextBase_execDecPipeStats (c : Cmd) (s : State) : nextBase (execDecPipeStats c s) = some s.base := by
  simp [execDecPipeStats]

/-! ## The Orangery -/

@[simp] theorem nextBase_execCanvasFrameStart (n : Fin 96) (s : State) : nextBase (execCanvasFrameStart n s) = some s.base := by
  unfold execCanvasFrameStart
  split <;> simp

@[simp] theorem nextBase_execBandRelease (n : Fin 96) (s : State) : nextBase (execBandRelease n s) = some s.base := by
  unfold execBandRelease
  dsimp only
  split <;> simp

@[simp] theorem nextBase_execBandCompose (pipe : Fin 4) (s : State) : nextBase (execBandCompose pipe s) = some s.base := by
  simp [execBandCompose]

@[simp] theorem nextBase_execBandWaitExpiry (n : Fin 96) (s : State) : nextBase (execBandWaitExpiry n s) = some s.base := by
  unfold execBandWaitExpiry
  dsimp only
  split <;> simp

@[simp] theorem nextBase_execBandPlaced (pipe : Fin 4) (s : State) : nextBase (execBandPlaced pipe s) = some s.base := by
  unfold execBandPlaced
  split <;> simp

@[simp] theorem nextBase_execOrgCanvasConfig (c : Cmd) (s : State) : nextBase (execOrgCanvasConfig c s) = some s.base := by
  simp [execOrgCanvasConfig]

@[simp] theorem nextBase_execOrgLayerStage (c : Cmd) (s : State) : nextBase (execOrgLayerStage c s) = some s.base := by
  simp [execOrgLayerStage]

@[simp] theorem nextBase_execOrgCommit (c : Cmd) (s : State) : nextBase (execOrgCommit c s) = some s.base := by
  unfold execOrgCommit
  refine congrArg some (base_runCmd (fun t => base_checked ?_ ..) ..)
  dsimp only
  split <;> simp

@[simp] theorem nextBase_execOrgFenceSignal (c : Cmd) (s : State) : nextBase (execOrgFenceSignal c s) = some s.base := by
  simp [execOrgFenceSignal]

@[simp] theorem nextBase_execOrgImageLoad (c : Cmd) (bytes : List Byte) (s : State) :
    nextBase (execOrgImageLoad c bytes s) = some s.base := by simp [execOrgImageLoad]

@[simp] theorem nextBase_execOrgImageFree (c : Cmd) (s : State) : nextBase (execOrgImageFree c s) = some s.base := by
  simp [execOrgImageFree]

@[simp] theorem nextBase_execOrgStats (c : Cmd) (s : State) : nextBase (execOrgStats c s) = some s.base := by simp [execOrgStats]

/-! ## Encoding -/

@[simp] theorem nextBase_execBandEncodeStart (pipe : Fin 12) (codes : List BandCode) (s : State) :
    nextBase (execBandEncodeStart pipe codes s) = some s.base := by
  unfold execBandEncodeStart
  split
  · rfl
  · split <;> simp

@[simp] theorem nextBase_execBandCoded (pipe : Fin 12) (s : State) : nextBase (execBandCoded pipe s) = some s.base := by
  unfold execBandCoded
  split <;> simp

@[simp] theorem nextBase_execKeyIntervalExpiry (n : Fin 96) (s : State) : nextBase (execKeyIntervalExpiry n s) = some s.base := by
  simp [execKeyIntervalExpiry]

@[simp] theorem nextBase_execEncodeDrainTimeout (n : Fin 96) (s : State) : nextBase (execEncodeDrainTimeout n s) = some s.base := by
  simp [execEncodeDrainTimeout]

@[simp] theorem nextBase_execEncConfig (c : Cmd) (s : State) : nextBase (execEncConfig c s) = some s.base := by simp [execEncConfig]
@[simp] theorem nextBase_execEncLayer (c : Cmd) (s : State) : nextBase (execEncLayer c s) = some s.base := by simp [execEncLayer]
@[simp] theorem nextBase_execEncStream (c : Cmd) (s : State) : nextBase (execEncStream c s) = some s.base := by simp [execEncStream]
@[simp] theorem nextBase_execEncKeyreq (c : Cmd) (s : State) : nextBase (execEncKeyreq c s) = some s.base := by simp [execEncKeyreq]
@[simp] theorem nextBase_execEncStats (c : Cmd) (s : State) : nextBase (execEncStats c s) = some s.base := by simp [execEncStats]

@[simp] theorem nextBase_execEncPipeStats (c : Cmd) (s : State) : nextBase (execEncPipeStats c s) = some s.base := by
  simp [execEncPipeStats]

/-! ## The Power -/

@[simp] theorem nextBase_execPorstNRise (pins : Straps) (s : State) : nextBase (execPorstNRise pins s) = some s.base := by
  simp [execPorstNRise]

@[simp] theorem nextBase_execPowerGoodRise (k : Fin 4) (s : State) : nextBase (execPowerGoodRise k s) = some s.base := by
  simp [execPowerGoodRise]

@[simp] theorem nextBase_execVddGhReturn (s : State) : nextBase (execVddGhReturn s) = some s.base := by simp [execVddGhReturn]

@[simp] theorem nextBase_execPowerGoodFall (k : Fin 4) (s : State) : nextBase (execPowerGoodFall k s) = some s.base := by
  unfold execPowerGoodFall
  dsimp only
  repeat' split
  all_goals simp

@[simp] theorem nextBase_execPowerDownStepTimeout (k : Fin 4) (s : State) : nextBase (execPowerDownStepTimeout k s) = some s.base := by
  unfold execPowerDownStepTimeout
  split <;> simp

@[simp] theorem nextBase_execAlarmLatchWrite (r : Requester) (v : Word) (s : State) :
    nextBase (execAlarmLatchWrite r v s) = some s.base := by simp [execAlarmLatchWrite]

@[simp] theorem nextBase_execWakeSource (b : Fin 7) (src : Fin 1024) (s : State) : nextBase (execWakeSource b src s) = some s.base := by
  simp [execWakeSource]

@[simp] theorem nextBase_execGatehouseTimerExpiry (s : State) : nextBase (execGatehouseTimerExpiry s) = some s.base := by
  simp [execGatehouseTimerExpiry]

@[simp] theorem nextBase_execI2cAddressMatch (addr : BitVec 7) (s : State) : nextBase (execI2cAddressMatch addr s) = some s.base := by
  simp [execI2cAddressMatch]

@[simp] theorem nextBase_execTemperatureSample (t : List Int) (s : State) : nextBase (execTemperatureSample t s) = some s.base := by
  simp [execTemperatureSample]

@[simp] theorem nextBase_execClampLift (s : State) : nextBase (execClampLift s) = some s.base := by
  unfold execClampLift
  split <;> simp

@[simp] theorem nextBase_execRailTelemetryRead (r : Fin 3) (mv ma : Nat) (s : State) :
    nextBase (execRailTelemetryRead r mv ma s) = some s.base := by simp [execRailTelemetryRead]

/-! ## The Cellar -/

@[simp] theorem nextBase_execAgePromotion (ch : Fin 8) (s : State) : nextBase (execAgePromotion ch s) = some s.base := by
  simp [execAgePromotion]

@[simp] theorem nextBase_execRefreshTick (ch : Fin 8) (rank : Fin 2) (bank : Fin 16) (s : State) :
    nextBase (execRefreshTick ch rank bank s) = some s.base := by simp [execRefreshTick]

@[simp] theorem nextBase_execCalibrationDue (ch : Fin 8) (s : State) : nextBase (execCalibrationDue ch s) = some s.base := by
  simp [execCalibrationDue]

@[simp] theorem nextBase_execCalibrationForced (ch : Fin 8) (s : State) : nextBase (execCalibrationForced ch s) = some s.base := by
  simp [execCalibrationForced]

@[simp] theorem nextBase_execCalibrationWindowEnd (ch : Fin 8) (s : State) : nextBase (execCalibrationWindowEnd ch s) = some s.base := by
  unfold execCalibrationWindowEnd
  dsimp only
  split <;> simp

@[simp] theorem nextBase_execScrubFloorExpiry (ch : Fin 8) (s : State) : nextBase (execScrubFloorExpiry ch s) = some s.base := by
  simp [execScrubFloorExpiry]

@[simp] theorem nextBase_execMemoryInitDone (s : State) : nextBase (execMemoryInitDone s) = some s.base := by simp [execMemoryInitDone]

@[simp] theorem nextBase_execTrainingReadCompare (r : Requester) (ch : Fin 8) (v : Word) (f : BitVec 72) (s : State) :
    nextBase (execTrainingReadCompare r ch v f s) = some s.base := by simp [execTrainingReadCompare]

@[simp] theorem nextBase_execTrainingRegisterCompare (r : Requester) (ch : Fin 8) (v : Word) (f : BitVec 72) (s : State) :
    nextBase (execTrainingRegisterCompare r ch v f s) = some s.base := by simp [execTrainingRegisterCompare]

@[simp] theorem nextBase_execTrainingOpComplete (ch : Fin 8) (s : State) : nextBase (execTrainingOpComplete ch s) = some s.base := by
  simp [execTrainingOpComplete]

@[simp] theorem nextBase_execMrsWrite (r : Requester) (ch : Fin 8) (v : Word) (s : State) :
    nextBase (execMrsWrite r ch v s) = some s.base := by simp [execMrsWrite]

@[simp] theorem nextBase_execErrorInjectArm (r : Requester) (v : Word) (s : State) : nextBase (execErrorInjectArm r v s) = some s.base := by
  simp [execErrorInjectArm]

@[simp] theorem nextBase_execMemLayout (c : Cmd) (s : State) : nextBase (execMemLayout c s) = some s.base := by simp [execMemLayout]

/-! ## The Boot -/

@[simp] theorem nextBase_execLoadGo (r : Requester) (v : Word) (s : State) : nextBase (execLoadGo r v s) = some s.base := by
  simp [execLoadGo]

@[simp] theorem nextBase_execFlashWrite (c : Cmd) (bytes : List Byte) (verifyOk : Bool) (s : State) :
    nextBase (execFlashWrite c bytes verifyOk s) = some s.base := by simp [execFlashWrite]

@[simp] theorem nextBase_execRecoverySetOffset (off : Word) (s : State) : nextBase (execRecoverySetOffset off s) = some s.base := by
  simp [execRecoverySetOffset]

@[simp] theorem nextBase_execRecoveryAppend (bytes : List Byte) (s : State) : nextBase (execRecoveryAppend bytes s) = some s.base := by
  simp [execRecoveryAppend]

@[simp] theorem nextBase_execRecoveryProgram (s : State) : nextBase (execRecoveryProgram s) = some s.base := by simp [execRecoveryProgram]
@[simp] theorem nextBase_execRecoveryStatus (s : State) : nextBase (execRecoveryStatus s) = some s.base := by simp [execRecoveryStatus]

/-! ## The Dumbwaiter -/

@[simp] theorem nextBase_execTargetRecompute (l : Fin 8192) (s : State) : nextBase (execTargetRecompute l s) = some s.base := by
  simp [execTargetRecompute]

@[simp] theorem nextBase_execKeyWaitExpiry (n : Fin 16384) (s : State) : nextBase (execKeyWaitExpiry n s) = some s.base := by
  unfold execKeyWaitExpiry
  dsimp only
  repeat' split
  all_goals simp

@[simp] theorem nextBase_execPacketClone (k : FwdPkt) (s : State) : nextBase (execPacketClone k s) = some s.base := by
  simp [execPacketClone]

@[simp] theorem nextBase_execNackReceived (l : Fin 8192) (i : Fin 8) (seqs : List (BitVec 16)) (s : State) :
    nextBase (execNackReceived l i seqs s) = some s.base := by simp [execNackReceived]

@[simp] theorem nextBase_execRetransmitHoldExpiry (s : State) : nextBase (execRetransmitHoldExpiry s) = some s.base := by
  unfold execRetransmitHoldExpiry
  refine congrArg some ((base_foldl (fun t h => ?_) _ _).trans rfl)
  split <;> simp

@[simp] theorem nextBase_execSubscriptionDrainTimeout (n : Fin 16384) (s : State) :
    nextBase (execSubscriptionDrainTimeout n s) = some s.base := by simp [execSubscriptionDrainTimeout]

@[simp] theorem nextBase_execFwdConfig (c : Cmd) (s : State) : nextBase (execFwdConfig c s) = some s.base := by simp [execFwdConfig]
@[simp] theorem nextBase_execFwdCeiling (c : Cmd) (s : State) : nextBase (execFwdCeiling c s) = some s.base := by simp [execFwdCeiling]
@[simp] theorem nextBase_execFwdKeyreq (c : Cmd) (s : State) : nextBase (execFwdKeyreq c s) = some s.base := by simp [execFwdKeyreq]
@[simp] theorem nextBase_execFwdStats (c : Cmd) (s : State) : nextBase (execFwdStats c s) = some s.base := by simp [execFwdStats]

/-! ## Engines: instructions -/

@[simp] theorem nextBase_execEngineNop (e : Fin 224) (s : State) : nextBase (execEngineNop e s) = some s.base := by simp [execEngineNop]
@[simp] theorem nextBase_execDmac (e : Fin 224) (s : State) : nextBase (execDmac e s) = some s.base := by simp [execDmac]
@[simp] theorem nextBase_execDmpy (e : Fin 224) (s : State) : nextBase (execDmpy e s) = some s.base := by simp [execDmpy]
@[simp] theorem nextBase_execDmsu (e : Fin 224) (s : State) : nextBase (execDmsu e s) = some s.base := by simp [execDmsu]
@[simp] theorem nextBase_execMac (e : Fin 224) (s : State) : nextBase (execMac e s) = some s.base := by simp [execMac]
@[simp] theorem nextBase_execMacm (e : Fin 224) (s : State) : nextBase (execMacm e s) = some s.base := by simp [execMacm]
@[simp] theorem nextBase_execMpy (e : Fin 224) (s : State) : nextBase (execMpy e s) = some s.base := by simp [execMpy]
@[simp] theorem nextBase_execAdd (e : Fin 224) (s : State) : nextBase (execAdd e s) = some s.base := by simp [execAdd]
@[simp] theorem nextBase_execSub (e : Fin 224) (s : State) : nextBase (execSub e s) = some s.base := by simp [execSub]
@[simp] theorem nextBase_execNeg (e : Fin 224) (s : State) : nextBase (execNeg e s) = some s.base := by simp [execNeg]
@[simp] theorem nextBase_execAbs (e : Fin 224) (s : State) : nextBase (execAbs e s) = some s.base := by simp [execAbs]
@[simp] theorem nextBase_execShl (e : Fin 224) (s : State) : nextBase (execShl e s) = some s.base := by simp [execShl]
@[simp] theorem nextBase_execShr (e : Fin 224) (s : State) : nextBase (execShr e s) = some s.base := by simp [execShr]
@[simp] theorem nextBase_execMax (e : Fin 224) (s : State) : nextBase (execMax e s) = some s.base := by simp [execMax]
@[simp] theorem nextBase_execMin (e : Fin 224) (s : State) : nextBase (execMin e s) = some s.base := by simp [execMin]
@[simp] theorem nextBase_execClr (e : Fin 224) (s : State) : nextBase (execClr e s) = some s.base := by simp [execClr]
@[simp] theorem nextBase_execLdk (e : Fin 224) (s : State) : nextBase (execLdk e s) = some s.base := by simp [execLdk]
@[simp] theorem nextBase_execExpd (e : Fin 224) (s : State) : nextBase (execExpd e s) = some s.base := by simp [execExpd]
@[simp] theorem nextBase_execAddw (e : Fin 224) (s : State) : nextBase (execAddw e s) = some s.base := by simp [execAddw]
@[simp] theorem nextBase_execSubw (e : Fin 224) (s : State) : nextBase (execSubw e s) = some s.base := by simp [execSubw]
@[simp] theorem nextBase_execAnd (e : Fin 224) (s : State) : nextBase (execAnd e s) = some s.base := by simp [execAnd]
@[simp] theorem nextBase_execOr (e : Fin 224) (s : State) : nextBase (execOr e s) = some s.base := by simp [execOr]
@[simp] theorem nextBase_execXor (e : Fin 224) (s : State) : nextBase (execXor e s) = some s.base := by simp [execXor]
@[simp] theorem nextBase_execShw (e : Fin 224) (s : State) : nextBase (execShw e s) = some s.base := by simp [execShw]
@[simp] theorem nextBase_execLdw (e : Fin 224) (s : State) : nextBase (execLdw e s) = some s.base := by simp [execLdw]
@[simp] theorem nextBase_execLd (e : Fin 224) (s : State) : nextBase (execLd e s) = some s.base := by simp [execLd]
@[simp] theorem nextBase_execLdp (e : Fin 224) (s : State) : nextBase (execLdp e s) = some s.base := by simp [execLdp]
@[simp] theorem nextBase_execSt (e : Fin 224) (s : State) : nextBase (execSt e s) = some s.base := by simp [execSt]
@[simp] theorem nextBase_execStp (e : Fin 224) (s : State) : nextBase (execStp e s) = some s.base := by simp [execStp]
@[simp] theorem nextBase_execMov (e : Fin 224) (s : State) : nextBase (execMov e s) = some s.base := by simp [execMov]
@[simp] theorem nextBase_execMovw (e : Fin 224) (s : State) : nextBase (execMovw e s) = some s.base := by simp [execMovw]
@[simp] theorem nextBase_execMova (e : Fin 224) (s : State) : nextBase (execMova e s) = some s.base := by simp [execMova]
@[simp] theorem nextBase_execSeta (e : Fin 224) (s : State) : nextBase (execSeta e s) = some s.base := by simp [execSeta]

@[simp] theorem nextBase_execMovr (e : Fin 224) (s : State) : nextBase (execMovr e s) = some s.base := by
  unfold execMovr
  refine congrArg some (base_engOp (fun r w => ?_) ..)
  dsimp only
  split
  · split <;> simp
  · simp

@[simp] theorem nextBase_execBr (e : Fin 224) (s : State) : nextBase (execBr e s) = some s.base := by
  unfold execBr
  refine congrArg some (base_engCtl (fun r w => ?_) ..)
  split
  rename_i taken t h
  have ht : t.base = s.base := by
    refine (base_of_eq h).trans ?_
    split <;> simp
  simp [ht]

@[simp] theorem nextBase_execCall (e : Fin 224) (s : State) : nextBase (execCall e s) = some s.base := by simp [execCall]

@[simp] theorem nextBase_execRet (e : Fin 224) (s : State) : nextBase (execRet e s) = some s.base := by
  unfold execRet
  refine congrArg some (base_engCtl (fun r w => ?_) ..)
  split <;> simp

@[simp] theorem nextBase_execRep (e : Fin 224) (s : State) : nextBase (execRep e s) = some s.base := by simp [execRep]
@[simp] theorem nextBase_execRepw (e : Fin 224) (s : State) : nextBase (execRepw e s) = some s.base := by simp [execRepw]

@[simp] theorem nextBase_execBrklp (e : Fin 224) (s : State) : nextBase (execBrklp e s) = some s.base := by
  unfold execBrklp
  refine congrArg some (base_engCtl (fun r w => ?_) ..)
  split <;> simp

@[simp] theorem nextBase_execScale (e : Fin 224) (s : State) : nextBase (execScale e s) = some s.base := by simp [execScale]
@[simp] theorem nextBase_execSetexp (e : Fin 224) (s : State) : nextBase (execSetexp e s) = some s.base := by simp [execSetexp]
@[simp] theorem nextBase_execBfnext (e : Fin 224) (s : State) : nextBase (execBfnext e s) = some s.base := by simp [execBfnext]
@[simp] theorem nextBase_execWait (e : Fin 224) (s : State) : nextBase (execWait e s) = some s.base := by simp [execWait]

@[simp] theorem nextBase_execWaitRelease (e : Fin 224) (s : State) : nextBase (execWaitRelease e s) = some s.base := by
  simp [execWaitRelease]

@[simp] theorem nextBase_execSig (e : Fin 224) (s : State) : nextBase (execSig e s) = some s.base := by simp [execSig]
@[simp] theorem nextBase_execClrf (e : Fin 224) (s : State) : nextBase (execClrf e s) = some s.base := by simp [execClrf]
@[simp] theorem nextBase_execMovb (e : Fin 224) (s : State) : nextBase (execMovb e s) = some s.base := by simp [execMovb]
@[simp] theorem nextBase_execLdx (e : Fin 224) (s : State) : nextBase (execLdx e s) = some s.base := by simp [execLdx]

@[simp] theorem nextBase_execStx (e : Fin 224) (s : State) : nextBase (execStx e s) = some s.base := by
  unfold execStx
  refine congrArg some (base_engOp (fun r w => ?_) ..)
  dsimp only
  split
  · split
    · split <;> rename_i h <;> simp [base_of_limit h]
    · simp
  · simp

@[simp] theorem nextBase_execIllegalOpcode (e : Fin 224) (s : State) : nextBase (execIllegalOpcode e s) = some s.base := by
  simp [execIllegalOpcode]

@[simp] theorem nextBase_execMailboxIn3Write (r : Requester) (e : Fin 224) (v : Word) (s : State) :
    nextBase (execMailboxIn3Write r e v s) = some s.base := by simp [execMailboxIn3Write]

@[simp] theorem nextBase_execEflagsWrite (r : Requester) (e : Fin 224) (v : Word) (s : State) :
    nextBase (execEflagsWrite r e v s) = some s.base := by simp [execEflagsWrite]

@[simp] theorem nextBase_execEngReserve (c : Cmd) (s : State) : nextBase (execEngReserve c s) = some s.base := by simp [execEngReserve]
@[simp] theorem nextBase_execEngConfig (c : Cmd) (s : State) : nextBase (execEngConfig c s) = some s.base := by simp [execEngConfig]

@[simp] theorem nextBase_execEngLoad (c : Cmd) (data : List Word) (s : State) : nextBase (execEngLoad c data s) = some s.base := by
  simp [execEngLoad]

@[simp] theorem nextBase_execEngStats (c : Cmd) (s : State) : nextBase (execEngStats c s) = some s.base := by simp [execEngStats]

/-! ## The Icehouse -/

@[simp] theorem nextBase_execKeyWrite (c : Cmd) (s : State) : nextBase (execKeyWrite c s) = some s.base := by simp [execKeyWrite]
@[simp] theorem nextBase_execKeyErase (c : Cmd) (s : State) : nextBase (execKeyErase c s) = some s.base := by simp [execKeyErase]
@[simp] theorem nextBase_execKeyQuery (c : Cmd) (s : State) : nextBase (execKeyQuery c s) = some s.base := by simp [execKeyQuery]
@[simp] theorem nextBase_execKeyCascade (c : Cmd) (s : State) : nextBase (execKeyCascade c s) = some s.base := by simp [execKeyCascade]

@[simp] theorem nextBase_execKeyAlarmClear (c : Cmd) (s : State) : nextBase (execKeyAlarmClear c s) = some s.base := by
  simp [execKeyAlarmClear]

@[simp] theorem nextBase_execKeyWindowTimeout (op : BitVec 16) (c : Cmd) (s : State) :
    nextBase (execKeyWindowTimeout op c s) = some s.base := by
  unfold execKeyWindowTimeout
  split <;> simp

@[simp] theorem nextBase_execIceLockClaim (r : Requester) (s : State) : nextBase (execIceLockClaim r s) = some s.base := by
  simp [execIceLockClaim]

@[simp] theorem nextBase_execIceLockRelease (r : Requester) (s : State) : nextBase (execIceLockRelease r s) = some s.base := by
  simp [execIceLockRelease]

@[simp] theorem nextBase_execIceLockExpired (s : State) : nextBase (execIceLockExpired s) = some s.base := by
  unfold execIceLockExpired
  split <;> simp

@[simp] theorem nextBase_execWindowKeyWrite (r : Requester) (v : Word) (s : State) : nextBase (execWindowKeyWrite r v s) = some s.base := by
  simp [execWindowKeyWrite]

@[simp] theorem nextBase_execWindowKeyErase (r : Requester) (v : Word) (s : State) : nextBase (execWindowKeyErase r v s) = some s.base := by
  simp [execWindowKeyErase]

@[simp] theorem nextBase_execDirectJobGo (r : Requester) (v : Word) (s : State) : nextBase (execDirectJobGo r v s) = some s.base := by
  simp [execDirectJobGo]

@[simp] theorem nextBase_execIceWindowRead (r : Requester) (addr : BitVec 28) (s : State) :
    nextBase (execIceWindowRead r addr s) = some s.base := by simp [execIceWindowRead]

@[simp] theorem nextBase_execIceJobDispatch (core : Fin 16) (jobs : List JobReq) (s : State) :
    nextBase (execIceJobDispatch core jobs s) = some s.base := by
  unfold execIceJobDispatch
  dsimp only
  repeat' split
  all_goals simp

@[simp] theorem nextBase_execIceJobComplete (core : Fin 16) (x : AuthResult) (s : State) :
    nextBase (execIceJobComplete core x s) = some s.base := by
  unfold execIceJobComplete
  dsimp only
  repeat' split
  all_goals simp

@[simp] theorem nextBase_execOldKeyExpiry (n : Fin 16384) (s : State) : nextBase (execOldKeyExpiry n s) = some s.base := by
  unfold execOldKeyExpiry
  dsimp only
  split <;> simp

@[simp] theorem nextBase_execIceAlarm (cause : Fin 5) (s : State) : nextBase (execIceAlarm cause s) = some s.base := by simp [execIceAlarm]

/-! ## Ports -/

@[simp] theorem nextBase_execPortConfig (c : Cmd) (s : State) : nextBase (execPortConfig c s) = some s.base := by simp [execPortConfig]
@[simp] theorem nextBase_execPortAddr (c : Cmd) (s : State) : nextBase (execPortAddr c s) = some s.base := by simp [execPortAddr]
@[simp] theorem nextBase_execPuntCfg (c : Cmd) (s : State) : nextBase (execPuntCfg c s) = some s.base := by simp [execPuntCfg]

@[simp] theorem nextBase_execFrameSend (c : Cmd) (bytes : List Byte) (s : State) : nextBase (execFrameSend c bytes s) = some s.base := by
  simp [execFrameSend]

@[simp] theorem nextBase_execPuntHeadWrite (v : Word) (s : State) : nextBase (execPuntHeadWrite v s) = some s.base := by
  simp [execPuntHeadWrite]

@[simp] theorem nextBase_execPortLinkUp (p : Fin 8) (s : State) : nextBase (execPortLinkUp p s) = some s.base := by simp [execPortLinkUp]

@[simp] theorem nextBase_execPortLinkDown (p : Fin 8) (s : State) : nextBase (execPortLinkDown p s) = some s.base := by
  simp [execPortLinkDown]

@[simp] theorem nextBase_execPortDrainTimeout (p : Fin 8) (s : State) : nextBase (execPortDrainTimeout p s) = some s.base := by
  simp [execPortDrainTimeout]

@[simp] theorem nextBase_execFrameReceived (p : Fin 8) (f : Frame) (s : State) : nextBase (execFrameReceived p f s) = some s.base := by
  simp [execFrameReceived]

/-! ## The Legs -/

@[simp] theorem nextBase_execLegConfig (c : Cmd) (s : State) : nextBase (execLegConfig c s) = some s.base := by simp [execLegConfig]
@[simp] theorem nextBase_execLegIceCred (c : Cmd) (s : State) : nextBase (execLegIceCred c s) = some s.base := by simp [execLegIceCred]
@[simp] theorem nextBase_execLegStream (c : Cmd) (s : State) : nextBase (execLegStream c s) = some s.base := by simp [execLegStream]
@[simp] theorem nextBase_execLegBwe (c : Cmd) (s : State) : nextBase (execLegBwe c s) = some s.base := by simp [execLegBwe]
@[simp] theorem nextBase_execLegStats (c : Cmd) (s : State) : nextBase (execLegStats c s) = some s.base := by simp [execLegStats]

@[simp] theorem nextBase_execLegDrainTimeout (l : Fin 8192) (s : State) : nextBase (execLegDrainTimeout l s) = some s.base := by
  simp [execLegDrainTimeout]

@[simp] theorem nextBase_execHallDispatch (k : Fin 20) (s : State) : nextBase (execHallDispatch k s) = some s.base := by
  unfold execHallDispatch
  dsimp only
  split <;> simp

@[simp] theorem nextBase_execStunBindingRequest (q : Stun) (s : State) : nextBase (execStunBindingRequest q s) = some s.base := by
  unfold execStunBindingRequest
  dsimp only
  repeat' split
  all_goals simp

@[simp] theorem nextBase_execConsentExpiry (l : Fin 8192) (s : State) : nextBase (execConsentExpiry l s) = some s.base := by
  unfold execConsentExpiry
  split <;> simp

@[simp] theorem nextBase_execSilenceExpiry (l : Fin 8192) (s : State) : nextBase (execSilenceExpiry l s) = some s.base := by
  unfold execSilenceExpiry
  split <;> simp

@[simp] theorem nextBase_execJitterBufferCommit (l : Fin 8192) (k : Rtp) (s : State) :
    nextBase (execJitterBufferCommit l k s) = some s.base := by simp [execJitterBufferCommit]

@[simp] theorem nextBase_execAudioPlayoutDeadline (l : Fin 8192) (i : Fin 8) (s : State) :
    nextBase (execAudioPlayoutDeadline l i s) = some s.base := by
  unfold execAudioPlayoutDeadline
  split <;> simp

@[simp] theorem nextBase_execVideoPlayoutDeadline (l : Fin 8192) (i : Fin 8) (s : State) :
    nextBase (execVideoPlayoutDeadline l i s) = some s.base := by
  unfold execVideoPlayoutDeadline
  split <;> simp

@[simp] theorem nextBase_execFlowDone (k : Fin 20) (arm : TimerArm) (s : State) : nextBase (execFlowDone k arm s) = some s.base := by
  unfold execFlowDone
  split <;> simp

@[simp] theorem nextBase_execRtcpReceived (l : Fin 8192) (stamp : Dword) (k : Rtcp) (s : State) :
    nextBase (execRtcpReceived l stamp k s) = some s.base := by simp [execRtcpReceived]

@[simp] theorem nextBase_execRtcpInterval (l : Fin 8192) (s : State) : nextBase (execRtcpInterval l s) = some s.base := by
  unfold execRtcpInterval
  split <;> simp

@[simp] theorem nextBase_execCcfbInterval (l : Fin 8192) (s : State) : nextBase (execCcfbInterval l s) = some s.base := by
  unfold execCcfbInterval
  split <;> simp

/-! ## The Footbridge -/

@[simp] theorem nextBase_execFtbConfig (c : Cmd) (s : State) : nextBase (execFtbConfig c s) = some s.base := by simp [execFtbConfig]
@[simp] theorem nextBase_execFtbLink (c : Cmd) (s : State) : nextBase (execFtbLink c s) = some s.base := by simp [execFtbLink]

@[simp] theorem nextBase_execBeaconSend (s : State) : nextBase (execBeaconSend s) = some s.base := by
  unfold execBeaconSend
  split <;> simp

@[simp] theorem nextBase_execBeaconReceived (b : Beacon) (s : State) : nextBase (execBeaconReceived b s) = some s.base := by
  unfold execBeaconReceived
  split <;> simp

@[simp] theorem nextBase_execPeerBeaconTimeout (p : Fin 16) (s : State) : nextBase (execPeerBeaconTimeout p s) = some s.base := by
  simp [execPeerBeaconTimeout]

@[simp] theorem nextBase_execMixFrameReceived (m : MixFrame) (s : State) : nextBase (execMixFrameReceived m s) = some s.base := by
  simp [execMixFrameReceived]

@[simp] theorem nextBase_execLayerFrameReceived (m : LayerFrame) (s : State) : nextBase (execLayerFrameReceived m s) = some s.base := by
  simp [execLayerFrameReceived]

/-! ## The Hatches -/

@[simp] theorem nextBase_execHatchBlockStart (h : Fin 96) (entries : List TxHdr) (fail : Bool) (s : State) :
    nextBase (execHatchBlockStart h entries fail s) = some s.base := by simp [execHatchBlockStart]

@[simp] theorem nextBase_execHatRxHeadWrite (r : Requester) (h : Fin 96) (v : Word) (s : State) :
    nextBase (execHatRxHeadWrite r h v s) = some s.base := by simp [execHatRxHeadWrite]

@[simp] theorem nextBase_execHatTxTailWrite (r : Requester) (h : Fin 96) (v : Word) (s : State) :
    nextBase (execHatTxTailWrite r h v s) = some s.base := by simp [execHatTxTailWrite]

@[simp] theorem nextBase_execMaskgoWrite (r : Requester) (h : Fin 96) (v : Word) (land : Nat) (s : State) :
    nextBase (execMaskgoWrite r h v land s) = some s.base := by simp [execMaskgoWrite]

@[simp] theorem nextBase_execMaskApply (h : Fin 96) (s : State) : nextBase (execMaskApply h s) = some s.base := by
  unfold execMaskApply
  split <;> simp

@[simp] theorem nextBase_execHatMask (c : Cmd) (land : Nat) (s : State) : nextBase (execHatMask c land s) = some s.base := by
  simp [execHatMask]

@[simp] theorem nextBase_execHatBankConfig (c : Cmd) (s : State) : nextBase (execHatBankConfig c s) = some s.base := by
  unfold execHatBankConfig
  extract_lets b g
  refine congrArg some (base_runCmd (fun t => base_checked ?_ ..) ..)
  extract_lets hat u v w
  have hv : v.base = t.base := base_foldl (fun x h => base_cutMasks x h g.slotMask) _ _
  have hw : w.base = t.base := by
    unfold w
    rw [base_ite, base_setOut, hv, ite_self]
  exact (base_finish ..).trans ((base_bumpGen ..).trans hw)

@[simp] theorem nextBase_execHatPortConfig (c : Cmd) (s : State) : nextBase (execHatPortConfig c s) = some s.base := by
  simp [execHatPortConfig]

@[simp] theorem nextBase_execHatLeg (c : Cmd) (s : State) : nextBase (execHatLeg c s) = some s.base := by simp [execHatLeg]
@[simp] theorem nextBase_execHatRing (c : Cmd) (s : State) : nextBase (execHatRing c s) = some s.base := by simp [execHatRing]
@[simp] theorem nextBase_execHatStats (c : Cmd) (s : State) : nextBase (execHatStats c s) = some s.base := by simp [execHatStats]
@[simp] theorem nextBase_execSynthLock (b : Fin 12) (s : State) : nextBase (execSynthLock b s) = some s.base := by simp [execSynthLock]

@[simp] theorem nextBase_execLockTimeout (b : Fin 12) (s : State) : nextBase (execLockTimeout b s) = some s.base := by
  simp [execLockTimeout]

@[simp] theorem nextBase_execHatchRampEnd (b : Fin 12) (s : State) : nextBase (execHatchRampEnd b s) = some s.base := by
  unfold execHatchRampEnd
  dsimp only
  split <;> simp

@[simp] theorem nextBase_execPartnerFrameEdge (b : Fin 12) (n : Nat) (s : State) : nextBase (execPartnerFrameEdge b n s) = some s.base := by
  unfold execPartnerFrameEdge
  dsimp only
  repeat' split
  all_goals simp

@[simp] theorem nextBase_execMissingFrame (b : Fin 12) (s : State) : nextBase (execMissingFrame b s) = some s.base := by
  unfold execMissingFrame
  dsimp only
  repeat' split
  all_goals simp

/-! ## The Objects -/

@[simp] theorem nextBase_execStartLegPort (c : Cmd) (s : State) : nextBase (execStartLegPort c s) = some s.base := by
  simp [execStartLegPort]

@[simp] theorem nextBase_execStopLegPort (c : Cmd) (s : State) : nextBase (execStopLegPort c s) = some s.base := by simp [execStopLegPort]

@[simp] theorem nextBase_execGetStateLegPort (c : Cmd) (s : State) : nextBase (execGetStateLegPort c s) = some s.base := by
  simp [execGetStateLegPort]

@[simp] theorem nextBase_execStartConference (c : Cmd) (s : State) : nextBase (execStartConference c s) = some s.base := by
  simp [execStartConference]

@[simp] theorem nextBase_execStopConference (c : Cmd) (s : State) : nextBase (execStopConference c s) = some s.base := by
  simp [execStopConference]

@[simp] theorem nextBase_execGetStateConference (c : Cmd) (s : State) : nextBase (execGetStateConference c s) = some s.base := by
  simp [execGetStateConference]

@[simp] theorem nextBase_execStartBank (c : Cmd) (s : State) : nextBase (execStartBank c s) = some s.base := by simp [execStartBank]
@[simp] theorem nextBase_execStopBank (c : Cmd) (s : State) : nextBase (execStopBank c s) = some s.base := by simp [execStopBank]

@[simp] theorem nextBase_execGetStateHatch (c : Cmd) (s : State) : nextBase (execGetStateHatch c s) = some s.base := by
  simp [execGetStateHatch]

@[simp] theorem nextBase_execStartEngine (c : Cmd) (s : State) : nextBase (execStartEngine c s) = some s.base := by simp [execStartEngine]

@[simp] theorem nextBase_execGetStateEngine (c : Cmd) (s : State) : nextBase (execGetStateEngine c s) = some s.base := by
  simp [execGetStateEngine]

@[simp] theorem nextBase_execStartSlot (c : Cmd) (s : State) : nextBase (execStartSlot c s) = some s.base := by simp [execStartSlot]
@[simp] theorem nextBase_execStopSlot (c : Cmd) (s : State) : nextBase (execStopSlot c s) = some s.base := by simp [execStopSlot]

@[simp] theorem nextBase_execGetStateSlot (c : Cmd) (s : State) : nextBase (execGetStateSlot c s) = some s.base := by
  simp [execGetStateSlot]

@[simp] theorem nextBase_execStartCanvas (c : Cmd) (s : State) : nextBase (execStartCanvas c s) = some s.base := by simp [execStartCanvas]
@[simp] theorem nextBase_execStopCanvas (c : Cmd) (s : State) : nextBase (execStopCanvas c s) = some s.base := by simp [execStopCanvas]

@[simp] theorem nextBase_execGetStateCanvas (c : Cmd) (s : State) : nextBase (execGetStateCanvas c s) = some s.base := by
  simp [execGetStateCanvas]

@[simp] theorem nextBase_execStartEncoding (c : Cmd) (s : State) : nextBase (execStartEncoding c s) = some s.base := by
  simp [execStartEncoding]

@[simp] theorem nextBase_execStopEncoding (c : Cmd) (s : State) : nextBase (execStopEncoding c s) = some s.base := by
  simp [execStopEncoding]

@[simp] theorem nextBase_execGetStateEncoding (c : Cmd) (s : State) : nextBase (execGetStateEncoding c s) = some s.base := by
  simp [execGetStateEncoding]

@[simp] theorem nextBase_execStartSubscription (c : Cmd) (s : State) : nextBase (execStartSubscription c s) = some s.base := by
  simp [execStartSubscription]

@[simp] theorem nextBase_execStopSubscription (c : Cmd) (s : State) : nextBase (execStopSubscription c s) = some s.base := by
  simp [execStopSubscription]

@[simp] theorem nextBase_execGetStateSubscription (c : Cmd) (s : State) : nextBase (execGetStateSubscription c s) = some s.base := by
  simp [execGetStateSubscription]

@[simp] theorem nextBase_execStartFootbridgeObject (c : Cmd) (s : State) : nextBase (execStartFootbridgeObject c s) = some s.base := by
  simp [execStartFootbridgeObject]

@[simp] theorem nextBase_execStopFootbridgeObject (c : Cmd) (s : State) : nextBase (execStopFootbridgeObject c s) = some s.base := by
  simp [execStopFootbridgeObject]

@[simp] theorem nextBase_execGetStateFootbridge (c : Cmd) (s : State) : nextBase (execGetStateFootbridge c s) = some s.base := by
  simp [execGetStateFootbridge]

@[simp] theorem nextBase_execResourcesGranted (o : Obj) (s : State) : nextBase (execResourcesGranted o s) = some s.base := by
  unfold execResourcesGranted
  split <;> simp

/-! ## The Porch -/

@[simp] theorem nextBase_execNop (c : Cmd) (s : State) : nextBase (execNop c s) = some s.base := by simp [execNop]
@[simp] theorem nextBase_execGetInfo (c : Cmd) (s : State) : nextBase (execGetInfo c s) = some s.base := by simp [execGetInfo]

@[simp] theorem nextBase_execCommandFetch (sq : Fin 64) (mem : FetchMem) (err : Option PcieErr) (s : State) :
    nextBase (execCommandFetch sq mem err s) = some s.base := by
  unfold execCommandFetch
  extract_lets n c a b d f
  have ha : a.base = s.base := (base_belSignal ..).trans (base_leaveL1 s)
  split
  · split
    · exact congrArg some ((base_queueError ..).trans ha)
    · exact congrArg some ((base_settleBad ..).trans ((base_setPorch ..).trans ((base_setSq ..).trans ((base_takeTurn ..).trans ha))))
  · rfl

@[simp] theorem nextBase_execModerationTimerExpiry (q : Fin 64) (s : State) : nextBase (execModerationTimerExpiry q s) = some s.base := by
  unfold execModerationTimerExpiry
  dsimp only
  split <;> simp

@[simp] theorem nextBase_execEventsLost (q : Fin 64) (s : State) : nextBase (execEventsLost q s) = some s.base := by simp [execEventsLost]

@[simp] theorem nextBase_execSqTailDoorbell (q : Fin 64) (v : Word) (s : State) : nextBase (execSqTailDoorbell q v s) = some s.base := by
  exact nextBase_porchWrite (fun t => base_writeSqTail ..) s

@[simp] theorem nextBase_execCqHeadDoorbell (q : Fin 64) (v : Word) (s : State) : nextBase (execCqHeadDoorbell q v s) = some s.base := by
  exact nextBase_porchWrite (fun t => base_writeCqHead ..) s

@[simp] theorem nextBase_execSqEnable (q : Fin 64) (v : Word) (s : State) : nextBase (execSqEnable q v s) = some s.base := by
  exact nextBase_porchWrite (fun t => base_writeSqCfg ..) s

@[simp] theorem nextBase_execSqDisable (q : Fin 64) (v : Word) (s : State) : nextBase (execSqDisable q v s) = some s.base := by
  exact nextBase_porchWrite (fun t => base_writeSqCfg ..) s

@[simp] theorem nextBase_execSqIdle (q : Fin 64) (s : State) : nextBase (execSqIdle q s) = some s.base := by simp [execSqIdle]

@[simp] theorem nextBase_execCqEnable (q : Fin 64) (v : Word) (s : State) : nextBase (execCqEnable q v s) = some s.base := by
  exact nextBase_porchWrite (fun t => base_writeCqCfg ..) s

@[simp] theorem nextBase_execCqDisable (q : Fin 64) (v : Word) (s : State) : nextBase (execCqDisable q v s) = some s.base := by
  exact nextBase_porchWrite (fun t => base_writeCqCfg ..) s

@[simp] theorem nextBase_execHostTlpRefused (write : Bool) (_addr : BitVec 28) (dws : Nat) (beFull : Bool) (s : State) :
    nextBase (execHostTlpRefused write _addr dws beFull s) = some s.base := by simp [execHostTlpRefused]

@[simp] theorem nextBase_execWriteBarrierRead (r : Requester) (s : State) : nextBase (execWriteBarrierRead r s) = some s.base := by
  simp [execWriteBarrierRead]

@[simp] theorem nextBase_execPerstNRelease (s : State) : nextBase (execPerstNRelease s) = some s.base := by simp [execPerstNRelease]

@[simp] theorem nextBase_execLinkEntersL1 (l : LowLink) (s : State) : nextBase (execLinkEntersL1 l s) = some s.base := by
  simp [execLinkEntersL1]

@[simp] theorem nextBase_execLinkDown (s : State) : nextBase (execLinkDown s) = some s.base := by simp [execLinkDown]
@[simp] theorem nextBase_execLinkReturnsL0 (s : State) : nextBase (execLinkReturnsL0 s) = some s.base := by simp [execLinkReturnsL0]

@[simp] theorem nextBase_execD3hotEntry (pmeEn : Bool) (s : State) : nextBase (execD3hotEntry pmeEn s) = some s.base := by
  simp [execD3hotEntry]

@[simp] theorem nextBase_execReturnToD0 (s : State) : nextBase (execReturnToD0 s) = some s.base := by simp [execReturnToD0]

@[simp] theorem nextBase_execPmeStatusClear (pmeEn : Bool) (s : State) : nextBase (execPmeStatusClear pmeEn s) = some s.base := by
  simp [execPmeStatusClear]

/-! ## Host transfers -/

@[simp] theorem nextBase_execTelemSnapshot (c : Cmd) (s : State) : nextBase (execTelemSnapshot c s) = some s.base := by
  simp [execTelemSnapshot]

@[simp] theorem nextBase_execLoadSample (s : State) : nextBase (execLoadSample s) = some s.base := by simp [execLoadSample]
@[simp] theorem nextBase_execBlockStart (s : State) : nextBase (execBlockStart s) = some s.base := by simp [execBlockStart]

end Sys2Proof.Machine
end

section
/-!
PROOF. Commands and events that change what the invariant reads, and the invariant of every step (R494, R517, R518).
-/
namespace Sys2Proof.Machine

open Host

/-- From s to t the queue of commands stays, and the invariant is kept. -/
def State.Goes (s t : State) : Prop := t.pending = s.pending ∧ (s.Inv → t.Inv)

/-- A result is a next state to which s goes. -/
def Goes (s : State) (o : Outcome State Fault Refusal) : Prop := ∃ t, o = .next t ∧ s.Goes t

section Rules

variable {s t u : State}

theorem parts_of_base (h : t.base = s.base) : t.pending = s.pending ∧ t.cel.mem = s.cel.mem ∧
    t.bell.levelStacks = s.bell.levelStacks ∧ t.pwr.state = s.pwr.state ∧ t.pwr.entering = s.pwr.entering := by
  simpa [State.base, -base_eta] using h

theorem goes_of_base (h : t.base = s.base) : s.Goes t := by
  obtain ⟨hpending, hmem, hstacks, hstate, hentering⟩ := parts_of_base h
  refine ⟨hpending, fun hs => ?_⟩
  unfold State.Inv
  rwa [hmem, hstacks, hstate, hentering]

theorem goes_refl (s : State) : s.Goes s := ⟨rfl, id⟩

theorem goes_trans (h₁ : s.Goes t) (h₂ : t.Goes u) : s.Goes u := ⟨h₂.1.trans h₁.1, fun hs => h₂.2 (h₁.2 hs)⟩

theorem goes_then (h : s.Goes t) (hu : u.base = t.base) : s.Goes u := goes_trans h (goes_of_base hu)
theorem goes_after (ht : t.base = s.base) (h : t.Goes u) : s.Goes u := goes_trans (goes_of_base ht) h

theorem goes_ite {c : Prop} [Decidable c] (ht : s.Goes t) (hu : s.Goes u) : s.Goes (if c then t else u) := by
  split
  · exact ht
  · exact hu

/-- A step that changes memory alone keeps the invariant where it keeps memory's canonical form. -/
theorem goes_of_mem (hp : t.pending = s.pending) (hb : t.bell = s.bell) (hw : t.pwr = s.pwr)
    (hm : Memory.wf s.cel.mem → Memory.wf t.cel.mem) : s.Goes t := by
  refine ⟨hp, fun hs => ?_⟩
  unfold State.Inv at hs ⊢
  rw [hb, hw]
  exact ⟨hm hs.1, hs.2⟩

/-- Another Bellboard keeps the invariant where no target holds more than 16 running priorities. -/
theorem goes_setBell {b : Bell} (hb : (∀ e ∈ s.bell.levelStacks, e.2.length ≤ 16) → ∀ e ∈ b.levelStacks, e.2.length ≤ 16) :
    s.Goes { s with bell := b } := by
  refine ⟨rfl, fun hs => ?_⟩
  unfold State.Inv at hs ⊢
  exact ⟨hs.1, hb hs.2.1, hs.2.2⟩

/-- Another power state keeps the invariant where it is lawful. -/
theorem goes_setPwr {p : Power} (hp : s.pwr.state ≤ 4 → p.state ≤ 4)
    (he : (∀ e ∈ s.pwr.entering, e.1 = 3 ∨ e.1 = 4) → ∀ e ∈ p.entering, e.1 = 3 ∨ e.1 = 4) : s.Goes { s with pwr := p } := by
  refine ⟨rfl, fun hs => ?_⟩
  unfold State.Inv at hs ⊢
  exact ⟨hs.1, hs.2.1, hp hs.2.2.1, he hs.2.2.2⟩

theorem goes_resignal (a : State) (h : s.Goes t) : s.Goes (resignal a t) := goes_then h (base_resignal ..)

theorem goes_foldl {α : Type} {f : State → α → State} (hf : ∀ (s : State) a, s.Goes (f s a)) :
    ∀ (l : List α) (s : State), s.Goes (l.foldl f s)
  | [], s => goes_refl s
  | a :: r, s => goes_trans (hf s a) (goes_foldl hf r (f s a))

theorem goes_next (h : s.Goes t) : Goes s (.next t) := ⟨t, rfl, h⟩

theorem goes_of_nextBase {o : Outcome State Fault Refusal} (h : nextBase o = some s.base) : Goes s o := by
  cases o with
  | next t => exact goes_next (goes_of_base (Option.some.inj h))
  | fault r => cases h
  | refused r => cases h

end Rules

/-! ## Shared operations -/

section Shared

variable {go : State → State}

theorem goes_finish (s : State) (op : BitVec 16) (c : Cmd) (st : Status) : s.Goes (finish s op c st) := goes_of_base (base_finish ..)

theorem goes_runCmd (hg : ∀ t : State, t.Goes (go t)) (s : State) (op : BitVec 16) (c : Cmd) (lo hi : Nat) (ok pw : Bool) :
    s.Goes (runCmd s op c lo hi ok pw go) := by
  have hb : s.Goes (beginCmd s op c) := goes_of_base (base_beginCmd ..)
  unfold runCmd
  refine goes_ite ?_ (goes_refl s)
  dsimp only
  exact goes_ite (goes_trans hb (goes_finish ..)) (goes_ite (goes_trans hb (goes_finish ..)) (goes_ite (goes_trans hb (goes_finish ..))
    (goes_ite (goes_trans hb (goes_finish ..)) (goes_trans hb (hg _)))))

theorem goes_checked {s : State} (hg : s.Goes (go s)) (op : BitVec 16) (c : Cmd) (l : List (Bool × Status)) :
    s.Goes (checked s op c l go) := by
  unfold checked
  split
  · exact goes_finish ..
  · exact hg

theorem goes_viaHost (hg : ∀ t : State, t.Goes (go t)) (s : State) : s.Goes (viaHost s go) :=
  goes_ite (goes_after ((base_belSignal ..).trans (base_leaveL1 s)) (hg _)) (goes_refl s)

theorem goes_drainEnd (hg : ∀ t : State, t.Goes (go t)) (s : State) (range num : Nat) (done : Bool) : s.Goes (drainEnd s range num done go) :=
  goes_ite (hg s) (goes_refl s)

theorem goes_engCopy (hg : ∀ t : State, t.Goes (go t)) (op : BitVec 16) (write : Bool) (c : Cmd) (s : State) :
    s.Goes (engCopy op write c s go) :=
  goes_runCmd (fun t => goes_checked (goes_viaHost hg t) ..) ..

end Shared

theorem goes_engOp {s : State} {go : EngRun → Word → State} (hg : ∀ r w, s.Goes (go r w)) (e op : Nat) : s.Goes (engOp s e op go) := by
  unfold engOp
  exact goes_ite (goes_ite (goes_of_base (base_stallNow ..)) (goes_ite (hg ..) (goes_refl s))) (goes_refl s)

theorem goes_engCtl {s : State} {go : EngRun → Word → State} (hg : ∀ r w, s.Goes (go r w)) (e op : Nat) : s.Goes (engCtl s e op go) :=
  goes_engOp (fun r w => goes_ite (goes_of_base (base_engFault ..)) (hg r w)) ..

theorem goes_stopCmd {undo : State → State} {drain : State → Bool → State} (hu : ∀ t, (undo t).base = t.base)
    (hd : ∀ (t : State) ab, t.Goes (drain t ab)) (s : State) (range : Nat) (c : Cmd) (ok pw : Bool) (g1 : State → List (Bool × Status)) :
    s.Goes (stopCmd s range c ok pw g1 undo drain) := by
  unfold stopCmd
  refine goes_runCmd (fun t => goes_checked ?_ ..) ..
  dsimp only
  split
  · exact goes_finish ..
  · refine goes_of_base ?_
    rw [base_finish, hu, base_setObj]
    split <;> simp
  · exact goes_after (base_setObj ..) (hd ..)
  · exact goes_ite (goes_after (base_setObj ..) (hd ..)) (goes_of_base (base_setObj ..))

/-! ## Memory -/

theorem goes_writeMem (s : State) (a : Nat) (l : List Byte) : s.Goes (s.writeMem a l) := goes_of_mem rfl rfl rfl (writeMem_wf s a l)

theorem goes_writeBytes (s : State) (line : Nat) (l : List (Fin 64 × Byte)) : s.Goes (writeBytes s line l) :=
  goes_of_mem rfl rfl rfl (writeBytes_wf s line l)

theorem goes_writeLine (s : State) (n : Nat) (r : MemReq) : s.Goes (writeLine s n r) := by
  unfold writeLine
  exact goes_then (goes_after (base_bump64 ..) (goes_writeBytes ..)) (base_inject ..)

theorem goes_issueReq (s : State) (n : Nat) (c : Chan) (q : MemQ) : s.Goes (issueReq s n c q) := by
  unfold issueReq
  exact goes_ite (goes_of_base (base_setChan ..)) (goes_after (base_setChan ..) (goes_ite (goes_writeLine ..) (goes_of_base (base_readLine ..))))

theorem goes_writePattern (s : State) (n : Nat) (v : Word) : s.Goes (writePattern s n v) := by
  have hs : s.Goes (startTraining s n v) := goes_of_base (base_startTraining ..)
  unfold writePattern
  refine goes_ite (goes_refl s) (goes_ite hs (goes_trans (goes_then hs ?_) (goes_foldl (fun t l => goes_writeBytes ..) _ _)))
  rfl

theorem goes_fetched (s : State) (l : List Byte) : s.Goes (fetched s l) := goes_then (goes_writeMem s 0 l) rfl

theorem goes_ringRx (s : State) (h : Nat) (d : RxDue) (m : Word) (frames : List (List Int)) (fail : Bool) :
    s.Goes (ringRx s h d m frames fail) := by
  unfold ringRx
  dsimp only
  split
  · exact goes_refl s
  · refine goes_ite (goes_refl s) (goes_ite (goes_of_base (base_dropRx ..)) (goes_ite (goes_ite (goes_of_base (base_dropRx ..))
      (goes_ite (goes_of_base ?_) (goes_of_base ?_))) (goes_then (goes_writeMem ..) (base_setHatch ..))))
    · simp
    · exact (base_setOut ..).trans ((base_setHatch ..).trans (base_leaveL1 s))

/-! ## Engines -/

theorem goes_writeSpace (s : State) (e sp a : Nat) (v : Word) : s.Goes (writeSpace s e sp a v) := by
  unfold writeSpace
  split
  · exact goes_of_base (base_setData ..)
  · exact goes_of_base (base_setShared ..)
  · exact goes_writeMem ..
  · exact goes_of_base (base_setProg ..)

theorem goes_moveBurst (s : State) (e : Nat) (m : Move) (k : Nat) : s.Goes (moveBurst s e m k) :=
  goes_foldl (fun t w => goes_writeSpace ..) _ _

theorem goes_serveBurst (s : State) (e : Nat) : s.Goes (serveBurst s e) := by
  unfold serveBurst
  dsimp only
  split
  · exact goes_refl s
  · have hm : ∀ m k a n, s.Goes ((moveBurst s e m k).bump64 a n) := fun m k a n => goes_then (goes_moveBurst ..) (base_bump64 ..)
    exact goes_ite (goes_of_base ((base_engFault ..).trans (base_setEng ..))) (goes_ite (goes_then (hm ..) (base_setEng ..))
      (goes_ite (goes_then (hm ..) ((base_setFlags ..).trans (base_setEng ..))) (goes_then (hm ..) (base_setEng ..))))

theorem goes_serveTurns (p : Nat) (done : State → Bool) : ∀ (n : Nat) (s : State), s.Goes (serveTurns p done n s)
  | 0, s => goes_refl s
  | n + 1, s => by
    unfold serveTurns
    refine goes_ite (goes_refl s) ?_
    split
    · exact goes_refl s
    · exact goes_trans (goes_after (base_setTurn ..) (goes_serveBurst ..)) (goes_serveTurns p done n _)

theorem goes_serveUntil (s : State) (e n : Nat) : s.Goes (serveUntil s e n) := goes_serveTurns ..
theorem goes_movesEnd (s : State) (e : Nat) : s.Goes (movesEnd s e) := goes_serveUntil ..

theorem goes_hostTurns (p : Nat) : ∀ (n : Nat) (s : State), s.Goes (hostTurns p n s)
  | 0, s => goes_refl s
  | n + 1, s => goes_trans (goes_then (goes_serveTurns ..) (base_setTurn ..)) (goes_hostTurns p n _)

theorem goes_engStopped (s : State) (e cause : Nat) : s.Goes (engStopped s e cause) := by
  unfold engStopped
  refine goes_then (t := if (State.eng _ e).run.mode = .halted then _ else engHalted _ e cause) ?_ (base_reachStopped ..)
  exact goes_ite (goes_movesEnd s e) (goes_then (goes_movesEnd s e) (base_engHalted ..))

theorem goes_movesAbort (s : State) (e : Nat) : s.Goes (movesAbort s e) := by
  unfold movesAbort
  dsimp only
  split
  · exact goes_refl s
  · refine goes_then (goes_after (base_fresh s) (goes_foldl (fun t _ => ?_) _ _)) (base_setEng ..)
    exact goes_ite (goes_serveBurst t e) (goes_refl t)

theorem goes_engDrain (s : State) (e : Nat) (ab : Bool) : s.Goes (engDrain s e ab) := by
  have hf : s.Goes (setFlags s e 2) := goes_of_base (base_setFlags ..)
  have ha : s.Goes (movesAbort (setFlags s e 2) e) := goes_trans hf (goes_movesAbort ..)
  unfold engDrain
  refine goes_ite (goes_then (goes_ite ha (goes_then ha (base_engHalted ..))) (base_reachStopped ..)) (goes_ite ?_ hf)
  exact goes_then (goes_trans hf (goes_movesEnd ..)) (base_reachStopped ..)

theorem goes_copyWords (c : Cmd) (l : List Word) (s : State) : s.Goes (copyWords c l s) := goes_foldl (fun t w => goes_writeSpace ..) _ _

/-! ## Running priorities (R493, R494) -/

theorem mem_tset {α : Type} [DecidableEq α] {d : α} {t : Tab α} {k : Nat} {v : α} {e : Nat × α} (h : e ∈ tset d t k v) :
    e = (k, v) ∨ e ∈ t := by
  unfold tset at h
  split at h
  · exact Or.inr (mem_tdel h).1
  · exact (mem_tins h).imp id fun h => (mem_tdel h).1

theorem length_tget_le {n : Nat} : ∀ {t : Tab (List Nat)} (_ : ∀ e ∈ t, e.2.length ≤ n) (k : Nat), (tget [] t k).length ≤ n
  | [], _, _ => Nat.zero_le n
  | (a, l) :: r, h, k => by
    unfold tget
    split
    · exact h _ List.mem_cons_self
    · exact length_tget_le (fun e he => h e (List.mem_cons_of_mem _ he)) k

theorem goes_claim (s : State) (t : Nat) : s.Goes (claim s t).2 := by
  unfold claim
  split
  · exact goes_refl s
  · split
    · exact goes_of_base rfl
    · rename_i n hn hfull
      refine goes_resignal s (goes_setBell fun hs e he => ?_)
      rcases mem_tset (show e ∈ tset [] s.bell.levelStacks t (s.srcPrio n :: s.stack t) from he) with rfl | he
      · exact Nat.lt_of_not_le hfull
      · exact hs e he

theorem goes_endOfInterrupt (s : State) (t : Nat) : s.Goes (endOfInterrupt s t) := by
  unfold endOfInterrupt
  split
  · exact goes_of_base rfl
  · rename_i r hstack
    refine goes_resignal s (goes_setBell fun hs e he => ?_)
    rcases mem_tset (show e ∈ tset [] s.bell.levelStacks t r from he) with rfl | he
    · have h16 : (s.stack t).length ≤ 16 := length_tget_le hs t
      rw [hstack, List.length_cons] at h16
      exact Nat.le_of_succ_le h16
    · exact hs e he

theorem goes_porchReset (s : State) (link : Link) : s.Goes (porchReset s link) := by
  unfold porchReset
  extract_lets a lost fl p old b c d e
  have hb : s.Goes b := by
    refine goes_then (goes_setBell (b := b.bell) fun hs f hf => hs f (mem_tdel (show f ∈ tdel s.bell.levelStacks 20 from hf)).1) ?_
    rfl
  have hd : s.Goes d := goes_resignal s (goes_then hb (base_abandonLoad b))
  exact goes_then (goes_ite (goes_then hd (base_pchErr ..)) hd) (base_pulse ..)

/-! ## The device state (R517, R518, R522) -/

theorem mainDieDown_parts (s : State) (keep : Bool) : (mainDieDown s keep).pending = s.pending ∧
    (mainDieDown s keep).bell.levelStacks = [] ∧ (mainDieDown s keep).pwr.state = 0 ∧
    (mainDieDown s keep).pwr.entering = none := by
  unfold mainDieDown
  cases keep
  · exact ⟨rfl, rfl, rfl, rfl⟩
  · dsimp only
    rw [if_neg (by simp)]
    split <;> exact ⟨rfl, rfl, rfl, rfl⟩

theorem goes_mainDieDown (s : State) (keep : Bool) : s.Goes (mainDieDown s keep) := by
  obtain ⟨hpending, hstacks, hstate, hentering⟩ := mainDieDown_parts s keep
  refine ⟨hpending, fun hs => ⟨mainDieDown_wf s keep hs.1, ?_, ?_, ?_⟩⟩
  · rw [hstacks]
    simp
  · rw [hstate]
    decide
  · rw [hentering]
    simp

theorem goes_gatehouseReset (s : State) : s.Goes (gatehouseReset s) :=
  ⟨rfl, fun hs => ⟨hs.1, by simp [gatehouseReset], by simp [gatehouseReset], by simp [gatehouseReset]⟩⟩

theorem goes_switchOff (s : State) {st : Nat} (h : st ≤ 4) : s.Goes (switchOff s st) := by
  unfold switchOff
  extract_lets a p b
  have hpwr : a.Goes { a with pwr := b.pwr } := goes_setPwr (fun _ => h) fun _ e he => by cases he
  exact goes_then (goes_trans (goes_mainDieDown s _) hpwr) ((base_gateAdvance b).trans (base_setGate { a with pwr := b.pwr } b.gate))

theorem goes_woke (s : State) (w : Wake) : s.Goes (woke s w) := by
  unfold woke
  extract_lets pwr a b
  have ha : s.Goes a := goes_resignal s (goes_setPwr (fun _ => Nat.zero_le 4) fun h => h)
  have hb : s.Goes b := goes_then ha (base_event ..)
  exact goes_ite (goes_then hb ((base_setOut ..).trans (base_setPwr rfl rfl))) hb

theorem goes_bootReady (s : State) : s.Goes (bootReady s) := by
  unfold bootReady
  extract_lets boot pwr cel ice a
  have ha : a.base = s.base := (base_setKeepers ..).trans ((base_layMemory _).trans rfl)
  split
  · exact goes_after ha (goes_woke ..)
  · exact goes_of_base ha

theorem goes_powerStateWritten (s : State) (e : Entry) : s.Goes (powerStateWritten s e) := by
  unfold powerStateWritten
  split
  · rename_i st hst
    refine goes_ite (goes_setPwr id fun h f hf => ?_) (goes_refl s)
    cases hf
    exact h (st, 2) hst
  · exact goes_refl s

theorem goes_stateStep (s : State) (c : Cmd) : s.Goes (stateStep s c).2 := by
  unfold stateStep
  extract_lets st w oldPwr oldGate a b bPwr u uPwr
  split
  · exact goes_finish ..
  · rename_i h0
    split
    · exact goes_of_base (base_complete ..)
    · have ha : a.base = s.base := (base_setGate ..).trans (base_setPwr rfl rfl)
      have hb : b.base = s.base := (base_finish ..).trans ha
      have hu : u.base = b.base :=
        (base_railTo ..).trans ((base_loseQuarters ..).trans ((base_clearCommon ..).trans (base_allDomainsOff b)))
      split
      · exact goes_finish ..
      · rename_i h5
        split
        · exact goes_after hb (goes_resignal b (goes_setPwr (fun _ => show 1 ≤ 4 by decide) fun h => h))
        · rename_i h1
          split
          · exact goes_after (hu.trans hb) (goes_resignal b (goes_setPwr (fun _ => show 2 ≤ 4 by decide) fun h => h))
          · rename_i h2
            refine goes_after hb (goes_setPwr id fun _ e he => ?_)
            cases he
            omega

theorem goes_snd_ite {α : Type} {s : State} {c : Prop} [Decidable c] {a b : α × State} (ha : s.Goes a.2) (hb : s.Goes b.2) :
    s.Goes (if c then a else b).2 := by
  split
  · exact ha
  · exact hb

theorem goes_powerStart (s : State) (j : PowerJob) : s.Goes (powerStart s j).2 := by
  unfold powerStart
  exact goes_snd_ite (goes_of_base (base_domainStep ..)) (goes_snd_ite (goes_of_base (base_runpointStep ..))
    (goes_snd_ite (goes_of_base (base_railStep ..)) (goes_snd_ite (goes_stateStep ..) (goes_of_base (base_alarmClearStep ..)))))

theorem goes_powerDrain : ∀ (l : List PowerJob) (s : State), s.Goes (powerDrain l s)
  | [], s => goes_of_base (base_setPwr rfl rfl)
  | j :: r, s => by
    unfold powerDrain
    refine goes_ite (goes_trans (goes_finish ..) (goes_powerDrain r _)) ?_
    extract_lets p
    have hp : s.Goes p.2 := goes_powerStart s j
    exact goes_ite (goes_then hp (base_setPwr rfl rfl)) (goes_trans hp (goes_powerDrain r _))

theorem goes_powerArrive (s : State) (op : BitVec 16) (c : Cmd) : s.Goes (powerArrive s op c) :=
  goes_ite (goes_finish ..) (goes_ite (goes_of_base (base_setPwr rfl rfl)) (goes_powerDrain ..))

theorem goes_powerNext (s : State) : s.Goes (powerNext s) := goes_after (base_setPwr rfl rfl) (goes_powerDrain ..)

/-! ## Registers -/

theorem goes_readAccess (s : State) (r : Requester) (a : Nat) : s.Goes (readAccess s r a).2 := by
  have ht : s.Goes (touchWindow s r) := goes_of_base (base_touchWindow ..)
  unfold readAccess
  refine goes_snd_ite (goes_refl s) ?_
  split
  · exact goes_claim ..
  · exact goes_snd_ite ht (goes_snd_ite (goes_snd_ite ht (goes_refl s)) (goes_snd_ite (goes_of_base (base_latchHigh ..))
      (goes_snd_ite (goes_of_base (base_clearRc ..)) (goes_refl s))))

theorem goes_registerRead (s : State) (r : Requester) (a : Nat) : s.Goes (registerRead s r a) :=
  goes_then (goes_after ((base_settled ..).trans (base_hostArrives ..)) (goes_readAccess ..)) (base_readOut ..)

theorem base_setBell' {s : State} {b : Bell} (hb : b.levelStacks = s.bell.levelStacks) : State.base { s with bell := b } = s.base :=
  base_setBell hb

theorem goes_writeBell (s : State) (r : Requester) (a : Nat) (v : Word) : s.Goes (writeBell s r a v) := by
  unfold writeBell
  refine goes_ite (goes_ite (goes_of_base (base_setBell' rfl)) (goes_refl s)) (goes_ite (goes_of_base (base_pulse ..))
    (goes_ite (goes_resignal s (goes_of_base (base_setBell' rfl))) (goes_ite (goes_ite (goes_of_base (base_setBell' rfl)) (goes_refl s))
    (goes_ite (goes_ite (goes_of_base (base_errDone ..)) (goes_refl s)) (goes_ite (goes_of_base (base_errInject ..))
    (goes_ite (goes_ite (goes_of_base (base_logPop ..)) (goes_refl s)) (goes_ite ?_ (goes_ite (goes_of_base (base_writeWatch ..))
    (goes_ite (goes_of_base (base_writeSrcCfg ..)) (goes_refl s))))))))))
  split
  · exact goes_of_base (base_writeTargetCtrl ..)
  · exact goes_ite (goes_endOfInterrupt ..) (goes_refl s)
  · exact goes_ite (goes_of_base (base_setBell' rfl)) (goes_refl s)
  · exact goes_refl s

theorem goes_writeTraining (s : State) (n : Nat) (v : Word) : s.Goes (writeTraining s n v) := by
  unfold writeTraining
  split
  · exact goes_writePattern ..
  · exact goes_of_base (base_setReg ..)
  · exact goes_of_base ((base_compareOp ..).trans (base_fresh s))

theorem goes_writeCellar (s : State) (a : Nat) (v : Word) : s.Goes (writeCellar s a v) := by
  have hset : ∀ b w ok m, s.Goes (setBounded s b w ok m) := fun b w ok m => goes_of_base (base_setBounded ..)
  unfold writeCellar
  extract_lets o n k
  clear_value o n k
  exact goes_ite (hset ..) (goes_ite (hset ..) (goes_ite (hset ..) (goes_ite (goes_ite (goes_refl s) (goes_ite
    (goes_of_base (base_writeMrs ..)) (goes_ite (goes_writeTraining ..) (goes_ite (goes_refl s) (goes_of_base (base_setReg ..)))))) (goes_refl s))))

theorem goes_writeReg (s : State) (r : Requester) (a : Nat) (v : Word) : s.Goes (writeReg s r a v) := by
  unfold writeReg
  refine goes_ite (goes_refl s) ?_
  split
  · exact goes_of_base (base_setReg ..)
  · split
    case h_3 => exact goes_writeBell ..
    case h_6 => exact goes_writeCellar ..
    all_goals exact goes_of_base (by simp)

/-! ## Commands and events -/

theorem goes_outcome_ite {s : State} {c : Prop} [Decidable c] {a b : Outcome State Fault Refusal} (ha : Goes s a) (hb : Goes s b) :
    Goes s (if c then a else b) := by
  split
  · exact ha
  · exact hb

theorem goes_stays (s : State) : Goes s (.next s) := goes_next (goes_refl s)

theorem goes_execInterruptClaim (r : Requester) (t : Fin 21) (s : State) : Goes s (execInterruptClaim r t s) := by
  have ha : s.Goes (hostArrives s r) := goes_of_base (base_hostArrives ..)
  exact goes_outcome_ite (goes_next (goes_then (goes_trans ha (goes_claim ..)) (base_readOut ..)))
    (goes_next (goes_then ha (base_readOut ..)))

theorem goes_execEoiWrite (r : Requester) (t : Fin 21) (v : Word) (s : State) : Goes s (execEoiWrite r t v s) := by
  have ha : s.Goes (hostArrives s r) := goes_of_base (base_hostArrives ..)
  exact goes_next (goes_ite (goes_trans ha (goes_endOfInterrupt ..)) ha)

theorem goes_execPowerGoodFault (k : Fin 4) (dropped : Bool) (s : State) : Goes s (execPowerGoodFault k dropped s) :=
  goes_outcome_ite (goes_stays s) (goes_next (goes_then (goes_mainDieDown s false) rfl))

theorem goes_supplyLost (s : State) : s.Goes (gatehouseReset (mainDieDown s false)) :=
  goes_trans (goes_mainDieDown s false) (goes_gatehouseReset _)

theorem goes_execPorstNFall (s : State) : Goes s (execPorstNFall s) := by
  refine goes_outcome_ite (goes_stays s) (goes_next (goes_then (goes_ite (goes_then (goes_supplyLost s) (base_setOut ..))
    (goes_supplyLost s)) (base_setGate ..)))

theorem goes_execVddGhLoss (s : State) : Goes s (execVddGhLoss s) :=
  goes_next (goes_then (goes_ite (goes_then (goes_supplyLost s) (base_setOut ..)) (goes_supplyLost s)) (base_setGate ..))

theorem goes_execMainDieRelease (s : State) : Goes s (execMainDieRelease s) := by
  unfold execMainDieRelease
  refine goes_outcome_ite ?_ (goes_stays s)
  exact goes_next (goes_then (goes_mainDieDown s false) ((base_setWatched _).trans rfl))

theorem goes_execDomainOnComplete (d : Fin 80) (s : State) : Goes s (execDomainOnComplete d s) := by
  unfold execDomainOnComplete
  refine goes_outcome_ite (goes_stays s) ?_
  extract_lets old t ice u v
  have ht : t.base = s.base := base_setPwr rfl rfl
  have hu : u.base = s.base := by
    unfold u
    split
    · exact Eq.trans rfl ht
    · exact ht
  have hv : s.Goes v := goes_of_base ((base_resignal ..).trans hu)
  split
  · exact goes_outcome_ite (goes_next (goes_trans (goes_then hv (base_finish ..)) (goes_powerNext _))) (goes_next hv)
  · exact goes_next hv

theorem goes_execVoltageConfirmed (r : Fin 3) (mv : Nat) (s : State) : Goes s (execVoltageConfirmed r mv s) := by
  unfold execVoltageConfirmed
  extract_lets near old u x
  have hu : s.Goes u := goes_ite (goes_of_base ((base_seqAdvance _).trans (base_setGate ..))) (goes_refl s)
  clear_value u
  split
  · exact goes_next hu
  · refine goes_outcome_ite (goes_next hu) ?_
    dsimp only
    split
    · exact goes_next (goes_trans (goes_then hu ((base_pulse ..).trans ((base_complete ..).trans (base_setRail ..)))) (goes_powerNext _))
    · exact goes_next (goes_then hu (base_setRail ..))

theorem goes_execPmbusConfirmTimeout (r : Fin 3) (status : Word) (s : State) : Goes s (execPmbusConfirmTimeout r status s) := by
  unfold execPmbusConfirmTimeout
  dsimp only
  split
  · exact goes_stays s
  · refine goes_outcome_ite (goes_stays s) ?_
    have ht : ∀ x k o a b c d n, s.Goes (pulse (event (s.setRail r x) k o a b c d) n) := fun x k o a b c d n =>
      goes_of_base ((base_pulse ..).trans ((base_event ..).trans (base_setRail ..)))
    split
    · exact goes_next (goes_trans (goes_then (ht ..) (base_finish ..)) (goes_powerNext _))
    · exact goes_next (ht ..)

theorem goes_execCellarDrained (s : State) : Goes s (execCellarDrained s) := by
  unfold execCellarDrained
  split
  · have ht : s.Goes { s with pwr := { s.pwr with entering := some (3, 4) } } :=
      goes_setPwr id fun _ e he => by cases he; exact Or.inl rfl
    exact goes_next (goes_ite (goes_trans ht (goes_switchOff _ (by decide))) ht)
  · exact goes_stays s

theorem goes_execKeeperHandover (ch : Fin 8) (s : State) : Goes s (execKeeperHandover ch s) := by
  have ht : ∀ c, s.Goes (pulse (s.setChan ch c) 89) := fun c => goes_of_base ((base_pulse ..).trans (base_setChan ..))
  unfold execKeeperHandover
  refine goes_outcome_ite (goes_stays s) ?_
  split
  · exact goes_next (goes_ite (goes_trans (ht _) (goes_switchOff _ (by decide))) (ht _))
  · split
    · exact goes_outcome_ite (goes_next (ht _)) (goes_stays s)
    · exact goes_stays s

theorem goes_execWakeStepComplete (s : State) : Goes s (execWakeStepComplete s) := by
  unfold execWakeStepComplete
  split
  · exact goes_stays s
  · refine goes_outcome_ite (goes_stays s) (goes_outcome_ite (goes_stays s) (goes_outcome_ite (goes_stays s) ?_))
    extract_lets oldPwr a dom rails b moved bPwr bIce
    have ha : a.base = s.base := base_setPwr rfl rfl
    have hb : b.base = s.base := by
      unfold b
      rw [base_ite, base_layMemory, ite_self]
      exact ha
    split
    · refine goes_next (goes_of_base ((base_setWatched _).trans ?_))
      rw [base_ite, base_railTo, ite_self]
      exact ha
    · split
      · exact goes_next (goes_ite (goes_of_base ((base_setPorch ..).trans ha)) (goes_of_base ha))
      · split
        · exact goes_next (goes_of_base (Eq.trans rfl hb))
        · exact goes_outcome_ite (goes_next (goes_after ha (goes_woke ..))) (goes_next (goes_of_base ha))

theorem goes_execMemoryRequestIssue (ch : Fin 8) (arrivals : List MemReq) (s : State) : Goes s (execMemoryRequestIssue ch arrivals s) := by
  unfold execMemoryRequestIssue
  refine goes_outcome_ite (goes_stays s) ?_
  extract_lets mine t c
  have ht : s.Goes t := goes_of_base (base_foldl (fun u r => base_acceptReq ..) _ _)
  refine goes_outcome_ite (goes_next ht) (goes_outcome_ite (goes_next (goes_then ht (base_scrubStep ..))) ?_)
  split
  · exact goes_next (goes_trans ht (goes_issueReq ..))
  · exact goes_next (goes_then ht (base_scrubStep ..))

theorem goes_execTrainingWritePattern (r : Requester) (ch : Fin 8) (v : Word) (s : State) : Goes s (execTrainingWritePattern r ch v s) :=
  goes_next (goes_after (base_hostArrives ..) (goes_writePattern ..))

theorem goes_execMoveComplete (e : Fin 224) (s : State) : Goes s (execMoveComplete e s) :=
  goes_next (goes_ite (goes_serveUntil ..) (goes_refl s))

theorem goes_execEngineStopTimeout (e : Fin 224) (s : State) : Goes s (execEngineStopTimeout e s) :=
  goes_next (goes_ite (goes_engStopped ..) (goes_refl s))

theorem goes_execHalt (e : Fin 224) (s : State) : Goes s (execHalt e s) := by
  refine goes_next (goes_engCtl (fun r w => ?_) ..)
  have ht : s.Goes (engHalted (account (s.setRun e r) e {}) e 0) :=
    goes_of_base ((base_engHalted ..).trans ((base_account ..).trans (base_setRun ..)))
  exact goes_ite (goes_then (goes_trans ht (goes_movesEnd ..)) (base_reachStopped ..)) ht

theorem goes_execEngWrite (c : Cmd) (data : List Word) (s : State) : Goes s (execEngWrite c data s) := by
  refine goes_next (goes_engCopy (fun t => ?_) ..)
  extract_lets a b d
  have hb : t.Goes b := goes_then (goes_trans (goes_hostTurns ..) (goes_copyWords ..)) (base_bump64 ..)
  exact goes_then (goes_ite (goes_then hb (base_setFlags ..)) hb) (base_finish ..)

theorem goes_execEngRead (c : Cmd) (s : State) : Goes s (execEngRead c s) := by
  refine goes_next (goes_engCopy (fun t => ?_) ..)
  exact goes_then (goes_hostTurns ..) ((base_finish ..).trans ((base_setOut ..).trans (base_bump64 ..)))

theorem goes_execRxEntryWrite (h : Fin 96) (samples : List (List Int)) (fail : Bool) (s : State) :
    Goes s (execRxEntryWrite h samples fail s) := by
  unfold execRxEntryWrite
  dsimp only
  split
  · exact goes_stays s
  · refine goes_outcome_ite (goes_stays s) (goes_next (goes_trans (goes_of_base ?_) (goes_ringRx ..)))
    simp

theorem goes_execStopEngine (c : Cmd) (s : State) : Goes s (execStopEngine c s) :=
  goes_next (goes_stopCmd (fun _ => rfl) (fun t ab => goes_engDrain ..) ..)

theorem goes_execDrainingEnds (o : Obj) (s : State) : Goes s (execDrainingEnds o s) := by
  unfold execDrainingEnds
  refine goes_next ?_
  split
  case h_6 => exact goes_drainEnd (fun t => goes_engStopped ..) ..
  all_goals exact goes_of_base (base_drainEnd (fun t => by simp) ..)

theorem goes_deliverCompletion (s : State) (err : Option PcieErr) (e : Entry) : s.Goes (deliverCompletion s err e) := by
  unfold deliverCompletion
  extract_lets n a b
  have hb : s.Goes b := goes_after (base_retire ..) (goes_powerStateWritten ..)
  refine goes_ite (goes_then hb (base_bump ..)) ?_
  split
  · exact goes_ite (goes_then hb (base_placeEntry ..)) (goes_then hb ((base_queueError ..).trans (base_bump ..)))
  · exact goes_then hb (base_placeEntry ..)

theorem goes_execEntryWrite (err : Option PcieErr) (s : State) : Goes s (execEntryWrite err s) := by
  unfold execEntryWrite
  split
  · exact goes_stays s
  · exact goes_next (goes_after (base_setPorch ..) (goes_ite (goes_of_base (base_deliverEvent ..))
      (goes_then (goes_deliverCompletion ..) (base_settleBad ..))))

theorem goes_execFlr (s : State) : Goes s (execFlr s) := goes_next (goes_porchReset ..)
theorem goes_execHotReset (s : State) : Goes s (execHotReset s) := goes_next (goes_then (goes_porchReset ..) (base_pulse ..))

theorem goes_execPerstNAssert (s : State) : Goes s (execPerstNAssert s) := by
  unfold execPerstNAssert
  exact goes_next (goes_then (goes_porchReset s .down) ((base_pulse ..).trans ((base_setPorch ..).trans (base_setPwr rfl rfl))))

theorem goes_execRegisterWrite (r : Requester) (addr : BitVec 28) (v : Word) (s : State) : Goes s (execRegisterWrite r addr v s) :=
  goes_next (goes_after (base_hostArrives ..) (goes_writeReg ..))

theorem goes_execPower (op : BitVec 16) (c : Cmd) (ok : Bool) (s : State) :
    Goes s (.next (runCmd s op c 1 1 ok true fun s => powerArrive s op c)) :=
  goes_next (goes_runCmd (fun t => goes_powerArrive ..) ..)

theorem goes_execHostTransferError (op : BitVec 16) (c : Cmd) (s : State) : Goes s (execHostTransferError op c s) := by
  unfold execHostTransferError
  refine goes_next ?_
  split
  · exact goes_of_base (base_frameSend (base_hostDma _ c) ..)
  · exact goes_of_base (base_engLoad (fun t => by simp) ..)
  · refine goes_engCopy (fun t => ?_) ..
    exact goes_then (goes_after (base_freeWords ..) (goes_copyWords ..)) (base_hostDma ..)
  · refine goes_engCopy (fun t => ?_) ..
    exact goes_of_base (by simp)
  · exact goes_of_base (base_imageLoad (fun t => by simp) ..)
  · exact goes_of_base (base_telem (fun t => by simp) ..)
  · exact goes_of_base (base_flashWrite (fun t => by simp) ..)
  · exact goes_refl s

theorem goes_execBootStageComplete (r : BootResult) (s : State) : Goes s (execBootStageComplete r s) := by
  have htell : ∀ n {t : State}, s.Goes t → Goes s (.next (tell n t)) := fun n t ht => goes_next (goes_then ht (base_tell n t))
  have hfail : ∀ n, s.cel.mem = (bootFail s n).cel.mem := fun n => (parts_of_base (base_bootFail s n)).2.1.symm
  unfold execBootStageComplete
  dsimp only
  refine goes_outcome_ite (goes_stays s) ?_
  split
  · exact goes_outcome_ite (htell 1 (goes_of_base ((base_setCel (hfail 1)).trans (base_bootFail s 1))))
      (goes_outcome_ite (htell 1 (goes_of_base (base_setBoot ..)))
        (goes_outcome_ite (htell 1 (goes_of_base (base_bootFail ..))) (htell 1 (goes_of_base (base_setBoot ..)))))
  · exact htell 2 (goes_of_base (by simp))
  · exact goes_outcome_ite (htell 2 (goes_of_base ((base_setCel (hfail 5)).trans (base_bootFail s 5)))) (goes_stays s)
  · exact goes_next (goes_ite (goes_of_base ((base_tell ..).trans (base_setBoot ..))) (goes_refl s))
  · exact goes_outcome_ite (htell 4 (goes_fetched ..)) (goes_outcome_ite
      (htell 4 (goes_after (Eq.refl s.base) (goes_fetched { s with free := s.free + s.loadLen } _))) (goes_stays s))
  · exact goes_next (goes_ite (goes_then (goes_fetched ..) (base_tell ..)) (goes_refl s))
  · exact goes_next (goes_ite (goes_refl s) (goes_of_base ((base_tell ..).trans (base_imageFail ..))))
  · exact goes_next (goes_ite (goes_of_base ((base_tell ..).trans (base_imageFail ..))) (goes_refl s))
  · exact htell 5 (goes_of_base (base_verifyImage s))
  · exact htell 5 (goes_of_base (base_verifyImage s))
  · exact goes_next (goes_after (base_tell 6 s) (goes_bootReady _))
  · exact goes_stays s

/-! ## Every step -/

/-- Every command and event goes to a next state: those named write memory, running priorities or the device state; the others leave what the
invariant reads. -/
theorem exec_goes (i : Instr) (s : State) : Goes s (exec i s) := by
  cases i
  case interruptClaim => exact goes_execInterruptClaim ..
  case eoiWrite => exact goes_execEoiWrite ..
  case powerGoodFault => exact goes_execPowerGoodFault ..
  case porstNFall => exact goes_execPorstNFall ..
  case vddGhLoss => exact goes_execVddGhLoss ..
  case mainDieRelease => exact goes_execMainDieRelease ..
  case domainOnComplete => exact goes_execDomainOnComplete ..
  case voltageConfirmed => exact goes_execVoltageConfirmed ..
  case pmbusConfirmTimeout => exact goes_execPmbusConfirmTimeout ..
  case cellarDrained => exact goes_execCellarDrained ..
  case wakeStepComplete => exact goes_execWakeStepComplete ..
  case memoryRequestIssue => exact goes_execMemoryRequestIssue ..
  case keeperHandover => exact goes_execKeeperHandover ..
  case trainingWritePattern => exact goes_execTrainingWritePattern ..
  case bootStageComplete => exact goes_execBootStageComplete ..
  case moveComplete => exact goes_execMoveComplete ..
  case engineStopTimeout => exact goes_execEngineStopTimeout ..
  case halt => exact goes_execHalt ..
  case engWrite => exact goes_execEngWrite ..
  case engRead => exact goes_execEngRead ..
  case rxEntryWrite => exact goes_execRxEntryWrite ..
  case stopEngine => exact goes_execStopEngine ..
  case drainingEnds => exact goes_execDrainingEnds ..
  case entryWrite => exact goes_execEntryWrite ..
  case flr => exact goes_execFlr ..
  case hotReset => exact goes_execHotReset ..
  case perstNAssert => exact goes_execPerstNAssert ..
  case registerWrite => exact goes_execRegisterWrite ..
  case hostTransferError => exact goes_execHostTransferError ..
  case powerDomain => exact goes_execPower ..
  case powerRunpoint => exact goes_execPower ..
  case powerRailStep => exact goes_execPower ..
  case powerState => exact goes_execPower ..
  case gthAlarmClear => exact goes_execPower ..
  case rcRegisterRead => exact goes_next (goes_registerRead ..)
  case counterLowRead => exact goes_next (goes_registerRead ..)
  case firstHostBar0Read => exact goes_next (goes_registerRead ..)
  all_goals exact goes_of_nextBase (by simp [exec])

/-- Settles O5: every command and event goes to a next state. -/
theorem everyCommandAnswersAState : Obligations.EveryCommandAnswersAState := by
  unfold Obligations.EveryCommandAnswersAState
  intro i s
  obtain ⟨t, ht, -⟩ := exec_goes i s
  exact ⟨t, ht⟩

/-- A step goes on from the state without its front command. -/
theorem step_goes (s : State) : ∃ t, step s = .next t ∧ (s.withPending (s.pending.drop 1)).Goes t := by
  unfold step
  split
  · rename_i hempty
    refine ⟨tick s, rfl, goes_of_base ?_⟩
    rw [base_tick, hempty, List.drop_nil, ← hempty]
    rfl
  · rename_i c r hcons
    obtain ⟨t, ht, hgoes⟩ := exec_goes c (s.withPending r)
    refine ⟨t, ht, ?_⟩
    rwa [hcons]

/-- Settles O6: the commands and events that write memory, running priorities or the device state keep them lawful, and all others leave
them. -/
theorem everyStepKeepsTheInvariant : Obligations.EveryStepKeepsTheInvariant := by
  unfold Obligations.EveryStepKeepsTheInvariant
  intro s t hs hstep
  obtain ⟨u, hu, hpending, hinv⟩ := step_goes s
  cases hstep.symm.trans hu
  exact ⟨hinv hs, hpending⟩

end Sys2Proof.Machine
end
